-- ==== Sys2Proof/Word.lean ====
section
/-! DEFINITION. The word types of the engine (00_scope.md, "Terms"): a 32-bit parameter or register word, a byte, and the
64-bit sample index. Everything the spec adds, shifts or masks is computed on `Nat` or `Int` and narrowed where the
spec narrows it. -/
namespace Sys2Proof

/-- A 32-bit parameter word (C1) or CSR word (R3). -/
abbrev Word := BitVec 32

/-- The smallest addressable unit of the internal address map (01_engine_at_scale.md). -/
abbrev Byte := BitVec 8

end Sys2Proof
end

