-- ==== Sys2Proof/Syntax.lean ====
section
/-! DEFINITION. The commands of the block: one constructor of `Instr` per row of spec/opcode_table.json, with the operands
that the row's rule names (an address, a value, a length, an instance number, the bytes of a message). -/
namespace Sys2Proof

/-- Where a Headrace message arrives (R135, R137): a media port, the management port or the surface port. -/
inductive Via where
  | mac (p : Nat)
  | mgmt
  | surface
deriving DecidableEq, Repr

/-- The source of a message, to which its reply goes, and over UDP the engine's own address and UDP port that it was sent to, from
which the reply goes (R135, R145). -/
structure Endpoint where
  via : Via
  mac : BitVec 48
  ip : BitVec 32
  udp : BitVec 16
  here : BitVec 32
  port : BitVec 16
deriving DecidableEq, Repr

/-- The header fields of a Headrace message that has passed the first checks of R139 (MAGIC, DIR, CHECK, VERSION, OPCODE),
and `cyc`, the CK_FAB cycles from the last tick to the message's journaling point (R116, R149). -/
structure Hdr where
  src : Endpoint
  session : BitVec 6
  cls : BitVec 2
  seq : BitVec 48
  len : Nat
  cyc : Nat
deriving DecidableEq, Repr

/-- The body of a class-0 command (R116, R140). -/
inductive UrgentBody where
  | param (pid value : Word)
  | block (pid : Word) (count : Nat) (words : List Word)
  | ramp (pid value ramp : Word)
deriving DecidableEq, Repr

/-- The phase windows, with the codes of SCHED_OVR_LAST (02_sample_period.md). -/
inductive Window where
  | a | b | c | db | dm | dx | e | fx
deriving DecidableEq, Repr

/-- The fields of a HELLO (R313): lockstep epoch, digest of the DSP image, rate and family, window tables, STUCK_LIMIT, audio
digest of CFG, sequence number and CRC of the show directory, PAIR and HOME. -/
structure Hello where
  epoch : Nat
  dsp : Nat
  rate : Nat
  family : Nat
  windows : List Nat
  stuck : Nat
  audio : Nat
  showSeq : Nat
  showCrc : Nat
  pair : Bool
  home : Bool
deriving DecidableEq, Repr

/-- A move field of an arithmetic instruction (R177): KIND, FMT, V, AR, MOD. -/
structure Move where
  kind : BitVec 2
  fmt : BitVec 3
  v : BitVec 4
  ar : BitVec 2
  md : BitVec 2
deriving DecidableEq, Repr

/-- The fields of an arithmetic instruction other than its opcode (R177). -/
structure Arith where
  s : Bool
  d : BitVec 4
  a : BitVec 4
  b : BitVec 4
  e : BitVec 6
  mx : Move
  my : Move
  mc : Move
deriving DecidableEq, Repr

/-- Who writes a register: a host's REG_WRITE, Dexmos firmware, Cage. -/
inductive Origin where
  | host | firmware | cage
deriving DecidableEq, Repr

/-- A crossbar burst (R214, R216): master ID, address, length in bytes, data bytes of a write (none for a read). Masters 32 to
34 stand for the port B paths of R200: stream engines, Confluence meter path, state-sweep engine. `dead`: a CSR access that meets a
register whose clock has stopped (R250; which register lies in which domain, and when a clock stops, is outside the state). -/
structure BusReq where
  master : Nat
  addr : Nat
  len : Nat
  data : Option (List Nat)
  dead : Bool
deriving DecidableEq, Repr

/-- A write burst that a master's reset finds in progress (R219): master, address, and the bytes of the beats that the target
has accepted. -/
structure CutBurst where
  master : Nat
  addr : Nat
  data : List Nat
deriving DecidableEq, Repr

/-- The header of a Sirlos frame (R314): lane, sequence number, and whether its CRC-32 is right. -/
structure LinkHdr where
  lane : Nat
  seq : Nat
  crcOk : Bool
deriving DecidableEq, Repr

/-- A frame that firmware has posted for a network port (R258, R264, R266): queue 0 PTP event, 1 HOST or MGMT, 2 BULK; one-step
flag and tag of its descriptor; its bytes without FCS. -/
structure TxPost where
  queue : Nat
  oneStep : Bool
  tag : BitVec 16
  bytes : List Nat
deriving DecidableEq, Repr

/-- What the engine's pins and clocks give at a tick: CK_FAB cycles from the latest base instant of Tally, counted only at the
first tick after RUN is set; the bits of each modulator channel since the last tick, oldest first; ratios that the two CLKIN trackers measure, and
the capture times (seconds, nanoseconds) of their clock sources (R291, R292). -/
structure TickIn where
  first : Nat
  pdm : List (Nat × List Bool)
  clk0 : Nat
  clk1 : Nat
  capt0 : Nat × Nat
  capt1 : Nat × Nat
deriving DecidableEq, Repr

/-- The rate converter of an ASYNC port (R285, R286), positions in 2⁻²⁸ frames: how far it has read the input frames, the place of the
tick in the external frame, and how far reading trails the frames that have come; the latest input frames and output samples, newest
first, slot by slot; ratios latched and not yet in effect, with the index at which each applies. -/
structure Conv where
  posIn : Nat
  posOut : Nat
  lag : Nat
  inHist : List (List Int)
  outHist : List (List Int)
  ratios : List (Nat × Nat)
deriving DecidableEq, Repr

/-- A modulator channel (R289, R290): its latest bits, newest first, and how many of them no word of the intermediate rate covers; the
latest such words, newest first, and the count of all of them modulo 8; with an external clock the place of the tick after the newest
of them, in 2⁻²⁸ samples; and its present φ. -/
structure PdmChan where
  bits : List Bool
  cnt : Nat
  mid : List Int
  tot : Nat
  pos : Option Int
  phi : Nat
deriving DecidableEq, Repr

/-- One record of an accepted command, kept for retransmissions (R146). -/
structure AckRec where
  seq : Nat
  jpos : Nat
  nC : Nat
  r : Nat
  moved : Bool
  urgent : Bool
  unmirrored : Bool
  data : List Nat
deriving DecidableEq, Repr

/-- A sequence space of a session (R145, R146): the next expected number and the latest ACK records, newest first. -/
structure SeqSpace where
  exp : Nat
  acks : List AckRec
deriving DecidableEq, Repr

/-- A meter subscription (R161): period in samples, meter range, the tick at which its first period starts and, per meter,
the largest value of the running period. -/
structure MeterSub where
  period : Nat
  first : Nat
  count : Nat
  start : Nat
  acc : List (Nat × Nat)
deriving DecidableEq, Repr

/-- An EVENT waiting in a session's outbound queue (R160). -/
structure EventMsg where
  code : Nat
  smp : Nat
  data : List Nat
deriving DecidableEq, Repr

/-- A session of the session table (06_headrace.md, "Sessions and sequence numbers"). -/
structure Session where
  isOpen : Bool
  client : Nat
  reply : Endpoint
  norm : SeqSpace
  urg : SeqSpace
  mask : Nat
  evSeq : Nat
  lost : Nat
  subs : List (Nat × MeterSub)
  outQ : List EventMsg
deriving DecidableEq, Repr

/-- What one COPY frame carries (R318): the live half of a cell with its BSEL, a session, the bytes of a journal entry, or the
end of the copy with n_p and JAPPLIED. -/
inductive CopyItem where
  | cell (c bsel : Nat) (words : List Nat)
  | session (k : Nat) (x : Session)
  | entry (jpos : Nat) (bytes : List Nat)
  | last (np jApplied jHead : Nat)
deriving DecidableEq, Repr

/-- What the sweep of an item carries (R120, R320, R321): ENGINE fields, with the ramps and crossfade records that no tile and no FX
slot holds; a tile's block states, crossfade records, ramps and matrix planes; a mix core's crossfade records and planes; an FX
slot's memory as (byte address, byte), its ramps and its FX_SW crossfade (R187, R196); lines of an FX slot by number, copied while
the slot runs (R194). -/
inductive SweepData where
  | engine (prng : Nat) (phi noise hold : List (Nat × Nat)) (ports : List (Nat × (Nat × Conv)))
      (ratios : List (Nat × List (Nat × Nat))) (chans : List (Nat × PdmChan))
      (ramps xf : List (Nat × List Nat))
  | tile (blk : List (Nat × List Int)) (xf : List (Nat × List Nat)) (ramps : List (Nat × List Nat))
      (mixXf : List (Nat × List Nat)) (prev pend : List (Nat × Nat))
  | mix (mixXf : List (Nat × List Nat)) (prev pend queued : List (Nat × Nat))
  | fx (bytes : List (Nat × Nat)) (ramps xf : List (Nat × List Nat))
  | lines (ls : List (Nat × List Nat))
deriving DecidableEq, Repr

/-- What Cage finds when a reset ends (R338, R221 to R223): the Reservoir banks in which a transparent march finds a word that ECC can
no longer correct, beside the double errors that State holds; the memories that MBIST finds failed, as in 4c + k for scratchpad bank k
and 256 + c for the instruction memory of core c, and 512 + b for Reservoir bank b; the spare rows and columns that the faults found in
a memory need; the sizes in bytes of the flash on each chip select (0: none); no 8D-8D-8D read. -/
structure BootIn where
  lost : List Nat
  bad : List Nat
  repairs : List (Nat × Nat × Nat)
  chip0 : Nat
  chip1 : Nat
  slow : Bool
deriving DecidableEq, Repr

/-- The fields of a BULK body's header beyond OP (R357). -/
structure BulkHdr where
  kind : BitVec 8
  xfer : Word
  off : Word
  total : Word
deriving DecidableEq, Repr

/-- What VDD_CV gives at power-on (R327): above 2.5 V, and above V_CVH. -/
structure CvSupply where
  ok : Bool
  hi : Bool
deriving DecidableEq, Repr

/-- A port, and how many of its received frames firmware has taken since the latest command that says so (R254). -/
structure PortDrain where
  port : Nat
  taken : Nat
deriving DecidableEq, Repr

/-- The edge of PEER that a TICK record makes (R229, R309): the offset that it measures, and its time, in root cycles. -/
structure PeerEdge where
  skew : Int
  t : Int
deriving DecidableEq, Repr

/-- The commands, one per row of spec/opcode_table.json. -/
inductive Instr where
  /-- POWER_ON (R360): VKEEP rises: cold reset, the always-on domain starts and the PRF is loaded; `io33`: VDD_IO33
  stands by then (R376, R379). -/
  | powerOn (cv : CvSupply) (io33 : Bool)
  /-- PORST_N_ASSERT (R360): PORST_N is low for 3 consecutive CK_AON samples and a cold reset starts. -/
  | porstNAssert
  /-- SUPPLY_LOSS (R360): A monitored supply leaves its limits while VKEEP is up, causing a cold reset. -/
  | supplyLoss
  /-- RESET_N_ASSERT (R360): RESET_N is low for 3 consecutive CK_AON samples and a warm reset starts. -/
  | resetNAssert (cut : List CutBurst)
  /-- RESET_RELEASE (R360): The reset ends 64 CK_AON cycles after its source ends, and Cage begins to boot. -/
  | resetRelease (i : BootIn)
  /-- FIRMWARE_READY (R350): The CTL firmware reports ready to Cage. -/
  | firmwareReady
  /-- FIRMWARE_READY_TIMEOUT (R350): The CTL firmware has not reported ready 2 s after release, and the set is refused with cause FIRMWARE. -/
  | firmwareReadyTimeout
  /-- WAIT_REF_TIMEOUT (R350): The WAIT_REF time passes without the DPLL reaching ACQUIRE_WIDE, and Cage starts in the DPLL state in effect. -/
  | waitRefTimeout
  /-- ENGINE_START (R349): Cage sets RUN after its boot work and waits; the tick starts and a paired engine enters STANDBY. -/
  | engineStart
  /-- CORES_RESTART (R134): At tick n_r, with restaging and due replay staging complete, the cores restart and the due groups are merged. -/
  | coresRestart
  /-- TICK (R20): The sample tick starts Ts n, increments SMP_IDX and applies everything that is due at the sample boundary. -/
  | tick (i : TickIn)
  /-- WINDOW_RELEASE (R23): At a window boundary SCHED releases the cores that carry work in that window. -/
  | windowRelease (w : Window)
  /-- CONFL_LATE_PARTIAL (R85): A partial issued after phase C is discarded and counted, and LATE_S is set. -/
  | conflLatePartial
  /-- WINDOW_END (R30): A window ends; a core that has not issued WAIT overruns, and its outputs read zero. -/
  | windowEnd (w : Window) (tiles : List Nat)
  /-- FATAL_RESET_DELAY (R366): FATAL_DLY ms after the first fatal fault, with FATAL_RST = 1, a warm reset starts. -/
  | fatalResetDelay (cut : List CutBurst)
  /-- CROSSFADE_END (R66): A route crossfade ends: the old state is discarded and any queued setting starts its own crossfade. -/
  | crossfadeEnd (key : Nat)
  /-- SEND_XFADE_END (R87): A bus or matrix crossfade ends, PREV is freed, and any pending set starts at n_e. -/
  | sendXfadeEnd (col : Nat)
  /-- METER_REPORT (R161): At the end of each period of P samples a subscription sends its METER reports. -/
  | meterReport (k : Nat) (sub : Nat)
  /-- GROUP_STAGED (R105): Every accepted member of a group has been written and staged, and the group becomes READY. -/
  | groupStaged
  /-- GROUP_SETTLE_DONE (R105): Every cell of a flipped group has been settled, and the group reaches DONE. -/
  | groupSettleDone
  /-- SCENE_STORE_DONE (R127): Firmware completes writing a stored scene and its directory to flash and reports STORE_DONE. -/
  | sceneStoreDone (ok : Bool)
  /-- PRELOAD_DONE (R130): A scene preload completes its CRC and format check, and the buffer becomes VALID or fails. -/
  | preloadDone
  /-- SET_PARAM (R107): A host command writes one parameter word at a commit index. -/
  | setParam (h : Hdr) (r : BitVec 64) (pid : Word) (value : Word)
  /-- SET_BLOCK (R142): A host command writes COUNT consecutive parameter words. -/
  | setBlock (h : Hdr) (r : BitVec 64) (pid : Word) (count : BitVec 16) (words : List Word)
  /-- RAMP_PARAM (R122): A host command writes one parameter word with its own ramp word. -/
  | rampParam (h : Hdr) (r : BitVec 64) (pid : Word) (value : Word) (ramp : Word)
  /-- URGENT_COMMAND (R116): A class-0 parameter command writes FLOOD_CMD or FLOOD_RAMP on the urgent lane with an index fixed by the bounds. -/
  | urgentCommand (h : Hdr) (r : BitVec 64) (body : UrgentBody)
  /-- RECALL_SCENE (R128): A host command recalls a stored scene within its effective scope as a group member. -/
  | recallScene (h : Hdr) (r : BitVec 64) (scene : BitVec 16) (flags : BitVec 16) (mask : List Word)
  /-- STORE_SCENE (R127): A host command captures the live values at n_c into the scene buffer for writing to flash. -/
  | storeScene (h : Hdr) (r : BitVec 64) (scene : BitVec 16) (flags : BitVec 16) (ramps : List Word) (mask : List Word)
  /-- COMMIT_AT (R141): A host command carries up to 32 embedded commands that join one group at one index. -/
  | commitAt (h : Hdr) (r : BitVec 64) (k : BitVec 16) (inner : List Nat)
  /-- REG_READ (R143): A host command reads COUNT consecutive CSR words and returns them in its ACK. -/
  | regRead (h : Hdr) (off : Word) (count : BitVec 16)
  /-- REG_WRITE (R151): A host command writes a CSR word, journaled and applied at its commit index. -/
  | regWrite (h : Hdr) (r : BitVec 64) (off : Word) (value : Word)
  /-- METER_SUB (R161): A host command (KIND 0) sets or cancels a meter subscription. -/
  | meterSub (h : Hdr) (kind : BitVec 8) (sub : BitVec 8) (period : BitVec 16) (first : BitVec 16) (count : BitVec 16)
  /-- METER_SUB_EVENT_MASK (R160): A METER_SUB with KIND 1 sets a new event mask for the session. -/
  | meterSubEventMask (h : Hdr) (mask : Word)
  /-- SESSION_OPEN (R145): A host opens, resumes or restarts a session. -/
  | sessionOpen (h : Hdr) (client : BitVec 64) (flags : BitVec 16) (mask : Word)
  /-- SESSION_CLOSE (R148): A host closes its session, which cancels its meter subscriptions. -/
  | sessionClose (h : Hdr)
  /-- HEADRACE_BAD_MESSAGE (R139): A message with a bad magic, check, version or opcode is discarded silently or answered with a NAK. -/
  | headraceBadMessage (src : Endpoint) (bytes : List Nat)
  /-- BULK_CLONE (R357): BULK CLONE copies the running set into the inactive slot in the background. -/
  | bulkClone (h : Hdr) (x : BulkHdr)
  /-- BULK_BEGIN (R357): BULK BEGIN opens a transfer and erases its region of the inactive slot. -/
  | bulkBegin (h : Hdr) (x : BulkHdr)
  /-- BULK_DATA (R357): BULK DATA writes image bytes at OFFSET. -/
  | bulkData (h : Hdr) (x : BulkHdr) (data : List Nat) (drained : Nat)
  /-- BULK_END (R357): BULK END checks the image and the slot and writes the manifest length on a pass. -/
  | bulkEnd (h : Hdr) (x : BulkHdr)
  /-- BULK_ABORT (R357): BULK ABORT closes the open transfer and leaves its length at 0. -/
  | bulkAbort (h : Hdr) (x : BulkHdr)
  /-- BULK_ARM (R357): BULK ARM sets TRIAL and the try count for a complete, compatible inactive slot. -/
  | bulkArm (h : Hdr) (x : BulkHdr) (tries : Nat)
  /-- BULK_CONFIRM (R355): BULK CONFIRM makes the running trial slot the confirmed slot. -/
  | bulkConfirm (h : Hdr) (x : BulkHdr)
  /-- BULK_ROLLBACK (R347): BULK ROLLBACK blows rollback fuses up to the smallest SEC_VER of the running confirmed set. -/
  | bulkRollback (h : Hdr) (x : BulkHdr)
  /-- BULK_RESTART (R357): BULK RESTART schedules a warm reset of this engine 1 ms after the ACK. -/
  | bulkRestart (h : Hdr) (x : BulkHdr)
  /-- BULK_RESTART_RESET (R360): 1 ms after the RESTART ACK a warm reset starts. -/
  | bulkRestartReset (cut : List CutBurst)
  /-- BULK_WORK_DONE (R357): Background clone, check or manifest work completes, and the update state is updated. -/
  | bulkWorkDone (ok : Bool)
  /-- SURF_WRITE_MSG (R138): A surface transaction delivers one inbound message into a port buffer or is discarded. -/
  | surfWriteMsg (bytes : List Nat)
  /-- SURF_STATUS (R137): A surface transaction returns RX_READY, TX_PENDING and the next outbound length. -/
  | surfStatus
  /-- SURF_READ_MSG (R137): A surface transaction reads the next outbound message and removes it from the queue. -/
  | surfReadMsg (n : Nat)
  /-- MIRROR_ACK (R152): The standby's cumulative MACK arrives, and the active sends the waiting ACKs. -/
  | mirrorAck (h : LinkHdr) (jpos : Nat)
  /-- MIRROR_TIMEOUT (R153): A mirror is unacknowledged for MIRROR_TMO: the peer is lost and the ACKs go out UNMIRRORED. -/
  | mirrorTimeout
  /-- SESSION_EXPIRY (R148): A session receives no valid message for SESS_TMO × 10 s, and a close is journaled. -/
  | sessionExpiry (k : Nat)
  /-- SCHED_RATE_WRITE (R54): A write that changes SCHED_CTL.RATE loads the default windows while stopped, or is rejected while running. -/
  | schedRateWrite (v : Word)
  /-- SCHED_RUN_SET (R54): Setting RUN starts the tick, unless the rate family mismatches the root family. -/
  | schedRunSet (v : Word)
  /-- SCHED_RUN_CLEAR (R54): Clearing RUN stops the tick at the end of the current Ts and cancels any pending arm. -/
  | schedRunClear (v : Word)
  /-- SCHED_WIN_ARM (R26): Writing WIN_ARM arms the shadow table for SCHED_WIN_IDX, or is refused while stopped. -/
  | schedWinArm (v : Word)
  /-- SCHED_IDX_LO_READ (R53): A read of SCHED_IDX_LO captures the index high word and the tick time registers. -/
  | schedIdxLoRead
  /-- FLOOD_CLOSE_IDX_LO_READ (R53): A read of FLOOD_CLOSE_IDX_LO captures its high word. -/
  | floodCloseIdxLoRead
  /-- SLUICE_HEAD_IDX_LO_READ (R53): A read of SLUICE_HEAD_IDX_LO captures its high word. -/
  | sluiceHeadIdxLoRead
  /-- SLUICE_TAIL_IDX_LO_READ (R53): A read of SLUICE_TAIL_IDX_LO captures its high word. -/
  | sluiceTailIdxLoRead
  /-- SLUICE_LAST_FLIP_LO_READ (R53): A read of SLUICE_LAST_FLIP_LO captures its high word. -/
  | sluiceLastFlipLoRead
  /-- HEADRACE_JHEAD_LO_READ (R53): A read of HEADRACE_JHEAD_LO captures its high word. -/
  | headraceJheadLoRead
  /-- HEADRACE_JAPPLIED_LO_READ (R53): A read of HEADRACE_JAPPLIED_LO captures its high word. -/
  | headraceJappliedLoRead
  /-- RCU_SWITCH_IDX_LO_READ (R53): A read of RCU_SWITCH_IDX_LO captures its high word. -/
  | rcuSwitchIdxLoRead
  /-- STREAM_TMC_LO_READ (R53): A read of STREAM_TMC_LO captures its high word. -/
  | streamTmcLoRead
  /-- REDUN_DIV_IDX_LO_READ (R53): A read of REDUN_DIV_IDX_LO captures its high word. -/
  | redunDivIdxLoRead
  /-- REDUN_HASH_LO_READ (R53): A read of REDUN_HASH_LO captures its high word. -/
  | redunHashLoRead
  /-- TALLY_SEC_LO_READ (R261): A read of TALLY_SEC_LO captures the other three Tally registers. -/
  | tallySecLoRead (cyc : Nat)
  /-- PDM_CAPT_IDX_READ (R292): A read of a capture record's IDX word captures its other three words. -/
  | pdmCaptIdxRead (k : Nat)
  /-- MAC_TSQ_NS_READ (R265): A read of MAC_TSQ_NS returns the oldest transmit stamp and removes it from the queue. -/
  | macTsqNsRead (p : Nat)
  /-- REGISTER_WRITE (R4): A write to a register with no row of its own: RW fields update, W1C bits clear, CNT counters clear, RO and reserved bits are ignored. -/
  | registerWrite (o : Origin) (off : Nat) (v : Word)
  /-- FLOOD_PIN_LATCH_WRITE (R95): A write of PIN_LATCH enables or ends the latch of the PIN source, latching at once if the pin is low. -/
  | floodPinLatchWrite (v : Word)
  /-- FLOOD_PIN_REL (R95): Writing PIN_REL releases a latched PIN source if MUTE_N is high. -/
  | floodPinRel
  /-- MUTE_N_CHANGE (R96): A new MUTE_N level is accepted after filtering and synchronising, and the PIN source changes. -/
  | muteNChange (high : Bool)
  /-- SLUICE_PRELOAD_LOAD (R130): Writing LOAD starts loading a scene into the buffer, or is refused while the buffer is busy. -/
  | sluicePreloadLoad (v : Word)
  /-- PSTORE_WINDOW_WRITE (R18): A write through the PSTORE window writes the shadow half of a cell and marks it dirty. -/
  | pstoreWindowWrite (m : Nat) (addr : Nat) (v : Word)
  /-- XBAR_ACCESS (R216): A master's burst is arbitrated, checked against target and owner, and performed or refused. -/
  | xbarAccess (reqs : List BusReq)
  /-- XBAR_LOCKED_READ (R218): A read with the lock attribute locks its target for its master. -/
  | xbarLockedRead (m : Nat) (a : Nat) (n : Nat)
  /-- XBAR_UNLOCK_WRITE (R218): A write with the unlock attribute releases the master's lock. -/
  | xbarUnlockWrite (m : Nat) (a : Nat) (data : List Nat)
  /-- RSV_ECC_WRITEBACK (R208): A corrected Reservoir word is written back in the next idle cycle of its bank. -/
  | rsvEccWriteback (addr : Nat)
  /-- SCRATCH_ECC_WRITEBACK (R167): A corrected scratchpad word is written back in the next idle cycle of its bank. -/
  | scratchEccWriteback (addr : Nat)
  /-- SCRUB_READ (R210): Every 64 × INTERVAL CK_FAB cycles the scrubber reads one word per bank, or skips it. -/
  | scrubRead (busy : List Nat)
  /-- RSV_HANDOVER_WRITE (R204): A write of RSV_HANDOVER starts a change of a bank's owner, or is ignored. -/
  | rsvHandoverWrite (v : Word)
  /-- HANDOVER_COMPLETE (R204): Granted accesses have drained; the owner changes, and waiting accesses are checked against the new owner. -/
  | handoverComplete
  /-- RSV_MBIST_GO (R224): Writing GO starts a memory test on request, or is refused. -/
  | rsvMbistGo (v : Word)
  /-- MBIST_COMPLETE (R224): A test on request completes, and its result is reported. -/
  | mbistComplete (rows : Nat) (cols : Nat) (bad : Bool)
  /-- RCU_FAMILY_WRITE (R227): A write that changes FAMILY starts a relock while stopped, or is rejected while running. -/
  | rcuFamilyWrite (v : Word)
  /-- RELOCK_DONE (R227): The VCO relocks at the new nominal, the domains return to the root, and the DPLL enters FREERUN. -/
  | relockDone (cyc : Nat) (xo : Nat)
  /-- RCU_HOLD_WRITE (R235): A write of HOLD deselects all inputs and holds the DPLL, or releases the hold. -/
  | rcuHoldWrite (v : Word)
  /-- RCU_PTP_ERR_WRITE (R229): A firmware write of RCU_PTP_ERR is one edge of the PTP input, carrying its phase error. -/
  | rcuPtpErrWrite (t : Int) (v : Word)
  /-- RCU_IN_CFG_WRITE (R231): A write of an input's configuration may disqualify it through EN or NOM_HZ. -/
  | rcuInCfgWrite (k : Nat) (v : Word)
  /-- RCU_WCK_WRITE (R245): A write of a word clock output's enable, ALIGN or OFFSET realigns it. -/
  | rcuWckWrite (k : Nat) (which : Nat) (v : Word)
  /-- XO_LOSS (R228): CK_XO makes no edge for 16 CK_AON cycles; the VCO holds and a fatal fault is raised. -/
  | xoLoss
  /-- REF_EDGE (R233): A reference edge is time-stamped, judged for a hit, and used for the phase update. -/
  | refEdge (k : Nat) (t : Int) (err : Int) (bad : Bool)
  /-- REF_LOSS (R232): No edge for 2P plus the guard; the input is disqualified with cause 3. -/
  | refLoss (k : Nat)
  /-- MEAS_INTERVAL_END (R231): At the end of a measurement interval FOFF is computed and the input qualifies or is disqualified. -/
  | measIntervalEnd (k : Nat) (foff : Int)
  /-- LOCK_TIMER_EXPIRY (R239): The phase error has stayed within LOCK_THR for 2 s, and the DPLL enters LOCKED_NARROW. -/
  | lockTimerExpiry
  /-- SWITCH_BUSY_TIMEOUT (R237): A switch has been busy for 500 ms and stops blocking new selections. -/
  | switchBusyTimeout
  /-- REVERT_WTR_EXPIRY (R237): A better candidate has been VALID for RCU_WTR and replaces the selected input under REVERT. -/
  | revertWtrExpiry (k : Nat)
  /-- HOLDOVER_SAMPLE (R242): Every 100 ms in LOCKED_NARROW the DPLL offset is stored in the holdover history. -/
  | holdoverSample (foff : Int)
  /-- TALLY_ADDEND_FRAC_WRITE (R262): A firmware write of the addend fraction is held until the integer part is written. -/
  | tallyAddendFracWrite (v : Word)
  /-- TALLY_ADDEND_INT_WRITE (R262): A firmware write of the addend integer applies both parts in one cycle, clamped at ±1,000 ppm. -/
  | tallyAddendIntWrite (cyc : Nat) (v : Word)
  /-- TALLY_STEP (R263): A firmware write of STEP adds the staged offset to Tally once per epoch, or is refused. -/
  | tallyStep
  /-- TALLY_EPOCH_RESET (R263): Writing EPOCH_RESET increments the epoch and clears STEP_USED. -/
  | tallyEpochReset
  /-- MAC_CTL_WRITE (R252): A write of MAC_CTL enables or disables a port, applies SPEED at enable, and reloads the cut-through threshold. -/
  | macCtlWrite (p : Nat) (v : Word)
  /-- MAC_LINK_UP (R252): A port's link comes up. -/
  | macLinkUp (p : Nat) (speed : Nat)
  /-- MAC_LINK_DOWN (R252): A port's link goes down. -/
  | macLinkDown (p : Nat)
  /-- MAC_RX_FRAME (R256): A received frame is judged by length, FCS, address and checksum, and is classified into a queue or dropped. -/
  | macRxFrame (p : Nat) (bytes : List Nat) (sfd : Nat) (fin : Nat) (taken : Nat) (group : Bool)
  /-- MAC_TX_FRAME (R258): A port sends the next whole frame from its queues in fixed priority order. -/
  | macTxFrame (d : PortDrain) (posted : List TxPost) (cyc : Nat) (dry : Bool)
  /-- SEG_DESCRIPTOR (R260): A segmentation descriptor is sent as a series of frames, or is refused. -/
  | segDescriptor (p : Nat) (tmpl : List Nat) (payload : List Nat)
  /-- STREAM_CTX_WRITE (R267): A write to a stream context word is ignored while the context is enabled, except EN and LINK. -/
  | streamCtxWrite (off : Nat) (v : Word)
  /-- STREAM_RX_ENABLE (R267): Writing EN = 1 on a receive context checks it and enables it or refuses it. -/
  | streamRxEnable (c : Nat) (v : Word)
  /-- STREAM_TX_ENABLE (R267): Writing EN = 1 on a transmit context checks it and enables it or refuses it. -/
  | streamTxEnable (c : Nat) (v : Word)
  /-- STREAM_RX_INACTIVE (R271): A receive context with no valid packet for 16 packet times leaves the RECEIVING state. -/
  | streamRxInactive (c : Nat)
  /-- SPORT_WRITE (R277): A write of a SPORT register is checked, and the port is started, reconfigured or stopped from the next frame. -/
  | sportWrite (off : Nat) (v : Word)
  /-- SPORT_FRAME_HANDOFF (R276): A serial input frame completes and is handed off to intake, and cut-through lanes copy their slots. -/
  | sportFrameHandoff (p : Nat) (delta : Int) (bclks : Nat) (words : List Int)
  /-- SPORT_FRAME_MISSING (R279): No accepted slave frame starts in the window of a tick; the input is zero and the output frame is discarded. -/
  | sportFrameMissing (p : Nat)
  /-- SPORT_FS_EDGE (R280): An async FS edge starts a frame, discarding a partial frame as a frame error. -/
  | sportFsEdge (p : Nat) (ratio : Nat)
  /-- SPORT_ASYNC_FRAME_DONE (R280): 32 × SLOTS BCLK cycles complete an async frame, which enters the FIFO or is dropped. -/
  | sportAsyncFrameDone (p : Nat) (words : List Int)
  /-- ASRC_CT_ROUTE_WRITE (R283): A change of lane route, gain or mute takes effect from the next output frame. -/
  | asrcCtRouteWrite (l : Nat) (which : Nat) (v : Word)
  /-- ASRC_TRACKER_UNLOCK (R284): There is no FS edge for 4 frame periods, or the ratio is out of range; the tracker becomes UNLOCKED. -/
  | asrcTrackerUnlock (p : Nat)
  /-- ASRC_TRACKER_ACQUIRE (R284): After 16 frames in range, or a large ratio error when locked, the tracker enters ACQUIRE. -/
  | asrcTrackerAcquire (p : Nat)
  /-- ASRC_TRACKER_LOCK (R284): After 0.5 s with the ratio error below 100 ppm the tracker becomes LOCKED. -/
  | asrcTrackerLock (p : Nat)
  /-- PDM_CH_WRITE (R290): A write of a modulator channel changes EN or INV and slews φ one step per sample. -/
  | pdmChWrite (c : Nat) (v : Word)
  /-- PDM_CLKIN_UNLOCK (R291): A CLKIN tracker loses edges or range and becomes UNLOCKED; its groups deliver zero. -/
  | pdmClkinUnlock (k : Nat)
  /-- PDM_CLKIN_LOCK (R291): A CLKIN tracker has been in range for 0.5 s and becomes LOCKED. -/
  | pdmClkinLock (k : Nat)
  /-- LEASE_RENEW (R296): A renewal pulse is accepted and restarts the lease, or starts it and raises ROLE_ACT. -/
  | leaseRenew (src : Nat)
  /-- LEASE_EXPIRY (R297): The lease timer expires, ROLE_ACT falls, and an active or yielding engine becomes STANDBY. -/
  | leaseExpiry
  /-- LEASE_HB_TOGGLE (R297): LEASE_HB toggles every 16 × HB CK_AON cycles in the roles that show it. -/
  | leaseHbToggle
  /-- REDUN_MODE_WRITE (R293): A write of REDUN_MODE updates the persistent pair settings, PAIR taking effect at the next reset. -/
  | redunModeWrite (v : Word)
  /-- REDUN_YIELD (R304): Writing YIELD makes a synced active engine YIELDING, or is refused. -/
  | redunYield
  /-- REVERT_YIELD (R304): The HOME peer has been a SYNCED standby for WTR, and the active yields by revert. -/
  | revertYield
  /-- REDUN_RESYNC_REQ (R317): Writing RESYNC_REQ starts a resync of the peer. -/
  | redunResyncReq
  /-- REDUN_RESYNC_ABORT (R317): Writing RESYNC_ABORT fails the running resync. -/
  | redunResyncAbort
  /-- AUTO_RESYNC_START (R317): With AUTO_RESYNC set, a resync starts by itself once the peer is a PEERED standby with a suitable reason. -/
  | autoResyncStart
  /-- SIRLOS_STATUS_RX (R314): A STATUS frame brings the peer's role, sync state, acknowledgements and credits. -/
  | sirlosStatusRx (h : LinkHdr) (role : Nat) (sync : Nat) (home : Bool) (test : Bool) (ack0 : Nat) (ack1 : Nat)
  /-- SIRLOS_HELLO_RX (R313): A HELLO is compared field by field, and any difference sets REASON. -/
  | sirlosHelloRx (h : LinkHdr) (x : Hello)
  /-- HELLO_SEND (R313): Each engine sends HELLO every 100 ms. -/
  | helloSend
  /-- STATUS_SEND (R314): Each engine sends STATUS every 1 µs. -/
  | statusSend
  /-- SIRLOS_TICK_RX (R309): A TICK record gives the standby SMP_IDX, TMC, φ and the PEER edge; a mismatch leaves SYNCED. -/
  | sirlosTickRx (h : LinkHdr) (idx : Nat) (tmc : Nat) (phi : Int) (e : PeerEdge)
  /-- SIRLOS_CANARY_RX (R312): A peer hash is compared with the engine's own, and a mismatch records a divergence. -/
  | sirlosCanaryRx (h : LinkHdr) (n : Nat) (hash : Nat) (items : List Nat)
  /-- CANARY_MISSING (R312): A peer hash has not arrived by tick n + 2 and is counted as missing. -/
  | canaryMissing (n : Nat)
  /-- SIRLOS_MIRROR_RX (R152): The standby journals mirrored entries at their JPOS and acknowledges them on MACK. -/
  | sirlosMirrorRx (h : LinkHdr) (jpos : Nat) (entries : List Nat)
  /-- SIRLOS_RATIO_RX (R305): A RATIO word gives the standby the ratio and the frame-loss mask to apply at index n. -/
  | sirlosRatioRx (h : LinkHdr) (n : Nat) (words : List (Nat × Nat)) (lost : List (Nat × Nat))
  /-- SIRLOS_FWD_RX (R308): A forwarded network sample overwrites its playout ring position at the standby. -/
  | sirlosFwdRx (h : LinkHdr) (slot : Nat) (ts : Nat) (value : Nat)
  /-- SIRLOS_CLOSE_RX (R308): A CLOSE record gives the presence map of the pool slots for sample n. -/
  | sirlosCloseRx (h : LinkHdr) (n : Nat) (present : List Nat)
  /-- FWD_RECORD_LATE (R309): A forwarded record misses its deadline tick, and the pair leaves SYNCED with REASON 9. -/
  | fwdRecordLate
  /-- SIRLOS_RESEND (R315): A frame unacknowledged for 2 µs is resent from the oldest unacknowledged frame. -/
  | sirlosResend (lane : Nat)
  /-- PEER_LOST (R316): There is no block lock for 1 µs or no STATUS for 16 µs; SYNC becomes NO_PEER. -/
  | peerLost
  /-- SIRLOS_COPY_RX (R318): The resyncing unit writes copied cells, cell states, the session table and journal entries. -/
  | sirlosCopyRx (h : LinkHdr) (x : CopyItem)
  /-- COPY_COMPLETE (R318): Every cell has been sent since its last change at tick n_p, and the copy completes. -/
  | copyComplete
  /-- ALIGN_COMPLETE (R319): The unit's tick is within THR for 1,000 ticks, and it loads SMP_IDX from TICK. -/
  | alignComplete
  /-- RESYNC_CORE_RELEASE (R319): The unit releases its cores at n_0 once copy, alignment and restaging are complete. -/
  | resyncCoreRelease
  /-- SWEEP_FINAL_PASS (R321): The active takes an item's final pass once at most 16 lines are dirty after its window or with FX slack. -/
  | sweepFinalPass (item : Nat)
  /-- SIRLOS_SWEEP_RX (R320): The unit installs swept lines or an item, advancing ENGINE fields 16 samples. -/
  | sirlosSweepRx (h : LinkHdr) (item : Nat) (ns : Nat) (x : SweepData)
  /-- SIRLOS_SWACK_RX (R317): The active learns that an item was installed or failed. -/
  | sirlosSwackRx (h : LinkHdr) (item : Nat) (ok : Bool)
  /-- SWEEP_ITEM_DEADLINE (R321): A final pass is not installed before its window in the next Ts; the item fails and the sweep continues. -/
  | sweepItemDeadline (item : Nat)
  /-- RESYNC_ITEM_TIMEOUT (R317): An item is still not installed 500 ms after its first pass, and the resync fails. -/
  | resyncItemTimeout
  /-- VERIFY_START (R322): Every item is installed and n ≥ n_0 + C, so VERIFY begins comparing Canary hashes. -/
  | verifyStart
  /-- RESYNC_SYNCED (R322): fs consecutive equal hashes are seen, and both engines enter SYNCED at the next tick. -/
  | resyncSynced (ms : Nat)
  /-- CV_OUT_WRITE (R326): A write of CV_OUT_k sets its code and span, latched immediately or at the next tick. -/
  | cvOutWrite (k : Nat) (v : Word)
  /-- CV_TICK_LATCH (R326): At the first tick after a LOAD = TICK write, the code and span are latched into the converter. -/
  | cvTickLatch
  /-- CV_CTL_WRITE (R325): A write of MID_HI changes V_MID with parking, or is refused without VDD_CV_HI. -/
  | cvCtlWrite (v : Word)
  /-- CV_PARK_END (R329): 12 µs after a span latch the parked output is driven to its new code. -/
  | cvParkEnd (k : Nat)
  /-- VDD_CV_LOSS (R328): VDD_CV falls below 2.5 V, and every CV output goes to high impedance. -/
  | vddCvLoss
  /-- VDD_CV_RESTORE (R328): VDD_CV rises above 2.5 V, and the outputs re-enter their spans from high impedance. -/
  | vddCvRestore (hi : Bool)
  /-- VDD_CV_HI_FALL (R325): VDD_CV falls below V_CVH; outputs in high spans park at rest and MID_HI is forced to 0. -/
  | vddCvHiFall
  /-- PRF_WORD_WRITE (R334): A write to a PRF word enters the 8-entry write queue, or is ignored when the queue is full or the word is protected. -/
  | prfWordWrite (host : Bool) (w : Nat) (v : Word)
  /-- PRF_WRITE_DONE (R334): A PRF write completes after 20 µs, its wear counter increments and the next queued write starts. -/
  | prfWriteDone
  /-- PRF_POWER_FAIL (R336): VKEEP falls below V_PF, and the queued writes that have not started are discarded. -/
  | prfPowerFail
  /-- RST_CTL_WARM (R360): A firmware write of WARM starts a warm reset; a host write is ignored. -/
  | rstCtlWarm (o : Origin) (v : Word) (cut : List CutBurst)
  /-- RST_DOM_WRITE (R362): A firmware write of RST_DOM holds interface blocks in domain reset or releases them. -/
  | rstDomWrite (v : Word) (cut : List CutBurst)
  /-- WDT_KICK (R364): A Dexmos write of the key value restarts the watchdog count. -/
  | wdtKick (m : Nat) (v : Word)
  /-- WATCHDOG_EXPIRY (R364): The watchdog count expires and a warm reset starts. -/
  | watchdogExpiry (cut : List CutBurst)
  /-- TEST_UNLOCK_WRITE (R368): A write of a key value advances, completes or cancels the unlock sequence. -/
  | testUnlockWrite (v : Word)
  /-- TEST_CFG_LOCK (R368): Writing LOCK locks the block and ends every perturbation. -/
  | testCfgLock (v : Word)
  /-- TEST_AUTO_LOCK (R368): AUTO_LOCK seconds pass without a TEST write, and the block locks. -/
  | testAutoLock
  /-- TEST_XBAR_DLY_WRITE (R369): A write sets the crossbar response delay for the listed masters. -/
  | testXbarDlyWrite (v : Word)
  /-- TEST_MAC_BP_WRITE (R369): A write stalls the receive DMA of the selected queue for a duty fraction. -/
  | testMacBpWrite (v : Word)
  /-- TEST_ASRC_JIT_WRITE (R369): A write perturbs the ratios of the listed ports with a triangular error. -/
  | testAsrcJitWrite (which : Nat) (v : Word)
  /-- TEST_TICK_GO (R369): Writing GO delays the next tick by DLY CK_AUD cycles. -/
  | testTickGo (v : Word)
  /-- TEST_CDC_WRITE (R369): A write makes every asynchronous crossing take exactly 3 cycles. -/
  | testCdcWrite (v : Word)
  /-- TEST_ECC_GO (R369): Writing GO flips one or two data bits of one stored word. -/
  | testEccGo (v : Word)
  /-- TEST_LEASE_WRITE (R369): A write makes the engine ignore renewals on the selected inputs. -/
  | testLeaseWrite (v : Word)
  /-- TEST_SIRLOS_GO (R369): Writing GO stops the selected Sirlos lanes from sending for DUR µs. -/
  | testSirlosGo (v : Word)
  /-- TEST_SIRLOS_END (R369): The Sirlos stall of DUR µs ends. -/
  | testSirlosEnd
  /-- MINTAL_RESET_WRITE (R197): A write of RESET holds a core from its commit index or releases it at the next tick. -/
  | mintalResetWrite (c : Nat) (v : Word) (cut : List CutBurst)
  /-- CORE_RELEASE (R163): A core released from reset starts at address 0 at a tick with cleared registers. -/
  | coreRelease (c : Nat)
  /-- MINTAL_HALT_REQ (R198): A write of HALT_REQ halts or resumes the core at an issue boundary. -/
  | mintalHaltReq (c : Nat) (v : Word)
  /-- MINTAL_STEP (R198): Writing STEP issues one instruction on a halted core. -/
  | mintalStep (c : Nat) (v : Word)
  /-- MINTAL_CLR_STATS (R197): Writing CLR_STATS clears MINTAL_CYC_MAX and MINTAL_XLAT.MAX. -/
  | mintalClrStats (c : Nat) (v : Word)
  /-- MINTAL_XWINDOW_WRITE (R197): A write of XBASE, XLEN or XSWEPT is accepted only while the core is held. -/
  | mintalXwindowWrite (c : Nat) (which : Nat) (v : Word)
  /-- INTERRUPT_ENTRY (R184): A fault, overrun or debug cause is taken: 4 empty slots, then EPC and ECAUSE are set and the core fetches from the vector. -/
  | interruptEntry (c : Nat)
  /-- LOOP_BACK (R173): The innermost loop's end address issues; the count decrements and the loop repeats or exits. -/
  | loopBack (c : Nat)
  /-- XLD_COMPLETE (R181): A crossbar load of an FX core completes and writes its register. -/
  | xldComplete (c : Nat) (lat : Nat)
  /-- NOP (R178): Performs no operation apart from its moves. -/
  | nop (c : Nat) (x : Arith)
  /-- MOV (R178): Vd receives Va. -/
  | mov (c : Nat) (x : Arith)
  /-- ADD (R176): Vd receives Va + Vb, saturated or wrapped. -/
  | add (c : Nat) (x : Arith)
  /-- SUB (R176): Vd receives Va − Vb, saturated or wrapped. -/
  | sub (c : Nat) (x : Arith)
  /-- NEG (R176): Vd receives −Va. -/
  | neg (c : Nat) (x : Arith)
  /-- ABS (R176): Vd receives |Va|. -/
  | abs (c : Nat) (x : Arith)
  /-- MIN (R178): Vd receives min(Va, Vb). -/
  | min (c : Nat) (x : Arith)
  /-- MAX (R178): Vd receives max(Va, Vb). -/
  | max (c : Nat) (x : Arith)
  /-- SHL (R178): Vd receives Va shifted left by E. -/
  | shl (c : Nat) (x : Arith)
  /-- SHR (R178): Vd receives floor(Va / 2^E). -/
  | shr (c : Nat) (x : Arith)
  /-- AND (R178): Vd receives the bitwise AND of Va and Vb. -/
  | and (c : Nat) (x : Arith)
  /-- OR (R178): Vd receives the bitwise OR of Va and Vb. -/
  | or (c : Nat) (x : Arith)
  /-- XOR (R178): Vd receives the bitwise XOR of Va and Vb. -/
  | xor (c : Nat) (x : Arith)
  /-- CMPGE (R178): Vd receives all ones where Va ≥ Vb, and zero otherwise. -/
  | cmpge (c : Nat) (x : Arith)
  /-- ROT (R178): Vd receives the lanes of Va rotated by E. -/
  | rot (c : Nat) (x : Arith)
  /-- BCAST (R178): Vd receives lane E of Va in every lane. -/
  | bcast (c : Nat) (x : Arith)
  /-- MPY (R178): The selected accumulator receives Va × Vb. -/
  | mpy (c : Nat) (x : Arith)
  /-- MAC (R169): Va × Vb is added to the accumulator through the forwarding chain. -/
  | mac (c : Nat) (x : Arith)
  /-- MSU (R169): Va × Vb is subtracted from the accumulator. -/
  | msu (c : Nat) (x : Arith)
  /-- MPYL (R176): Vd receives floor(Va × Vb / 2^31). -/
  | mpyl (c : Nat) (x : Arith)
  /-- EXT (R176): Vd receives the accumulator shifted right by 31 + sh. -/
  | ext (c : Nat) (x : Arith)
  /-- ACLR (R178): The selected accumulator is cleared. -/
  | aclr (c : Nat) (x : Arith)
  /-- ALOAD (R178): The accumulator receives Va × 2^31. -/
  | aload (c : Nat) (x : Arith)
  /-- AHSUM (R178): Accumulator lane 0 receives the sum of its 8 lanes, and the other lanes are cleared. -/
  | ahsum (c : Nat) (x : Arith)
  /-- LOOP (R172): Starts a counted loop level with its prologue, body and count. -/
  | loop (c : Nat) (count : BitVec 16) (csrc : Bool) (nsel : BitVec 4) (soff : BitVec 3) (e : BitVec 12)
  /-- BR (R179): Branches, after one delay slot, if COND holds for lane 0 of VR. -/
  | br (c : Nat) (cond : BitVec 4) (vr : BitVec 4) (target : BitVec 12)
  /-- CALL (R171): Sets RA and branches after one delay slot. -/
  | call (c : Nat) (target : BitVec 12)
  /-- RET (R171): Branches to RA after one delay slot. -/
  | ret (c : Nat)
  /-- WAIT (R180): Stops the core's clock until its next release, ending loops and handler state. -/
  | wait (c : Nat)
  /-- WAITX (R179): Stalls until every outstanding XLD and XST has completed. -/
  | waitx (c : Nat)
  /-- XLD (R181): Issues a crossbar load from the FX pool window, or is refused outside it. -/
  | xld (c : Nat) (v : BitVec 4) (ck : BitVec 2) (md : BitVec 2) (fmt : BitVec 3)
  /-- XST (R181): Issues a crossbar store to the FX pool window, or is refused outside it. -/
  | xst (c : Nat) (v : BitVec 4) (ck : BitVec 2) (md : BitVec 2) (fmt : BitVec 3)
  /-- LDI (R179): Loads an immediate into a non-vector register. -/
  | ldi (c : Nat) (r : BitVec 6) (imm : BitVec 32)
  /-- MOVR (R179): Copies one non-vector register to another. -/
  | movr (c : Nat) (dst : BitVec 6) (src : BitVec 6)
  /-- MOVCV (R179): Copies a non-vector register into lane 0 of a V register and clears its other lanes. -/
  | movcv (c : Nat) (v : BitVec 4) (src : BitVec 6)
  /-- MOVVC (R179): Copies lane 0 of a V register into a non-vector register. -/
  | movvc (c : Nat) (dst : BitVec 6) (v : BitVec 4)
  /-- VLDI (R179): Loads a sign-extended immediate into every lane. -/
  | vldi (c : Nat) (v : BitVec 4) (imm : BitVec 32)
  /-- RTI (R184): Returns from an interrupt to EPC, setting IE and clearing HND. -/
  | rti (c : Nat)
  /-- BRK (R179): Raises the debug interrupt. -/
  | brk (c : Nat)
  /-- ILLEGAL_INSTRUCTION (R178): An illegal opcode or use raises the ILL fault. -/
  | illegalInstruction (c : Nat) (parity : Bool)
  /-- XST_COMPLETE (R181): A crossbar store of an FX core completes, its write lands in the FX pool and it stops counting as outstanding. -/
  | xstComplete (c : Nat) (lat : Nat)
  /-- SIRLOS_LANE_UP (R313): A Sirlos lane gains block lock, the link comes up, HELLO is sent and the engine can leave NO_PEER. -/
  | sirlosLaneUp (lane : Nat)
  /-- SIRLOS_LANE_DOWN (R314): One Sirlos lane loses block lock while the other keeps it, and the remaining lane carries every channel. -/
  | sirlosLaneDown (lane : Nat)
  /-- MAC_PAUSE_EXPIRY (R254): The pause time of a received PAUSE frame runs out, and the HOST, MGMT and BULK transmit queues resume. -/
  | macPauseExpiry (d : PortDrain)
deriving DecidableEq, Repr

end Sys2Proof
end

