-- ==== Sys2Proof/Machine/Bits.lean ====
section
/-! DEFINITION. Bit fields, sign extension, saturation, byte order and the sparse map that every table of State uses.
A sparse map is a list of (key, value) pairs with strictly rising keys and no entry equal to the default value, so that
equal tables are equal data. -/
namespace Sys2Proof.Machine

/-- Field `[hi:lo]` of `w`. -/
def bits (w hi lo : Nat) : Nat := (w >>> lo) % 2 ^ (hi + 1 - lo)

/-- `w` with its field `[hi:lo]` replaced by the low bits of `x`. -/
def setBits (w hi lo x : Nat) : Nat :=
  w - (bits w hi lo) * 2 ^ lo + (x % 2 ^ (hi + 1 - lo)) * 2 ^ lo

/-- Bit `i` of `w`. -/
def bit (w i : Nat) : Bool := w.testBit i

/-- 1 for true, 0 for false. -/
def ofBool (b : Bool) : Nat := if b then 1 else 0

/-- `x` read as an `n`-bit two's-complement number. -/
def sext (n x : Nat) : Int :=
  let y := x % 2 ^ n
  if y < 2 ^ (n - 1) then (y : Int) else (y : Int) - (2 ^ n : Nat)

/-- The low `n` bits of an integer, as a natural number. -/
def lowBits (n : Nat) (x : Int) : Nat := (x % ((2 ^ n : Nat) : Int)).toNat

/-- `x` wrapped to an `n`-bit two's-complement number. -/
def wrapInt (n : Nat) (x : Int) : Int := sext n (lowBits n x)

/-- `x` saturated to the range `lo` to `hi`. -/
def clampInt (lo hi x : Int) : Int := if x < lo then lo else if hi < x then hi else x

/-- `x` saturated to an `n`-bit two's-complement number. -/
def satInt (n : Nat) (x : Int) : Int :=
  clampInt (-((2 ^ (n - 1) : Nat) : Int)) (((2 ^ (n - 1) : Nat) : Int) - 1) x

/-- Whether `satInt n` changes `x`. -/
def satHits (n : Nat) (x : Int) : Bool := satInt n x != x

/-- `x / 2^k`, truncated toward minus infinity. -/
def shrInt (x : Int) (k : Nat) : Int := x / ((2 ^ k : Nat) : Int)

/-- The number of one bits among bits `0` to `n - 1`. -/
def popCount (w : Nat) : Nat → Nat
  | 0 => 0
  | n + 1 => popCount w n + ofBool (w.testBit n)

/-- The `n` bytes of `w`, least significant first. -/
def leBytes : Nat → Nat → List Nat
  | 0, _ => []
  | n + 1, w => w % 256 :: leBytes n (w / 256)

/-- The `n` bytes of `w`, most significant first. -/
def beBytes (n w : Nat) : List Nat := (leBytes n w).reverse

/-- The number whose bytes, least significant first, are `bs`. -/
def ofLeBytes : List Nat → Nat
  | [] => 0
  | b :: bs => b % 256 + 256 * ofLeBytes bs

/-- The number whose bytes, most significant first, are `bs`. -/
def ofBeBytes (bs : List Nat) : Nat := ofLeBytes bs.reverse

/-- The value listed for key `k`, if any. -/
def smapFind {α : Type} (m : List (Nat × α)) (k : Nat) : Option α :=
  match m with
  | [] => none
  | (j, v) :: r => if j = k then some v else smapFind r k

/-- The value of key `k`; `d` where nothing is listed. -/
def smapGet {α : Type} (d : α) (m : List (Nat × α)) (k : Nat) : α := (smapFind m k).getD d

/-- The map without key `k`. -/
def smapDel {α : Type} (m : List (Nat × α)) (k : Nat) : List (Nat × α) :=
  match m with
  | [] => []
  | (j, v) :: r => if j = k then smapDel r k else (j, v) :: smapDel r k

/-- The map with key `k` listed with value `v`. -/
def smapPut {α : Type} (m : List (Nat × α)) (k : Nat) (v : α) : List (Nat × α) :=
  match m with
  | [] => [(k, v)]
  | (j, w) :: r =>
    if j = k then (k, v) :: r
    else if k < j then (k, v) :: (j, w) :: r
    else (j, w) :: smapPut r k v

/-- The map with key `k` set to `v`, in canonical form for the default `d`. -/
def smapSet {α : Type} [DecidableEq α] (d : α) (m : List (Nat × α)) (k : Nat) (v : α) : List (Nat × α) :=
  if v = d then smapDel m k else smapPut m k v

/-- The keys of a map are strictly rising and at least `lo`. -/
def smapRising {α : Type} (lo : Nat) : List (Nat × α) → Bool
  | [] => true
  | (k, _) :: r => decide (lo ≤ k) && smapRising (k + 1) r

/-! SMP_IDX counts modulo 2⁶⁴, and its wrap has no other effect (R20): samples are compared by their distance. -/

/-- The sample `k` samples after sample `n`. -/
def idxAdd (n k : Nat) : Nat := (n + k) % 2 ^ 64

/-- The samples from sample `k` to sample `n`. -/
def idxAge (n k : Nat) : Nat := (n + (2 ^ 64 - k % 2 ^ 64)) % 2 ^ 64

/-- The sample before sample `n`. -/
def idxPrev (n : Nat) : Nat := idxAge n 1

/-- Sample `k` is not after sample `n`. -/
def idxDue (n k : Nat) : Bool := decide (idxAge n k < 2 ^ 63)

/-- `[f 0, …, f (n - 1)]`. -/
def tabulate {α : Type} (n : Nat) (f : Nat → α) : List α := (List.range n).map f

/-- The element at index `i`, or `d` past the end. -/
def nth {α : Type} (d : α) (l : List α) (i : Nat) : α := l.getD i d

end Sys2Proof.Machine
end

