-- ==== Sys2Proof/Machine/Crypto.lean ====
section
/-! DEFINITION. SHA-384 and the verification of an ECDSA signature on P-384, the functions by which Cage checks an image (R341,
R345). The constants are those of the two standards that R341 names. -/
namespace Sys2Proof.Machine

/-! SHA-384. -/

def rot64 (x n : Nat) : Nat := (x / 2 ^ n ||| x * 2 ^ (64 - n)) % 2 ^ 64
def add64 (a b : Nat) : Nat := (a + b) % 2 ^ 64

/-- Round constants. -/
def shaK0 : List Nat := [0x428a2f98d728ae22, 0x7137449123ef65cd, 0xb5c0fbcfec4d3b2f, 0xe9b5dba58189dbbc,
  0x3956c25bf348b538, 0x59f111f1b605d019, 0x923f82a4af194f9b, 0xab1c5ed5da6d8118, 0xd807aa98a3030242,
  0x12835b0145706fbe]
def shaK1 : List Nat := [0x243185be4ee4b28c, 0x550c7dc3d5ffb4e2, 0x72be5d74f27b896f, 0x80deb1fe3b1696b1,
  0x9bdc06a725c71235, 0xc19bf174cf692694, 0xe49b69c19ef14ad2, 0xefbe4786384f25e3, 0x0fc19dc68b8cd5b5,
  0x240ca1cc77ac9c65]
def shaK2 : List Nat := [0x2de92c6f592b0275, 0x4a7484aa6ea6e483, 0x5cb0a9dcbd41fbd4, 0x76f988da831153b5,
  0x983e5152ee66dfab, 0xa831c66d2db43210, 0xb00327c898fb213f, 0xbf597fc7beef0ee4, 0xc6e00bf33da88fc2,
  0xd5a79147930aa725]
def shaK3 : List Nat := [0x06ca6351e003826f, 0x142929670a0e6e70, 0x27b70a8546d22ffc, 0x2e1b21385c26c926,
  0x4d2c6dfc5ac42aed, 0x53380d139d95b3df, 0x650a73548baf63de, 0x766a0abb3c77b2a8, 0x81c2c92e47edaee6,
  0x92722c851482353b]
def shaK4 : List Nat := [0xa2bfe8a14cf10364, 0xa81a664bbc423001, 0xc24b8b70d0f89791, 0xc76c51a30654be30,
  0xd192e819d6ef5218, 0xd69906245565a910, 0xf40e35855771202a, 0x106aa07032bbd1b8, 0x19a4c116b8d2d0c8,
  0x1e376c085141ab53]
def shaK5 : List Nat := [0x2748774cdf8eeb99, 0x34b0bcb5e19b48a8, 0x391c0cb3c5c95a63, 0x4ed8aa4ae3418acb,
  0x5b9cca4f7763e373, 0x682e6ff3d6b2b8a3, 0x748f82ee5defb2fc, 0x78a5636f43172f60, 0x84c87814a1f0ab72,
  0x8cc702081a6439ec]
def shaK6 : List Nat := [0x90befffa23631e28, 0xa4506cebde82bde9, 0xbef9a3f7b2c67915, 0xc67178f2e372532b,
  0xca273eceea26619c, 0xd186b8c721c0c207, 0xeada7dd6cde0eb1e, 0xf57d4f7fee6ed178, 0x06f067aa72176fba,
  0x0a637dc5a2c898a6]
def shaK7 : List Nat := [0x113f9804bef90dae, 0x1b710b35131c471b, 0x28db77f523047d84, 0x32caab7b40c72493,
  0x3c9ebe0a15c9bebc, 0x431d67c49c100d4c, 0x4cc5d4becb3e42b6, 0x597f299cfc657e2a, 0x5fcb6fab3ad6faec,
  0x6c44198c4a475817]
def shaK : List Nat := shaK0 ++ shaK1 ++ shaK2 ++ shaK3 ++ shaK4 ++ shaK5 ++ shaK6 ++ shaK7
/-- Initial hash value. -/
def shaInit : List Nat := [0xcbbb9d5dc1059ed8, 0x629a292a367cd507, 0x9159015a3070dd17, 0x152fecd8f70e5939,
  0x67332667ffc00b31, 0x8eb44a8768581511, 0xdb0c2e0d64f98fa7, 0x47b5481dbefa4fa4]

/-- One round on the eight working words and the window of sixteen message words. -/
def shaRound (x : List Nat × List Nat) (k : Nat) : List Nat × List Nat :=
  let v := fun i => nth 0 x.1 i
  let w := fun i => nth 0 x.2 i
  let s1 := rot64 (v 4) 14 ^^^ rot64 (v 4) 18 ^^^ rot64 (v 4) 41
  let ch := (v 4 &&& v 5) ^^^ ((2 ^ 64 - 1 - v 4 % 2 ^ 64) &&& v 6)
  let t1 := (v 7 + s1 + ch + k + w 0) % 2 ^ 64
  let s0 := rot64 (v 0) 28 ^^^ rot64 (v 0) 34 ^^^ rot64 (v 0) 39
  let maj := (v 0 &&& v 1) ^^^ (v 0 &&& v 2) ^^^ (v 1 &&& v 2)
  let g1 := rot64 (w 14) 19 ^^^ rot64 (w 14) 61 ^^^ w 14 / 2 ^ 6
  let g0 := rot64 (w 1) 1 ^^^ rot64 (w 1) 8 ^^^ w 1 / 2 ^ 7
  let nw := (g1 + w 9 + g0 + w 0) % 2 ^ 64
  ([add64 t1 (s0 + maj), v 0, v 1, v 2, add64 (v 3) t1, v 4, v 5, v 6], x.2.drop 1 ++ [nw])

def shaBlock (h : List Nat) (b : List Nat) : List Nat :=
  let w := tabulate 16 (fun i => ofBeBytes ((b.drop (8 * i)).take 8))
  let r := (shaK.foldl shaRound (h, w)).1
  tabulate 8 (fun i => add64 (nth 0 h i) (nth 0 r i))

def shaBlocks : Nat → List Nat → List Nat → List Nat
  | 0, _, h => h
  | n + 1, m, h => shaBlocks n (m.drop 128) (shaBlock h (m.take 128))

/-- SHA-384 of a list of bytes, as a number whose most significant byte is the first of the digest. -/
def sha384 (m : List Nat) : Nat :=
  let z := (239 - m.length % 128) % 128
  let p := m ++ [0x80] ++ List.replicate z 0 ++ beBytes 16 (8 * m.length)
  ((shaBlocks (p.length / 128) p shaInit).take 6).foldl (fun a w => a * 2 ^ 64 + w) 0

/-! P-384. -/

def pF : Nat := 2 ^ 384 - 2 ^ 128 - 2 ^ 96 + 2 ^ 32 - 1
def pN : Nat := 0xffffffffffffffffffffffffffffffffffffffffffffffffc7634d81f4372ddf581a0db248b0a77aecec196accc52973
def pB : Nat := 0xb3312fa7e23ee7e4988e056be3f82d19181d9c6efe8141120314088f5013875ac656398d8a2ed19d2a85c8edd3ec2aef
def pGx : Nat := 0xaa87ca22be8b05378eb1c71ef320ad746e1d3b628ba79b9859f741e082542a385502f25dbf55296c3a545e3872760ab7
def pGy : Nat := 0x3617de4a96262c6f5d9e98bf9292dc29f8f41dbd289a147ce9da3113b5f0b8c00a60b1ce1d7e819d7a431d7c90ea0e5f

/-- a^e mod m, by the bits of e from the lowest. -/
def powMod (m : Nat) : Nat → Nat → Nat → Nat → Nat
  | 0, _, _, r => r
  | f + 1, a, e, r => powMod m f (a * a % m) (e / 2) (if e % 2 = 1 then r * a % m else r)
def invMod (m a : Nat) : Nat := powMod m 384 (a % m) (m - 2) 1
def subF (a b : Nat) : Nat := (a + pF - b % pF) % pF

/-- A point of the curve, none for the point at infinity. -/
abbrev Pt := Option (Nat × Nat)

def ptAdd (p q : Pt) : Pt :=
  match p, q with
  | none, _ => q
  | _, none => p
  | some (x1, y1), some (x2, y2) =>
    if x1 = x2 && (y1 + y2) % pF = 0 then none
    else
      let l := if x1 = x2 then (3 * x1 * x1 + pF - 3) % pF * invMod pF (2 * y1) % pF
        else subF y2 y1 * invMod pF (subF x2 x1) % pF
      let x := subF (subF (l * l) x1) x2
      some (x, subF (l * subF x1 x) y1)

/-- k times a point. -/
def ptMul : Nat → Nat → Pt → Pt → Pt
  | 0, _, _, r => r
  | f + 1, k, p, r => ptMul f (k / 2) (ptAdd p p) (if k % 2 = 1 then ptAdd r p else r)

def onCurve (x y : Nat) : Bool := decide (x < pF) && decide (y < pF) && y * y % pF == (x * x * x + (pF - 3) * x + pB) % pF

/-- The signature (r, s) of the digest `e` under the key (x, y) is valid. -/
def ecdsaOk (e x y r s : Nat) : Bool :=
  if !onCurve x y || r = 0 || pN ≤ r || s = 0 || pN ≤ s then false
  else
    let w := invMod pN s
    match ptAdd (ptMul 384 (e * w % pN) (some (pGx, pGy)) none) (ptMul 384 (r * w % pN) (some (x, y)) none) with
    | some (x', _) => x' % pN == r
    | none => false

end Sys2Proof.Machine
end

