-- ==== Sys2Proof/Config.lean ====
section
/-! DEFINITION. What a loaded image fixes and the spec leaves open, and the free values: constants with no body, so that a
claim about them holds whatever they are. Each is named in the assumption log. -/
namespace Sys2Proof.Config

/-- Free value: whether word `w` (16 to 511) of the object loaded in FX slot `slot` is declared rampable (R121 class 10);
the encoding of that declaration in the DSP image is not in the spec. -/
opaque fxRampable (slot w : Nat) : Bool

/-- The n-th free value; taken modulo the width of the field it fills. -/
opaque freeNat (n : Nat) : Nat

/-- The integer that the RCU takes for the mean of `n` samples whose sum `n` does not divide (R242 states no rounding). -/
opaque meanPpb (sum : Int) (n : Nat) : Int

/-- The reduced phase step of an input whose period is no whole number of root cycles, in root cycles: `num` over the input's edge
rate (R241; the spec gives no rounding). -/
opaque stepCycles (num : Int) (hz : Nat) : Int

/-- The root cycles that the RCU takes for a PTP phase error of `v` units of 2⁻⁸ ns that is not a whole number of them
(R229 states no rounding). -/
opaque ptpCycles (v : Int) (root : Nat) : Int

/-- The ASRC's coefficient, Q1.31, of the input frame that lies `dist` (2⁻²⁸ frames) after the instant that the output sample
represents, at ratio `r` (R285: the ASRC ROM's contents are not in the spec). -/
opaque asrcIn (r : Nat) (dist : Int) : Int

/-- The same of the engine's sample that lies `dist` after the instant that an output frame represents. -/
opaque asrcOut (r : Nat) (dist : Int) : Int

/-- The word of PDM_COEF (0 to 255) that holds tap `k` of half-band stage `stage` (R289 gives no layout). -/
opaque pdmHalf (stage k : Nat) : Nat

/-- The word of PDM_COEF (256 to 1,023) that holds tap `k` of the resampler for the fraction `frac` (2⁻²⁸ sample) (R289). -/
opaque pdmPhase (frac k : Nat) : Nat

/-- Where the input alignment delays keep the word of strip `u` at position `k` of its line: one of banks 0 to 63 (R11, R70 give no byte
layout). -/
opaque alignBank (u k : Nat) : Nat

/-- Where the output delays keep the word of line `d` at position `k`: one of banks 64 to 95 (R11, R59 give no byte layout). -/
opaque delayBank (d k : Nat) : Nat

/-- Which of banks 156 to 159 holds the meter area (R11, R71 place it no nearer). -/
opaque meterBank : Nat

/-- Word `i` of PDM_COEF (R289: the ROM's contents are not in the spec). -/
opaque pdmCoef (i : Nat) : Nat

/-- The sample offset at which the triangular error of TEST_ASRC_JIT starts (R369 states no phase). -/
opaque jitterPhase : Nat

end Sys2Proof.Config
end

