-- ==== Sys2Proof/Machine/Catalog.lean ====
section
/-! DEFINITION. The PID map (01_engine_at_scale.md, "Two hierarchies"; R123 scope units) and the class of each parameter word
(R63, R121; word tables of 03_strips.md, 04_sends_buses_confluence.md, 05_sluice_scenes.md). -/
namespace Sys2Proof.Machine

/-- What a PID names. `strip u w`: word w of the strip object of scope unit u (R123). -/
inductive PidKind where
  | strip (u w : Nat)
  | fx (slot w : Nat)
  | patch (e : Nat)
  | msend (k x : Nat)
  | glob (g : Nat)
  | send (i b : Nat)
deriving DecidableEq, Repr

/-- The object and word of a PID (table of 01_engine_at_scale.md, "The objects in PSTORE"). -/
def pidKind (pid : Nat) : PidKind :=
  if 0x40000 ≤ pid then .send ((pid - 0x40000) / 256 % 1024) ((pid - 0x40000) % 256)
  else if 0x3C000 ≤ pid then .glob (pid - 0x3C000)
  else if 0x33800 ≤ pid then .msend ((pid - 0x33800) / 128) ((pid - 0x33800) % 128)
  else if 0x32800 ≤ pid then .patch (pid - 0x32800)
  else if 0x2C800 ≤ pid then .fx ((pid - 0x2C800) / 512) ((pid - 0x2C800) % 512)
  else if 0x28800 ≤ pid then .strip (1296 + (pid - 0x28800) / 128) ((pid - 0x28800) % 128)
  else if 0x28000 ≤ pid then .strip (1280 + (pid - 0x28000) / 128) ((pid - 0x28000) % 128)
  else if 0x20000 ≤ pid then .strip (1024 + (pid - 0x20000) / 128) ((pid - 0x20000) % 128)
  else .strip (pid / 128) (pid % 128)

/-- First PID of scope unit u (R123). -/
def unitPid (u : Nat) : Nat :=
  if u < 1024 then 128 * u
  else if u < 1280 then 0x20000 + 128 * (u - 1024)
  else if u < 1296 then 0x28000 + 128 * (u - 1280)
  else if u < 1424 then 0x28800 + 128 * (u - 1296)
  else if u < 1472 then 0x2C800 + 512 * (u - 1424)
  else if u < 2496 then 0x40000 + 256 * (u - 1472)
  else if u < 2768 then 0x33800 + 128 * (u - 2496)
  else if u = 2768 then 0x32800
  else 0x3C101

/-- Words of scope unit u (R125). -/
def unitLen (u : Nat) : Nat :=
  if u < 1424 then 128
  else if u < 1472 then 512
  else if u < 2496 then 256
  else if u < 2768 then 128
  else if u = 2768 then 4096
  else 191

/-- The kinds of a strip of scope unit u: 0 input, 1 bus, 2 main, 3 matrix. -/
def unitKind (u : Nat) : Nat := if u < 1024 then 0 else if u < 1280 then 1 else if u < 1296 then 2 else 3

/-- The ramp field of a word: ramp class of R121, field [hi:lo], and whether its code is a G code (R119). -/
structure RampField where
  cls : Nat
  hi : Nat
  lo : Nat
  isG : Bool
deriving DecidableEq, Repr

/-- The ramp field of word w of a strip object (strip object table; GATE words are of input strips only). -/
def stripRamp (kind w : Nat) : Option RampField :=
  match w with
  | 1 => some ⟨1, 15, 0, true⟩
  | 9 => some ⟨6, 15, 0, true⟩
  | 16 => some ⟨2, 15, 0, false⟩
  | 17 => some ⟨2, 15, 0, false⟩
  | 20 => if kind = 0 then some ⟨4, 15, 0, true⟩ else none
  | 21 => if kind = 0 then some ⟨4, 15, 0, true⟩ else none
  | 64 => some ⟨4, 15, 0, true⟩
  | 65 => some ⟨4, 7, 0, false⟩
  | 69 => some ⟨4, 15, 0, true⟩
  | 80 => some ⟨0, 15, 0, true⟩
  | 81 => some ⟨5, 7, 0, false⟩
  | 82 => some ⟨5, 7, 0, false⟩
  | _ =>
    if 32 ≤ w && w < 64 then
      (match w % 4 with
        | 0 => some ⟨3, 15, 0, false⟩
        | 1 => some ⟨3, 15, 0, false⟩
        | 2 => some ⟨3, 15, 0, true⟩
        | _ => none)
    else none

/-- The ramp field of a PID that is not a send or matrix crosspoint; `fxRampable s w` says which words 16 to 511 the object
loaded in slot s declares rampable (R121 class 10). -/
def rampField (fxRampable : Nat → Nat → Bool) (pid : Nat) : Option RampField :=
  match pidKind pid with
  | .strip u w => stripRamp (unitKind u) w
  | .fx s w =>
    if 1 ≤ w && w ≤ 3 then some ⟨9, 15, 0, true⟩
    else if 16 ≤ w && fxRampable s w then some ⟨10, 15, 0, false⟩ else none
  | .glob g =>
    if 0x180 ≤ g && g < 0x1C0 then
      (if g % 2 = 0 then some ⟨11, 31, 16, false⟩ else some ⟨11, 15, 0, true⟩)
    else none
  | .patch _ => none
  | .msend _ _ => none
  | .send _ _ => none

/-- Route crossfade points (R64, R60): keys. Strip unit u, point t: 64 u + t. -/
def xkSrc (u : Nat) : Nat := 64 * u
def xkDelay (u : Nat) : Nat := 64 * u + 1
def xkPol (u : Nat) : Nat := 64 * u + 2
def xkGate (u : Nat) : Nat := 64 * u + 3
def xkEq (u : Nat) : Nat := 64 * u + 4
def xkComp (u : Nat) : Nat := 64 * u + 5
def xkHpf (u : Nat) : Nat := 64 * u + 6
def xkLpf (u : Nat) : Nat := 64 * u + 7
def xkBand (u b : Nat) : Nat := 64 * u + 8 + b
def xkIns (u : Nat) : Nat := 64 * u + 16
def xkMute (u : Nat) : Nat := 64 * u + 17
def xkLink (u : Nat) : Nat := 64 * u + 18
def xkDir (u : Nat) : Nat := 64 * u + 19
def xkAssign (u m : Nat) : Nat := 64 * u + 32 + m
def xkPatch (e : Nat) : Nat := 64 * 1424 + e
def xkGen (g : Nat) : Nat := 64 * 1424 + 4096 + g
def xkFx (s : Nat) : Nat := 64 * 1424 + 4096 + 64 + s

/-- PIDs of the engine-global words used by the graph (R93; 03_strips.md). -/
def pidFloodCmd : Nat := 0x3C100
def pidFloodRamp : Nat := 0x3C101
def pidRouteXf : Nat := 0x3C102
def pidSendXfMin : Nat := 0x3C103
def pidMixCtl : Nat := 0x3C104
def pidDitherCtl : Nat := 0x3C140
def pidDitherSeed : Nat := 0x3C141
def pidDormCtl : Nat := 0x3C142
def pidDormDef : Nat := 0x3C143
def pidGenA (g : Nat) : Nat := 0x3C180 + 2 * g
def pidGenB (g : Nat) : Nat := 0x3C181 + 2 * g
def pidMeterCtl : Nat := 0x3C1C0
/-- PID of word w of the strip of unit u. -/
def pidStrip (u w : Nat) : Nat := unitPid u + w
def pidPatch (e : Nat) : Nat := 0x32800 + e
def pidSend (i b : Nat) : Nat := 0x40000 + 256 * i + b
def pidMsend (k x : Nat) : Nat := 0x33800 + 128 * k + x
def pidFx (slot w : Nat) : Nat := 0x2C800 + 512 * slot + w

/-- The value of a word after a cold reset, before CFG: the engine-global defaults of the tables (R93, R121, 03_strips.md,
06_headrace.md). -/
def globalDefault (g : Nat) : Nat :=
  if g < 0x10 then 0x80003800
  else if g < 0x20 then 0x80004800
  else if g = 0x102 then 0x40
  else if g = 0x103 then 0x40
  else if g = 0x1C0 then 1
  else 0

end Sys2Proof.Machine
end

