-- ==== Sys2Proof/Machine/Fixed.lean ====
section
/-! DEFINITION. The fixed-point primitives of the standard graph (R68, R69) and the code conversions of 03_strips.md, computed
exactly. A floor of a root or a logarithm is found by comparing integer powers; a floor of a trigonometric or exponential
expression by integer intervals whose width shrinks until both ends have one floor. -/
namespace Sys2Proof.Machine

/-- `mul` of 03_strips.md, "Arithmetic": one product, truncated toward minus infinity. -/
def mulQ (a b : Int) : Int := shrInt (a * b) 31

/-- `sat` of 03_strips.md: saturation to Q9.31. -/
def satQ (v : Int) : Int := satInt 40 v

/-- Saturation to Q1.31 (R57, R59, R75). -/
def sat32 (v : Int) : Int := satInt 32 v

/-- 2^31, unity in Q1.31. -/
def unity : Int := 2147483648

/-- The weight ρ_j of R65 and R83 for sample `j` of a crossfade of `len` samples. -/
def rho (j len : Nat) : Int := (((2 ^ 31 * (j + 1)) / (len + 1) : Nat) : Int)

/-- R65: the crossfade of `a` toward `b` with weight `w`. -/
def xmix (a b w : Int) : Int := a + mulQ (b - a) w

/-- The largest `y < 2^k` (above `acc`) that satisfies the downward-closed test `p`. -/
def searchMax (p : Nat → Bool) : Nat → Nat → Nat
  | 0, acc => acc
  | k + 1, acc => searchMax p k (if p (acc + 2 ^ k) then acc + 2 ^ k else acc)

/-- LIN(G) (code conversions of 03_strips.md): floor(2^31 × 10^((G − 0xE000)/5120)), 0 for G = 0. -/
def lin (g : Nat) : Nat :=
  if g = 0 then 0
  else if 0xE000 ≤ g then
    searchMax (fun y => decide (y ^ 5120 ≤ 2 ^ (31 * 5120) * 10 ^ (g - 0xE000))) 38 0
  else
    searchMax (fun y => decide (y ^ 5120 * 10 ^ (0xE000 - g) ≤ 2 ^ (31 * 5120))) 38 0

/-- floor(5120 × log10(v / 2^31)) + 65536 for v > 0 (the compressor's level and the meter code). -/
def logCode (v : Nat) : Nat :=
  searchMax (fun m =>
    if 65536 ≤ m then decide (10 ^ (m - 65536) * 2 ^ (31 * 5120) ≤ v ^ 5120)
    else decide (2 ^ (31 * 5120) ≤ v ^ 5120 * 10 ^ (65536 - m))) 17 0

/-- floor(5120 × log10(v / 2^31)) for v > 0. -/
def logLevel (v : Nat) : Int := (logCode v : Int) - 65536

/-- `mcode` of 06_headrace.md, "Meters". -/
def mcode (v : Nat) : Nat :=
  if v = 0 then 0 else (clampInt 1 0xFFFF (logLevel v + 0xE000)).toNat

/-- floor(t(T) × fs) with t(T) = 10 µs × 2^(T/2048) (03_strips.md, code conversions). -/
def samplesOf (fs t : Nat) : Nat :=
  searchMax (fun y => decide ((y * 100000) ^ 2048 ≤ fs ^ 2048 * 2 ^ t)) 34 0

/-- N(T) = max(1, floor(t(T) × fs)). -/
def nOf (fs t : Nat) : Nat := max 1 (samplesOf fs t)

/-- floor(2^32 × f(F) / fs), the phase step of a sine generator (R77), with f(F) = min(8 Hz × 2^(F/5120), 0.45 fs). -/
def phaseStep (fs f : Nat) : Nat :=
  min 1932735283 (searchMax (fun y => decide ((y * fs) ^ 5120 ≤ 2 ^ (35 * 5120 + f))) 34 0)

/-- An interval of reals: both ends scaled by 2^p, for a precision p that every operation is given. -/
structure Ival where
  lo : Int
  hi : Int
deriving DecidableEq, Repr

def ivInt (p : Nat) (x : Int) : Ival := ⟨x * ((2 ^ p : Nat) : Int), x * ((2 ^ p : Nat) : Int)⟩
/-- The rational a / b, b > 0. -/
def ivRat (p : Nat) (a : Int) (b : Nat) : Ival :=
  ⟨a * ((2 ^ p : Nat) : Int) / b, -(-(a * ((2 ^ p : Nat) : Int)) / b)⟩
def ivAdd (x y : Ival) : Ival := ⟨x.lo + y.lo, x.hi + y.hi⟩
def ivNeg (x : Ival) : Ival := ⟨-x.hi, -x.lo⟩
def ivSub (x y : Ival) : Ival := ivAdd x (ivNeg y)
def ivMul (p : Nat) (x y : Ival) : Ival :=
  let a := x.lo * y.lo
  let b := x.lo * y.hi
  let c := x.hi * y.lo
  let d := x.hi * y.hi
  let l := min (min a b) (min c d)
  let h := max (max a b) (max c d)
  ⟨shrInt l p, -(shrInt (-h) p)⟩
/-- The reciprocal of a positive interval. -/
def ivInv (p : Nat) (x : Ival) : Ival :=
  let one : Int := ((2 ^ (2 * p) : Nat) : Int)
  ⟨one / (max 1 x.hi), -((-one) / (max 1 x.lo))⟩
def ivDivNat (x : Ival) (k : Nat) : Ival := ⟨x.lo / (k : Int), -((-x.hi) / (k : Int))⟩
/-- The largest integer whose square is at most x. -/
def isqrt (x : Nat) : Nat := searchMax (fun y => decide (y * y ≤ x)) (x.log2 / 2 + 1) 0
/-- The square root of a non-negative interval. -/
def ivSqrt (p : Nat) (x : Ival) : Ival :=
  ⟨(isqrt (x.lo.toNat * 2 ^ p) : Nat), (isqrt (x.hi.toNat * 2 ^ p) + 1 : Nat)⟩

/-- Sum of the terms of exp from index `k`, `term` being x^k / k!; the remainder is below twice the first term left out. -/
def ivExpSum (p : Nat) (x : Ival) : Nat → Nat → Ival → Ival → Ival
  | 0, _, term, acc => ⟨acc.lo, acc.hi + 2 * (max term.hi 0) + 2⟩
  | fuel + 1, k, term, acc =>
    ivExpSum p x fuel (k + 1) (ivDivNat (ivMul p term x) (k + 1)) (ivAdd acc term)
/-- exp of an interval in [0, 1]. -/
def ivExp (p : Nat) (x : Ival) : Ival := ivExpSum p x (p / 3 + 12) 0 (ivInt p 1) (ivInt p 0)

/-- Sum of 1 / (k 2^k): ln 2. -/
def ivLn2Sum (p : Nat) : Nat → Nat → Ival → Ival
  | 0, _, acc => ⟨acc.lo, acc.hi + 2⟩
  | fuel + 1, k, acc => ivLn2Sum p fuel (k + 1) (ivAdd acc (ivRat p 1 (k * 2 ^ k)))
def ivLn2 (p : Nat) : Ival := ivLn2Sum p (p + 2) 1 (ivInt p 0)

/-- Sum of the alternating series of atan(1/m). -/
def ivAtanSum (p m : Nat) : Nat → Nat → Ival → Ival
  | 0, _, acc => ⟨acc.lo - 2, acc.hi + 2⟩
  | fuel + 1, k, acc =>
    let t := ivRat p 1 ((2 * k + 1) * m ^ (2 * k + 1))
    ivAtanSum p m fuel (k + 1) (if k % 2 = 0 then ivAdd acc t else ivSub acc t)
/-- π by Machin's formula, 16 atan(1/5) − 4 atan(1/239). -/
def ivPi (p : Nat) : Ival :=
  let a := ivAtanSum p 5 (p / 4 + 4) 0 (ivInt p 0)
  let b := ivAtanSum p 239 (p / 15 + 4) 0 (ivInt p 0)
  ivSub ⟨16 * a.lo, 16 * a.hi⟩ ⟨4 * b.lo, 4 * b.hi⟩

/-- Sum of an alternating Taylor series whose terms fall by x² / (k (k+1)); the remainder is below the term left out. -/
def ivTrigSum (p : Nat) (x2 : Ival) : Nat → Nat → Bool → Ival → Ival → Ival
  | 0, _, _, term, acc => ⟨acc.lo - (max term.hi 0) - 2, acc.hi + (max term.hi 0) + 2⟩
  | fuel + 1, k, neg, term, acc =>
    ivTrigSum p x2 fuel (k + 2) (!neg) (ivDivNat (ivMul p term x2) ((k + 1) * (k + 2)))
      (if neg then ivSub acc term else ivAdd acc term)
/-- sin and cos of an interval in [0, 2]. -/
def ivSin (p : Nat) (x : Ival) : Ival := ivTrigSum p (ivMul p x x) (p / 4 + 10) 1 false x (ivInt p 0)
def ivCos (p : Nat) (x : Ival) : Ival := ivTrigSum p (ivMul p x x) (p / 4 + 10) 0 false (ivInt p 1) (ivInt p 0)
def ivTan (p : Nat) (x : Ival) : Ival := ivMul p (ivSin p x) (ivInv p (ivCos p x))

/-- 2^(a/b) for an integer a: 2^(floor) × exp(frac × ln 2). -/
def ivExp2 (p : Nat) (a : Int) (b : Nat) : Ival :=
  let q := a / (b : Int)
  let r := a % (b : Int)
  let e := if r = 0 then ivInt p 1 else ivExp p (ivMul p (ivRat p r b) (ivLn2 p))
  if 0 ≤ q then ⟨e.lo * ((2 ^ q.toNat : Nat) : Int), e.hi * ((2 ^ q.toNat : Nat) : Int)⟩
  else ⟨shrInt e.lo (-q).toNat, -(shrInt (-e.hi) (-q).toNat)⟩
/-- ln 10 = 3 ln 2 + ln 1.25, with ln 1.25 = sum of 1 / (k 5^k). -/
def ivLn5q (p : Nat) : Nat → Nat → Ival → Ival
  | 0, _, acc => ⟨acc.lo, acc.hi + 2⟩
  | fuel + 1, k, acc => ivLn5q p fuel (k + 1) (ivAdd acc (ivRat p 1 (k * 5 ^ k)))
def ivLn10 (p : Nat) : Ival :=
  let l2 := ivLn2 p
  ivAdd ⟨3 * l2.lo, 3 * l2.hi⟩ (ivLn5q p (p / 2 + 4) 1 (ivInt p 0))
/-- exp of an interval in (−3, 3), by exp(x) = exp(x/4)^4 after a shift to [0, 2). -/
def ivExpWide (p : Nat) (x : Ival) : Ival :=
  let neg := decide (x.lo < 0)
  let y := if neg then ivNeg x else x
  let e := ivExp p ⟨max 0 (y.lo / 4), max 0 (-((-y.hi) / 4))⟩
  let e2 := ivMul p e e
  let e4 := ivMul p e2 e2
  if neg then ivInv p e4 else e4

/-- The floor of 2^31 times the real that `f p` encloses at precision p: the first precision at which both ends agree. -/
def floorQ (f : Nat → Ival) : List Nat → Int
  | [] => 0
  | p :: ps =>
    let v := f p
    let a := shrInt (v.lo * 2147483648) p
    let b := shrInt (v.hi * 2147483648) p
    if a = b then a else match ps with
      | [] => a
      | _ => floorQ f ps

/-- The precisions tried by `floorQ`. -/
def precisions : List Nat := [112, 224, 448, 1024, 4096]

/-- f(F)/fs in an interval: min(8 × 2^(F/5120) / fs, 0.45). -/
def ivFreq (p fs f : Nat) : Ival :=
  let x := ivDivNat (ivExp2 p (f : Int) 5120) fs
  let y : Ival := ⟨8 * x.lo, 8 * x.hi⟩
  let c := ivRat p 9 20
  ⟨min y.lo c.lo, min y.hi c.hi⟩

/-- tan(π f(F) / fs). -/
def ivTanF (p fs f : Nat) : Ival := ivTan p (ivMul p (ivPi p) (ivFreq p fs f))

/-- 1/Qv(Qc) = min(max(2^((0x4000 − Qc)/4096), 1/40), 10), the reciprocal of Qv of the code conversions. -/
def ivInvQ (p q : Nat) : Ival :=
  let x := ivExp2 p (0x4000 - (q : Int)) 4096
  let lo := ivRat p 1 40
  let hi := ivInt p 10
  ⟨min (max x.lo lo.lo) hi.lo, min (max x.hi lo.hi) hi.hi⟩

/-- A = 10^(gain_dB / 40), gain_dB = (G' − 0xE000)/256 with G' clamped to ±24 dB (EQ of 03_strips.md). -/
def ivGainA (p g : Nat) : Ival :=
  let d : Int := clampInt 0xC800 0xF800 (g : Int) - 0xE000
  if d = 0 then ivInt p 1 else ivExpWide p (ivMul p (ivRat p d (256 * 40)) (ivLn10 p))

/-- A², exact where it is an integer (0 dB and +20 dB). -/
def ivGainA2 (p g : Nat) : Ival :=
  let d : Int := clampInt 0xC800 0xF800 (g : Int) - 0xE000
  if d = 0 then ivInt p 1 else if d = 5120 then ivInt p 10 else ivMul p (ivGainA p g) (ivGainA p g)

/-- The parameters of a state-variable section: the coefficients a1, a2, a3, m0, m1, m2 in Q9.31 (R69). -/
structure SvCoef where
  a1 : Int
  a2 : Int
  a3 : Int
  m0 : Int
  m1 : Int
  m2 : Int
deriving DecidableEq, Repr

/-- The coefficients from enclosures of g, k and the three mix gains. -/
def svCoef (g k : Nat → Ival) (m0 m1 m2 : Nat → Ival) : SvCoef :=
  let a1 := fun p => ivInv p (ivAdd (ivInt p 1) (ivMul p (g p) (ivAdd (g p) (k p))))
  let a2 := fun p => ivMul p (g p) (a1 p)
  let a3 := fun p => ivMul p (g p) (a2 p)
  ⟨floorQ a1 precisions, floorQ a2 precisions, floorQ a3 precisions,
   floorQ m0 precisions, floorQ m1 precisions, floorQ m2 precisions⟩

/-- 1/Q of a filter section (HPF and LPF table): √2 for 12 dB/octave; 2 cos(π/8) and 2 cos(3π/8) for 24 dB/octave. -/
def ivFiltK (p : Nat) (sec : Nat) : Ival :=
  match sec with
  | 0 => ivSqrt p (ivInt p 2)
  | 1 => let c := ivCos p (ivDivNat (ivPi p) 8); ⟨2 * c.lo, 2 * c.hi⟩
  | _ => let t := ivPi p; let c := ivCos p (ivDivNat ⟨3 * t.lo, 3 * t.hi⟩ 8); ⟨2 * c.lo, 2 * c.hi⟩

/-- The section modes of "The state-variable section": coefficients for TYPE, frequency code, Q code and gain code. -/
def eqCoef (fs ty f q g : Nat) : SvCoef :=
  let t := fun p => ivTanF p fs f
  let ik := fun p => ivInvQ p q
  let a := fun p => ivGainA p g
  let a2 := fun p => ivGainA2 p g
  let c := fun (x : Int) => fun p => ivInt p x
  match ty with
  | 0 =>
    let k := fun p => ivMul p (ivInvQ p q) (ivInv p (a p))
    svCoef t k (c 1) (fun p => ivMul p (k p) (ivSub (a2 p) (ivInt p 1))) (c 0)
  | 1 =>
    svCoef (fun p => ivMul p (t p) (ivInv p (ivSqrt p (a p)))) ik (c 1)
      (fun p => ivMul p (ik p) (ivSub (a p) (ivInt p 1)))
      (fun p => ivSub (a2 p) (ivInt p 1))
  | 2 =>
    svCoef (fun p => ivMul p (t p) (ivSqrt p (a p))) ik a2
      (fun p => ivMul p (ivMul p (ik p) (ivSub (ivInt p 1) (a p))) (a p))
      (fun p => ivSub (ivInt p 1) (a2 p))
  | 3 => svCoef t ik (c 0) (c 0) (c 1)
  | 4 => svCoef t ik (c 1) (fun p => ivNeg (ik p)) (c (-1))
  | 5 => svCoef t ik (c 0) ik (c 0)
  | 6 => svCoef t ik (c 1) (fun p => ivNeg (ik p)) (c 0)
  | _ => svCoef t ik (c 1) (fun p => ivNeg ⟨2 * (ik p).lo, 2 * (ik p).hi⟩) (c 0)

/-- The coefficients of a HPF or LPF section: `sec` 0 for 12 dB/octave, 1 and 2 for the two sections of 24 dB/octave. -/
def filtCoef (fs f sec : Nat) (high : Bool) : SvCoef :=
  let t := fun p => ivTanF p fs f
  let k := fun p => ivFiltK p sec
  if high then svCoef t k (fun p => ivInt p 1) (fun p => ivNeg (k p)) (fun p => ivInt p (-1))
  else svCoef t k (fun p => ivInt p 0) (fun p => ivInt p 0) (fun p => ivInt p 1)

/-- α(T) = floor(2^31 × (1 − exp(−1 / (t(T) fs)))). -/
def alphaOf (fs t : Nat) : Int :=
  floorQ (fun p =>
    -- 1 / (t fs) = 100000 / (fs 2^(T/2048))
    let d := ivMul p (ivRat p fs 100000) (ivExp2 p (t : Int) 2048)
    ivSub (ivInt p 1) (ivExpWide p (ivNeg (ivInv p d)))) precisions

/-- One sample of the state-variable section: new ic1, ic2 and the output y. -/
def svStep (c : SvCoef) (ic1 ic2 x : Int) : Int × Int × Int :=
  let v3 := satQ (x - ic2)
  let v1 := satQ (shrInt (c.a1 * ic1 + c.a2 * v3) 31)
  let v2 := satQ (ic2 + shrInt (c.a2 * ic1 + c.a3 * v3) 31)
  (satQ (2 * v1 - ic1), satQ (2 * v2 - ic2), satQ (shrInt (c.m0 * x + c.m1 * v1 + c.m2 * v2) 31))

/-- floor(A × sin(2π φ / 2^32)) for a phase φ < 2^32 (R77). -/
def sineOf (amp phi : Nat) : Int :=
  let quad := phi / 2 ^ 30
  let r : Nat := phi % 2 ^ 30
  let mag : Nat → Ival := fun p =>
    let x := ivMul p (ivPi p) (ivRat p (Int.ofNat r) (2 ^ 31))
    let y := if quad % 2 = 0 then ivSin p x else ivCos p x
    let z : Ival := ⟨y.lo * (amp : Int), y.hi * (amp : Int)⟩
    if quad < 2 then z else ivNeg z
  if r = 0 then
    (match quad with
      | 0 => 0
      | 1 => (amp : Int)
      | 2 => 0
      | _ => -(amp : Int))
  else floorQ (fun p => let v := mag p; ⟨v.lo / 2147483648, -((-v.hi) / 2147483648)⟩) precisions

/-- floor(2^31 cos(π p / 2)) and floor(2^31 sin(π p / 2)) with p = q / 254 (R81). -/
def panCos (q : Nat) : Nat :=
  if q = 0 then 2 ^ 31 else if 254 ≤ q then 0
  else (floorQ (fun p => ivCos p (ivMul p (ivPi p) (ivRat p q 508))) precisions).toNat
def panSin (q : Nat) : Nat :=
  if q = 0 then 0 else if 254 ≤ q then 2 ^ 31
  else (floorQ (fun p => ivSin p (ivMul p (ivPi p) (ivRat p q 508))) precisions).toNat

/-- The balance law (R81 PAN_LAW 2, and gl, gr of "Fader, mute, width and balance"). -/
def balL (p : Nat) : Nat := if p ≤ 0x80 then 2 ^ 31 else 2 ^ 31 * (255 - p) / 127
def balR (p : Nat) : Nat := if p ≤ 0x80 then 2 ^ 31 * p / 128 else 2 ^ 31

/-- The pan factors pl(P), pr(P) of R81 for a PAN_LAW. -/
def panL (law p : Nat) : Nat :=
  match law with
  | 1 => 2 ^ 31 * (254 - (max p 1 - 1)) / 254
  | 2 => balL p
  | _ => panCos (max p 1 - 1)
def panR (law p : Nat) : Nat :=
  match law with
  | 1 => 2 ^ 31 * (max p 1 - 1) / 254
  | 2 => balR p
  | _ => panSin (max p 1 - 1)

/-- R80: the gain γ in Q6.26 of a governing send word with field values `on`, G and the Q1.31 factor f. -/
def conv (on : Bool) (g f : Nat) : Nat := if on && g != 0 then lin g * f / 2 ^ 36 else 0

/-- One step of the dither and noise registers: 32-bit Galois, feedback mask 0x8020_0003 (R74). -/
def prngStep (r : Nat) : Nat := if r % 2 = 1 then (r / 2) ^^^ 0x80200003 else r / 2

/-- CRC-16, polynomial 0x1021, initial 0xFFFF, no reflection, no final XOR (06_headrace.md, "Header"). -/
def crc16Bit : Nat → Nat → Nat
  | 0, c => c
  | k + 1, c => crc16Bit k (if 0x8000 ≤ c then (c * 2) % 65536 ^^^ 0x1021 else c * 2)
def crc16 (bs : List Nat) : Nat := bs.foldl (fun c b => crc16Bit 8 (c ^^^ (b % 256) * 256)) 0xFFFF

/-- CRC-32 (IEEE 802.3): reflected polynomial 0xEDB8_8320, initial and final XOR of all ones. -/
def crc32Bit : Nat → Nat → Nat
  | 0, c => c
  | k + 1, c => crc32Bit k (if c % 2 = 1 then (c / 2) ^^^ 0xEDB88320 else c / 2)
def crc32Step (c b : Nat) : Nat := crc32Bit 8 (c ^^^ b % 256)
def crc32 (bs : List Nat) : Nat := (bs.foldl crc32Step 0xFFFFFFFF) ^^^ 0xFFFFFFFF

end Sys2Proof.Machine
end

