-- ==== Sys2Proof/Machine/Reg.lean ====
section
/-! DEFINITION. What a register table row of the spec says of a CSR register (00_scope.md, "Register tables"): its field
types, reset values and "kept" marks; and the lookup of a register by its CSR offset. -/
namespace Sys2Proof.Machine

/-- The field types of the register tables (00_scope.md, "Register tables"). -/
inductive FieldTy where
  | ro | rw | rwp | w1c | w1s | wo | cnt
deriving DecidableEq, Repr

/-- One field of a register: its bits, type, cold-reset value, and whether a warm reset leaves it unchanged ("kept"). -/
structure FieldDef where
  hi : Nat
  lo : Nat
  ty : FieldTy
  rst : Nat
  kept : Bool
deriving DecidableEq, Repr

/-- A register, or `count` registers `stride` apart, with the fields that are not reserved. -/
structure RegDef where
  name : String
  base : Nat
  stride : Nat
  count : Nat
  fields : List FieldDef
deriving Repr

/-- A named field of the register at CSR offset `off`. -/
structure Fld where
  off : Nat
  hi : Nat
  lo : Nat
deriving DecidableEq, Repr

/-- Whether offset `off` is an instance of the register. -/
def regDefHas (d : RegDef) (off : Nat) : Bool :=
  if d.stride = 0 then decide (off = d.base)
  else decide (d.base ≤ off) && decide ((off - d.base) / d.stride < d.count) && decide ((off - d.base) % d.stride = 0)

/-- The bits the field occupies. -/
def fieldMask (f : FieldDef) : Nat := (2 ^ (f.hi + 1 - f.lo) - 1) * 2 ^ f.lo

/-- The reset value of a list of fields. -/
def fieldsReset : List FieldDef → Nat
  | [] => 0
  | f :: fs => (f.rst % 2 ^ (f.hi + 1 - f.lo)) * 2 ^ f.lo + fieldsReset fs

/-- The bits of the fields that a warm reset keeps. -/
def fieldsKept : List FieldDef → Nat
  | [] => 0
  | f :: fs => (if f.kept then fieldMask f else 0) + fieldsKept fs

/-- The bits of every field that is not reserved (R4). -/
def fieldsMask : List FieldDef → Nat
  | [] => 0
  | f :: fs => fieldMask f + fieldsMask fs

/-- The value a software write of `v` leaves in fields that held `old`, field by field by type (R4, register types):
RW and RWP take `v`; a W1C bit clears where `v` has 1; a W1S bit sets where `v` has 1; CNT clears to zero; RO keeps its
value; WO keeps nothing (it reads as zero). -/
def fieldsWrite (old v : Nat) : List FieldDef → Nat
  | [] => 0
  | f :: fs =>
    let o := bits old f.hi f.lo
    let x := bits v f.hi f.lo
    let n := match f.ty with
      | .ro => o
      | .rw => x
      | .rwp => x
      | .w1c => o - (o &&& x)
      | .w1s => o ||| x
      | .wo => 0
      | .cnt => 0
    n * 2 ^ f.lo + fieldsWrite old v fs

end Sys2Proof.Machine
end

