-- ==== Sys2Proof/Machine/RegMapA.lean ====
section
/-! DEFINITION. The CSR register map, part A: SYS to RSV (blocks 0x00 to 0x08). Written from the register tables of spec/ (each register's heading, and
its Bits, Type and Reset columns; `k` marks a field the table calls "kept"). -/
namespace Sys2Proof.Machine

/-- Registers of CSR block 0x00, part 0. -/
def regTable00_0 : List RegDef := [
  ⟨"SYS_DEVID", 0x0, 0x0, 1, [⟨31, 16, .ro, 0x5a54, false⟩, ⟨15, 0, .ro, 0x9700, false⟩]⟩,
  ⟨"SYS_STEP", 0x4, 0x0, 1, [⟨7, 4, .ro, 0xb, false⟩, ⟨3, 0, .ro, 0x0, false⟩]⟩,
  ⟨"SYS_FAMILY_0", 0x10, 0x0, 1, [⟨31, 16, .ro, 0x9700, false⟩, ⟨15, 8, .ro, 0x40, false⟩, ⟨7, 0, .ro, 0x4, false⟩]⟩,
  ⟨"SYS_FAMILY_1", 0x14, 0x0, 1, [⟨31, 16, .ro, 0x400, false⟩, ⟨15, 8, .ro, 0x10, false⟩, ⟨7, 0, .ro, 0x30, false⟩]⟩,
  ⟨"SYS_FAMILY_2", 0x18, 0x0, 1, [⟨31, 16, .ro, 0x100, false⟩, ⟨15, 8, .ro, 0x80, false⟩, ⟨7, 0, .ro, 0x4, false⟩]⟩,
  ⟨"SYS_FAMILY_3", 0x1c, 0x0, 1, [⟨31, 24, .ro, 0xa0, false⟩, ⟨23, 16, .ro, 0x8, false⟩, ⟨15, 8, .ro, 0x10, false⟩, ⟨7, 0, .ro, 0x10, false⟩]⟩,
  ⟨"SYS_CLK_ALIVE", 0x40, 0x0, 1, [⟨22, 21, .ro, 0x0, false⟩, ⟨20, 20, .ro, 0x0, false⟩, ⟨19, 16, .ro, 0x0, false⟩, ⟨12, 12, .ro, 0x0, false⟩, ⟨11, 8, .ro, 0x0, false⟩, ⟨7, 7, .ro, 0x0, false⟩, ⟨6, 6, .ro, 0x0, false⟩, ⟨4, 4, .ro, 0x0, false⟩, ⟨3, 3, .ro, 0x0, false⟩, ⟨2, 2, .ro, 0x0, false⟩, ⟨1, 1, .ro, 0x0, false⟩, ⟨0, 0, .ro, 0x0, false⟩]⟩,
  ⟨"SYS_BCLK_ALIVE", 0x44, 0x0, 1, [⟨31, 0, .ro, 0x0, false⟩]⟩,
  ⟨"SYS_CDC_STAT", 0x48, 0x0, 1, [⟨31, 31, .w1c, 0x0, true⟩, ⟨3, 0, .ro, 0x0, true⟩]⟩]

/-- Registers of CSR block 0x00. -/
def regTable00 : List RegDef := regTable00_0

/-- Registers of CSR block 0x01, part 0. -/
def regTable01_0 : List RegDef := [
  ⟨"RCU_IN_CFG", 0x10120, 0x0, 1, [⟨31, 31, .rw, 0x0, true⟩, ⟨30, 30, .rw, 0x0, true⟩, ⟨27, 24, .rw, 0x1, true⟩, ⟨16, 0, .rw, 0xbb80, true⟩]⟩,
  ⟨"RCU_IN_CFG", 0x10140, 0x0, 1, [⟨31, 31, .rw, 0x0, true⟩, ⟨30, 30, .rw, 0x0, true⟩, ⟨27, 24, .rw, 0x2, true⟩, ⟨16, 0, .rw, 0xbb80, true⟩]⟩,
  ⟨"RCU_IN_CFG", 0x10160, 0x0, 1, [⟨31, 31, .rw, 0x0, true⟩, ⟨30, 30, .rw, 0x0, true⟩, ⟨27, 24, .rw, 0x3, true⟩, ⟨16, 0, .rw, 0xbb80, true⟩]⟩,
  ⟨"RCU_IN_CFG", 0x10180, 0x0, 1, [⟨31, 31, .rw, 0x0, true⟩, ⟨30, 30, .rw, 0x0, true⟩, ⟨27, 24, .rw, 0x4, true⟩, ⟨16, 0, .rw, 0xbb80, true⟩]⟩,
  ⟨"RCU_IN_CFG", 0x101a0, 0x0, 1, [⟨31, 31, .rw, 0x0, true⟩, ⟨30, 30, .rw, 0x0, true⟩, ⟨27, 24, .rw, 0x5, true⟩, ⟨16, 0, .rw, 0xbb80, true⟩]⟩,
  ⟨"RCU_IN_CFG", 0x101c0, 0x0, 1, [⟨31, 31, .rw, 0x0, true⟩, ⟨30, 30, .rw, 0x0, true⟩, ⟨27, 24, .rw, 0x6, true⟩, ⟨16, 0, .rw, 0x8, true⟩]⟩,
  ⟨"RCU_IN_CFG", 0x101e0, 0x0, 1, [⟨31, 31, .rw, 0x0, true⟩, ⟨30, 30, .rw, 0x0, true⟩, ⟨27, 24, .rw, 0x7, true⟩, ⟨16, 0, .rw, 0x0, true⟩]⟩,
  ⟨"RCU_CTL", 0x10000, 0x0, 1, [⟨23, 16, .rw, 0x14, true⟩, ⟨10, 8, .rw, 0x3, true⟩, ⟨2, 2, .rw, 0x0, true⟩, ⟨1, 1, .rw, 0x0, true⟩, ⟨0, 0, .rw, 0x0, true⟩]⟩,
  ⟨"RCU_STAT", 0x10004, 0x0, 1, [⟨13, 13, .ro, 0x0, true⟩, ⟨12, 12, .ro, 0x0, true⟩, ⟨11, 11, .ro, 0x0, true⟩, ⟨10, 10, .ro, 0x0, true⟩, ⟨9, 9, .ro, 0x0, true⟩, ⟨8, 8, .ro, 0x0, true⟩, ⟨7, 4, .ro, 0xf, true⟩, ⟨2, 0, .ro, 0x0, true⟩]⟩,
  ⟨"RCU_HIST", 0x10008, 0x0, 1, [⟨11, 11, .w1c, 0x0, true⟩, ⟨10, 10, .w1c, 0x0, true⟩, ⟨9, 9, .w1c, 0x0, true⟩, ⟨8, 8, .w1c, 0x0, true⟩, ⟨7, 7, .w1c, 0x0, true⟩, ⟨6, 6, .w1c, 0x0, true⟩, ⟨5, 5, .w1c, 0x0, true⟩, ⟨4, 4, .w1c, 0x0, true⟩, ⟨3, 3, .w1c, 0x0, true⟩, ⟨2, 2, .w1c, 0x0, true⟩, ⟨1, 1, .w1c, 0x0, true⟩, ⟨0, 0, .w1c, 0x1, true⟩]⟩,
  ⟨"RCU_IE", 0x1000c, 0x0, 1, [⟨11, 0, .rw, 0x0, true⟩]⟩,
  ⟨"RCU_DPLL_CFG", 0x10010, 0x0, 1, [⟨15, 0, .rw, 0xc8, true⟩]⟩]

/-- Registers of CSR block 0x01, part 1. -/
def regTable01_1 : List RegDef := [
  ⟨"RCU_WTR", 0x10014, 0x0, 1, [⟨15, 0, .rw, 0x3c, true⟩]⟩,
  ⟨"RCU_FOFF", 0x10018, 0x0, 1, [⟨31, 0, .ro, 0x0, true⟩]⟩,
  ⟨"RCU_HOLD_FOFF", 0x1001c, 0x0, 1, [⟨31, 0, .ro, 0x0, true⟩]⟩,
  ⟨"RCU_HOLD_HIST", 0x10020, 0x0, 1, [⟨9, 0, .ro, 0x0, true⟩]⟩,
  ⟨"RCU_PHASE_ERR", 0x10024, 0x0, 1, [⟨31, 0, .ro, 0x0, true⟩]⟩,
  ⟨"RCU_SWITCH_IDX_LO", 0x10028, 0x0, 1, [⟨31, 0, .ro, 0x0, true⟩]⟩,
  ⟨"RCU_SWITCH_IDX_HI", 0x1002c, 0x0, 1, [⟨31, 0, .ro, 0x0, true⟩]⟩,
  ⟨"RCU_SWITCH_STEP", 0x10030, 0x0, 1, [⟨31, 0, .ro, 0x0, true⟩]⟩,
  ⟨"RCU_SWITCH_INFO", 0x10034, 0x0, 1, [⟨11, 8, .ro, 0x0, true⟩, ⟨7, 4, .ro, 0xf, true⟩, ⟨3, 0, .ro, 0xf, true⟩]⟩,
  ⟨"RCU_PTP_ERR", 0x10038, 0x0, 1, [⟨31, 0, .wo, 0x0, false⟩]⟩,
  ⟨"RCU_SWITCH_CNT", 0x1003c, 0x0, 1, [⟨31, 0, .cnt, 0x0, true⟩]⟩,
  ⟨"RCU_IN_CFG", 0x10100, 0x20, 8, [⟨31, 31, .rw, 0x0, true⟩, ⟨30, 30, .rw, 0x0, true⟩, ⟨27, 24, .rw, 0x0, true⟩, ⟨16, 0, .rw, 0xbb80, true⟩]⟩]

/-- Registers of CSR block 0x01, part 2. -/
def regTable01_2 : List RegDef := [
  ⟨"RCU_IN_QUAL", 0x10104, 0x20, 8, [⟨31, 16, .rw, 0x14, true⟩, ⟨15, 0, .rw, 0x32, true⟩]⟩,
  ⟨"RCU_IN_HIT", 0x10108, 0x20, 8, [⟨31, 24, .rw, 0x4, true⟩, ⟨23, 16, .rw, 0xa, true⟩, ⟨15, 0, .rw, 0x3e8, true⟩]⟩,
  ⟨"RCU_IN_STAT", 0x1010c, 0x20, 8, [⟨31, 30, .ro, 0x0, true⟩, ⟨29, 29, .ro, 0x0, true⟩, ⟨28, 28, .ro, 0x0, true⟩, ⟨19, 16, .ro, 0x0, true⟩, ⟨15, 0, .ro, 0x0, true⟩]⟩,
  ⟨"RCU_IN_FOFF", 0x10110, 0x20, 8, [⟨31, 0, .ro, 0x0, true⟩]⟩,
  ⟨"RCU_IN_HIT_CNT", 0x10114, 0x20, 8, [⟨31, 0, .cnt, 0x0, true⟩]⟩,
  ⟨"RCU_IN_LOSS_CNT", 0x10118, 0x20, 8, [⟨31, 0, .cnt, 0x0, true⟩]⟩,
  ⟨"RCU_IN_HIST", 0x1011c, 0x20, 8, [⟨4, 4, .w1c, 0x0, true⟩, ⟨3, 3, .w1c, 0x0, true⟩, ⟨2, 2, .w1c, 0x0, true⟩, ⟨1, 1, .w1c, 0x0, true⟩, ⟨0, 0, .w1c, 0x0, true⟩]⟩,
  ⟨"RCU_WCK_CFG", 0x10200, 0x10, 4, [⟨31, 31, .rw, 0x0, true⟩, ⟨30, 30, .rw, 0x0, true⟩, ⟨27, 24, .rw, 0x8, true⟩, ⟨16, 0, .rw, 0xbb80, true⟩]⟩,
  ⟨"RCU_WCK_OFFSET", 0x10204, 0x10, 4, [⟨31, 0, .rw, 0x0, true⟩]⟩,
  ⟨"RCU_WCK_STAT", 0x10208, 0x10, 4, [⟨31, 31, .ro, 0x0, true⟩, ⟨30, 30, .ro, 0x0, true⟩, ⟨29, 29, .ro, 0x0, true⟩, ⟨23, 0, .ro, 0x0, true⟩]⟩]

/-- Registers of CSR block 0x01. -/
def regTable01 : List RegDef := regTable01_0 ++ regTable01_1 ++ regTable01_2

/-- Registers of CSR block 0x02, part 0. -/
def regTable02_0 : List RegDef := [
  ⟨"RST_CTL", 0x20000, 0x0, 1, [⟨0, 0, .w1s, 0x0, false⟩]⟩,
  ⟨"RST_CAUSE", 0x20004, 0x0, 1, [⟨3, 0, .ro, 0x0, true⟩]⟩,
  ⟨"RST_STAT", 0x20008, 0x0, 1, [⟨2, 2, .w1c, 0x0, false⟩, ⟨1, 1, .w1c, 0x0, true⟩, ⟨0, 0, .w1c, 0x0, true⟩]⟩,
  ⟨"RST_IE", 0x2000c, 0x0, 1, [⟨3, 3, .rw, 0x0, false⟩, ⟨2, 2, .rw, 0x0, false⟩, ⟨1, 1, .rw, 0x0, false⟩, ⟨0, 0, .rw, 0x0, false⟩]⟩,
  ⟨"RST_CFG", 0x20010, 0x0, 1, [⟨31, 31, .rw, 0x1, true⟩, ⟨23, 16, .rw, 0x1, true⟩, ⟨7, 0, .rw, 0x8, true⟩]⟩,
  ⟨"RST_WDT_KICK", 0x20014, 0x0, 1, [⟨31, 0, .wo, 0x0, false⟩]⟩,
  ⟨"RST_WDT_LEFT", 0x20018, 0x0, 1, [⟨31, 31, .ro, 0x0, false⟩, ⟨19, 0, .ro, 0x0, false⟩]⟩,
  ⟨"RST_DOM", 0x2001c, 0x0, 1, [⟨9, 9, .rw, 0x0, false⟩, ⟨8, 8, .rw, 0x0, false⟩, ⟨7, 7, .rw, 0x0, false⟩, ⟨6, 6, .rw, 0x0, false⟩, ⟨5, 5, .rw, 0x0, false⟩, ⟨4, 4, .rw, 0x0, false⟩, ⟨3, 0, .rw, 0x0, false⟩]⟩,
  ⟨"RST_FATAL", 0x20020, 0x0, 1, [⟨3, 3, .w1c, 0x0, true⟩, ⟨2, 2, .w1c, 0x0, true⟩, ⟨1, 1, .w1c, 0x0, true⟩, ⟨0, 0, .w1c, 0x0, true⟩]⟩,
  ⟨"RST_WARM_CNT", 0x20024, 0x0, 1, [⟨31, 0, .cnt, 0x0, true⟩]⟩,
  ⟨"RST_IRQ_STAT", 0x20030, 0x0, 1, [⟨26, 0, .ro, 0x0, false⟩]⟩,
  ⟨"RST_IRQ_EN", 0x20034, 0x0, 1, [⟨26, 0, .rw, 0x0, false⟩]⟩]

/-- Registers of CSR block 0x02. -/
def regTable02 : List RegDef := regTable02_0

/-- Registers of CSR block 0x03, part 0. -/
def regTable03_0 : List RegDef := [
  ⟨"SCHED_CTL", 0x30000, 0x0, 1, [⟨23, 16, .rw, 0x10, true⟩, ⟨5, 4, .rw, 0x3, true⟩, ⟨1, 1, .w1s, 0x0, false⟩, ⟨0, 0, .rw, 0x0, true⟩]⟩,
  ⟨"SCHED_STAT", 0x30004, 0x0, 1, [⟨11, 11, .w1c, 0x0, false⟩, ⟨10, 10, .w1c, 0x0, false⟩, ⟨9, 9, .w1c, 0x0, false⟩, ⟨8, 8, .w1c, 0x0, false⟩, ⟨7, 7, .w1c, 0x0, false⟩, ⟨6, 6, .w1c, 0x0, false⟩, ⟨5, 5, .w1c, 0x0, false⟩, ⟨4, 4, .w1c, 0x0, false⟩, ⟨0, 0, .ro, 0x0, true⟩]⟩,
  ⟨"SCHED_IE", 0x30008, 0x0, 1, [⟨11, 11, .rw, 0x0, false⟩, ⟨10, 10, .rw, 0x0, false⟩, ⟨9, 9, .rw, 0x0, false⟩, ⟨8, 8, .rw, 0x0, false⟩, ⟨7, 7, .rw, 0x0, false⟩, ⟨6, 6, .rw, 0x0, false⟩, ⟨5, 5, .rw, 0x0, false⟩, ⟨4, 4, .rw, 0x0, false⟩]⟩,
  ⟨"SCHED_IDX_LO", 0x30010, 0x0, 1, [⟨31, 0, .ro, 0x0, true⟩]⟩,
  ⟨"SCHED_IDX_HI", 0x30014, 0x0, 1, [⟨31, 0, .ro, 0x0, true⟩]⟩,
  ⟨"SCHED_TICK_SEC_LO", 0x30018, 0x0, 1, [⟨31, 0, .ro, 0x0, true⟩]⟩,
  ⟨"SCHED_TICK_SEC_HI", 0x3001c, 0x0, 1, [⟨15, 0, .ro, 0x0, true⟩]⟩,
  ⟨"SCHED_TICK_NS", 0x30020, 0x0, 1, [⟨29, 0, .ro, 0x0, true⟩]⟩,
  ⟨"SCHED_WIN_A", 0x30030, 0x0, 1, [⟨31, 16, .ro, 0x400, true⟩, ⟨15, 0, .rw, 0x400, true⟩]⟩,
  ⟨"SCHED_WIN_B", 0x30034, 0x0, 1, [⟨31, 16, .ro, 0x1400, true⟩, ⟨15, 0, .rw, 0x1400, true⟩]⟩,
  ⟨"SCHED_WIN_C", 0x30038, 0x0, 1, [⟨31, 16, .ro, 0x1400, true⟩, ⟨15, 0, .rw, 0x1400, true⟩]⟩,
  ⟨"SCHED_WIN_D", 0x3003c, 0x0, 1, [⟨31, 16, .ro, 0x1000, true⟩, ⟨15, 0, .rw, 0x1000, true⟩]⟩]

/-- Registers of CSR block 0x03, part 1. -/
def regTable03_1 : List RegDef := [
  ⟨"SCHED_WIN_E", 0x30040, 0x0, 1, [⟨31, 16, .ro, 0x400, true⟩, ⟨15, 0, .rw, 0x400, true⟩]⟩,
  ⟨"SCHED_WIN_DB", 0x30044, 0x0, 1, [⟨31, 16, .ro, 0xa00, true⟩, ⟨15, 0, .rw, 0xa00, true⟩]⟩,
  ⟨"SCHED_WIN_DM", 0x30048, 0x0, 1, [⟨31, 16, .ro, 0x200, true⟩, ⟨15, 0, .rw, 0x200, true⟩]⟩,
  ⟨"SCHED_WIN_IDX_LO", 0x3004c, 0x0, 1, [⟨31, 0, .rw, 0x0, false⟩]⟩,
  ⟨"SCHED_WIN_IDX_HI", 0x30050, 0x0, 1, [⟨31, 0, .rw, 0x0, false⟩]⟩,
  ⟨"SCHED_OVR_CORE_LO", 0x30054, 0x0, 1, [⟨31, 0, .w1c, 0x0, false⟩]⟩,
  ⟨"SCHED_OVR_CORE_HI", 0x30058, 0x0, 1, [⟨31, 0, .w1c, 0x0, false⟩]⟩,
  ⟨"SCHED_OVR_CNT", 0x3005c, 0x0, 1, [⟨31, 0, .cnt, 0x0, false⟩]⟩,
  ⟨"SCHED_OVR_LAST", 0x30060, 0x0, 1, [⟨31, 16, .ro, 0x0, false⟩, ⟨10, 8, .ro, 0x0, false⟩, ⟨5, 0, .ro, 0x0, false⟩]⟩,
  ⟨"SCHED_DORM_CNT", 0x30064, 0x0, 1, [⟨22, 16, .ro, 0x0, false⟩, ⟨10, 0, .ro, 0x0, false⟩]⟩,
  ⟨"SCHED_GATE_CNT", 0x30068, 0x0, 1, [⟨31, 0, .cnt, 0x0, false⟩]⟩,
  ⟨"SCHED_CORE", 0x30100, 0x4, 64, [⟨31, 24, .ro, 0x0, false⟩, ⟨23, 16, .ro, 0x0, false⟩, ⟨2, 0, .ro, 0x0, false⟩]⟩]

/-- Registers of CSR block 0x03, part 2. -/
def regTable03_2 : List RegDef := [
  ⟨"SCHED_TILE", 0x30200, 0x4, 89, [⟨14, 12, .ro, 0x0, false⟩, ⟨11, 8, .ro, 0x0, false⟩, ⟨5, 0, .ro, 0x0, false⟩]⟩,
  ⟨"SCHED_DORM", 0x30400, 0x4, 32, [⟨31, 0, .ro, 0x0, false⟩]⟩]

/-- Registers of CSR block 0x03. -/
def regTable03 : List RegDef := regTable03_0 ++ regTable03_1 ++ regTable03_2

/-- Registers of CSR block 0x04, part 0. -/
def regTable04_0 : List RegDef := [
  ⟨"STRIP_FMT", 0x40000, 0x0, 1, [⟨31, 16, .ro, 0x0, false⟩, ⟨15, 0, .ro, 0x0, false⟩]⟩,
  ⟨"STRIP_STAT", 0x40004, 0x0, 1, [⟨5, 5, .w1c, 0x0, false⟩, ⟨4, 4, .w1c, 0x0, false⟩, ⟨3, 3, .w1c, 0x0, false⟩, ⟨2, 2, .w1c, 0x0, false⟩, ⟨1, 1, .w1c, 0x0, false⟩, ⟨0, 0, .w1c, 0x0, false⟩]⟩,
  ⟨"STRIP_IE", 0x40008, 0x0, 1, [⟨5, 5, .rw, 0x0, false⟩, ⟨4, 4, .rw, 0x0, false⟩, ⟨3, 3, .rw, 0x0, false⟩, ⟨2, 2, .rw, 0x0, false⟩, ⟨1, 1, .rw, 0x0, false⟩, ⟨0, 0, .rw, 0x0, false⟩]⟩,
  ⟨"STRIP_BAD_PID", 0x4000c, 0x0, 1, [⟨18, 0, .ro, 0x0, false⟩]⟩,
  ⟨"STRIP_OUT_SAT_CNT", 0x40010, 0x0, 1, [⟨31, 0, .cnt, 0x0, false⟩]⟩,
  ⟨"STRIP_XF_ACTIVE", 0x40014, 0x0, 1, [⟨31, 16, .ro, 0x0, false⟩, ⟨15, 0, .ro, 0x0, false⟩]⟩,
  ⟨"STRIP_XF_SUMP_CNT", 0x40018, 0x0, 1, [⟨31, 0, .cnt, 0x0, false⟩]⟩,
  ⟨"STRIP_DITHER_STATE", 0x4001c, 0x0, 1, [⟨31, 0, .ro, 0x1, false⟩]⟩,
  ⟨"STRIP_DITHER_STEPS", 0x40020, 0x0, 1, [⟨12, 0, .ro, 0x0, false⟩]⟩]

/-- Registers of CSR block 0x04. -/
def regTable04 : List RegDef := regTable04_0

/-- Registers of CSR block 0x05, part 0. -/
def regTable05_0 : List RegDef := [
  ⟨"SLUICE_CFG", 0x50000, 0x0, 1, [⟨23, 16, .rw, 0x40, true⟩]⟩,
  ⟨"SLUICE_MAX_LEAD", 0x50004, 0x0, 1, [⟨31, 0, .rw, 0x100000, true⟩]⟩,
  ⟨"SLUICE_STAT", 0x50008, 0x0, 1, [⟨16, 16, .ro, 0x0, false⟩, ⟨8, 8, .w1c, 0x0, false⟩, ⟨7, 7, .w1c, 0x0, false⟩, ⟨6, 6, .w1c, 0x0, false⟩, ⟨5, 5, .w1c, 0x0, false⟩, ⟨4, 4, .w1c, 0x0, false⟩, ⟨3, 3, .w1c, 0x0, false⟩, ⟨2, 2, .w1c, 0x0, false⟩, ⟨1, 1, .w1c, 0x0, false⟩, ⟨0, 0, .w1c, 0x0, false⟩]⟩,
  ⟨"SLUICE_IE", 0x5000c, 0x0, 1, [⟨8, 8, .rw, 0x0, false⟩, ⟨7, 7, .rw, 0x0, false⟩, ⟨6, 6, .rw, 0x0, false⟩, ⟨5, 5, .rw, 0x0, false⟩, ⟨4, 4, .rw, 0x0, false⟩, ⟨3, 3, .rw, 0x0, false⟩, ⟨2, 2, .rw, 0x0, false⟩, ⟨1, 1, .rw, 0x0, false⟩, ⟨0, 0, .rw, 0x0, false⟩]⟩,
  ⟨"SLUICE_GROUPS", 0x50010, 0x0, 1, [⟨22, 16, .ro, 0x0, false⟩, ⟨2, 0, .ro, 0x0, false⟩]⟩,
  ⟨"SLUICE_HEAD_IDX_LO", 0x50014, 0x0, 1, [⟨31, 0, .ro, 0x0, false⟩]⟩,
  ⟨"SLUICE_HEAD_IDX_HI", 0x50018, 0x0, 1, [⟨31, 0, .ro, 0x0, false⟩]⟩,
  ⟨"SLUICE_TAIL_IDX_LO", 0x5001c, 0x0, 1, [⟨31, 0, .ro, 0x0, false⟩]⟩,
  ⟨"SLUICE_TAIL_IDX_HI", 0x50020, 0x0, 1, [⟨31, 0, .ro, 0x0, false⟩]⟩,
  ⟨"SLUICE_BACKLOG", 0x50024, 0x0, 1, [⟨19, 0, .ro, 0x0, false⟩]⟩,
  ⟨"SLUICE_DIRTY", 0x50028, 0x0, 1, [⟨15, 0, .ro, 0x0, false⟩]⟩,
  ⟨"SLUICE_LAST_FLIP_LO", 0x5002c, 0x0, 1, [⟨31, 0, .ro, 0x0, false⟩]⟩]

/-- Registers of CSR block 0x05, part 1. -/
def regTable05_1 : List RegDef := [
  ⟨"SLUICE_LAST_FLIP_HI", 0x50030, 0x0, 1, [⟨31, 0, .ro, 0x0, false⟩]⟩,
  ⟨"SLUICE_FLIP_CNT", 0x50034, 0x0, 1, [⟨31, 0, .cnt, 0x0, false⟩]⟩,
  ⟨"SLUICE_MOVED_CNT", 0x50038, 0x0, 1, [⟨31, 0, .cnt, 0x0, false⟩]⟩,
  ⟨"SLUICE_REFUSE_SUMP_CNT", 0x5003c, 0x0, 1, [⟨31, 0, .cnt, 0x0, false⟩]⟩,
  ⟨"SLUICE_LATE_CNT", 0x50040, 0x0, 1, [⟨31, 0, .cnt, 0x0, false⟩]⟩,
  ⟨"SLUICE_PRELOAD", 0x50044, 0x0, 1, [⟨31, 31, .w1s, 0x0, false⟩, ⟨9, 0, .rw, 0x0, false⟩]⟩,
  ⟨"SLUICE_BUF", 0x50048, 0x0, 1, [⟨31, 31, .ro, 0x0, false⟩, ⟨30, 30, .ro, 0x0, false⟩, ⟨29, 29, .ro, 0x0, false⟩, ⟨9, 0, .ro, 0x0, false⟩]⟩,
  ⟨"SLUICE_SHOW", 0x5004c, 0x0, 1, [⟨31, 31, .ro, 0x0, false⟩, ⟨26, 16, .ro, 0x0, false⟩, ⟨15, 0, .ro, 0x0, false⟩]⟩]

/-- Registers of CSR block 0x05. -/
def regTable05 : List RegDef := regTable05_0 ++ regTable05_1

/-- Registers of CSR block 0x06, part 0. -/
def regTable06_0 : List RegDef := [
  ⟨"HEADRACE_CTL", 0x60000, 0x0, 1, [⟨31, 16, .rw, 0xb8c4, true⟩, ⟨12, 12, .rw, 0x1, true⟩, ⟨4, 4, .rw, 0x1, true⟩, ⟨3, 0, .rw, 0x0, true⟩]⟩,
  ⟨"HEADRACE_CFG", 0x60004, 0x0, 1, [⟨31, 24, .rw, 0x1e, true⟩, ⟨23, 16, .rw, 0x32, true⟩]⟩,
  ⟨"HEADRACE_STAT", 0x60008, 0x0, 1, [⟨9, 9, .ro, 0x0, false⟩, ⟨8, 8, .ro, 0x0, false⟩, ⟨7, 7, .w1c, 0x0, false⟩, ⟨6, 6, .w1c, 0x0, false⟩, ⟨5, 5, .w1c, 0x0, false⟩, ⟨4, 4, .w1c, 0x0, false⟩, ⟨3, 3, .w1c, 0x0, false⟩, ⟨2, 2, .w1c, 0x0, false⟩, ⟨1, 1, .w1c, 0x0, false⟩, ⟨0, 0, .w1c, 0x1, true⟩]⟩,
  ⟨"HEADRACE_IE", 0x6000c, 0x0, 1, [⟨7, 7, .rw, 0x0, false⟩, ⟨6, 6, .rw, 0x0, false⟩, ⟨5, 5, .rw, 0x0, false⟩, ⟨4, 4, .rw, 0x0, false⟩, ⟨3, 3, .rw, 0x0, false⟩, ⟨2, 2, .rw, 0x0, false⟩, ⟨1, 1, .rw, 0x0, false⟩, ⟨0, 0, .rw, 0x0, false⟩]⟩,
  ⟨"HEADRACE_JHEAD_LO", 0x60010, 0x0, 1, [⟨31, 0, .ro, 0x0, true⟩]⟩,
  ⟨"HEADRACE_JHEAD_HI", 0x60014, 0x0, 1, [⟨15, 0, .ro, 0x0, true⟩]⟩,
  ⟨"HEADRACE_JAPPLIED_LO", 0x60018, 0x0, 1, [⟨31, 0, .ro, 0x0, true⟩]⟩,
  ⟨"HEADRACE_JAPPLIED_HI", 0x6001c, 0x0, 1, [⟨15, 0, .ro, 0x0, true⟩]⟩,
  ⟨"HEADRACE_JFREE", 0x60020, 0x0, 1, [⟨16, 0, .ro, 0x10000, false⟩]⟩,
  ⟨"HEADRACE_REPLAY", 0x60024, 0x0, 1, [⟨16, 0, .ro, 0x0, false⟩]⟩,
  ⟨"HEADRACE_SESS_LO", 0x60028, 0x0, 1, [⟨31, 0, .ro, 0x0, true⟩]⟩,
  ⟨"HEADRACE_SESS_HI", 0x6002c, 0x0, 1, [⟨31, 0, .ro, 0x0, true⟩]⟩]

/-- Registers of CSR block 0x06, part 1. -/
def regTable06_1 : List RegDef := [
  ⟨"HEADRACE_ACCEPT_CNT", 0x60030, 0x0, 1, [⟨31, 0, .cnt, 0x0, false⟩]⟩,
  ⟨"HEADRACE_NAK_CNT", 0x60034, 0x0, 1, [⟨31, 0, .cnt, 0x0, false⟩]⟩,
  ⟨"HEADRACE_RX_SUMP_CNT", 0x60038, 0x0, 1, [⟨31, 0, .cnt, 0x0, false⟩]⟩,
  ⟨"HEADRACE_EVT_SUMP_CNT", 0x6003c, 0x0, 1, [⟨31, 0, .cnt, 0x0, false⟩]⟩,
  ⟨"HEADRACE_URGENT_SUMP_CNT", 0x60040, 0x0, 1, [⟨31, 0, .cnt, 0x0, false⟩]⟩,
  ⟨"HEADRACE_LAST_NAK", 0x60044, 0x0, 1, [⟨31, 16, .ro, 0x0, false⟩, ⟨5, 0, .ro, 0x0, false⟩]⟩,
  ⟨"HEADRACE_URGENT_LAST", 0x60048, 0x0, 1, [⟨15, 0, .ro, 0x0, false⟩]⟩,
  ⟨"HEADRACE_METER", 0x6004c, 0x0, 1, [⟨4, 0, .ro, 0x0, true⟩]⟩]

/-- Registers of CSR block 0x06. -/
def regTable06 : List RegDef := regTable06_0 ++ regTable06_1

/-- Registers of CSR block 0x07, part 0. -/
def regTable07_0 : List RegDef := [
  ⟨"XBAR_STAT", 0x70000, 0x0, 1, [⟨2, 2, .w1c, 0x0, false⟩, ⟨1, 1, .w1c, 0x0, false⟩, ⟨0, 0, .w1c, 0x0, false⟩]⟩,
  ⟨"XBAR_IE", 0x70004, 0x0, 1, [⟨2, 2, .rw, 0x0, false⟩, ⟨1, 1, .rw, 0x0, false⟩, ⟨0, 0, .rw, 0x0, false⟩]⟩,
  ⟨"XBAR_REFUSE_SUMP_CNT", 0x70008, 0x0, 1, [⟨31, 0, .cnt, 0x0, false⟩]⟩,
  ⟨"XBAR_REFUSE_LAST", 0x7000c, 0x0, 1, [⟨15, 8, .ro, 0x0, false⟩, ⟨7, 7, .ro, 0x0, false⟩, ⟨4, 0, .ro, 0x0, false⟩]⟩,
  ⟨"XBAR_LOCKED", 0x70010, 0x0, 1, [⟨10, 10, .ro, 0x0, false⟩, ⟨9, 0, .ro, 0x0, false⟩]⟩,
  ⟨"XBAR_ABORT_LAST", 0x70014, 0x0, 1, [⟨15, 8, .ro, 0x0, false⟩, ⟨7, 5, .ro, 0x0, false⟩, ⟨4, 0, .ro, 0x0, false⟩]⟩,
  ⟨"XBAR_ABORT_CNT", 0x70018, 0x0, 1, [⟨31, 0, .cnt, 0x0, false⟩]⟩]

/-- Registers of CSR block 0x07. -/
def regTable07 : List RegDef := regTable07_0

/-- Registers of CSR block 0x08, part 0. -/
def regTable08_0 : List RegDef := [
  ⟨"RSV_OWN", 0x80120, 0x4, 4, [⟨31, 0, .ro, 0x22222222, true⟩]⟩,
  ⟨"RSV_OWN", 0x80130, 0x4, 4, [⟨31, 0, .ro, 0x33333333, true⟩]⟩,
  ⟨"RSV_OWN", 0x80140, 0x4, 1, [⟨31, 0, .ro, 0x44444444, true⟩]⟩,
  ⟨"RSV_OWN", 0x80144, 0x4, 1, [⟨31, 0, .ro, 0x66665555, true⟩]⟩,
  ⟨"RSV_OWN", 0x80148, 0x4, 1, [⟨31, 0, .ro, 0x77777777, true⟩]⟩,
  ⟨"RSV_OWN", 0x8014c, 0x4, 1, [⟨31, 0, .ro, 0x66667777, true⟩]⟩,
  ⟨"RSV_RETAIN", 0x80210, 0x0, 1, [⟨31, 0, .rw, 0xfff, true⟩]⟩,
  ⟨"RSV_STAT", 0x80000, 0x0, 1, [⟨7, 7, .w1c, 0x0, false⟩, ⟨6, 6, .w1c, 0x0, false⟩, ⟨5, 5, .w1c, 0x0, false⟩, ⟨4, 4, .w1c, 0x0, false⟩, ⟨3, 3, .w1c, 0x0, false⟩, ⟨2, 2, .w1c, 0x0, false⟩, ⟨1, 1, .w1c, 0x0, false⟩, ⟨0, 0, .w1c, 0x0, false⟩]⟩,
  ⟨"RSV_IE", 0x80004, 0x0, 1, [⟨7, 7, .rw, 0x0, false⟩, ⟨6, 6, .rw, 0x0, false⟩, ⟨5, 5, .rw, 0x0, false⟩, ⟨4, 4, .rw, 0x0, false⟩, ⟨3, 3, .rw, 0x0, false⟩, ⟨2, 2, .rw, 0x0, false⟩, ⟨1, 1, .rw, 0x0, false⟩, ⟨0, 0, .rw, 0x0, false⟩]⟩,
  ⟨"RSV_HANDOVER", 0x80008, 0x0, 1, [⟨31, 31, .ro, 0x0, false⟩, ⟨11, 8, .rw, 0x0, false⟩, ⟨7, 0, .rw, 0x0, false⟩]⟩,
  ⟨"RSV_ECC_CNT", 0x8000c, 0x0, 1, [⟨31, 0, .cnt, 0x0, false⟩]⟩,
  ⟨"RSV_UECC_CNT", 0x80010, 0x0, 1, [⟨31, 0, .cnt, 0x0, false⟩]⟩]

/-- Registers of CSR block 0x08, part 1. -/
def regTable08_1 : List RegDef := [
  ⟨"RSV_ECC_LAST", 0x80014, 0x0, 1, [⟨31, 31, .ro, 0x0, false⟩, ⟨30, 30, .ro, 0x0, false⟩, ⟨23, 16, .ro, 0x0, false⟩, ⟨15, 0, .ro, 0x0, false⟩]⟩,
  ⟨"RSV_COLLIDE_SUMP_CNT", 0x80018, 0x0, 1, [⟨31, 0, .cnt, 0x0, false⟩]⟩,
  ⟨"RSV_OWN_SUMP_CNT", 0x8001c, 0x0, 1, [⟨31, 0, .cnt, 0x0, false⟩]⟩,
  ⟨"RSV_OWN_LAST", 0x80020, 0x0, 1, [⟨23, 16, .ro, 0x0, false⟩, ⟨15, 15, .ro, 0x0, false⟩, ⟨14, 14, .ro, 0x0, false⟩, ⟨4, 0, .ro, 0x0, false⟩]⟩,
  ⟨"RSV_ABORT", 0x80024, 0x0, 1, [⟨9, 1, .w1c, 0x0, false⟩]⟩,
  ⟨"RSV_SCRUB_CTL", 0x80028, 0x0, 1, [⟨31, 31, .rw, 0x1, true⟩, ⟨15, 0, .rw, 0x100, true⟩]⟩,
  ⟨"RSV_SCRUB_SUMP_CNT", 0x8002c, 0x0, 1, [⟨31, 0, .cnt, 0x0, false⟩]⟩,
  ⟨"RSV_MBIST_CTL", 0x80030, 0x0, 1, [⟨31, 31, .w1s, 0x0, false⟩, ⟨29, 28, .rw, 0x0, false⟩, ⟨24, 24, .rw, 0x0, false⟩, ⟨13, 8, .rw, 0x0, false⟩, ⟨7, 0, .rw, 0x0, false⟩]⟩,
  ⟨"RSV_MBIST_STAT", 0x80034, 0x0, 1, [⟨31, 31, .ro, 0x0, false⟩, ⟨17, 16, .ro, 0x0, false⟩, ⟨7, 0, .ro, 0x0, false⟩]⟩,
  ⟨"RSV_REPAIR", 0x80038, 0x0, 1, [⟨31, 16, .ro, 0x0, true⟩, ⟨15, 0, .ro, 0x0, true⟩]⟩,
  ⟨"RSV_OWN", 0x80100, 0x4, 20, [⟨31, 0, .ro, 0x11111111, true⟩]⟩,
  ⟨"RSV_RETAIN", 0x80200, 0x4, 5, [⟨31, 0, .rw, 0x0, true⟩]⟩]

/-- Registers of CSR block 0x08, part 2. -/
def regTable08_2 : List RegDef := [
  ⟨"RSV_FAIL", 0x80220, 0x4, 5, [⟨31, 0, .ro, 0x0, false⟩]⟩]

/-- Registers of CSR block 0x08. -/
def regTable08 : List RegDef := regTable08_0 ++ regTable08_1 ++ regTable08_2

end Sys2Proof.Machine
end

