-- ==== Sys2Proof/Machine/RegMapB.lean ====
section
/-! DEFINITION. The CSR register map, part B: MAC to SPORT (blocks 0x09 to 0x10). Written from the register tables of spec/ (each register's heading, and
its Bits, Type and Reset columns; `k` marks a field the table calls "kept"). -/
namespace Sys2Proof.Machine

/-- Registers of CSR block 0x09, part 0. -/
def regTable09_0 : List RegDef := [
  ⟨"MAC_CTL", 0x90000, 0x10000, 5, [⟨6, 6, .rw, 0x0, false⟩, ⟨5, 5, .rw, 0x0, false⟩, ⟨4, 4, .rw, 0x0, false⟩, ⟨3, 3, .rw, 0x0, false⟩, ⟨1, 1, .rw, 0x0, false⟩, ⟨0, 0, .rw, 0x0, false⟩]⟩,
  ⟨"MAC_STAT", 0x90004, 0x10000, 5, [⟨5, 4, .ro, 0x0, false⟩, ⟨3, 3, .ro, 0x0, false⟩, ⟨2, 2, .ro, 0x0, false⟩, ⟨1, 1, .ro, 0x0, false⟩, ⟨0, 0, .ro, 0x0, false⟩]⟩,
  ⟨"MAC_HIST", 0x90008, 0x10000, 5, [⟨9, 9, .w1c, 0x0, false⟩, ⟨8, 8, .w1c, 0x0, false⟩, ⟨7, 7, .w1c, 0x0, false⟩, ⟨6, 6, .w1c, 0x0, false⟩, ⟨5, 5, .w1c, 0x0, false⟩, ⟨4, 4, .w1c, 0x0, false⟩, ⟨3, 3, .w1c, 0x0, false⟩, ⟨2, 2, .w1c, 0x0, false⟩, ⟨1, 1, .w1c, 0x0, false⟩, ⟨0, 0, .w1c, 0x0, false⟩]⟩,
  ⟨"MAC_IE", 0x9000c, 0x10000, 5, [⟨9, 0, .rw, 0x0, false⟩]⟩,
  ⟨"MAC_MAXFRM", 0x90010, 0x10000, 5, [⟨13, 0, .rw, 0x5f2, false⟩]⟩,
  ⟨"MAC_ADDR_LO", 0x90014, 0x10000, 5, [⟨31, 0, .rw, 0x0, false⟩]⟩,
  ⟨"MAC_ADDR_HI", 0x90018, 0x10000, 5, [⟨15, 0, .rw, 0x0, false⟩]⟩,
  ⟨"MAC_IPV4", 0x9001c, 0x10000, 5, [⟨31, 0, .rw, 0x0, false⟩]⟩,
  ⟨"MAC_CT_THR", 0x90020, 0x10000, 5, [⟨31, 16, .ro, 0x200, false⟩, ⟨13, 0, .rw, 0x200, false⟩]⟩,
  ⟨"MAC_TS_ADJ", 0x90024, 0x10000, 5, [⟨31, 16, .rw, 0x0, false⟩, ⟨15, 0, .rw, 0x0, false⟩]⟩,
  ⟨"MAC_TSQ_STAT", 0x90028, 0x10000, 5, [⟨31, 31, .ro, 0x0, false⟩, ⟨6, 0, .ro, 0x0, false⟩]⟩,
  ⟨"MAC_TSQ_SEC_LO", 0x9002c, 0x10000, 5, [⟨31, 0, .ro, 0x0, false⟩]⟩]

/-- Registers of CSR block 0x09, part 1. -/
def regTable09_1 : List RegDef := [
  ⟨"MAC_TSQ_SEC_HI", 0x90030, 0x10000, 5, [⟨31, 16, .ro, 0x0, false⟩, ⟨15, 0, .ro, 0x0, false⟩]⟩,
  ⟨"MAC_TSQ_NS", 0x90034, 0x10000, 5, [⟨29, 0, .ro, 0x0, false⟩]⟩,
  ⟨"MAC_RX_FRAMES_CNT", 0x90040, 0x10000, 5, [⟨31, 0, .cnt, 0x0, false⟩]⟩,
  ⟨"MAC_TX_FRAMES_CNT", 0x90044, 0x10000, 5, [⟨31, 0, .cnt, 0x0, false⟩]⟩,
  ⟨"MAC_RUNT_SUMP_CNT", 0x90048, 0x10000, 5, [⟨31, 0, .cnt, 0x0, false⟩]⟩,
  ⟨"MAC_FCS_SUMP_CNT", 0x9004c, 0x10000, 5, [⟨31, 0, .cnt, 0x0, false⟩]⟩,
  ⟨"MAC_OVERSIZE_CNT", 0x90050, 0x10000, 5, [⟨31, 0, .cnt, 0x0, false⟩]⟩,
  ⟨"MAC_PRIV_SUMP_CNT", 0x90054, 0x10000, 5, [⟨31, 0, .cnt, 0x0, false⟩]⟩,
  ⟨"MAC_FILTER_SUMP_CNT", 0x90058, 0x10000, 5, [⟨31, 0, .cnt, 0x0, false⟩]⟩,
  ⟨"MAC_CSUM_SUMP_CNT", 0x9005c, 0x10000, 5, [⟨31, 0, .cnt, 0x0, false⟩]⟩,
  ⟨"MAC_RXBUF_SUMP_CNT", 0x90060, 0x10000, 5, [⟨31, 0, .cnt, 0x0, false⟩]⟩,
  ⟨"MAC_TSQ_SUMP_CNT", 0x90064, 0x10000, 5, [⟨31, 0, .cnt, 0x0, false⟩]⟩]

/-- Registers of CSR block 0x09, part 2. -/
def regTable09_2 : List RegDef := [
  ⟨"MAC_UNDERRUN_SUMP_CNT", 0x90068, 0x10000, 5, [⟨31, 0, .cnt, 0x0, false⟩]⟩,
  ⟨"MAC_FEC_CORR_CNT", 0x9006c, 0x10000, 5, [⟨31, 0, .cnt, 0x0, false⟩]⟩,
  ⟨"MAC_FEC_UNCORR_SUMP_CNT", 0x90070, 0x10000, 5, [⟨31, 0, .cnt, 0x0, false⟩]⟩]

/-- Registers of CSR block 0x09. -/
def regTable09 : List RegDef := regTable09_0 ++ regTable09_1 ++ regTable09_2

/-- Registers of CSR block 0x0E, part 0. -/
def regTable0E_0 : List RegDef := [
  ⟨"TALLY_CTL", 0xe0000, 0x0, 1, [⟨1, 1, .w1s, 0x0, true⟩, ⟨0, 0, .w1s, 0x0, true⟩]⟩,
  ⟨"TALLY_STAT", 0xe0004, 0x0, 1, [⟨5, 5, .ro, 0x0, true⟩, ⟨4, 4, .ro, 0x0, true⟩, ⟨3, 3, .w1c, 0x0, true⟩, ⟨2, 2, .w1c, 0x0, true⟩, ⟨1, 1, .w1c, 0x0, true⟩, ⟨0, 0, .w1c, 0x0, true⟩]⟩,
  ⟨"TALLY_IE", 0xe0008, 0x0, 1, [⟨3, 0, .rw, 0x0, true⟩]⟩,
  ⟨"TALLY_ADDEND_INT", 0xe000c, 0x0, 1, [⟨7, 0, .rw, 0x1, true⟩]⟩,
  ⟨"TALLY_ADDEND_FRAC", 0xe0010, 0x0, 1, [⟨31, 0, .rw, 0x45855555, true⟩]⟩,
  ⟨"TALLY_SEC_LO", 0xe0014, 0x0, 1, [⟨31, 0, .ro, 0x0, true⟩]⟩,
  ⟨"TALLY_SEC_HI", 0xe0018, 0x0, 1, [⟨15, 0, .ro, 0x0, true⟩]⟩,
  ⟨"TALLY_NS", 0xe001c, 0x0, 1, [⟨29, 0, .ro, 0x0, true⟩]⟩,
  ⟨"TALLY_FRAC", 0xe0020, 0x0, 1, [⟨31, 0, .ro, 0x0, true⟩]⟩,
  ⟨"TALLY_STEP_SEC", 0xe0024, 0x0, 1, [⟨31, 0, .rw, 0x0, true⟩]⟩,
  ⟨"TALLY_STEP_NS", 0xe0028, 0x0, 1, [⟨29, 0, .rw, 0x0, true⟩]⟩,
  ⟨"TALLY_EPOCH", 0xe002c, 0x0, 1, [⟨15, 0, .ro, 0x0, true⟩]⟩]

/-- Registers of CSR block 0x0E. -/
def regTable0E : List RegDef := regTable0E_0

/-- Registers of CSR block 0x0F, part 0. -/
def regTable0F_0 : List RegDef := [
  ⟨"STREAM_CFG", 0xf0000, 0x0, 1, [⟨8, 8, .rw, 0x1, false⟩, ⟨7, 0, .rw, 0x20, false⟩]⟩,
  ⟨"STREAM_STAT", 0xf0004, 0x0, 1, [⟨4, 4, .w1c, 0x0, false⟩, ⟨3, 3, .w1c, 0x0, false⟩, ⟨2, 2, .w1c, 0x0, false⟩, ⟨1, 1, .w1c, 0x0, false⟩, ⟨0, 0, .w1c, 0x0, false⟩]⟩,
  ⟨"STREAM_IE", 0xf0008, 0x0, 1, [⟨4, 0, .rw, 0x0, false⟩]⟩,
  ⟨"STREAM_BAD_CTX", 0xf000c, 0x0, 1, [⟨19, 16, .ro, 0x0, false⟩, ⟨8, 8, .ro, 0x0, false⟩, ⟨7, 0, .ro, 0x0, false⟩]⟩,
  ⟨"STREAM_SLIP_CNT", 0xf0010, 0x0, 1, [⟨31, 0, .cnt, 0x0, false⟩]⟩,
  ⟨"STREAM_TMC_LO", 0xf0014, 0x0, 1, [⟨31, 0, .ro, 0x0, false⟩]⟩,
  ⟨"STREAM_TMC_HI", 0xf0018, 0x0, 1, [⟨31, 0, .ro, 0x0, false⟩]⟩,
  ⟨"STREAM_PHASE", 0xf001c, 0x0, 1, [⟨31, 0, .ro, 0x0, false⟩]⟩,
  ⟨"STREAM_RX_ACTIVE", 0xf0020, 0x4, 8, [⟨31, 0, .ro, 0x0, false⟩]⟩,
  ⟨"STREAM_GRP", 0xf0084, 0x4, 31, [⟨7, 0, .rw, 0x30, false⟩]⟩,
  ⟨"STREAM_SEL", 0xf0100, 0x0, 1, [⟨7, 0, .rw, 0x0, false⟩]⟩,
  ⟨"STREAM_RX_LATE_SUMP_CNT", 0xf0104, 0x0, 1, [⟨31, 0, .cnt, 0x0, false⟩]⟩]

/-- Registers of CSR block 0x0F, part 1. -/
def regTable0F_1 : List RegDef := [
  ⟨"STREAM_RX_EARLY_SUMP_CNT", 0xf0108, 0x0, 1, [⟨31, 0, .cnt, 0x0, false⟩]⟩,
  ⟨"STREAM_RX_FORMAT_SUMP_CNT", 0xf010c, 0x0, 1, [⟨31, 0, .cnt, 0x0, false⟩]⟩,
  ⟨"STREAM_RX_LOST_CNT", 0xf0110, 0x0, 1, [⟨31, 0, .cnt, 0x0, false⟩]⟩,
  ⟨"STREAM_RX_PKT_P_CNT", 0xf0114, 0x0, 1, [⟨31, 0, .cnt, 0x0, false⟩]⟩,
  ⟨"STREAM_RX_PKT_S_CNT", 0xf0118, 0x0, 1, [⟨31, 0, .cnt, 0x0, false⟩]⟩,
  ⟨"STREAM_RX_UNDERRUN_CNT", 0xf011c, 0x0, 1, [⟨31, 0, .cnt, 0x0, false⟩]⟩,
  ⟨"STREAM_TX_PKT_CNT", 0xf0120, 0x0, 1, [⟨31, 0, .cnt, 0x0, false⟩]⟩,
  ⟨"STREAM_RX_CTL", 0xf1000, 0x20, 256, [⟨31, 31, .rw, 0x0, false⟩, ⟨30, 30, .rw, 0x0, false⟩, ⟨29, 28, .rw, 0x0, false⟩, ⟨27, 27, .rw, 0x0, false⟩, ⟨26, 25, .rw, 0x0, false⟩, ⟨24, 24, .rw, 0x0, false⟩, ⟨23, 22, .rw, 0x0, false⟩, ⟨21, 21, .rw, 0x0, false⟩, ⟨20, 20, .rw, 0x0, false⟩, ⟨19, 13, .rw, 0x60, false⟩, ⟨4, 0, .rw, 0x0, false⟩]⟩,
  ⟨"STREAM_RX_DST_IP", 0xf1004, 0x20, 256, [⟨31, 0, .rw, 0x0, false⟩]⟩,
  ⟨"STREAM_RX_DST_IP2", 0xf1008, 0x20, 256, [⟨31, 0, .rw, 0x0, false⟩]⟩,
  ⟨"STREAM_RX_SRC_IP", 0xf100c, 0x20, 256, [⟨31, 0, .rw, 0x0, false⟩]⟩,
  ⟨"STREAM_RX_PORT", 0xf1010, 0x20, 256, [⟨27, 16, .rw, 0x0, false⟩, ⟨15, 0, .rw, 0x1388, false⟩]⟩]

/-- Registers of CSR block 0x0F, part 2. -/
def regTable0F_2 : List RegDef := [
  ⟨"STREAM_RX_POOL", 0xf1014, 0x20, 256, [⟨26, 16, .rw, 0x0, false⟩, ⟨6, 0, .rw, 0x0, false⟩]⟩,
  ⟨"STREAM_RX_LINK", 0xf1018, 0x20, 256, [⟨7, 0, .rw, 0x30, false⟩]⟩,
  ⟨"STREAM_RX_SSRC", 0xf101c, 0x20, 256, [⟨31, 0, .rw, 0x0, false⟩]⟩,
  ⟨"STREAM_TX_CTL", 0xf3000, 0x20, 256, [⟨21, 21, .rw, 0x0, false⟩, ⟨20, 20, .rw, 0x0, false⟩, ⟨19, 18, .rw, 0x0, false⟩, ⟨17, 17, .rw, 0x0, false⟩, ⟨16, 15, .rw, 0x0, false⟩, ⟨14, 14, .rw, 0x0, false⟩, ⟨13, 12, .rw, 0x0, false⟩, ⟨11, 6, .rw, 0x22, false⟩]⟩,
  ⟨"STREAM_TX_DST_IP", 0xf3004, 0x20, 256, [⟨31, 0, .rw, 0x0, false⟩]⟩,
  ⟨"STREAM_TX_DST_IP2", 0xf3008, 0x20, 256, [⟨31, 0, .rw, 0x0, false⟩]⟩,
  ⟨"STREAM_TX_PORTS", 0xf300c, 0x20, 256, [⟨31, 16, .rw, 0x1388, false⟩, ⟨15, 0, .rw, 0x1388, false⟩]⟩,
  ⟨"STREAM_TX_DMAC", 0xf3010, 0x20, 256, [⟨31, 0, .rw, 0x0, false⟩]⟩,
  ⟨"STREAM_TX_VLAN", 0xf3014, 0x20, 256, [⟨31, 29, .rw, 0x4, false⟩, ⟨27, 16, .rw, 0x0, false⟩, ⟨15, 0, .rw, 0x0, false⟩]⟩,
  ⟨"STREAM_TX_POOL", 0xf3018, 0x20, 256, [⟨26, 16, .rw, 0x0, false⟩, ⟨6, 0, .rw, 0x0, false⟩]⟩,
  ⟨"STREAM_TX_SSRC", 0xf301c, 0x20, 256, [⟨31, 0, .rw, 0x0, false⟩]⟩]

/-- Registers of CSR block 0x0F. -/
def regTable0F : List RegDef := regTable0F_0 ++ regTable0F_1 ++ regTable0F_2

/-- Registers of CSR block 0x10, part 0. -/
def regTable10_0 : List RegDef := [
  ⟨"SPORT_CTL", 0x100000, 0x800, 32, [⟨27, 24, .rw, 0x0, false⟩, ⟨20, 16, .rw, 0x1, false⟩, ⟨13, 12, .rw, 0x1, false⟩, ⟨10, 10, .rw, 0x0, false⟩, ⟨9, 9, .rw, 0x0, false⟩, ⟨8, 8, .rw, 0x0, false⟩, ⟨5, 4, .rw, 0x0, false⟩, ⟨1, 1, .rw, 0x0, false⟩, ⟨0, 0, .rw, 0x0, false⟩]⟩,
  ⟨"SPORT_IN_MASK", 0x100004, 0x800, 32, [⟨31, 0, .rw, 0x0, false⟩]⟩,
  ⟨"SPORT_OUT_MASK", 0x100008, 0x800, 32, [⟨31, 0, .rw, 0x0, false⟩]⟩,
  ⟨"SPORT_IN_BASE", 0x10000c, 0x800, 32, [⟨9, 0, .rw, 0x0, false⟩]⟩,
  ⟨"SPORT_OUT_BASE", 0x100010, 0x800, 32, [⟨9, 0, .rw, 0x0, false⟩]⟩,
  ⟨"SPORT_STAT", 0x100014, 0x800, 32, [⟨19, 16, .ro, 0x0, false⟩, ⟨1, 0, .ro, 0x0, false⟩]⟩,
  ⟨"SPORT_HIST", 0x100018, 0x800, 32, [⟨6, 6, .w1c, 0x0, false⟩, ⟨5, 5, .w1c, 0x0, false⟩, ⟨4, 4, .w1c, 0x0, false⟩, ⟨3, 3, .w1c, 0x0, false⟩, ⟨2, 2, .w1c, 0x0, false⟩, ⟨1, 1, .w1c, 0x0, false⟩, ⟨0, 0, .w1c, 0x0, false⟩]⟩,
  ⟨"SPORT_IE", 0x10001c, 0x800, 32, [⟨6, 0, .rw, 0x0, false⟩]⟩,
  ⟨"SPORT_PHASE", 0x100020, 0x800, 32, [⟨15, 0, .ro, 0x0, false⟩]⟩,
  ⟨"SPORT_IN_ZERO_CNT", 0x100024, 0x800, 32, [⟨31, 0, .cnt, 0x0, false⟩]⟩,
  ⟨"SPORT_IN_DROP_SUMP_CNT", 0x100028, 0x800, 32, [⟨31, 0, .cnt, 0x0, false⟩]⟩,
  ⟨"SPORT_OUT_ZERO_CNT", 0x10002c, 0x800, 32, [⟨31, 0, .cnt, 0x0, false⟩]⟩]

/-- Registers of CSR block 0x10, part 1. -/
def regTable10_1 : List RegDef := [
  ⟨"SPORT_OUT_DROP_SUMP_CNT", 0x100030, 0x800, 32, [⟨31, 0, .cnt, 0x0, false⟩]⟩,
  ⟨"SPORT_FRAME_ERR_SUMP_CNT", 0x100034, 0x800, 32, [⟨31, 0, .cnt, 0x0, false⟩]⟩,
  ⟨"SPORT_FRAME_CNT", 0x100038, 0x800, 32, [⟨31, 0, .ro, 0x0, false⟩]⟩]

/-- Registers of CSR block 0x10. -/
def regTable10 : List RegDef := regTable10_0 ++ regTable10_1

end Sys2Proof.Machine
end

