-- ==== Sys2Proof/Machine/RegMapC.lean ====
section
/-! DEFINITION. The CSR register map, part C: ASRC to CONFL (blocks 0x11 to 0x1A). Written from the register tables of spec/ (each register's heading, and
its Bits, Type and Reset columns; `k` marks a field the table calls "kept"). -/
namespace Sys2Proof.Machine

/-- Registers of CSR block 0x11, part 0. -/
def regTable11_0 : List RegDef := [
  ⟨"ASRC_STAT", 0x110000, 0x0, 1, [⟨24, 16, .ro, 0x0, false⟩, ⟨8, 0, .ro, 0x0, false⟩]⟩,
  ⟨"ASRC_TRK_CTL", 0x110100, 0x10, 32, [⟨2, 0, .rw, 0x2, false⟩]⟩,
  ⟨"ASRC_TRK_STAT", 0x110104, 0x10, 32, [⟨3, 3, .ro, 0x0, false⟩, ⟨2, 2, .ro, 0x0, false⟩, ⟨1, 0, .ro, 0x0, false⟩]⟩,
  ⟨"ASRC_TRK_RATIO", 0x110108, 0x10, 32, [⟨31, 0, .ro, 0x0, false⟩]⟩,
  ⟨"ASRC_TRK_UNLOCK_CNT", 0x11010c, 0x10, 32, [⟨31, 0, .cnt, 0x0, false⟩]⟩,
  ⟨"ASRC_CT_ROUTE", 0x110800, 0x8, 64, [⟨31, 31, .rw, 0x0, false⟩, ⟨30, 30, .rw, 0x0, false⟩, ⟨29, 25, .rw, 0x0, false⟩, ⟨24, 20, .rw, 0x0, false⟩, ⟨19, 15, .rw, 0x0, false⟩, ⟨14, 10, .rw, 0x0, false⟩]⟩,
  ⟨"ASRC_CT_GAIN", 0x110804, 0x8, 64, [⟨15, 0, .rw, 0xe000, false⟩]⟩,
  ⟨"ASRC_CT_BAD", 0x110a00, 0x4, 2, [⟨31, 0, .ro, 0x0, false⟩]⟩,
  ⟨"ASRC_CT_STAT", 0x110a08, 0x0, 1, [⟨2, 2, .w1c, 0x0, false⟩, ⟨1, 1, .w1c, 0x0, false⟩, ⟨0, 0, .w1c, 0x0, false⟩]⟩]

/-- Registers of CSR block 0x11. -/
def regTable11 : List RegDef := regTable11_0

/-- Registers of CSR block 0x12, part 0. -/
def regTable12_0 : List RegDef := [
  ⟨"PDM_CTL", 0x120000, 0x0, 1, [⟨15, 8, .rw, 0x0, false⟩, ⟨1, 1, .rw, 0x0, false⟩, ⟨0, 0, .rw, 0x0, false⟩]⟩,
  ⟨"PDM_STAT", 0x120004, 0x0, 1, [⟨7, 7, .w1c, 0x0, false⟩, ⟨6, 6, .w1c, 0x0, false⟩, ⟨5, 5, .ro, 0x0, false⟩, ⟨4, 4, .ro, 0x0, false⟩, ⟨3, 2, .ro, 0x0, false⟩, ⟨1, 0, .ro, 0x0, false⟩]⟩,
  ⟨"PDM_IE", 0x120008, 0x0, 1, [⟨7, 7, .rw, 0x0, false⟩, ⟨6, 6, .rw, 0x0, false⟩]⟩,
  ⟨"PDM_GRP", 0x120040, 0x4, 16, [⟨1, 0, .rw, 0x3, false⟩]⟩,
  ⟨"PDM_CH", 0x120100, 0x4, 128, [⟨31, 31, .rw, 0x0, false⟩, ⟨30, 30, .rw, 0x0, false⟩, ⟨11, 0, .rw, 0x0, false⟩]⟩,
  ⟨"PDM_CAPT_IDX", 0x120300, 0x10, 3, [⟨31, 0, .ro, 0x0, false⟩]⟩,
  ⟨"PDM_CAPT_SEC_LO", 0x120304, 0x10, 3, [⟨31, 0, .ro, 0x0, false⟩]⟩,
  ⟨"PDM_CAPT_SEC_HI", 0x120308, 0x10, 3, [⟨31, 16, .ro, 0x0, false⟩, ⟨15, 0, .ro, 0x0, false⟩]⟩,
  ⟨"PDM_CAPT_NS", 0x12030c, 0x10, 3, [⟨29, 0, .ro, 0x0, false⟩]⟩,
  ⟨"PDM_COEF", 0x121000, 0x4, 1024, [⟨31, 0, .ro, 0x0, false⟩]⟩]

/-- Registers of CSR block 0x12. -/
def regTable12 : List RegDef := regTable12_0

/-- Registers of CSR block 0x13, part 0. -/
def regTable13_0 : List RegDef := [
  ⟨"REDUN_MODE", 0x130000, 0x0, 1, [⟨31, 20, .rwp, 0x0, false⟩, ⟨19, 14, .rwp, 0x0, false⟩, ⟨13, 4, .rwp, 0x0, false⟩, ⟨2, 2, .rwp, 0x0, false⟩, ⟨1, 1, .rwp, 0x0, false⟩, ⟨0, 0, .rwp, 0x0, false⟩]⟩,
  ⟨"REDUN_CTL", 0x130004, 0x0, 1, [⟨3, 3, .rw, 0x1, false⟩, ⟨2, 2, .w1s, 0x0, false⟩, ⟨1, 1, .w1s, 0x0, false⟩, ⟨0, 0, .w1s, 0x0, false⟩]⟩,
  ⟨"REDUN_STAT", 0x130008, 0x0, 1, [⟨31, 28, .ro, 0x0, false⟩, ⟨27, 27, .ro, 0x0, false⟩, ⟨26, 26, .ro, 0x0, false⟩, ⟨25, 25, .ro, 0x0, false⟩, ⟨24, 24, .ro, 0x0, false⟩, ⟨18, 16, .ro, 0x7, false⟩, ⟨10, 8, .ro, 0x0, false⟩, ⟨6, 4, .ro, 0x0, false⟩, ⟨2, 0, .ro, 0x0, false⟩]⟩,
  ⟨"REDUN_HIST", 0x13000c, 0x0, 1, [⟨12, 12, .w1c, 0x0, false⟩, ⟨11, 11, .w1c, 0x0, false⟩, ⟨10, 10, .w1c, 0x0, false⟩, ⟨9, 9, .w1c, 0x0, false⟩, ⟨8, 8, .w1c, 0x0, false⟩, ⟨7, 7, .w1c, 0x0, false⟩, ⟨6, 6, .w1c, 0x0, false⟩, ⟨5, 5, .w1c, 0x0, false⟩, ⟨4, 4, .w1c, 0x0, false⟩, ⟨3, 3, .w1c, 0x0, false⟩, ⟨2, 2, .w1c, 0x0, false⟩, ⟨1, 1, .w1c, 0x0, false⟩, ⟨0, 0, .w1c, 0x0, false⟩]⟩,
  ⟨"REDUN_IE", 0x130010, 0x0, 1, [⟨12, 0, .rw, 0x0, false⟩]⟩,
  ⟨"REDUN_EPOCH", 0x130014, 0x0, 1, [⟨31, 16, .ro, 0x0, false⟩, ⟨15, 0, .ro, 0x0, false⟩]⟩,
  ⟨"REDUN_LEASE", 0x130018, 0x0, 1, [⟨31, 30, .ro, 0x0, false⟩, ⟨15, 0, .ro, 0x0, false⟩]⟩,
  ⟨"REDUN_RENEW_CNT", 0x13001c, 0x0, 1, [⟨31, 16, .cnt, 0x0, false⟩, ⟨15, 0, .cnt, 0x0, false⟩]⟩,
  ⟨"REDUN_FWD_LEAD", 0x130020, 0x0, 1, [⟨15, 0, .rw, 0x1000, false⟩]⟩,
  ⟨"REDUN_ALIGN", 0x130024, 0x0, 1, [⟨31, 16, .ro, 0x0, false⟩, ⟨7, 0, .rw, 0x10, false⟩]⟩,
  ⟨"REDUN_RESYNC", 0x130028, 0x0, 1, [⟨31, 24, .ro, 0x0, false⟩, ⟨7, 0, .ro, 0x0, false⟩]⟩,
  ⟨"REDUN_RESYNC_MS", 0x13002c, 0x0, 1, [⟨15, 0, .ro, 0x0, false⟩]⟩]

/-- Registers of CSR block 0x13, part 1. -/
def regTable13_1 : List RegDef := [
  ⟨"REDUN_DIV_IDX_LO", 0x130030, 0x0, 1, [⟨31, 0, .ro, 0x0, false⟩]⟩,
  ⟨"REDUN_DIV_IDX_HI", 0x130034, 0x0, 1, [⟨31, 0, .ro, 0x0, false⟩]⟩,
  ⟨"REDUN_DIV_ITEM", 0x130038, 0x0, 1, [⟨22, 16, .ro, 0x0, false⟩, ⟨6, 0, .ro, 0x0, false⟩]⟩,
  ⟨"REDUN_HASH_LO", 0x13003c, 0x0, 1, [⟨31, 0, .ro, 0x0, false⟩]⟩,
  ⟨"REDUN_HASH_HI", 0x130040, 0x0, 1, [⟨31, 0, .ro, 0x0, false⟩]⟩,
  ⟨"REDUN_SIRLOS_STAT", 0x130044, 0x0, 1, [⟨31, 16, .ro, 0x0, false⟩, ⟨1, 0, .ro, 0x0, false⟩]⟩,
  ⟨"REDUN_MISS_CNT", 0x130048, 0x0, 1, [⟨31, 0, .cnt, 0x0, false⟩]⟩,
  ⟨"REDUN_FWD_LATE_SUMP_CNT", 0x13004c, 0x0, 1, [⟨31, 0, .cnt, 0x0, false⟩]⟩,
  ⟨"REDUN_SIRLOS_RETX_CNT", 0x130050, 0x0, 1, [⟨31, 0, .cnt, 0x0, false⟩]⟩,
  ⟨"REDUN_SIRLOS_CRC_SUMP_CNT", 0x130054, 0x0, 1, [⟨31, 0, .cnt, 0x0, false⟩]⟩,
  ⟨"REDUN_GRANT_SUMP_CNT", 0x130058, 0x0, 1, [⟨31, 0, .cnt, 0x0, false⟩]⟩]

/-- Registers of CSR block 0x13. -/
def regTable13 : List RegDef := regTable13_0 ++ regTable13_1

/-- Registers of CSR block 0x14, part 0. -/
def regTable14_0 : List RegDef := [
  ⟨"CV_CTL", 0x140000, 0x0, 1, [⟨0, 0, .rw, 0x0, false⟩]⟩,
  ⟨"CV_STAT", 0x140004, 0x0, 1, [⟨6, 6, .w1c, 0x0, false⟩, ⟨5, 5, .w1c, 0x0, true⟩, ⟨4, 4, .w1c, 0x0, true⟩, ⟨3, 3, .w1c, 0x0, false⟩, ⟨2, 2, .w1c, 0x0, true⟩, ⟨1, 1, .ro, 0x0, false⟩, ⟨0, 0, .ro, 0x0, false⟩]⟩,
  ⟨"CV_IE", 0x140008, 0x0, 1, [⟨6, 2, .rw, 0x0, false⟩]⟩,
  ⟨"CV_PARK", 0x14000c, 0x0, 1, [⟨31, 16, .ro, 0x0, false⟩, ⟨15, 0, .ro, 0x0, false⟩]⟩,
  ⟨"CV_OUT", 0x140100, 0x4, 16, [⟨31, 31, .rw, 0x0, false⟩, ⟨17, 16, .rw, 0x0, false⟩, ⟨15, 0, .rw, 0x0, false⟩]⟩]

/-- Registers of CSR block 0x14. -/
def regTable14 : List RegDef := regTable14_0

/-- Registers of CSR block 0x15, part 0. -/
def regTable15_0 : List RegDef := [
  ⟨"PRF_WORD", 0x150000, 0x4, 1024, [⟨31, 0, .rwp, 0x0, true⟩]⟩,
  ⟨"PRF_STAT", 0x151000, 0x0, 1, [⟨8, 5, .ro, 0x0, true⟩, ⟨4, 4, .ro, 0x0, true⟩, ⟨3, 3, .ro, 0x0, true⟩, ⟨2, 2, .w1c, 0x0, true⟩, ⟨1, 1, .w1c, 0x0, true⟩, ⟨0, 0, .w1c, 0x0, true⟩]⟩,
  ⟨"PRF_STAT2", 0x151004, 0x0, 1, [⟨0, 0, .w1c, 0x0, true⟩]⟩,
  ⟨"PRF_IE", 0x151008, 0x0, 1, [⟨3, 3, .rw, 0x0, true⟩, ⟨2, 2, .rw, 0x0, true⟩, ⟨1, 1, .rw, 0x0, true⟩, ⟨0, 0, .rw, 0x0, true⟩]⟩,
  ⟨"PRF_QUEUE_SUMP_CNT", 0x15100c, 0x0, 1, [⟨31, 0, .cnt, 0x0, true⟩]⟩,
  ⟨"PRF_LOAD_ERR_CNT", 0x151010, 0x0, 1, [⟨31, 0, .cnt, 0x0, true⟩]⟩,
  ⟨"PRF_LAST_ERR", 0x151014, 0x0, 1, [⟨9, 0, .ro, 0x0, true⟩]⟩,
  ⟨"PRF_WEAR_MAP", 0x151100, 0x4, 32, [⟨31, 0, .ro, 0x0, true⟩]⟩,
  ⟨"PRF_WEAR", 0x152000, 0x4, 1024, [⟨23, 0, .ro, 0x0, true⟩]⟩]

/-- Registers of CSR block 0x15. -/
def regTable15 : List RegDef := regTable15_0

/-- Registers of CSR block 0x16, part 0. -/
def regTable16_0 : List RegDef := [
  ⟨"BOOT_STAT", 0x160000, 0x0, 1, [⟨23, 20, .ro, 0x0, false⟩, ⟨19, 16, .ro, 0x0, false⟩, ⟨9, 9, .ro, 0x0, false⟩, ⟨8, 8, .ro, 0x0, false⟩, ⟨7, 7, .ro, 0x0, false⟩, ⟨6, 6, .ro, 0x0, false⟩, ⟨5, 5, .ro, 0x0, false⟩, ⟨4, 4, .ro, 0x0, false⟩, ⟨3, 0, .ro, 0x0, false⟩]⟩,
  ⟨"BOOT_HIST", 0x160004, 0x0, 1, [⟨4, 4, .w1c, 0x0, false⟩, ⟨3, 3, .w1c, 0x0, false⟩, ⟨2, 2, .w1c, 0x0, false⟩, ⟨1, 1, .w1c, 0x0, false⟩, ⟨0, 0, .w1c, 0x0, false⟩]⟩,
  ⟨"BOOT_IE", 0x160008, 0x0, 1, [⟨4, 0, .rw, 0x0, false⟩]⟩,
  ⟨"BOOT_FUSE", 0x16000c, 0x0, 1, [⟨9, 9, .ro, 0x0, true⟩, ⟨8, 8, .ro, 0x0, true⟩, ⟨6, 0, .ro, 0x0, true⟩]⟩,
  ⟨"BOOT_UNIT_ID_LO", 0x160010, 0x0, 1, [⟨31, 0, .ro, 0x0, true⟩]⟩,
  ⟨"BOOT_UNIT_ID_HI", 0x160014, 0x0, 1, [⟨31, 0, .ro, 0x0, true⟩]⟩,
  ⟨"BOOT_UPD_STAT", 0x160018, 0x0, 1, [⟨19, 16, .ro, 0x0, false⟩, ⟨10, 8, .ro, 0x0, false⟩, ⟨2, 0, .ro, 0x0, false⟩]⟩,
  ⟨"BOOT_UPD_NEXT", 0x16001c, 0x0, 1, [⟨23, 0, .ro, 0x0, false⟩]⟩,
  ⟨"BOOT_TIME", 0x160020, 0x0, 1, [⟨15, 0, .ro, 0x0, false⟩]⟩,
  ⟨"BOOT_IMG", 0x160100, 0x4, 8, [⟨31, 16, .ro, 0x0, false⟩, ⟨15, 8, .ro, 0x0, false⟩, ⟨0, 0, .ro, 0x0, false⟩]⟩]

/-- Registers of CSR block 0x16. -/
def regTable16 : List RegDef := regTable16_0

/-- Registers of CSR block 0x17, part 0. -/
def regTable17_0 : List RegDef := [
  ⟨"TEST_UNLOCK", 0x170000, 0x0, 1, [⟨31, 0, .wo, 0x0, false⟩]⟩,
  ⟨"TEST_STAT", 0x170004, 0x0, 1, [⟨31, 31, .ro, 0x0, false⟩, ⟨6, 0, .ro, 0x0, false⟩]⟩,
  ⟨"TEST_HIST", 0x170008, 0x0, 1, [⟨3, 3, .w1c, 0x0, false⟩, ⟨2, 2, .w1c, 0x0, false⟩, ⟨1, 1, .w1c, 0x0, false⟩, ⟨0, 0, .w1c, 0x0, false⟩]⟩,
  ⟨"TEST_IE", 0x17000c, 0x0, 1, [⟨3, 0, .rw, 0x0, false⟩]⟩,
  ⟨"TEST_CFG", 0x170010, 0x0, 1, [⟨31, 31, .w1s, 0x0, false⟩, ⟨15, 0, .rw, 0x258, false⟩]⟩,
  ⟨"TEST_XBAR_DLY", 0x170020, 0x0, 1, [⟨25, 8, .rw, 0x0, false⟩, ⟨7, 0, .rw, 0x0, false⟩]⟩,
  ⟨"TEST_MAC_BP", 0x170024, 0x0, 1, [⟨28, 24, .rw, 0x0, false⟩, ⟨18, 16, .rw, 0x0, false⟩, ⟨7, 0, .rw, 0x0, false⟩]⟩,
  ⟨"TEST_ASRC_JIT", 0x170028, 0x0, 1, [⟨31, 16, .rw, 0x0, false⟩, ⟨7, 0, .rw, 0x0, false⟩]⟩,
  ⟨"TEST_ASRC_MASK", 0x17002c, 0x0, 1, [⟨31, 0, .rw, 0x0, false⟩]⟩,
  ⟨"TEST_TICK", 0x170030, 0x0, 1, [⟨31, 31, .w1s, 0x0, false⟩, ⟨7, 0, .rw, 0x0, false⟩]⟩,
  ⟨"TEST_CDC", 0x170034, 0x0, 1, [⟨0, 0, .rw, 0x0, false⟩]⟩,
  ⟨"TEST_ECC_CTL", 0x170038, 0x0, 1, [⟨31, 31, .w1s, 0x0, false⟩, ⟨29, 28, .rw, 0x0, false⟩, ⟨24, 24, .rw, 0x0, false⟩, ⟨13, 8, .rw, 0x0, false⟩]⟩]

/-- Registers of CSR block 0x17, part 1. -/
def regTable17_1 : List RegDef := [
  ⟨"TEST_ECC_ADDR", 0x17003c, 0x0, 1, [⟨26, 0, .rw, 0x0, false⟩]⟩,
  ⟨"TEST_LEASE", 0x170040, 0x0, 1, [⟨1, 1, .rw, 0x0, false⟩, ⟨0, 0, .rw, 0x0, false⟩]⟩,
  ⟨"TEST_SIRLOS", 0x170044, 0x0, 1, [⟨31, 31, .w1s, 0x0, false⟩, ⟨17, 16, .rw, 0x0, false⟩, ⟨15, 0, .rw, 0x0, false⟩]⟩]

/-- Registers of CSR block 0x17. -/
def regTable17 : List RegDef := regTable17_0 ++ regTable17_1

/-- Registers of CSR block 0x18, part 0. -/
def regTable18_0 : List RegDef := [
  ⟨"FLOOD_STATE", 0x180000, 0x0, 1, [⟨2, 2, .ro, 0x0, false⟩, ⟨1, 1, .ro, 0x0, false⟩, ⟨0, 0, .ro, 0x0, false⟩]⟩,
  ⟨"FLOOD_SRC", 0x180004, 0x0, 1, [⟨3, 3, .ro, 0x0, false⟩, ⟨2, 2, .ro, 0x0, false⟩, ⟨1, 1, .ro, 0x0, false⟩, ⟨0, 0, .ro, 0x0, false⟩]⟩,
  ⟨"FLOOD_HIST", 0x180008, 0x0, 1, [⟨5, 5, .w1c, 0x0, false⟩, ⟨4, 4, .w1c, 0x0, false⟩, ⟨3, 3, .w1c, 0x0, false⟩, ⟨2, 2, .w1c, 0x0, false⟩, ⟨1, 1, .w1c, 0x0, false⟩, ⟨0, 0, .w1c, 0x0, false⟩]⟩,
  ⟨"FLOOD_IE", 0x18000c, 0x0, 1, [⟨5, 5, .rw, 0x0, false⟩, ⟨4, 4, .rw, 0x0, false⟩, ⟨3, 3, .rw, 0x0, false⟩, ⟨2, 2, .rw, 0x0, false⟩, ⟨1, 1, .rw, 0x0, false⟩, ⟨0, 0, .rw, 0x0, false⟩]⟩,
  ⟨"FLOOD_CTL", 0x180010, 0x0, 1, [⟨1, 1, .wo, 0x0, false⟩, ⟨0, 0, .rw, 0x0, false⟩]⟩,
  ⟨"FLOOD_GAIN", 0x180014, 0x0, 1, [⟨31, 0, .ro, 0x0, false⟩]⟩,
  ⟨"FLOOD_CLOSE_IDX_LO", 0x180018, 0x0, 1, [⟨31, 0, .ro, 0x0, false⟩]⟩,
  ⟨"FLOOD_CLOSE_IDX_HI", 0x18001c, 0x0, 1, [⟨31, 0, .ro, 0x0, false⟩]⟩,
  ⟨"FLOOD_CLOSE_CNT", 0x180020, 0x0, 1, [⟨31, 0, .cnt, 0x0, false⟩]⟩,
  ⟨"FLOOD_PIN", 0x180024, 0x0, 1, [⟨0, 0, .ro, 0x0, false⟩]⟩]

/-- Registers of CSR block 0x18. -/
def regTable18 : List RegDef := regTable18_0

/-- Registers of CSR block 0x19, part 0. -/
def regTable19_0 : List RegDef := [
  ⟨"MINTAL_CTL", 0x190000, 0x400, 64, [⟨4, 4, .w1s, 0x0, false⟩, ⟨3, 3, .w1s, 0x0, false⟩, ⟨2, 2, .rw, 0x0, false⟩, ⟨1, 1, .rw, 0x0, false⟩, ⟨0, 0, .rw, 0x1, false⟩]⟩,
  ⟨"MINTAL_STAT", 0x190004, 0x400, 64, [⟨15, 15, .ro, 0x0, false⟩, ⟨14, 14, .ro, 0x0, false⟩, ⟨13, 13, .ro, 0x0, false⟩, ⟨12, 12, .ro, 0x1, false⟩, ⟨7, 7, .w1c, 0x0, false⟩, ⟨6, 6, .w1c, 0x0, false⟩, ⟨5, 5, .w1c, 0x0, false⟩, ⟨4, 4, .w1c, 0x0, false⟩, ⟨3, 3, .w1c, 0x0, false⟩, ⟨2, 2, .w1c, 0x0, false⟩, ⟨1, 1, .w1c, 0x0, false⟩, ⟨0, 0, .w1c, 0x0, false⟩]⟩,
  ⟨"MINTAL_IE", 0x190008, 0x400, 64, [⟨7, 7, .rw, 0x0, false⟩, ⟨6, 6, .rw, 0x0, false⟩, ⟨5, 5, .rw, 0x0, false⟩, ⟨4, 4, .rw, 0x0, false⟩, ⟨3, 3, .rw, 0x0, false⟩, ⟨2, 2, .rw, 0x0, false⟩, ⟨1, 1, .rw, 0x0, false⟩, ⟨0, 0, .rw, 0x0, false⟩]⟩,
  ⟨"MINTAL_PC", 0x19000c, 0x400, 64, [⟨11, 0, .ro, 0x0, false⟩]⟩,
  ⟨"MINTAL_CAUSE", 0x190010, 0x400, 64, [⟨27, 16, .ro, 0x0, false⟩, ⟨3, 0, .ro, 0x0, false⟩]⟩,
  ⟨"MINTAL_XBASE", 0x190014, 0x400, 64, [⟨26, 5, .rw, 0x0, false⟩]⟩,
  ⟨"MINTAL_XLEN", 0x190018, 0x400, 64, [⟨26, 5, .rw, 0x0, false⟩]⟩,
  ⟨"MINTAL_XSWEPT", 0x19001c, 0x400, 64, [⟨26, 5, .rw, 0x0, false⟩]⟩,
  ⟨"MINTAL_CYC_LAST", 0x190020, 0x400, 64, [⟨15, 0, .ro, 0x0, false⟩]⟩,
  ⟨"MINTAL_CYC_MAX", 0x190024, 0x400, 64, [⟨15, 0, .ro, 0x0, false⟩]⟩,
  ⟨"MINTAL_XLAT", 0x190028, 0x400, 64, [⟨31, 16, .ro, 0x0, false⟩, ⟨3, 0, .ro, 0x0, false⟩]⟩,
  ⟨"MINTAL_ECC_CNT", 0x19002c, 0x400, 64, [⟨31, 0, .cnt, 0x0, false⟩]⟩]

/-- Registers of CSR block 0x19, part 1. -/
def regTable19_1 : List RegDef := [
  ⟨"MINTAL_XWIN_SUMP_CNT", 0x190030, 0x400, 64, [⟨31, 0, .cnt, 0x0, false⟩]⟩,
  ⟨"MINTAL_BKPT", 0x190034, 0x400, 64, [⟨31, 31, .rw, 0x0, false⟩, ⟨11, 0, .rw, 0x0, false⟩]⟩,
  ⟨"MINTAL_SWEEP", 0x190038, 0x400, 64, [⟨28, 16, .ro, 0x0, false⟩, ⟨12, 0, .ro, 0x0, false⟩]⟩,
  ⟨"MINTAL_OBJ", 0x19003c, 0x400, 64, [⟨31, 16, .ro, 0x0, false⟩, ⟨15, 0, .ro, 0x0, false⟩]⟩]

/-- Registers of CSR block 0x19. -/
def regTable19 : List RegDef := regTable19_0 ++ regTable19_1

/-- Registers of CSR block 0x1A, part 0. -/
def regTable1A_0 : List RegDef := [
  ⟨"CONFL_CFG", 0x1a0000, 0x0, 1, [⟨21, 16, .ro, 0x0, false⟩, ⟨4, 0, .ro, 0x0, false⟩]⟩,
  ⟨"CONFL_STAT", 0x1a0004, 0x0, 1, [⟨2, 2, .w1c, 0x0, false⟩, ⟨1, 1, .w1c, 0x0, false⟩, ⟨0, 0, .w1c, 0x0, false⟩]⟩,
  ⟨"CONFL_IE", 0x1a0008, 0x0, 1, [⟨2, 2, .rw, 0x0, false⟩, ⟨1, 1, .rw, 0x0, false⟩, ⟨0, 0, .rw, 0x0, false⟩]⟩,
  ⟨"CONFL_SAT_CNT", 0x1a000c, 0x0, 1, [⟨31, 0, .cnt, 0x0, false⟩]⟩,
  ⟨"CONFL_SAT_LAST", 0x1a0010, 0x0, 1, [⟨31, 16, .ro, 0x0, false⟩, ⟨7, 0, .ro, 0x0, false⟩]⟩,
  ⟨"CONFL_LATE_SUMP_CNT", 0x1a0014, 0x0, 1, [⟨31, 0, .cnt, 0x0, false⟩]⟩,
  ⟨"CONFL_XP_SUMP_CNT", 0x1a0018, 0x0, 1, [⟨31, 0, .cnt, 0x0, false⟩]⟩,
  ⟨"CONFL_XF_RUN", 0x1a0020, 0x4, 8, [⟨31, 0, .ro, 0x0, false⟩]⟩,
  ⟨"CONFL_XF_QUEUE", 0x1a0040, 0x4, 8, [⟨31, 0, .ro, 0x0, false⟩]⟩,
  ⟨"CONFL_MXF_RUN", 0x1a0060, 0x4, 4, [⟨31, 0, .ro, 0x0, false⟩]⟩,
  ⟨"CONFL_MXF_QUEUE", 0x1a0070, 0x4, 4, [⟨31, 0, .ro, 0x0, false⟩]⟩]

/-- Registers of CSR block 0x1A. -/
def regTable1A : List RegDef := regTable1A_0

end Sys2Proof.Machine
end

