-- ==== Sys2Proof/Machine/RegNamesA.lean ====
section
/-! DEFINITION. Names of the CSR registers and fields, part A: `R.NAME` is the offset of register NAME (of instance `i` of a
per-instance register), `R.F_NAME_FIELD` its field FIELD. Offsets and bit ranges are those of the register tables of spec/. -/
namespace Sys2Proof.Machine.R

def SYS_DEVID : Nat := 0x0
def F_SYS_DEVID_VENDOR : Fld := ⟨0x0, 31, 16⟩
def F_SYS_DEVID_PART : Fld := ⟨0x0, 15, 0⟩
def SYS_STEP : Nat := 0x4
def F_SYS_STEP_MAJOR : Fld := ⟨0x4, 7, 4⟩
def F_SYS_STEP_MINOR : Fld := ⟨0x4, 3, 0⟩
def SYS_FAMILY_0 : Nat := 0x10
def F_SYS_FAMILY_0_MEMBER : Fld := ⟨0x10, 31, 16⟩
def F_SYS_FAMILY_0_MINTAL_CORES : Fld := ⟨0x10, 15, 8⟩
def F_SYS_FAMILY_0_DEXMOS_CORES : Fld := ⟨0x10, 7, 0⟩
def SYS_FAMILY_1 : Nat := 0x14
def F_SYS_FAMILY_1_INPUT_STRIPS : Fld := ⟨0x14, 31, 16⟩
def F_SYS_FAMILY_1_MAINS : Fld := ⟨0x14, 15, 8⟩
def F_SYS_FAMILY_1_FX_SLOTS : Fld := ⟨0x14, 7, 0⟩
def SYS_FAMILY_2 : Nat := 0x18
def F_SYS_FAMILY_2_BUSES : Fld := ⟨0x18, 31, 16⟩
def F_SYS_FAMILY_2_MATRIX : Fld := ⟨0x18, 15, 8⟩
def F_SYS_FAMILY_2_MEDIA_PORTS : Fld := ⟨0x18, 7, 0⟩
def SYS_FAMILY_3 : Nat := 0x1c
def F_SYS_FAMILY_3_RSV_BANKS : Fld := ⟨0x1c, 31, 24⟩
def F_SYS_FAMILY_3_RSV_BANK_SIZE : Fld := ⟨0x1c, 23, 16⟩
def F_SYS_FAMILY_3_SCRATCH_SIZE : Fld := ⟨0x1c, 15, 8⟩
def F_SYS_FAMILY_3_IMEM_WORDS : Fld := ⟨0x1c, 7, 0⟩
def SCHED_CTL : Nat := 0x30000
def F_SCHED_CTL_STUCK_LIMIT : Fld := ⟨0x30000, 23, 16⟩
def F_SCHED_CTL_RATE : Fld := ⟨0x30000, 5, 4⟩
def F_SCHED_CTL_WIN_ARM : Fld := ⟨0x30000, 1, 1⟩
def F_SCHED_CTL_RUN : Fld := ⟨0x30000, 0, 0⟩
def SCHED_STAT : Nat := 0x30004
def F_SCHED_STAT_STUCK_S : Fld := ⟨0x30004, 11, 11⟩
def F_SCHED_STAT_OVERRUN_S : Fld := ⟨0x30004, 10, 10⟩
def F_SCHED_STAT_FAMILY_MISMATCH_S : Fld := ⟨0x30004, 9, 9⟩
def F_SCHED_STAT_RATE_REJ_S : Fld := ⟨0x30004, 8, 8⟩
def F_SCHED_STAT_WIN_LATE_S : Fld := ⟨0x30004, 7, 7⟩
def F_SCHED_STAT_WIN_REJ_S : Fld := ⟨0x30004, 6, 6⟩
def F_SCHED_STAT_WIN_APPLIED_S : Fld := ⟨0x30004, 5, 5⟩
def F_SCHED_STAT_WIN_CANCEL_S : Fld := ⟨0x30004, 4, 4⟩
def F_SCHED_STAT_RUNNING : Fld := ⟨0x30004, 0, 0⟩
def SCHED_IE : Nat := 0x30008
def F_SCHED_IE_STUCK_IE : Fld := ⟨0x30008, 11, 11⟩
def F_SCHED_IE_OVERRUN_IE : Fld := ⟨0x30008, 10, 10⟩
def F_SCHED_IE_FAMILY_MISMATCH_IE : Fld := ⟨0x30008, 9, 9⟩
def F_SCHED_IE_RATE_REJ_IE : Fld := ⟨0x30008, 8, 8⟩
def F_SCHED_IE_WIN_LATE_IE : Fld := ⟨0x30008, 7, 7⟩
def F_SCHED_IE_WIN_REJ_IE : Fld := ⟨0x30008, 6, 6⟩
def F_SCHED_IE_WIN_APPLIED_IE : Fld := ⟨0x30008, 5, 5⟩
def F_SCHED_IE_WIN_CANCEL_IE : Fld := ⟨0x30008, 4, 4⟩
def SCHED_IDX_LO : Nat := 0x30010
def F_SCHED_IDX_LO_IDX : Fld := ⟨0x30010, 31, 0⟩
def SCHED_IDX_HI : Nat := 0x30014
def F_SCHED_IDX_HI_IDX : Fld := ⟨0x30014, 31, 0⟩
def SCHED_TICK_SEC_LO : Nat := 0x30018
def F_SCHED_TICK_SEC_LO_SEC : Fld := ⟨0x30018, 31, 0⟩
def SCHED_TICK_SEC_HI : Nat := 0x3001c
def F_SCHED_TICK_SEC_HI_SEC : Fld := ⟨0x3001c, 15, 0⟩
def SCHED_TICK_NS : Nat := 0x30020
def F_SCHED_TICK_NS_NS : Fld := ⟨0x30020, 29, 0⟩
def SCHED_WIN_A : Nat := 0x30030
def F_SCHED_WIN_A_ACTIVE : Fld := ⟨0x30030, 31, 16⟩
def F_SCHED_WIN_A_SHADOW : Fld := ⟨0x30030, 15, 0⟩
def SCHED_WIN_B : Nat := 0x30034
def F_SCHED_WIN_B_ACTIVE : Fld := ⟨0x30034, 31, 16⟩
def F_SCHED_WIN_B_SHADOW : Fld := ⟨0x30034, 15, 0⟩
def SCHED_WIN_C : Nat := 0x30038
def F_SCHED_WIN_C_ACTIVE : Fld := ⟨0x30038, 31, 16⟩
def F_SCHED_WIN_C_SHADOW : Fld := ⟨0x30038, 15, 0⟩
def SCHED_WIN_D : Nat := 0x3003c
def F_SCHED_WIN_D_ACTIVE : Fld := ⟨0x3003c, 31, 16⟩
def F_SCHED_WIN_D_SHADOW : Fld := ⟨0x3003c, 15, 0⟩
def SCHED_WIN_E : Nat := 0x30040
def F_SCHED_WIN_E_ACTIVE : Fld := ⟨0x30040, 31, 16⟩
def F_SCHED_WIN_E_SHADOW : Fld := ⟨0x30040, 15, 0⟩
def SCHED_WIN_DB : Nat := 0x30044
def F_SCHED_WIN_DB_ACTIVE : Fld := ⟨0x30044, 31, 16⟩
def F_SCHED_WIN_DB_SHADOW : Fld := ⟨0x30044, 15, 0⟩
def SCHED_WIN_DM : Nat := 0x30048
def F_SCHED_WIN_DM_ACTIVE : Fld := ⟨0x30048, 31, 16⟩
def F_SCHED_WIN_DM_SHADOW : Fld := ⟨0x30048, 15, 0⟩
def SCHED_WIN_IDX_LO : Nat := 0x3004c
def F_SCHED_WIN_IDX_LO_IDX : Fld := ⟨0x3004c, 31, 0⟩
def SCHED_WIN_IDX_HI : Nat := 0x30050
def F_SCHED_WIN_IDX_HI_IDX : Fld := ⟨0x30050, 31, 0⟩
def SCHED_OVR_CORE_LO : Nat := 0x30054
def F_SCHED_OVR_CORE_LO_CORE_S : Fld := ⟨0x30054, 31, 0⟩
def SCHED_OVR_CORE_HI : Nat := 0x30058
def F_SCHED_OVR_CORE_HI_CORE_S : Fld := ⟨0x30058, 31, 0⟩
def SCHED_OVR_CNT : Nat := 0x3005c
def F_SCHED_OVR_CNT_OVR_CNT : Fld := ⟨0x3005c, 31, 0⟩
def SCHED_OVR_LAST : Nat := 0x30060
def F_SCHED_OVR_LAST_IDX : Fld := ⟨0x30060, 31, 16⟩
def F_SCHED_OVR_LAST_PHASE : Fld := ⟨0x30060, 10, 8⟩
def F_SCHED_OVR_LAST_CORE : Fld := ⟨0x30060, 5, 0⟩
def SCHED_DORM_CNT : Nat := 0x30064
def F_SCHED_DORM_CNT_TILES_GATED : Fld := ⟨0x30064, 22, 16⟩
def F_SCHED_DORM_CNT_STRIPS_DORMANT : Fld := ⟨0x30064, 10, 0⟩
def SCHED_GATE_CNT : Nat := 0x30068
def F_SCHED_GATE_CNT_GATE_CNT : Fld := ⟨0x30068, 31, 0⟩
def SCHED_CORE (i : Nat) : Nat := (0x30100 + 0x4 * i)
def F_SCHED_CORE_COUNT (i : Nat) : Fld := ⟨(0x30100 + 0x4 * i), 31, 24⟩
def F_SCHED_CORE_BASE (i : Nat) : Fld := ⟨(0x30100 + 0x4 * i), 23, 16⟩
def F_SCHED_CORE_KIND (i : Nat) : Fld := ⟨(0x30100 + 0x4 * i), 2, 0⟩
def SCHED_TILE (i : Nat) : Nat := (0x30200 + 0x4 * i)
def F_SCHED_TILE_PHASE (i : Nat) : Fld := ⟨(0x30200 + 0x4 * i), 14, 12⟩
def F_SCHED_TILE_ORDER (i : Nat) : Fld := ⟨(0x30200 + 0x4 * i), 11, 8⟩
def F_SCHED_TILE_CORE (i : Nat) : Fld := ⟨(0x30200 + 0x4 * i), 5, 0⟩
def SCHED_DORM (i : Nat) : Nat := (0x30400 + 0x4 * i)
def F_SCHED_DORM_DORMANT (i : Nat) : Fld := ⟨(0x30400 + 0x4 * i), 31, 0⟩
def STRIP_FMT : Nat := 0x40000
def F_STRIP_FMT_OBJ_FMT : Fld := ⟨0x40000, 31, 16⟩
def F_STRIP_FMT_GRAPH_REV : Fld := ⟨0x40000, 15, 0⟩
def STRIP_STAT : Nat := 0x40004
def F_STRIP_STAT_FX_MISMATCH_S : Fld := ⟨0x40004, 5, 5⟩
def F_STRIP_STAT_XF_QUEUED_S : Fld := ⟨0x40004, 4, 4⟩
def F_STRIP_STAT_OUT_SAT_S : Fld := ⟨0x40004, 3, 3⟩
def F_STRIP_STAT_DLY_CHAIN_S : Fld := ⟨0x40004, 2, 2⟩
def F_STRIP_STAT_TAP_INVALID_S : Fld := ⟨0x40004, 1, 1⟩
def F_STRIP_STAT_SRC_INVALID_S : Fld := ⟨0x40004, 0, 0⟩
def STRIP_IE : Nat := 0x40008
def F_STRIP_IE_FX_MISMATCH_IE : Fld := ⟨0x40008, 5, 5⟩
def F_STRIP_IE_XF_QUEUED_IE : Fld := ⟨0x40008, 4, 4⟩
def F_STRIP_IE_OUT_SAT_IE : Fld := ⟨0x40008, 3, 3⟩
def F_STRIP_IE_DLY_CHAIN_IE : Fld := ⟨0x40008, 2, 2⟩
def F_STRIP_IE_TAP_INVALID_IE : Fld := ⟨0x40008, 1, 1⟩
def F_STRIP_IE_SRC_INVALID_IE : Fld := ⟨0x40008, 0, 0⟩
def STRIP_BAD_PID : Nat := 0x4000c
def F_STRIP_BAD_PID_PID : Fld := ⟨0x4000c, 18, 0⟩
def STRIP_OUT_SAT_CNT : Nat := 0x40010
def F_STRIP_OUT_SAT_CNT_SAT_CNT : Fld := ⟨0x40010, 31, 0⟩
def STRIP_XF_ACTIVE : Nat := 0x40014
def F_STRIP_XF_ACTIVE_QUEUED : Fld := ⟨0x40014, 31, 16⟩
def F_STRIP_XF_ACTIVE_RUNNING : Fld := ⟨0x40014, 15, 0⟩
def STRIP_XF_SUMP_CNT : Nat := 0x40018
def F_STRIP_XF_SUMP_CNT_XF_SUMP_CNT : Fld := ⟨0x40018, 31, 0⟩
def STRIP_DITHER_STATE : Nat := 0x4001c
def F_STRIP_DITHER_STATE_STATE : Fld := ⟨0x4001c, 31, 0⟩
def STRIP_DITHER_STEPS : Nat := 0x40020
def F_STRIP_DITHER_STEPS_STEPS : Fld := ⟨0x40020, 12, 0⟩
def SLUICE_CFG : Nat := 0x50000
def F_SLUICE_CFG_MAX_GROUPS : Fld := ⟨0x50000, 23, 16⟩
def SLUICE_MAX_LEAD : Nat := 0x50004
def F_SLUICE_MAX_LEAD_MAX_LEAD : Fld := ⟨0x50004, 31, 0⟩
def SLUICE_STAT : Nat := 0x50008
def F_SLUICE_STAT_BUSY : Fld := ⟨0x50008, 16, 16⟩
def F_SLUICE_STAT_PRELOAD_FAIL_S : Fld := ⟨0x50008, 8, 8⟩
def F_SLUICE_STAT_PRELOAD_DONE_S : Fld := ⟨0x50008, 7, 7⟩
def F_SLUICE_STAT_WARM_MERGE_S : Fld := ⟨0x50008, 6, 6⟩
def F_SLUICE_STAT_LOAD_FAIL_S : Fld := ⟨0x50008, 5, 5⟩
def F_SLUICE_STAT_REFUSED_S : Fld := ⟨0x50008, 4, 4⟩
def F_SLUICE_STAT_URGENT_S : Fld := ⟨0x50008, 3, 3⟩
def F_SLUICE_STAT_LATE_FLIP_S : Fld := ⟨0x50008, 2, 2⟩
def F_SLUICE_STAT_MOVED_S : Fld := ⟨0x50008, 1, 1⟩
def F_SLUICE_STAT_FLIP_S : Fld := ⟨0x50008, 0, 0⟩
def SLUICE_IE : Nat := 0x5000c
def F_SLUICE_IE_PRELOAD_FAIL_IE : Fld := ⟨0x5000c, 8, 8⟩
def F_SLUICE_IE_PRELOAD_DONE_IE : Fld := ⟨0x5000c, 7, 7⟩
def F_SLUICE_IE_WARM_MERGE_IE : Fld := ⟨0x5000c, 6, 6⟩
def F_SLUICE_IE_LOAD_FAIL_IE : Fld := ⟨0x5000c, 5, 5⟩
def F_SLUICE_IE_REFUSED_IE : Fld := ⟨0x5000c, 4, 4⟩
def F_SLUICE_IE_URGENT_IE : Fld := ⟨0x5000c, 3, 3⟩
def F_SLUICE_IE_LATE_FLIP_IE : Fld := ⟨0x5000c, 2, 2⟩
def F_SLUICE_IE_MOVED_IE : Fld := ⟨0x5000c, 1, 1⟩
def F_SLUICE_IE_FLIP_IE : Fld := ⟨0x5000c, 0, 0⟩
def SLUICE_GROUPS : Nat := 0x50010
def F_SLUICE_GROUPS_PENDING : Fld := ⟨0x50010, 22, 16⟩
def F_SLUICE_GROUPS_TAIL_STATE : Fld := ⟨0x50010, 2, 0⟩
def SLUICE_HEAD_IDX_LO : Nat := 0x50014
def F_SLUICE_HEAD_IDX_LO_IDX : Fld := ⟨0x50014, 31, 0⟩
def SLUICE_HEAD_IDX_HI : Nat := 0x50018
def F_SLUICE_HEAD_IDX_HI_IDX : Fld := ⟨0x50018, 31, 0⟩
def SLUICE_TAIL_IDX_LO : Nat := 0x5001c
def F_SLUICE_TAIL_IDX_LO_IDX : Fld := ⟨0x5001c, 31, 0⟩
def SLUICE_TAIL_IDX_HI : Nat := 0x50020
def F_SLUICE_TAIL_IDX_HI_IDX : Fld := ⟨0x50020, 31, 0⟩
def SLUICE_BACKLOG : Nat := 0x50024
def F_SLUICE_BACKLOG_SETTLE : Fld := ⟨0x50024, 19, 0⟩
def SLUICE_DIRTY : Nat := 0x50028
def F_SLUICE_DIRTY_CELLS : Fld := ⟨0x50028, 15, 0⟩
def SLUICE_LAST_FLIP_LO : Nat := 0x5002c
def F_SLUICE_LAST_FLIP_LO_IDX : Fld := ⟨0x5002c, 31, 0⟩
def SLUICE_LAST_FLIP_HI : Nat := 0x50030
def F_SLUICE_LAST_FLIP_HI_IDX : Fld := ⟨0x50030, 31, 0⟩
def SLUICE_FLIP_CNT : Nat := 0x50034
def F_SLUICE_FLIP_CNT_FLIP_CNT : Fld := ⟨0x50034, 31, 0⟩
def SLUICE_MOVED_CNT : Nat := 0x50038
def F_SLUICE_MOVED_CNT_MOVED_CNT : Fld := ⟨0x50038, 31, 0⟩
def SLUICE_REFUSE_SUMP_CNT : Nat := 0x5003c
def F_SLUICE_REFUSE_SUMP_CNT_REFUSE_SUMP_CNT : Fld := ⟨0x5003c, 31, 0⟩
def SLUICE_LATE_CNT : Nat := 0x50040
def F_SLUICE_LATE_CNT_LATE_CNT : Fld := ⟨0x50040, 31, 0⟩
def SLUICE_PRELOAD : Nat := 0x50044
def F_SLUICE_PRELOAD_LOAD : Fld := ⟨0x50044, 31, 31⟩
def F_SLUICE_PRELOAD_SCENE : Fld := ⟨0x50044, 9, 0⟩
def SLUICE_BUF : Nat := 0x50048
def F_SLUICE_BUF_VALID : Fld := ⟨0x50048, 31, 31⟩
def F_SLUICE_BUF_LOADING : Fld := ⟨0x50048, 30, 30⟩
def F_SLUICE_BUF_STORING : Fld := ⟨0x50048, 29, 29⟩
def F_SLUICE_BUF_SCENE : Fld := ⟨0x50048, 9, 0⟩
def SLUICE_SHOW : Nat := 0x5004c
def F_SLUICE_SHOW_OPEN : Fld := ⟨0x5004c, 31, 31⟩
def F_SLUICE_SHOW_SCENES : Fld := ⟨0x5004c, 26, 16⟩
def F_SLUICE_SHOW_FREE : Fld := ⟨0x5004c, 15, 0⟩
def HEADRACE_CTL : Nat := 0x60000
def F_HEADRACE_CTL_UDP_PORT : Fld := ⟨0x60000, 31, 16⟩
def F_HEADRACE_CTL_SURF_EN : Fld := ⟨0x60000, 12, 12⟩
def F_HEADRACE_CTL_MGMT_EN : Fld := ⟨0x60000, 4, 4⟩
def F_HEADRACE_CTL_MAC_EN : Fld := ⟨0x60000, 3, 0⟩
def HEADRACE_CFG : Nat := 0x60004
def F_HEADRACE_CFG_SESS_TMO : Fld := ⟨0x60004, 31, 24⟩
def F_HEADRACE_CFG_MIRROR_TMO : Fld := ⟨0x60004, 23, 16⟩
def HEADRACE_STAT : Nat := 0x60008
def F_HEADRACE_STAT_RESTARTING : Fld := ⟨0x60008, 9, 9⟩
def F_HEADRACE_STAT_MIRRORING : Fld := ⟨0x60008, 8, 8⟩
def F_HEADRACE_STAT_SESS_EXPIRED_S : Fld := ⟨0x60008, 7, 7⟩
def F_HEADRACE_STAT_URGENT_DROP_S : Fld := ⟨0x60008, 6, 6⟩
def F_HEADRACE_STAT_MIRROR_TMO_S : Fld := ⟨0x60008, 5, 5⟩
def F_HEADRACE_STAT_JOURNAL_FULL_S : Fld := ⟨0x60008, 4, 4⟩
def F_HEADRACE_STAT_RX_DISCARD_S : Fld := ⟨0x60008, 3, 3⟩
def F_HEADRACE_STAT_NAK_S : Fld := ⟨0x60008, 2, 2⟩
def F_HEADRACE_STAT_REPLAY_S : Fld := ⟨0x60008, 1, 1⟩
def F_HEADRACE_STAT_JOURNAL_LOST_S : Fld := ⟨0x60008, 0, 0⟩
def HEADRACE_IE : Nat := 0x6000c
def F_HEADRACE_IE_SESS_EXPIRED_IE : Fld := ⟨0x6000c, 7, 7⟩
def F_HEADRACE_IE_URGENT_DROP_IE : Fld := ⟨0x6000c, 6, 6⟩
def F_HEADRACE_IE_MIRROR_TMO_IE : Fld := ⟨0x6000c, 5, 5⟩
def F_HEADRACE_IE_JOURNAL_FULL_IE : Fld := ⟨0x6000c, 4, 4⟩
def F_HEADRACE_IE_RX_DISCARD_IE : Fld := ⟨0x6000c, 3, 3⟩
def F_HEADRACE_IE_NAK_IE : Fld := ⟨0x6000c, 2, 2⟩
def F_HEADRACE_IE_REPLAY_IE : Fld := ⟨0x6000c, 1, 1⟩
def F_HEADRACE_IE_JOURNAL_LOST_IE : Fld := ⟨0x6000c, 0, 0⟩
def HEADRACE_JHEAD_LO : Nat := 0x60010
def F_HEADRACE_JHEAD_LO_JPOS : Fld := ⟨0x60010, 31, 0⟩
def HEADRACE_JHEAD_HI : Nat := 0x60014
def F_HEADRACE_JHEAD_HI_JPOS : Fld := ⟨0x60014, 15, 0⟩
def HEADRACE_JAPPLIED_LO : Nat := 0x60018
def F_HEADRACE_JAPPLIED_LO_JPOS : Fld := ⟨0x60018, 31, 0⟩
def HEADRACE_JAPPLIED_HI : Nat := 0x6001c
def F_HEADRACE_JAPPLIED_HI_JPOS : Fld := ⟨0x6001c, 15, 0⟩
def HEADRACE_JFREE : Nat := 0x60020
def F_HEADRACE_JFREE_FREE : Fld := ⟨0x60020, 16, 0⟩
def HEADRACE_REPLAY : Nat := 0x60024
def F_HEADRACE_REPLAY_COMMANDS : Fld := ⟨0x60024, 16, 0⟩
def HEADRACE_SESS_LO : Nat := 0x60028
def F_HEADRACE_SESS_LO_OPEN : Fld := ⟨0x60028, 31, 0⟩
def HEADRACE_SESS_HI : Nat := 0x6002c
def F_HEADRACE_SESS_HI_OPEN : Fld := ⟨0x6002c, 31, 0⟩
def HEADRACE_ACCEPT_CNT : Nat := 0x60030
def F_HEADRACE_ACCEPT_CNT_ACCEPT_CNT : Fld := ⟨0x60030, 31, 0⟩
def HEADRACE_NAK_CNT : Nat := 0x60034
def F_HEADRACE_NAK_CNT_NAK_CNT : Fld := ⟨0x60034, 31, 0⟩
def HEADRACE_RX_SUMP_CNT : Nat := 0x60038
def F_HEADRACE_RX_SUMP_CNT_RX_SUMP_CNT : Fld := ⟨0x60038, 31, 0⟩
def HEADRACE_EVT_SUMP_CNT : Nat := 0x6003c
def F_HEADRACE_EVT_SUMP_CNT_EVT_SUMP_CNT : Fld := ⟨0x6003c, 31, 0⟩
def HEADRACE_URGENT_SUMP_CNT : Nat := 0x60040
def F_HEADRACE_URGENT_SUMP_CNT_URGENT_SUMP_CNT : Fld := ⟨0x60040, 31, 0⟩
def HEADRACE_LAST_NAK : Nat := 0x60044
def F_HEADRACE_LAST_NAK_CODE : Fld := ⟨0x60044, 31, 16⟩
def F_HEADRACE_LAST_NAK_SESSION : Fld := ⟨0x60044, 5, 0⟩
def HEADRACE_URGENT_LAST : Nat := 0x60048
def F_HEADRACE_URGENT_LAST_CYCLES : Fld := ⟨0x60048, 15, 0⟩
def HEADRACE_METER : Nat := 0x6004c
def F_HEADRACE_METER_SUBS : Fld := ⟨0x6004c, 4, 0⟩
def RSV_STAT : Nat := 0x80000
def F_RSV_STAT_MBIST_REJ_S : Fld := ⟨0x80000, 7, 7⟩
def F_RSV_STAT_MBIST_DONE_S : Fld := ⟨0x80000, 6, 6⟩
def F_RSV_STAT_HANDOVER_REJ_S : Fld := ⟨0x80000, 5, 5⟩
def F_RSV_STAT_HANDOVER_DONE_S : Fld := ⟨0x80000, 4, 4⟩
def F_RSV_STAT_OWN_S : Fld := ⟨0x80000, 3, 3⟩
def F_RSV_STAT_COLLIDE_S : Fld := ⟨0x80000, 2, 2⟩
def F_RSV_STAT_UECC_S : Fld := ⟨0x80000, 1, 1⟩
def F_RSV_STAT_CECC_S : Fld := ⟨0x80000, 0, 0⟩
def RSV_IE : Nat := 0x80004
def F_RSV_IE_MBIST_REJ_IE : Fld := ⟨0x80004, 7, 7⟩
def F_RSV_IE_MBIST_DONE_IE : Fld := ⟨0x80004, 6, 6⟩
def F_RSV_IE_HANDOVER_REJ_IE : Fld := ⟨0x80004, 5, 5⟩
def F_RSV_IE_HANDOVER_DONE_IE : Fld := ⟨0x80004, 4, 4⟩
def F_RSV_IE_OWN_IE : Fld := ⟨0x80004, 3, 3⟩
def F_RSV_IE_COLLIDE_IE : Fld := ⟨0x80004, 2, 2⟩
def F_RSV_IE_UECC_IE : Fld := ⟨0x80004, 1, 1⟩
def F_RSV_IE_CECC_IE : Fld := ⟨0x80004, 0, 0⟩
def RSV_HANDOVER : Nat := 0x80008
def F_RSV_HANDOVER_BUSY : Fld := ⟨0x80008, 31, 31⟩
def F_RSV_HANDOVER_OWNER : Fld := ⟨0x80008, 11, 8⟩
def F_RSV_HANDOVER_BANK : Fld := ⟨0x80008, 7, 0⟩
def RSV_ECC_CNT : Nat := 0x8000c
def F_RSV_ECC_CNT_ECC_CNT : Fld := ⟨0x8000c, 31, 0⟩
def RSV_UECC_CNT : Nat := 0x80010
def F_RSV_UECC_CNT_UECC_CNT : Fld := ⟨0x80010, 31, 0⟩
def RSV_ECC_LAST : Nat := 0x80014
def F_RSV_ECC_LAST_UNCORR : Fld := ⟨0x80014, 31, 31⟩
def F_RSV_ECC_LAST_SCRUB : Fld := ⟨0x80014, 30, 30⟩
def F_RSV_ECC_LAST_BANK : Fld := ⟨0x80014, 23, 16⟩
def F_RSV_ECC_LAST_WORD : Fld := ⟨0x80014, 15, 0⟩
def RSV_COLLIDE_SUMP_CNT : Nat := 0x80018
def F_RSV_COLLIDE_SUMP_CNT_COLLIDE_SUMP_CNT : Fld := ⟨0x80018, 31, 0⟩
def RSV_OWN_SUMP_CNT : Nat := 0x8001c
def F_RSV_OWN_SUMP_CNT_OWN_SUMP_CNT : Fld := ⟨0x8001c, 31, 0⟩
def RSV_OWN_LAST : Nat := 0x80020
def F_RSV_OWN_LAST_BANK : Fld := ⟨0x80020, 23, 16⟩
def F_RSV_OWN_LAST_PORT_B : Fld := ⟨0x80020, 15, 15⟩
def F_RSV_OWN_LAST_WRITE : Fld := ⟨0x80020, 14, 14⟩
def F_RSV_OWN_LAST_MASTER : Fld := ⟨0x80020, 4, 0⟩
def RSV_ABORT : Nat := 0x80024
def F_RSV_ABORT_ABORT_S : Fld := ⟨0x80024, 9, 1⟩
def RSV_SCRUB_CTL : Nat := 0x80028
def F_RSV_SCRUB_CTL_EN : Fld := ⟨0x80028, 31, 31⟩
def F_RSV_SCRUB_CTL_INTERVAL : Fld := ⟨0x80028, 15, 0⟩
def RSV_SCRUB_SUMP_CNT : Nat := 0x8002c
def F_RSV_SCRUB_SUMP_CNT_SCRUB_SUMP_CNT : Fld := ⟨0x8002c, 31, 0⟩
def RSV_MBIST_CTL : Nat := 0x80030
def F_RSV_MBIST_CTL_GO : Fld := ⟨0x80030, 31, 31⟩
def F_RSV_MBIST_CTL_TARGET : Fld := ⟨0x80030, 29, 28⟩
def F_RSV_MBIST_CTL_ALG : Fld := ⟨0x80030, 24, 24⟩
def F_RSV_MBIST_CTL_CORE : Fld := ⟨0x80030, 13, 8⟩
def F_RSV_MBIST_CTL_BANK : Fld := ⟨0x80030, 7, 0⟩
def RSV_MBIST_STAT : Nat := 0x80034
def F_RSV_MBIST_STAT_BUSY : Fld := ⟨0x80034, 31, 31⟩
def F_RSV_MBIST_STAT_RESULT : Fld := ⟨0x80034, 17, 16⟩
def F_RSV_MBIST_STAT_SPARES : Fld := ⟨0x80034, 7, 0⟩
def RSV_REPAIR : Nat := 0x80038
def F_RSV_REPAIR_COLS : Fld := ⟨0x80038, 31, 16⟩
def F_RSV_REPAIR_ROWS : Fld := ⟨0x80038, 15, 0⟩
def RSV_OWN (i : Nat) : Nat := (0x80100 + 0x4 * i)
def F_RSV_OWN_OWNER (i : Nat) : Fld := ⟨(0x80100 + 0x4 * i), 31, 0⟩
def RSV_RETAIN (i : Nat) : Nat := (0x80200 + 0x4 * i)
def F_RSV_RETAIN_RETAIN (i : Nat) : Fld := ⟨(0x80200 + 0x4 * i), 31, 0⟩
def RSV_FAIL (i : Nat) : Nat := (0x80220 + 0x4 * i)
def F_RSV_FAIL_FAIL (i : Nat) : Fld := ⟨(0x80220 + 0x4 * i), 31, 0⟩
def XBAR_STAT : Nat := 0x70000
def F_XBAR_STAT_SCR_ABORT_S : Fld := ⟨0x70000, 2, 2⟩
def F_XBAR_STAT_LOCK_REFUSE_S : Fld := ⟨0x70000, 1, 1⟩
def F_XBAR_STAT_REFUSE_S : Fld := ⟨0x70000, 0, 0⟩
def XBAR_IE : Nat := 0x70004
def F_XBAR_IE_SCR_ABORT_IE : Fld := ⟨0x70004, 2, 2⟩
def F_XBAR_IE_LOCK_REFUSE_IE : Fld := ⟨0x70004, 1, 1⟩
def F_XBAR_IE_REFUSE_IE : Fld := ⟨0x70004, 0, 0⟩
def XBAR_REFUSE_SUMP_CNT : Nat := 0x70008
def F_XBAR_REFUSE_SUMP_CNT_REFUSE_SUMP_CNT : Fld := ⟨0x70008, 31, 0⟩
def XBAR_REFUSE_LAST : Nat := 0x7000c
def F_XBAR_REFUSE_LAST_TARGET : Fld := ⟨0x7000c, 15, 8⟩
def F_XBAR_REFUSE_LAST_WRITE : Fld := ⟨0x7000c, 7, 7⟩
def F_XBAR_REFUSE_LAST_MASTER : Fld := ⟨0x7000c, 4, 0⟩
def XBAR_LOCKED : Nat := 0x70010
def F_XBAR_LOCKED_AON : Fld := ⟨0x70010, 10, 10⟩
def F_XBAR_LOCKED_RSV : Fld := ⟨0x70010, 9, 0⟩
def XBAR_ABORT_LAST : Nat := 0x70014
def F_XBAR_ABORT_LAST_TARGET : Fld := ⟨0x70014, 15, 8⟩
def F_XBAR_ABORT_LAST_BEATS : Fld := ⟨0x70014, 7, 5⟩
def F_XBAR_ABORT_LAST_MASTER : Fld := ⟨0x70014, 4, 0⟩
def XBAR_ABORT_CNT : Nat := 0x70018
def F_XBAR_ABORT_CNT_ABORT_CNT : Fld := ⟨0x70018, 31, 0⟩
def RCU_CTL : Nat := 0x10000
def F_RCU_CTL_CONCORD : Fld := ⟨0x10000, 23, 16⟩
def F_RCU_CTL_NARROW_BW : Fld := ⟨0x10000, 10, 8⟩
def F_RCU_CTL_HOLD : Fld := ⟨0x10000, 2, 2⟩
def F_RCU_CTL_REVERT : Fld := ⟨0x10000, 1, 1⟩
def F_RCU_CTL_FAMILY : Fld := ⟨0x10000, 0, 0⟩
def RCU_STAT : Nat := 0x10004
def F_RCU_STAT_CLAMP : Fld := ⟨0x10004, 13, 13⟩
def F_RCU_STAT_RELOCKING : Fld := ⟨0x10004, 12, 12⟩
def F_RCU_STAT_FAMILY : Fld := ⟨0x10004, 11, 11⟩
def F_RCU_STAT_HOLD_READY : Fld := ⟨0x10004, 10, 10⟩
def F_RCU_STAT_DISCORD : Fld := ⟨0x10004, 9, 9⟩
def F_RCU_STAT_SWITCH_BUSY : Fld := ⟨0x10004, 8, 8⟩
def F_RCU_STAT_SEL : Fld := ⟨0x10004, 7, 4⟩
def F_RCU_STAT_DPLL : Fld := ⟨0x10004, 2, 0⟩
def RCU_HIST : Nat := 0x10008
def F_RCU_HIST_RELOCK_DONE_S : Fld := ⟨0x10008, 11, 11⟩
def F_RCU_HIST_XO_LOSS_S : Fld := ⟨0x10008, 10, 10⟩
def F_RCU_HIST_FAMILY_REJ_S : Fld := ⟨0x10008, 9, 9⟩
def F_RCU_HIST_CLAMP_S : Fld := ⟨0x10008, 8, 8⟩
def F_RCU_HIST_INPUT_S : Fld := ⟨0x10008, 7, 7⟩
def F_RCU_HIST_DISCORD_S : Fld := ⟨0x10008, 6, 6⟩
def F_RCU_HIST_SEL_CHG_S : Fld := ⟨0x10008, 5, 5⟩
def F_RCU_HIST_SWITCHING_S : Fld := ⟨0x10008, 4, 4⟩
def F_RCU_HIST_HOLDOVER_S : Fld := ⟨0x10008, 3, 3⟩
def F_RCU_HIST_LOCKED_S : Fld := ⟨0x10008, 2, 2⟩
def F_RCU_HIST_ACQUIRE_S : Fld := ⟨0x10008, 1, 1⟩
def F_RCU_HIST_FREERUN_S : Fld := ⟨0x10008, 0, 0⟩
def RCU_IE : Nat := 0x1000c
def F_RCU_IE_HIST_IE : Fld := ⟨0x1000c, 11, 0⟩
def RCU_DPLL_CFG : Nat := 0x10010
def F_RCU_DPLL_CFG_LOCK_THR : Fld := ⟨0x10010, 15, 0⟩
def RCU_WTR : Nat := 0x10014
def F_RCU_WTR_WTR : Fld := ⟨0x10014, 15, 0⟩
def RCU_FOFF : Nat := 0x10018
def F_RCU_FOFF_FOFF : Fld := ⟨0x10018, 31, 0⟩
def RCU_HOLD_FOFF : Nat := 0x1001c
def F_RCU_HOLD_FOFF_FOFF : Fld := ⟨0x1001c, 31, 0⟩
def RCU_HOLD_HIST : Nat := 0x10020
def F_RCU_HOLD_HIST_SAMPLES : Fld := ⟨0x10020, 9, 0⟩
def RCU_PHASE_ERR : Nat := 0x10024
def F_RCU_PHASE_ERR_ERR : Fld := ⟨0x10024, 31, 0⟩
def RCU_SWITCH_IDX_LO : Nat := 0x10028
def F_RCU_SWITCH_IDX_LO_IDX : Fld := ⟨0x10028, 31, 0⟩
def RCU_SWITCH_IDX_HI : Nat := 0x1002c
def F_RCU_SWITCH_IDX_HI_IDX : Fld := ⟨0x1002c, 31, 0⟩
def RCU_SWITCH_STEP : Nat := 0x10030
def F_RCU_SWITCH_STEP_STEP : Fld := ⟨0x10030, 31, 0⟩
def RCU_SWITCH_INFO : Nat := 0x10034
def F_RCU_SWITCH_INFO_CAUSE : Fld := ⟨0x10034, 11, 8⟩
def F_RCU_SWITCH_INFO_FROM : Fld := ⟨0x10034, 7, 4⟩
def F_RCU_SWITCH_INFO_TO : Fld := ⟨0x10034, 3, 0⟩
def RCU_PTP_ERR : Nat := 0x10038
def F_RCU_PTP_ERR_ERR : Fld := ⟨0x10038, 31, 0⟩
def RCU_SWITCH_CNT : Nat := 0x1003c
def F_RCU_SWITCH_CNT_SWITCH_CNT : Fld := ⟨0x1003c, 31, 0⟩
def RCU_IN_CFG (i : Nat) : Nat := (0x10100 + 0x20 * i)
def F_RCU_IN_CFG_EN (i : Nat) : Fld := ⟨(0x10100 + 0x20 * i), 31, 31⟩
def F_RCU_IN_CFG_EDGE (i : Nat) : Fld := ⟨(0x10100 + 0x20 * i), 30, 30⟩
def F_RCU_IN_CFG_PRIO (i : Nat) : Fld := ⟨(0x10100 + 0x20 * i), 27, 24⟩
def F_RCU_IN_CFG_NOM_HZ (i : Nat) : Fld := ⟨(0x10100 + 0x20 * i), 16, 0⟩
def RCU_IN_QUAL (i : Nat) : Nat := (0x10104 + 0x20 * i)
def F_RCU_IN_QUAL_QTIME (i : Nat) : Fld := ⟨(0x10104 + 0x20 * i), 31, 16⟩
def F_RCU_IN_QUAL_WINDOW (i : Nat) : Fld := ⟨(0x10104 + 0x20 * i), 15, 0⟩
def RCU_IN_HIT (i : Nat) : Nat := (0x10108 + 0x20 * i)
def F_RCU_IN_HIT_HIT_N (i : Nat) : Fld := ⟨(0x10108 + 0x20 * i), 31, 24⟩
def F_RCU_IN_HIT_HIT_WIN (i : Nat) : Fld := ⟨(0x10108 + 0x20 * i), 23, 16⟩
def F_RCU_IN_HIT_HIT_THR (i : Nat) : Fld := ⟨(0x10108 + 0x20 * i), 15, 0⟩
def RCU_IN_STAT (i : Nat) : Nat := (0x1010c + 0x20 * i)
def F_RCU_IN_STAT_STATE (i : Nat) : Fld := ⟨(0x1010c + 0x20 * i), 31, 30⟩
def F_RCU_IN_STAT_PRESENT (i : Nat) : Fld := ⟨(0x1010c + 0x20 * i), 29, 29⟩
def F_RCU_IN_STAT_NOM_BAD (i : Nat) : Fld := ⟨(0x1010c + 0x20 * i), 28, 28⟩
def F_RCU_IN_STAT_LAST_DISQ (i : Nat) : Fld := ⟨(0x1010c + 0x20 * i), 19, 16⟩
def F_RCU_IN_STAT_QUAL_LEFT (i : Nat) : Fld := ⟨(0x1010c + 0x20 * i), 15, 0⟩
def RCU_IN_FOFF (i : Nat) : Nat := (0x10110 + 0x20 * i)
def F_RCU_IN_FOFF_FOFF (i : Nat) : Fld := ⟨(0x10110 + 0x20 * i), 31, 0⟩
def RCU_IN_HIT_CNT (i : Nat) : Nat := (0x10114 + 0x20 * i)
def F_RCU_IN_HIT_CNT_HIT_CNT (i : Nat) : Fld := ⟨(0x10114 + 0x20 * i), 31, 0⟩
def RCU_IN_LOSS_CNT (i : Nat) : Nat := (0x10118 + 0x20 * i)
def F_RCU_IN_LOSS_CNT_LOSS_CNT (i : Nat) : Fld := ⟨(0x10118 + 0x20 * i), 31, 0⟩
def RCU_IN_HIST (i : Nat) : Nat := (0x1011c + 0x20 * i)
def F_RCU_IN_HIST_WINDOW_S (i : Nat) : Fld := ⟨(0x1011c + 0x20 * i), 4, 4⟩
def F_RCU_IN_HIST_HIT_S (i : Nat) : Fld := ⟨(0x1011c + 0x20 * i), 3, 3⟩
def F_RCU_IN_HIST_LOSS_S (i : Nat) : Fld := ⟨(0x1011c + 0x20 * i), 2, 2⟩
def F_RCU_IN_HIST_DISQ_S (i : Nat) : Fld := ⟨(0x1011c + 0x20 * i), 1, 1⟩
def F_RCU_IN_HIST_VALID_S (i : Nat) : Fld := ⟨(0x1011c + 0x20 * i), 0, 0⟩
def RCU_WCK_CFG (i : Nat) : Nat := (0x10200 + 0x10 * i)
def F_RCU_WCK_CFG_EN (i : Nat) : Fld := ⟨(0x10200 + 0x10 * i), 31, 31⟩
def F_RCU_WCK_CFG_POL (i : Nat) : Fld := ⟨(0x10200 + 0x10 * i), 30, 30⟩
def F_RCU_WCK_CFG_ALIGN (i : Nat) : Fld := ⟨(0x10200 + 0x10 * i), 27, 24⟩
def F_RCU_WCK_CFG_NOM_HZ (i : Nat) : Fld := ⟨(0x10200 + 0x10 * i), 16, 0⟩
def RCU_WCK_OFFSET (i : Nat) : Nat := (0x10204 + 0x10 * i)
def F_RCU_WCK_OFFSET_OFFSET (i : Nat) : Fld := ⟨(0x10204 + 0x10 * i), 31, 0⟩
def RCU_WCK_STAT (i : Nat) : Nat := (0x10208 + 0x10 * i)
def F_RCU_WCK_STAT_ALIGNED (i : Nat) : Fld := ⟨(0x10208 + 0x10 * i), 31, 31⟩
def F_RCU_WCK_STAT_CLAMPED (i : Nat) : Fld := ⟨(0x10208 + 0x10 * i), 30, 30⟩
def F_RCU_WCK_STAT_NOM_BAD (i : Nat) : Fld := ⟨(0x10208 + 0x10 * i), 29, 29⟩
def F_RCU_WCK_STAT_DRIFT (i : Nat) : Fld := ⟨(0x10208 + 0x10 * i), 23, 0⟩
def SYS_CLK_ALIVE : Nat := 0x40
def F_SYS_CLK_ALIVE_NRX_SIRLOS : Fld := ⟨0x40, 22, 21⟩
def F_SYS_CLK_ALIVE_NRX_MGMT : Fld := ⟨0x40, 20, 20⟩
def F_SYS_CLK_ALIVE_NRX_MAC : Fld := ⟨0x40, 19, 16⟩
def F_SYS_CLK_ALIVE_NTX_SIRLOS : Fld := ⟨0x40, 12, 12⟩
def F_SYS_CLK_ALIVE_NTX_MAC : Fld := ⟨0x40, 11, 8⟩
def F_SYS_CLK_ALIVE_XO : Fld := ⟨0x40, 7, 7⟩
def F_SYS_CLK_ALIVE_MGT : Fld := ⟨0x40, 6, 6⟩
def F_SYS_CLK_ALIVE_AUD : Fld := ⟨0x40, 4, 4⟩
def F_SYS_CLK_ALIVE_PER : Fld := ⟨0x40, 3, 3⟩
def F_SYS_CLK_ALIVE_CTL : Fld := ⟨0x40, 2, 2⟩
def F_SYS_CLK_ALIVE_FAB : Fld := ⟨0x40, 1, 1⟩
def F_SYS_CLK_ALIVE_DSP : Fld := ⟨0x40, 0, 0⟩
def SYS_BCLK_ALIVE : Nat := 0x44
def F_SYS_BCLK_ALIVE_BCLK : Fld := ⟨0x44, 31, 0⟩
def SYS_CDC_STAT : Nat := 0x48
def F_SYS_CDC_STAT_CDC_LOST_S : Fld := ⟨0x48, 31, 31⟩
def F_SYS_CDC_STAT_DOMAIN : Fld := ⟨0x48, 3, 0⟩
def RST_CTL : Nat := 0x20000
def F_RST_CTL_WARM : Fld := ⟨0x20000, 0, 0⟩
def RST_CAUSE : Nat := 0x20004
def F_RST_CAUSE_LAST : Fld := ⟨0x20004, 3, 0⟩
def RST_STAT : Nat := 0x20008
def F_RST_STAT_HOST_REJ_S : Fld := ⟨0x20008, 2, 2⟩
def F_RST_STAT_FATAL_S : Fld := ⟨0x20008, 1, 1⟩
def F_RST_STAT_WDT_S : Fld := ⟨0x20008, 0, 0⟩
def RST_IE : Nat := 0x2000c
def F_RST_IE_CDC_IE : Fld := ⟨0x2000c, 3, 3⟩
def F_RST_IE_HOST_REJ_IE : Fld := ⟨0x2000c, 2, 2⟩
def F_RST_IE_FATAL_IE : Fld := ⟨0x2000c, 1, 1⟩
def F_RST_IE_WDT_IE : Fld := ⟨0x2000c, 0, 0⟩
def RST_CFG : Nat := 0x20010
def F_RST_CFG_FATAL_RST : Fld := ⟨0x20010, 31, 31⟩
def F_RST_CFG_FATAL_DLY : Fld := ⟨0x20010, 23, 16⟩
def F_RST_CFG_WDT_TMO : Fld := ⟨0x20010, 7, 0⟩
def RST_WDT_KICK : Nat := 0x20014
def F_RST_WDT_KICK_KICK : Fld := ⟨0x20014, 31, 0⟩
def RST_WDT_LEFT : Nat := 0x20018
def F_RST_WDT_LEFT_EN : Fld := ⟨0x20018, 31, 31⟩
def F_RST_WDT_LEFT_LEFT : Fld := ⟨0x20018, 19, 0⟩
def RST_DOM : Nat := 0x2001c
def F_RST_DOM_PDM : Fld := ⟨0x2001c, 9, 9⟩
def F_RST_DOM_ASRC : Fld := ⟨0x2001c, 8, 8⟩
def F_RST_DOM_SPORT : Fld := ⟨0x2001c, 7, 7⟩
def F_RST_DOM_STREAM : Fld := ⟨0x2001c, 6, 6⟩
def F_RST_DOM_SIRLOS : Fld := ⟨0x2001c, 5, 5⟩
def F_RST_DOM_MAC_MGMT : Fld := ⟨0x2001c, 4, 4⟩
def F_RST_DOM_MAC : Fld := ⟨0x2001c, 3, 0⟩
def RST_FATAL : Nat := 0x20020
def F_RST_FATAL_XO_S : Fld := ⟨0x20020, 3, 3⟩
def F_RST_FATAL_STUCK_S : Fld := ⟨0x20020, 2, 2⟩
def F_RST_FATAL_AON_UECC_S : Fld := ⟨0x20020, 1, 1⟩
def F_RST_FATAL_RSV_UECC_S : Fld := ⟨0x20020, 0, 0⟩
def RST_WARM_CNT : Nat := 0x20024
def F_RST_WARM_CNT_WARM_CNT : Fld := ⟨0x20024, 31, 0⟩
def RST_IRQ_STAT : Nat := 0x20030
def F_RST_IRQ_STAT_BLOCK : Fld := ⟨0x20030, 26, 0⟩
def RST_IRQ_EN : Nat := 0x20034
def F_RST_IRQ_EN_BLOCK : Fld := ⟨0x20034, 26, 0⟩

end Sys2Proof.Machine.R
end

