-- ==== Sys2Proof/Machine/RegNamesB.lean ====
section
/-! DEFINITION. Names of the CSR registers and fields, part B: `R.NAME` is the offset of register NAME (of instance `i` of a
per-instance register), `R.F_NAME_FIELD` its field FIELD. Offsets and bit ranges are those of the register tables of spec/. -/
namespace Sys2Proof.Machine.R

def MAC_CTL (i : Nat) : Nat := (0x90000 + 0x10000 * i)
def F_MAC_CTL_ONESTEP (i : Nat) : Fld := ⟨(0x90000 + 0x10000 * i), 6, 6⟩
def F_MAC_CTL_PAUSE_EN (i : Nat) : Fld := ⟨(0x90000 + 0x10000 * i), 5, 5⟩
def F_MAC_CTL_CUT (i : Nat) : Fld := ⟨(0x90000 + 0x10000 * i), 4, 4⟩
def F_MAC_CTL_FEC (i : Nat) : Fld := ⟨(0x90000 + 0x10000 * i), 3, 3⟩
def F_MAC_CTL_SPEED (i : Nat) : Fld := ⟨(0x90000 + 0x10000 * i), 1, 1⟩
def F_MAC_CTL_EN (i : Nat) : Fld := ⟨(0x90000 + 0x10000 * i), 0, 0⟩
def MAC_STAT (i : Nat) : Nat := (0x90004 + 0x10000 * i)
def F_MAC_STAT_SGMII_SPEED (i : Nat) : Fld := ⟨(0x90004 + 0x10000 * i), 5, 4⟩
def F_MAC_STAT_AN_DONE (i : Nat) : Fld := ⟨(0x90004 + 0x10000 * i), 3, 3⟩
def F_MAC_STAT_HI_BER (i : Nat) : Fld := ⟨(0x90004 + 0x10000 * i), 2, 2⟩
def F_MAC_STAT_BLOCK_LOCK (i : Nat) : Fld := ⟨(0x90004 + 0x10000 * i), 1, 1⟩
def F_MAC_STAT_LINK (i : Nat) : Fld := ⟨(0x90004 + 0x10000 * i), 0, 0⟩
def MAC_HIST (i : Nat) : Nat := (0x90008 + 0x10000 * i)
def F_MAC_HIST_SEG_REJ_S (i : Nat) : Fld := ⟨(0x90008 + 0x10000 * i), 9, 9⟩
def F_MAC_HIST_PAUSE_RX_S (i : Nat) : Fld := ⟨(0x90008 + 0x10000 * i), 8, 8⟩
def F_MAC_HIST_RXBUF_S (i : Nat) : Fld := ⟨(0x90008 + 0x10000 * i), 7, 7⟩
def F_MAC_HIST_FCS_S (i : Nat) : Fld := ⟨(0x90008 + 0x10000 * i), 6, 6⟩
def F_MAC_HIST_RUNT_S (i : Nat) : Fld := ⟨(0x90008 + 0x10000 * i), 5, 5⟩
def F_MAC_HIST_OVERSIZE_S (i : Nat) : Fld := ⟨(0x90008 + 0x10000 * i), 4, 4⟩
def F_MAC_HIST_UNDERRUN_S (i : Nat) : Fld := ⟨(0x90008 + 0x10000 * i), 3, 3⟩
def F_MAC_HIST_TSQ_OVF_S (i : Nat) : Fld := ⟨(0x90008 + 0x10000 * i), 2, 2⟩
def F_MAC_HIST_LINK_UP_S (i : Nat) : Fld := ⟨(0x90008 + 0x10000 * i), 1, 1⟩
def F_MAC_HIST_LINK_DOWN_S (i : Nat) : Fld := ⟨(0x90008 + 0x10000 * i), 0, 0⟩
def MAC_IE (i : Nat) : Nat := (0x9000c + 0x10000 * i)
def F_MAC_IE_HIST_IE (i : Nat) : Fld := ⟨(0x9000c + 0x10000 * i), 9, 0⟩
def MAC_MAXFRM (i : Nat) : Nat := (0x90010 + 0x10000 * i)
def F_MAC_MAXFRM_MAXFRM (i : Nat) : Fld := ⟨(0x90010 + 0x10000 * i), 13, 0⟩
def MAC_ADDR_LO (i : Nat) : Nat := (0x90014 + 0x10000 * i)
def F_MAC_ADDR_LO_ADDR (i : Nat) : Fld := ⟨(0x90014 + 0x10000 * i), 31, 0⟩
def MAC_ADDR_HI (i : Nat) : Nat := (0x90018 + 0x10000 * i)
def F_MAC_ADDR_HI_ADDR (i : Nat) : Fld := ⟨(0x90018 + 0x10000 * i), 15, 0⟩
def MAC_IPV4 (i : Nat) : Nat := (0x9001c + 0x10000 * i)
def F_MAC_IPV4_ADDR (i : Nat) : Fld := ⟨(0x9001c + 0x10000 * i), 31, 0⟩
def MAC_CT_THR (i : Nat) : Nat := (0x90020 + 0x10000 * i)
def F_MAC_CT_THR_THR (i : Nat) : Fld := ⟨(0x90020 + 0x10000 * i), 31, 16⟩
def F_MAC_CT_THR_INIT (i : Nat) : Fld := ⟨(0x90020 + 0x10000 * i), 13, 0⟩
def MAC_TS_ADJ (i : Nat) : Nat := (0x90024 + 0x10000 * i)
def F_MAC_TS_ADJ_TX (i : Nat) : Fld := ⟨(0x90024 + 0x10000 * i), 31, 16⟩
def F_MAC_TS_ADJ_RX (i : Nat) : Fld := ⟨(0x90024 + 0x10000 * i), 15, 0⟩
def MAC_TSQ_STAT (i : Nat) : Nat := (0x90028 + 0x10000 * i)
def F_MAC_TSQ_STAT_VALID (i : Nat) : Fld := ⟨(0x90028 + 0x10000 * i), 31, 31⟩
def F_MAC_TSQ_STAT_COUNT (i : Nat) : Fld := ⟨(0x90028 + 0x10000 * i), 6, 0⟩
def MAC_TSQ_SEC_LO (i : Nat) : Nat := (0x9002c + 0x10000 * i)
def F_MAC_TSQ_SEC_LO_SEC (i : Nat) : Fld := ⟨(0x9002c + 0x10000 * i), 31, 0⟩
def MAC_TSQ_SEC_HI (i : Nat) : Nat := (0x90030 + 0x10000 * i)
def F_MAC_TSQ_SEC_HI_TAG (i : Nat) : Fld := ⟨(0x90030 + 0x10000 * i), 31, 16⟩
def F_MAC_TSQ_SEC_HI_SEC (i : Nat) : Fld := ⟨(0x90030 + 0x10000 * i), 15, 0⟩
def MAC_TSQ_NS (i : Nat) : Nat := (0x90034 + 0x10000 * i)
def F_MAC_TSQ_NS_NS (i : Nat) : Fld := ⟨(0x90034 + 0x10000 * i), 29, 0⟩
def MAC_RX_FRAMES_CNT (i : Nat) : Nat := (0x90040 + 0x10000 * i)
def F_MAC_RX_FRAMES_CNT_CNT (i : Nat) : Fld := ⟨(0x90040 + 0x10000 * i), 31, 0⟩
def MAC_TX_FRAMES_CNT (i : Nat) : Nat := (0x90044 + 0x10000 * i)
def F_MAC_TX_FRAMES_CNT_CNT (i : Nat) : Fld := ⟨(0x90044 + 0x10000 * i), 31, 0⟩
def MAC_RUNT_SUMP_CNT (i : Nat) : Nat := (0x90048 + 0x10000 * i)
def F_MAC_RUNT_SUMP_CNT_CNT (i : Nat) : Fld := ⟨(0x90048 + 0x10000 * i), 31, 0⟩
def MAC_FCS_SUMP_CNT (i : Nat) : Nat := (0x9004c + 0x10000 * i)
def F_MAC_FCS_SUMP_CNT_CNT (i : Nat) : Fld := ⟨(0x9004c + 0x10000 * i), 31, 0⟩
def MAC_OVERSIZE_CNT (i : Nat) : Nat := (0x90050 + 0x10000 * i)
def F_MAC_OVERSIZE_CNT_CNT (i : Nat) : Fld := ⟨(0x90050 + 0x10000 * i), 31, 0⟩
def MAC_PRIV_SUMP_CNT (i : Nat) : Nat := (0x90054 + 0x10000 * i)
def F_MAC_PRIV_SUMP_CNT_CNT (i : Nat) : Fld := ⟨(0x90054 + 0x10000 * i), 31, 0⟩
def MAC_FILTER_SUMP_CNT (i : Nat) : Nat := (0x90058 + 0x10000 * i)
def F_MAC_FILTER_SUMP_CNT_CNT (i : Nat) : Fld := ⟨(0x90058 + 0x10000 * i), 31, 0⟩
def MAC_CSUM_SUMP_CNT (i : Nat) : Nat := (0x9005c + 0x10000 * i)
def F_MAC_CSUM_SUMP_CNT_CNT (i : Nat) : Fld := ⟨(0x9005c + 0x10000 * i), 31, 0⟩
def MAC_RXBUF_SUMP_CNT (i : Nat) : Nat := (0x90060 + 0x10000 * i)
def F_MAC_RXBUF_SUMP_CNT_CNT (i : Nat) : Fld := ⟨(0x90060 + 0x10000 * i), 31, 0⟩
def MAC_TSQ_SUMP_CNT (i : Nat) : Nat := (0x90064 + 0x10000 * i)
def F_MAC_TSQ_SUMP_CNT_CNT (i : Nat) : Fld := ⟨(0x90064 + 0x10000 * i), 31, 0⟩
def MAC_UNDERRUN_SUMP_CNT (i : Nat) : Nat := (0x90068 + 0x10000 * i)
def F_MAC_UNDERRUN_SUMP_CNT_CNT (i : Nat) : Fld := ⟨(0x90068 + 0x10000 * i), 31, 0⟩
def MAC_FEC_CORR_CNT (i : Nat) : Nat := (0x9006c + 0x10000 * i)
def F_MAC_FEC_CORR_CNT_CNT (i : Nat) : Fld := ⟨(0x9006c + 0x10000 * i), 31, 0⟩
def MAC_FEC_UNCORR_SUMP_CNT (i : Nat) : Nat := (0x90070 + 0x10000 * i)
def F_MAC_FEC_UNCORR_SUMP_CNT_CNT (i : Nat) : Fld := ⟨(0x90070 + 0x10000 * i), 31, 0⟩
def TALLY_CTL : Nat := 0xe0000
def F_TALLY_CTL_STEP : Fld := ⟨0xe0000, 1, 1⟩
def F_TALLY_CTL_EPOCH_RESET : Fld := ⟨0xe0000, 0, 0⟩
def TALLY_STAT : Nat := 0xe0004
def F_TALLY_STAT_STEER : Fld := ⟨0xe0004, 5, 5⟩
def F_TALLY_STAT_STEP_USED : Fld := ⟨0xe0004, 4, 4⟩
def F_TALLY_STAT_CLAMP_S : Fld := ⟨0xe0004, 3, 3⟩
def F_TALLY_STAT_STEP_REJ_S : Fld := ⟨0xe0004, 2, 2⟩
def F_TALLY_STAT_STEP_S : Fld := ⟨0xe0004, 1, 1⟩
def F_TALLY_STAT_EPOCH_S : Fld := ⟨0xe0004, 0, 0⟩
def TALLY_IE : Nat := 0xe0008
def F_TALLY_IE_IE : Fld := ⟨0xe0008, 3, 0⟩
def TALLY_ADDEND_INT : Nat := 0xe000c
def F_TALLY_ADDEND_INT_INT : Fld := ⟨0xe000c, 7, 0⟩
def TALLY_ADDEND_FRAC : Nat := 0xe0010
def F_TALLY_ADDEND_FRAC_FRAC : Fld := ⟨0xe0010, 31, 0⟩
def TALLY_SEC_LO : Nat := 0xe0014
def F_TALLY_SEC_LO_SEC : Fld := ⟨0xe0014, 31, 0⟩
def TALLY_SEC_HI : Nat := 0xe0018
def F_TALLY_SEC_HI_SEC : Fld := ⟨0xe0018, 15, 0⟩
def TALLY_NS : Nat := 0xe001c
def F_TALLY_NS_NS : Fld := ⟨0xe001c, 29, 0⟩
def TALLY_FRAC : Nat := 0xe0020
def F_TALLY_FRAC_FRAC : Fld := ⟨0xe0020, 31, 0⟩
def TALLY_STEP_SEC : Nat := 0xe0024
def F_TALLY_STEP_SEC_SEC : Fld := ⟨0xe0024, 31, 0⟩
def TALLY_STEP_NS : Nat := 0xe0028
def F_TALLY_STEP_NS_NS : Fld := ⟨0xe0028, 29, 0⟩
def TALLY_EPOCH : Nat := 0xe002c
def F_TALLY_EPOCH_EPOCH : Fld := ⟨0xe002c, 15, 0⟩
def STREAM_CFG : Nat := 0xf0000
def F_STREAM_CFG_UDP_CSUM : Fld := ⟨0xf0000, 8, 8⟩
def F_STREAM_CFG_TTL : Fld := ⟨0xf0000, 7, 0⟩
def STREAM_STAT : Nat := 0xf0004
def F_STREAM_STAT_UNDERRUN_S : Fld := ⟨0xf0004, 4, 4⟩
def F_STREAM_STAT_LATE_S : Fld := ⟨0xf0004, 3, 3⟩
def F_STREAM_STAT_SLIP_S : Fld := ⟨0xf0004, 2, 2⟩
def F_STREAM_STAT_REALIGN_S : Fld := ⟨0xf0004, 1, 1⟩
def F_STREAM_STAT_CFG_REJ_S : Fld := ⟨0xf0004, 0, 0⟩
def STREAM_IE : Nat := 0xf0008
def F_STREAM_IE_IE : Fld := ⟨0xf0008, 4, 0⟩
def STREAM_BAD_CTX : Nat := 0xf000c
def F_STREAM_BAD_CTX_REASON : Fld := ⟨0xf000c, 19, 16⟩
def F_STREAM_BAD_CTX_TX : Fld := ⟨0xf000c, 8, 8⟩
def F_STREAM_BAD_CTX_CTX : Fld := ⟨0xf000c, 7, 0⟩
def STREAM_SLIP_CNT : Nat := 0xf0010
def F_STREAM_SLIP_CNT_SLIP_CNT : Fld := ⟨0xf0010, 31, 0⟩
def STREAM_TMC_LO : Nat := 0xf0014
def F_STREAM_TMC_LO_TMC : Fld := ⟨0xf0014, 31, 0⟩
def STREAM_TMC_HI : Nat := 0xf0018
def F_STREAM_TMC_HI_TMC : Fld := ⟨0xf0018, 31, 0⟩
def STREAM_PHASE : Nat := 0xf001c
def F_STREAM_PHASE_PHI : Fld := ⟨0xf001c, 31, 0⟩
def STREAM_RX_ACTIVE (i : Nat) : Nat := (0xf0020 + 0x4 * i)
def F_STREAM_RX_ACTIVE_RECEIVING (i : Nat) : Fld := ⟨(0xf0020 + 0x4 * i), 31, 0⟩
def STREAM_GRP (i : Nat) : Nat := (0xf0084 + 0x4 * i)
def F_STREAM_GRP_LO (i : Nat) : Fld := ⟨(0xf0084 + 0x4 * i), 7, 0⟩
def STREAM_SEL : Nat := 0xf0100
def F_STREAM_SEL_CTX : Fld := ⟨0xf0100, 7, 0⟩
def STREAM_RX_LATE_SUMP_CNT : Nat := 0xf0104
def F_STREAM_RX_LATE_SUMP_CNT_CNT : Fld := ⟨0xf0104, 31, 0⟩
def STREAM_RX_EARLY_SUMP_CNT : Nat := 0xf0108
def F_STREAM_RX_EARLY_SUMP_CNT_CNT : Fld := ⟨0xf0108, 31, 0⟩
def STREAM_RX_FORMAT_SUMP_CNT : Nat := 0xf010c
def F_STREAM_RX_FORMAT_SUMP_CNT_CNT : Fld := ⟨0xf010c, 31, 0⟩
def STREAM_RX_LOST_CNT : Nat := 0xf0110
def F_STREAM_RX_LOST_CNT_CNT : Fld := ⟨0xf0110, 31, 0⟩
def STREAM_RX_PKT_P_CNT : Nat := 0xf0114
def F_STREAM_RX_PKT_P_CNT_CNT : Fld := ⟨0xf0114, 31, 0⟩
def STREAM_RX_PKT_S_CNT : Nat := 0xf0118
def F_STREAM_RX_PKT_S_CNT_CNT : Fld := ⟨0xf0118, 31, 0⟩
def STREAM_RX_UNDERRUN_CNT : Nat := 0xf011c
def F_STREAM_RX_UNDERRUN_CNT_CNT : Fld := ⟨0xf011c, 31, 0⟩
def STREAM_TX_PKT_CNT : Nat := 0xf0120
def F_STREAM_TX_PKT_CNT_CNT : Fld := ⟨0xf0120, 31, 0⟩
def STREAM_RX_CTL (i : Nat) : Nat := (0xf1000 + 0x20 * i)
def F_STREAM_RX_CTL_EN (i : Nat) : Fld := ⟨(0xf1000 + 0x20 * i), 31, 31⟩
def F_STREAM_RX_CTL_ENC (i : Nat) : Fld := ⟨(0xf1000 + 0x20 * i), 30, 30⟩
def F_STREAM_RX_CTL_PORT (i : Nat) : Fld := ⟨(0xf1000 + 0x20 * i), 29, 28⟩
def F_STREAM_RX_CTL_SEC_EN (i : Nat) : Fld := ⟨(0xf1000 + 0x20 * i), 27, 27⟩
def F_STREAM_RX_CTL_SEC_PORT (i : Nat) : Fld := ⟨(0xf1000 + 0x20 * i), 26, 25⟩
def F_STREAM_RX_CTL_VLAN_EN (i : Nat) : Fld := ⟨(0xf1000 + 0x20 * i), 24, 24⟩
def F_STREAM_RX_CTL_PTIME (i : Nat) : Fld := ⟨(0xf1000 + 0x20 * i), 23, 22⟩
def F_STREAM_RX_CTL_PT_CHK (i : Nat) : Fld := ⟨(0xf1000 + 0x20 * i), 21, 21⟩
def F_STREAM_RX_CTL_SSRC_CHK (i : Nat) : Fld := ⟨(0xf1000 + 0x20 * i), 20, 20⟩
def F_STREAM_RX_CTL_PT (i : Nat) : Fld := ⟨(0xf1000 + 0x20 * i), 19, 13⟩
def F_STREAM_RX_CTL_GROUP (i : Nat) : Fld := ⟨(0xf1000 + 0x20 * i), 4, 0⟩
def STREAM_RX_DST_IP (i : Nat) : Nat := (0xf1004 + 0x20 * i)
def F_STREAM_RX_DST_IP_DST_IP (i : Nat) : Fld := ⟨(0xf1004 + 0x20 * i), 31, 0⟩
def STREAM_RX_DST_IP2 (i : Nat) : Nat := (0xf1008 + 0x20 * i)
def F_STREAM_RX_DST_IP2_DST_IP2 (i : Nat) : Fld := ⟨(0xf1008 + 0x20 * i), 31, 0⟩
def STREAM_RX_SRC_IP (i : Nat) : Nat := (0xf100c + 0x20 * i)
def F_STREAM_RX_SRC_IP_SRC_IP (i : Nat) : Fld := ⟨(0xf100c + 0x20 * i), 31, 0⟩
def STREAM_RX_PORT (i : Nat) : Nat := (0xf1010 + 0x20 * i)
def F_STREAM_RX_PORT_VLAN_ID (i : Nat) : Fld := ⟨(0xf1010 + 0x20 * i), 27, 16⟩
def F_STREAM_RX_PORT_UDP_PORT (i : Nat) : Fld := ⟨(0xf1010 + 0x20 * i), 15, 0⟩
def STREAM_RX_POOL (i : Nat) : Nat := (0xf1014 + 0x20 * i)
def F_STREAM_RX_POOL_BASE (i : Nat) : Fld := ⟨(0xf1014 + 0x20 * i), 26, 16⟩
def F_STREAM_RX_POOL_CHANNELS (i : Nat) : Fld := ⟨(0xf1014 + 0x20 * i), 6, 0⟩
def STREAM_RX_LINK (i : Nat) : Nat := (0xf1018 + 0x20 * i)
def F_STREAM_RX_LINK_LINK (i : Nat) : Fld := ⟨(0xf1018 + 0x20 * i), 7, 0⟩
def STREAM_RX_SSRC (i : Nat) : Nat := (0xf101c + 0x20 * i)
def F_STREAM_RX_SSRC_SSRC (i : Nat) : Fld := ⟨(0xf101c + 0x20 * i), 31, 0⟩
def STREAM_TX_CTL (i : Nat) : Nat := (0xf3000 + 0x20 * i)
def F_STREAM_TX_CTL_EN (i : Nat) : Fld := ⟨(0xf3000 + 0x20 * i), 21, 21⟩
def F_STREAM_TX_CTL_ENC (i : Nat) : Fld := ⟨(0xf3000 + 0x20 * i), 20, 20⟩
def F_STREAM_TX_CTL_PORT (i : Nat) : Fld := ⟨(0xf3000 + 0x20 * i), 19, 18⟩
def F_STREAM_TX_CTL_SEC_EN (i : Nat) : Fld := ⟨(0xf3000 + 0x20 * i), 17, 17⟩
def F_STREAM_TX_CTL_SEC_PORT (i : Nat) : Fld := ⟨(0xf3000 + 0x20 * i), 16, 15⟩
def F_STREAM_TX_CTL_VLAN_EN (i : Nat) : Fld := ⟨(0xf3000 + 0x20 * i), 14, 14⟩
def F_STREAM_TX_CTL_PTIME (i : Nat) : Fld := ⟨(0xf3000 + 0x20 * i), 13, 12⟩
def F_STREAM_TX_CTL_DSCP (i : Nat) : Fld := ⟨(0xf3000 + 0x20 * i), 11, 6⟩
def STREAM_TX_DST_IP (i : Nat) : Nat := (0xf3004 + 0x20 * i)
def F_STREAM_TX_DST_IP_DST_IP (i : Nat) : Fld := ⟨(0xf3004 + 0x20 * i), 31, 0⟩
def STREAM_TX_DST_IP2 (i : Nat) : Nat := (0xf3008 + 0x20 * i)
def F_STREAM_TX_DST_IP2_DST_IP2 (i : Nat) : Fld := ⟨(0xf3008 + 0x20 * i), 31, 0⟩
def STREAM_TX_PORTS (i : Nat) : Nat := (0xf300c + 0x20 * i)
def F_STREAM_TX_PORTS_SRC_PORT (i : Nat) : Fld := ⟨(0xf300c + 0x20 * i), 31, 16⟩
def F_STREAM_TX_PORTS_DST_PORT (i : Nat) : Fld := ⟨(0xf300c + 0x20 * i), 15, 0⟩
def STREAM_TX_DMAC (i : Nat) : Nat := (0xf3010 + 0x20 * i)
def F_STREAM_TX_DMAC_DMAC (i : Nat) : Fld := ⟨(0xf3010 + 0x20 * i), 31, 0⟩
def STREAM_TX_VLAN (i : Nat) : Nat := (0xf3014 + 0x20 * i)
def F_STREAM_TX_VLAN_PCP (i : Nat) : Fld := ⟨(0xf3014 + 0x20 * i), 31, 29⟩
def F_STREAM_TX_VLAN_VLAN_ID (i : Nat) : Fld := ⟨(0xf3014 + 0x20 * i), 27, 16⟩
def F_STREAM_TX_VLAN_DMAC (i : Nat) : Fld := ⟨(0xf3014 + 0x20 * i), 15, 0⟩
def STREAM_TX_POOL (i : Nat) : Nat := (0xf3018 + 0x20 * i)
def F_STREAM_TX_POOL_BASE (i : Nat) : Fld := ⟨(0xf3018 + 0x20 * i), 26, 16⟩
def F_STREAM_TX_POOL_CHANNELS (i : Nat) : Fld := ⟨(0xf3018 + 0x20 * i), 6, 0⟩
def STREAM_TX_SSRC (i : Nat) : Nat := (0xf301c + 0x20 * i)
def F_STREAM_TX_SSRC_SSRC (i : Nat) : Fld := ⟨(0xf301c + 0x20 * i), 31, 0⟩
def SPORT_CTL (i : Nat) : Nat := (0x100000 + 0x800 * i)
def F_SPORT_CTL_GANG (i : Nat) : Fld := ⟨(0x100000 + 0x800 * i), 27, 24⟩
def F_SPORT_CTL_SLOTS (i : Nat) : Fld := ⟨(0x100000 + 0x800 * i), 20, 16⟩
def F_SPORT_CTL_DLEN (i : Nat) : Fld := ⟨(0x100000 + 0x800 * i), 13, 12⟩
def F_SPORT_CTL_BDLY (i : Nat) : Fld := ⟨(0x100000 + 0x800 * i), 10, 10⟩
def F_SPORT_CTL_BEDGE (i : Nat) : Fld := ⟨(0x100000 + 0x800 * i), 9, 9⟩
def F_SPORT_CTL_FS_POL (i : Nat) : Fld := ⟨(0x100000 + 0x800 * i), 8, 8⟩
def F_SPORT_CTL_MODE (i : Nat) : Fld := ⟨(0x100000 + 0x800 * i), 5, 4⟩
def F_SPORT_CTL_FMT (i : Nat) : Fld := ⟨(0x100000 + 0x800 * i), 1, 1⟩
def F_SPORT_CTL_EN (i : Nat) : Fld := ⟨(0x100000 + 0x800 * i), 0, 0⟩
def SPORT_IN_MASK (i : Nat) : Nat := (0x100004 + 0x800 * i)
def F_SPORT_IN_MASK_MASK (i : Nat) : Fld := ⟨(0x100004 + 0x800 * i), 31, 0⟩
def SPORT_OUT_MASK (i : Nat) : Nat := (0x100008 + 0x800 * i)
def F_SPORT_OUT_MASK_MASK (i : Nat) : Fld := ⟨(0x100008 + 0x800 * i), 31, 0⟩
def SPORT_IN_BASE (i : Nat) : Nat := (0x10000c + 0x800 * i)
def F_SPORT_IN_BASE_BASE (i : Nat) : Fld := ⟨(0x10000c + 0x800 * i), 9, 0⟩
def SPORT_OUT_BASE (i : Nat) : Nat := (0x100010 + 0x800 * i)
def F_SPORT_OUT_BASE_BASE (i : Nat) : Fld := ⟨(0x100010 + 0x800 * i), 9, 0⟩
def SPORT_STAT (i : Nat) : Nat := (0x100014 + 0x800 * i)
def F_SPORT_STAT_REASON (i : Nat) : Fld := ⟨(0x100014 + 0x800 * i), 19, 16⟩
def F_SPORT_STAT_STATE (i : Nat) : Fld := ⟨(0x100014 + 0x800 * i), 1, 0⟩
def SPORT_HIST (i : Nat) : Nat := (0x100018 + 0x800 * i)
def F_SPORT_HIST_CFG_REJ_S (i : Nat) : Fld := ⟨(0x100018 + 0x800 * i), 6, 6⟩
def F_SPORT_HIST_FRAME_ERR_S (i : Nat) : Fld := ⟨(0x100018 + 0x800 * i), 5, 5⟩
def F_SPORT_HIST_OUT_DROP_S (i : Nat) : Fld := ⟨(0x100018 + 0x800 * i), 4, 4⟩
def F_SPORT_HIST_OUT_ZERO_S (i : Nat) : Fld := ⟨(0x100018 + 0x800 * i), 3, 3⟩
def F_SPORT_HIST_IN_DROP_S (i : Nat) : Fld := ⟨(0x100018 + 0x800 * i), 2, 2⟩
def F_SPORT_HIST_IN_ZERO_S (i : Nat) : Fld := ⟨(0x100018 + 0x800 * i), 1, 1⟩
def F_SPORT_HIST_STARTED_S (i : Nat) : Fld := ⟨(0x100018 + 0x800 * i), 0, 0⟩
def SPORT_IE (i : Nat) : Nat := (0x10001c + 0x800 * i)
def F_SPORT_IE_HIST_IE (i : Nat) : Fld := ⟨(0x10001c + 0x800 * i), 6, 0⟩
def SPORT_PHASE (i : Nat) : Nat := (0x100020 + 0x800 * i)
def F_SPORT_PHASE_DELTA (i : Nat) : Fld := ⟨(0x100020 + 0x800 * i), 15, 0⟩
def SPORT_IN_ZERO_CNT (i : Nat) : Nat := (0x100024 + 0x800 * i)
def F_SPORT_IN_ZERO_CNT_CNT (i : Nat) : Fld := ⟨(0x100024 + 0x800 * i), 31, 0⟩
def SPORT_IN_DROP_SUMP_CNT (i : Nat) : Nat := (0x100028 + 0x800 * i)
def F_SPORT_IN_DROP_SUMP_CNT_CNT (i : Nat) : Fld := ⟨(0x100028 + 0x800 * i), 31, 0⟩
def SPORT_OUT_ZERO_CNT (i : Nat) : Nat := (0x10002c + 0x800 * i)
def F_SPORT_OUT_ZERO_CNT_CNT (i : Nat) : Fld := ⟨(0x10002c + 0x800 * i), 31, 0⟩
def SPORT_OUT_DROP_SUMP_CNT (i : Nat) : Nat := (0x100030 + 0x800 * i)
def F_SPORT_OUT_DROP_SUMP_CNT_CNT (i : Nat) : Fld := ⟨(0x100030 + 0x800 * i), 31, 0⟩
def SPORT_FRAME_ERR_SUMP_CNT (i : Nat) : Nat := (0x100034 + 0x800 * i)
def F_SPORT_FRAME_ERR_SUMP_CNT_CNT (i : Nat) : Fld := ⟨(0x100034 + 0x800 * i), 31, 0⟩
def SPORT_FRAME_CNT (i : Nat) : Nat := (0x100038 + 0x800 * i)
def F_SPORT_FRAME_CNT_CNT (i : Nat) : Fld := ⟨(0x100038 + 0x800 * i), 31, 0⟩

end Sys2Proof.Machine.R
end

