-- ==== Sys2Proof/Machine/RegNamesC.lean ====
section
/-! DEFINITION. Names of the CSR registers and fields, part C: `R.NAME` is the offset of register NAME (of instance `i` of a
per-instance register), `R.F_NAME_FIELD` its field FIELD. Offsets and bit ranges are those of the register tables of spec/. -/
namespace Sys2Proof.Machine.R

def CONFL_CFG : Nat := 0x1a0000
def F_CONFL_CFG_FIRST_CORE : Fld := ⟨0x1a0000, 21, 16⟩
def F_CONFL_CFG_LEAVES : Fld := ⟨0x1a0000, 4, 0⟩
def CONFL_STAT : Nat := 0x1a0004
def F_CONFL_STAT_QUEUE_S : Fld := ⟨0x1a0004, 2, 2⟩
def F_CONFL_STAT_LATE_S : Fld := ⟨0x1a0004, 1, 1⟩
def F_CONFL_STAT_SAT_S : Fld := ⟨0x1a0004, 0, 0⟩
def CONFL_IE : Nat := 0x1a0008
def F_CONFL_IE_QUEUE_IE : Fld := ⟨0x1a0008, 2, 2⟩
def F_CONFL_IE_LATE_IE : Fld := ⟨0x1a0008, 1, 1⟩
def F_CONFL_IE_SAT_IE : Fld := ⟨0x1a0008, 0, 0⟩
def CONFL_SAT_CNT : Nat := 0x1a000c
def F_CONFL_SAT_CNT_SAT_CNT : Fld := ⟨0x1a000c, 31, 0⟩
def CONFL_SAT_LAST : Nat := 0x1a0010
def F_CONFL_SAT_LAST_IDX : Fld := ⟨0x1a0010, 31, 16⟩
def F_CONFL_SAT_LAST_BUS : Fld := ⟨0x1a0010, 7, 0⟩
def CONFL_LATE_SUMP_CNT : Nat := 0x1a0014
def F_CONFL_LATE_SUMP_CNT_LATE_SUMP_CNT : Fld := ⟨0x1a0014, 31, 0⟩
def CONFL_XP_SUMP_CNT : Nat := 0x1a0018
def F_CONFL_XP_SUMP_CNT_XP_SUMP_CNT : Fld := ⟨0x1a0018, 31, 0⟩
def CONFL_XF_RUN (i : Nat) : Nat := (0x1a0020 + 0x4 * i)
def F_CONFL_XF_RUN_RUN (i : Nat) : Fld := ⟨(0x1a0020 + 0x4 * i), 31, 0⟩
def CONFL_XF_QUEUE (i : Nat) : Nat := (0x1a0040 + 0x4 * i)
def F_CONFL_XF_QUEUE_QUEUE (i : Nat) : Fld := ⟨(0x1a0040 + 0x4 * i), 31, 0⟩
def CONFL_MXF_RUN (i : Nat) : Nat := (0x1a0060 + 0x4 * i)
def F_CONFL_MXF_RUN_RUN (i : Nat) : Fld := ⟨(0x1a0060 + 0x4 * i), 31, 0⟩
def CONFL_MXF_QUEUE (i : Nat) : Nat := (0x1a0070 + 0x4 * i)
def F_CONFL_MXF_QUEUE_QUEUE (i : Nat) : Fld := ⟨(0x1a0070 + 0x4 * i), 31, 0⟩
def FLOOD_STATE : Nat := 0x180000
def F_FLOOD_STATE_RAMPING : Fld := ⟨0x180000, 2, 2⟩
def F_FLOOD_STATE_OPEN : Fld := ⟨0x180000, 1, 1⟩
def F_FLOOD_STATE_CLOSED : Fld := ⟨0x180000, 0, 0⟩
def FLOOD_SRC : Nat := 0x180004
def F_FLOOD_SRC_FAULT : Fld := ⟨0x180004, 3, 3⟩
def F_FLOOD_SRC_LEASE : Fld := ⟨0x180004, 2, 2⟩
def F_FLOOD_SRC_CMD : Fld := ⟨0x180004, 1, 1⟩
def F_FLOOD_SRC_PIN : Fld := ⟨0x180004, 0, 0⟩
def FLOOD_HIST : Nat := 0x180008
def F_FLOOD_HIST_OPENED_S : Fld := ⟨0x180008, 5, 5⟩
def F_FLOOD_HIST_CLOSED_S : Fld := ⟨0x180008, 4, 4⟩
def F_FLOOD_HIST_FAULT_S : Fld := ⟨0x180008, 3, 3⟩
def F_FLOOD_HIST_LEASE_S : Fld := ⟨0x180008, 2, 2⟩
def F_FLOOD_HIST_CMD_S : Fld := ⟨0x180008, 1, 1⟩
def F_FLOOD_HIST_PIN_S : Fld := ⟨0x180008, 0, 0⟩
def FLOOD_IE : Nat := 0x18000c
def F_FLOOD_IE_OPENED_IE : Fld := ⟨0x18000c, 5, 5⟩
def F_FLOOD_IE_CLOSED_IE : Fld := ⟨0x18000c, 4, 4⟩
def F_FLOOD_IE_FAULT_IE : Fld := ⟨0x18000c, 3, 3⟩
def F_FLOOD_IE_LEASE_IE : Fld := ⟨0x18000c, 2, 2⟩
def F_FLOOD_IE_CMD_IE : Fld := ⟨0x18000c, 1, 1⟩
def F_FLOOD_IE_PIN_IE : Fld := ⟨0x18000c, 0, 0⟩
def FLOOD_CTL : Nat := 0x180010
def F_FLOOD_CTL_PIN_REL : Fld := ⟨0x180010, 1, 1⟩
def F_FLOOD_CTL_PIN_LATCH : Fld := ⟨0x180010, 0, 0⟩
def FLOOD_GAIN : Nat := 0x180014
def F_FLOOD_GAIN_GAIN : Fld := ⟨0x180014, 31, 0⟩
def FLOOD_CLOSE_IDX_LO : Nat := 0x180018
def F_FLOOD_CLOSE_IDX_LO_IDX : Fld := ⟨0x180018, 31, 0⟩
def FLOOD_CLOSE_IDX_HI : Nat := 0x18001c
def F_FLOOD_CLOSE_IDX_HI_IDX : Fld := ⟨0x18001c, 31, 0⟩
def FLOOD_CLOSE_CNT : Nat := 0x180020
def F_FLOOD_CLOSE_CNT_CLOSE_CNT : Fld := ⟨0x180020, 31, 0⟩
def FLOOD_PIN : Nat := 0x180024
def F_FLOOD_PIN_LEVEL : Fld := ⟨0x180024, 0, 0⟩
def MINTAL_CTL (i : Nat) : Nat := (0x190000 + 0x400 * i)
def F_MINTAL_CTL_CLR_STATS (i : Nat) : Fld := ⟨(0x190000 + 0x400 * i), 4, 4⟩
def F_MINTAL_CTL_STEP (i : Nat) : Fld := ⟨(0x190000 + 0x400 * i), 3, 3⟩
def F_MINTAL_CTL_DBG_HALT (i : Nat) : Fld := ⟨(0x190000 + 0x400 * i), 2, 2⟩
def F_MINTAL_CTL_HALT_REQ (i : Nat) : Fld := ⟨(0x190000 + 0x400 * i), 1, 1⟩
def F_MINTAL_CTL_RESET (i : Nat) : Fld := ⟨(0x190000 + 0x400 * i), 0, 0⟩
def MINTAL_STAT (i : Nat) : Nat := (0x190004 + 0x400 * i)
def F_MINTAL_STAT_IN_HANDLER (i : Nat) : Fld := ⟨(0x190004 + 0x400 * i), 15, 15⟩
def F_MINTAL_STAT_HALTED (i : Nat) : Fld := ⟨(0x190004 + 0x400 * i), 14, 14⟩
def F_MINTAL_STAT_WAITING (i : Nat) : Fld := ⟨(0x190004 + 0x400 * i), 13, 13⟩
def F_MINTAL_STAT_HELD (i : Nat) : Fld := ⟨(0x190004 + 0x400 * i), 12, 12⟩
def F_MINTAL_STAT_DEBUG_S (i : Nat) : Fld := ⟨(0x190004 + 0x400 * i), 7, 7⟩
def F_MINTAL_STAT_DFAULT_S (i : Nat) : Fld := ⟨(0x190004 + 0x400 * i), 6, 6⟩
def F_MINTAL_STAT_XWIN_S (i : Nat) : Fld := ⟨(0x190004 + 0x400 * i), 5, 5⟩
def F_MINTAL_STAT_CECC_S (i : Nat) : Fld := ⟨(0x190004 + 0x400 * i), 4, 4⟩
def F_MINTAL_STAT_DECC_S (i : Nat) : Fld := ⟨(0x190004 + 0x400 * i), 3, 3⟩
def F_MINTAL_STAT_IPAR_S (i : Nat) : Fld := ⟨(0x190004 + 0x400 * i), 2, 2⟩
def F_MINTAL_STAT_NEST_S (i : Nat) : Fld := ⟨(0x190004 + 0x400 * i), 1, 1⟩
def F_MINTAL_STAT_ILL_S (i : Nat) : Fld := ⟨(0x190004 + 0x400 * i), 0, 0⟩
def MINTAL_IE (i : Nat) : Nat := (0x190008 + 0x400 * i)
def F_MINTAL_IE_DEBUG_IE (i : Nat) : Fld := ⟨(0x190008 + 0x400 * i), 7, 7⟩
def F_MINTAL_IE_DFAULT_IE (i : Nat) : Fld := ⟨(0x190008 + 0x400 * i), 6, 6⟩
def F_MINTAL_IE_XWIN_IE (i : Nat) : Fld := ⟨(0x190008 + 0x400 * i), 5, 5⟩
def F_MINTAL_IE_CECC_IE (i : Nat) : Fld := ⟨(0x190008 + 0x400 * i), 4, 4⟩
def F_MINTAL_IE_DECC_IE (i : Nat) : Fld := ⟨(0x190008 + 0x400 * i), 3, 3⟩
def F_MINTAL_IE_IPAR_IE (i : Nat) : Fld := ⟨(0x190008 + 0x400 * i), 2, 2⟩
def F_MINTAL_IE_NEST_IE (i : Nat) : Fld := ⟨(0x190008 + 0x400 * i), 1, 1⟩
def F_MINTAL_IE_ILL_IE (i : Nat) : Fld := ⟨(0x190008 + 0x400 * i), 0, 0⟩
def MINTAL_PC (i : Nat) : Nat := (0x19000c + 0x400 * i)
def F_MINTAL_PC_PC (i : Nat) : Fld := ⟨(0x19000c + 0x400 * i), 11, 0⟩
def MINTAL_CAUSE (i : Nat) : Nat := (0x190010 + 0x400 * i)
def F_MINTAL_CAUSE_EPC (i : Nat) : Fld := ⟨(0x190010 + 0x400 * i), 27, 16⟩
def F_MINTAL_CAUSE_ECAUSE (i : Nat) : Fld := ⟨(0x190010 + 0x400 * i), 3, 0⟩
def MINTAL_XBASE (i : Nat) : Nat := (0x190014 + 0x400 * i)
def F_MINTAL_XBASE_BASE (i : Nat) : Fld := ⟨(0x190014 + 0x400 * i), 26, 5⟩
def MINTAL_XLEN (i : Nat) : Nat := (0x190018 + 0x400 * i)
def F_MINTAL_XLEN_LEN (i : Nat) : Fld := ⟨(0x190018 + 0x400 * i), 26, 5⟩
def MINTAL_XSWEPT (i : Nat) : Nat := (0x19001c + 0x400 * i)
def F_MINTAL_XSWEPT_SWEPT (i : Nat) : Fld := ⟨(0x19001c + 0x400 * i), 26, 5⟩
def MINTAL_CYC_LAST (i : Nat) : Nat := (0x190020 + 0x400 * i)
def F_MINTAL_CYC_LAST_CYCLES (i : Nat) : Fld := ⟨(0x190020 + 0x400 * i), 15, 0⟩
def MINTAL_CYC_MAX (i : Nat) : Nat := (0x190024 + 0x400 * i)
def F_MINTAL_CYC_MAX_CYCLES (i : Nat) : Fld := ⟨(0x190024 + 0x400 * i), 15, 0⟩
def MINTAL_XLAT (i : Nat) : Nat := (0x190028 + 0x400 * i)
def F_MINTAL_XLAT_MAX (i : Nat) : Fld := ⟨(0x190028 + 0x400 * i), 31, 16⟩
def F_MINTAL_XLAT_OUTSTANDING (i : Nat) : Fld := ⟨(0x190028 + 0x400 * i), 3, 0⟩
def MINTAL_ECC_CNT (i : Nat) : Nat := (0x19002c + 0x400 * i)
def F_MINTAL_ECC_CNT_ECC_CNT (i : Nat) : Fld := ⟨(0x19002c + 0x400 * i), 31, 0⟩
def MINTAL_XWIN_SUMP_CNT (i : Nat) : Nat := (0x190030 + 0x400 * i)
def F_MINTAL_XWIN_SUMP_CNT_XWIN_SUMP_CNT (i : Nat) : Fld := ⟨(0x190030 + 0x400 * i), 31, 0⟩
def MINTAL_BKPT (i : Nat) : Nat := (0x190034 + 0x400 * i)
def F_MINTAL_BKPT_EN (i : Nat) : Fld := ⟨(0x190034 + 0x400 * i), 31, 31⟩
def F_MINTAL_BKPT_ADDR (i : Nat) : Fld := ⟨(0x190034 + 0x400 * i), 11, 0⟩
def MINTAL_SWEEP (i : Nat) : Nat := (0x190038 + 0x400 * i)
def F_MINTAL_SWEEP_DIRTY_B (i : Nat) : Fld := ⟨(0x190038 + 0x400 * i), 28, 16⟩
def F_MINTAL_SWEEP_DIRTY_A (i : Nat) : Fld := ⟨(0x190038 + 0x400 * i), 12, 0⟩
def MINTAL_OBJ (i : Nat) : Nat := (0x19003c + 0x400 * i)
def F_MINTAL_OBJ_ID_B (i : Nat) : Fld := ⟨(0x19003c + 0x400 * i), 31, 16⟩
def F_MINTAL_OBJ_ID_A (i : Nat) : Fld := ⟨(0x19003c + 0x400 * i), 15, 0⟩
def ASRC_STAT : Nat := 0x110000
def F_ASRC_STAT_OUT_USED : Fld := ⟨0x110000, 24, 16⟩
def F_ASRC_STAT_IN_USED : Fld := ⟨0x110000, 8, 0⟩
def ASRC_TRK_CTL (i : Nat) : Nat := (0x110100 + 0x10 * i)
def F_ASRC_TRK_CTL_BW (i : Nat) : Fld := ⟨(0x110100 + 0x10 * i), 2, 0⟩
def ASRC_TRK_STAT (i : Nat) : Nat := (0x110104 + 0x10 * i)
def F_ASRC_TRK_STAT_SLAVED (i : Nat) : Fld := ⟨(0x110104 + 0x10 * i), 3, 3⟩
def F_ASRC_TRK_STAT_SHARED (i : Nat) : Fld := ⟨(0x110104 + 0x10 * i), 2, 2⟩
def F_ASRC_TRK_STAT_STATE (i : Nat) : Fld := ⟨(0x110104 + 0x10 * i), 1, 0⟩
def ASRC_TRK_RATIO (i : Nat) : Nat := (0x110108 + 0x10 * i)
def F_ASRC_TRK_RATIO_RATIO (i : Nat) : Fld := ⟨(0x110108 + 0x10 * i), 31, 0⟩
def ASRC_TRK_UNLOCK_CNT (i : Nat) : Nat := (0x11010c + 0x10 * i)
def F_ASRC_TRK_UNLOCK_CNT_UNLOCK_CNT (i : Nat) : Fld := ⟨(0x11010c + 0x10 * i), 31, 0⟩
def ASRC_CT_ROUTE (i : Nat) : Nat := (0x110800 + 0x8 * i)
def F_ASRC_CT_ROUTE_EN (i : Nat) : Fld := ⟨(0x110800 + 0x8 * i), 31, 31⟩
def F_ASRC_CT_ROUTE_MUTE (i : Nat) : Fld := ⟨(0x110800 + 0x8 * i), 30, 30⟩
def F_ASRC_CT_ROUTE_IN_PORT (i : Nat) : Fld := ⟨(0x110800 + 0x8 * i), 29, 25⟩
def F_ASRC_CT_ROUTE_IN_SLOT (i : Nat) : Fld := ⟨(0x110800 + 0x8 * i), 24, 20⟩
def F_ASRC_CT_ROUTE_OUT_PORT (i : Nat) : Fld := ⟨(0x110800 + 0x8 * i), 19, 15⟩
def F_ASRC_CT_ROUTE_OUT_SLOT (i : Nat) : Fld := ⟨(0x110800 + 0x8 * i), 14, 10⟩
def ASRC_CT_GAIN (i : Nat) : Nat := (0x110804 + 0x8 * i)
def F_ASRC_CT_GAIN_G (i : Nat) : Fld := ⟨(0x110804 + 0x8 * i), 15, 0⟩
def ASRC_CT_BAD (i : Nat) : Nat := (0x110a00 + 0x4 * i)
def F_ASRC_CT_BAD_BAD (i : Nat) : Fld := ⟨(0x110a00 + 0x4 * i), 31, 0⟩
def ASRC_CT_STAT : Nat := 0x110a08
def F_ASRC_CT_STAT_DELTA_S : Fld := ⟨0x110a08, 2, 2⟩
def F_ASRC_CT_STAT_DUP_S : Fld := ⟨0x110a08, 1, 1⟩
def F_ASRC_CT_STAT_PATCH_OVR_S : Fld := ⟨0x110a08, 0, 0⟩
def PDM_CTL : Nat := 0x120000
def F_PDM_CTL_CLK_EN : Fld := ⟨0x120000, 15, 8⟩
def F_PDM_CTL_MRATE : Fld := ⟨0x120000, 1, 1⟩
def F_PDM_CTL_EN : Fld := ⟨0x120000, 0, 0⟩
def PDM_STAT : Nat := 0x120004
def F_PDM_STAT_CLKIN1_LOSS_S : Fld := ⟨0x120004, 7, 7⟩
def F_PDM_STAT_CLKIN0_LOSS_S : Fld := ⟨0x120004, 6, 6⟩
def F_PDM_STAT_CLKIN1_SLAVED : Fld := ⟨0x120004, 5, 5⟩
def F_PDM_STAT_CLKIN0_SLAVED : Fld := ⟨0x120004, 4, 4⟩
def F_PDM_STAT_CLKIN1 : Fld := ⟨0x120004, 3, 2⟩
def F_PDM_STAT_CLKIN0 : Fld := ⟨0x120004, 1, 0⟩
def PDM_IE : Nat := 0x120008
def F_PDM_IE_CLKIN1_LOSS_IE : Fld := ⟨0x120008, 7, 7⟩
def F_PDM_IE_CLKIN0_LOSS_IE : Fld := ⟨0x120008, 6, 6⟩
def PDM_GRP (i : Nat) : Nat := (0x120040 + 0x4 * i)
def F_PDM_GRP_SRC (i : Nat) : Fld := ⟨(0x120040 + 0x4 * i), 1, 0⟩
def PDM_CH (i : Nat) : Nat := (0x120100 + 0x4 * i)
def F_PDM_CH_EN (i : Nat) : Fld := ⟨(0x120100 + 0x4 * i), 31, 31⟩
def F_PDM_CH_INV (i : Nat) : Fld := ⟨(0x120100 + 0x4 * i), 30, 30⟩
def F_PDM_CH_PHASE (i : Nat) : Fld := ⟨(0x120100 + 0x4 * i), 11, 0⟩
def PDM_CAPT_IDX (i : Nat) : Nat := (0x120300 + 0x10 * i)
def F_PDM_CAPT_IDX_IDX (i : Nat) : Fld := ⟨(0x120300 + 0x10 * i), 31, 0⟩
def PDM_CAPT_SEC_LO (i : Nat) : Nat := (0x120304 + 0x10 * i)
def F_PDM_CAPT_SEC_LO_SEC (i : Nat) : Fld := ⟨(0x120304 + 0x10 * i), 31, 0⟩
def PDM_CAPT_SEC_HI (i : Nat) : Nat := (0x120308 + 0x10 * i)
def F_PDM_CAPT_SEC_HI_EPOCH (i : Nat) : Fld := ⟨(0x120308 + 0x10 * i), 31, 16⟩
def F_PDM_CAPT_SEC_HI_SEC (i : Nat) : Fld := ⟨(0x120308 + 0x10 * i), 15, 0⟩
def PDM_CAPT_NS (i : Nat) : Nat := (0x12030c + 0x10 * i)
def F_PDM_CAPT_NS_NS (i : Nat) : Fld := ⟨(0x12030c + 0x10 * i), 29, 0⟩
def PDM_COEF (i : Nat) : Nat := (0x121000 + 0x4 * i)
def F_PDM_COEF_COEF (i : Nat) : Fld := ⟨(0x121000 + 0x4 * i), 31, 0⟩
def REDUN_MODE : Nat := 0x130000
def F_REDUN_MODE_WTR : Fld := ⟨0x130000, 31, 20⟩
def F_REDUN_MODE_HB : Fld := ⟨0x130000, 19, 14⟩
def F_REDUN_MODE_LEASE : Fld := ⟨0x130000, 13, 4⟩
def F_REDUN_MODE_HOME : Fld := ⟨0x130000, 2, 2⟩
def F_REDUN_MODE_REVERT : Fld := ⟨0x130000, 1, 1⟩
def F_REDUN_MODE_PAIR : Fld := ⟨0x130000, 0, 0⟩
def REDUN_CTL : Nat := 0x130004
def F_REDUN_CTL_AUTO_RESYNC : Fld := ⟨0x130004, 3, 3⟩
def F_REDUN_CTL_YIELD : Fld := ⟨0x130004, 2, 2⟩
def F_REDUN_CTL_RESYNC_ABORT : Fld := ⟨0x130004, 1, 1⟩
def F_REDUN_CTL_RESYNC_REQ : Fld := ⟨0x130004, 0, 0⟩
def REDUN_STAT : Nat := 0x130008
def F_REDUN_STAT_REASON : Fld := ⟨0x130008, 31, 28⟩
def F_REDUN_STAT_PEER_TEST : Fld := ⟨0x130008, 27, 27⟩
def F_REDUN_STAT_HOME_CONFLICT : Fld := ⟨0x130008, 26, 26⟩
def F_REDUN_STAT_SYNC_OK : Fld := ⟨0x130008, 25, 25⟩
def F_REDUN_STAT_LEASE_HELD : Fld := ⟨0x130008, 24, 24⟩
def F_REDUN_STAT_PEER_ROLE : Fld := ⟨0x130008, 18, 16⟩
def F_REDUN_STAT_PHASE : Fld := ⟨0x130008, 10, 8⟩
def F_REDUN_STAT_SYNC : Fld := ⟨0x130008, 6, 4⟩
def F_REDUN_STAT_ROLE : Fld := ⟨0x130008, 2, 0⟩
def REDUN_HIST : Nat := 0x13000c
def F_REDUN_HIST_GRANT_REJ_S : Fld := ⟨0x13000c, 12, 12⟩
def F_REDUN_HIST_DUAL_S : Fld := ⟨0x13000c, 11, 11⟩
def F_REDUN_HIST_YIELD_REJ_S : Fld := ⟨0x13000c, 10, 10⟩
def F_REDUN_HIST_RESYNC_FAIL_S : Fld := ⟨0x13000c, 9, 9⟩
def F_REDUN_HIST_RESYNC_DONE_S : Fld := ⟨0x13000c, 8, 8⟩
def F_REDUN_HIST_FWD_LATE_S : Fld := ⟨0x13000c, 7, 7⟩
def F_REDUN_HIST_DIVERGE_S : Fld := ⟨0x13000c, 6, 6⟩
def F_REDUN_HIST_PEER_LOST_S : Fld := ⟨0x13000c, 5, 5⟩
def F_REDUN_HIST_UNSYNC_S : Fld := ⟨0x13000c, 4, 4⟩
def F_REDUN_HIST_SYNCED_S : Fld := ⟨0x13000c, 3, 3⟩
def F_REDUN_HIST_COLD_S : Fld := ⟨0x13000c, 2, 2⟩
def F_REDUN_HIST_LEASE_LOST_S : Fld := ⟨0x13000c, 1, 1⟩
def F_REDUN_HIST_ROLE_S : Fld := ⟨0x13000c, 0, 0⟩
def REDUN_IE : Nat := 0x130010
def F_REDUN_IE_HIST_IE : Fld := ⟨0x130010, 12, 0⟩
def REDUN_EPOCH : Nat := 0x130014
def F_REDUN_EPOCH_PEER : Fld := ⟨0x130014, 31, 16⟩
def F_REDUN_EPOCH_LOCAL : Fld := ⟨0x130014, 15, 0⟩
def REDUN_LEASE : Nat := 0x130018
def F_REDUN_LEASE_LAST_SRC : Fld := ⟨0x130018, 31, 30⟩
def F_REDUN_LEASE_LEFT : Fld := ⟨0x130018, 15, 0⟩
def REDUN_RENEW_CNT : Nat := 0x13001c
def F_REDUN_RENEW_CNT_B : Fld := ⟨0x13001c, 31, 16⟩
def F_REDUN_RENEW_CNT_A : Fld := ⟨0x13001c, 15, 0⟩
def REDUN_FWD_LEAD : Nat := 0x130020
def F_REDUN_FWD_LEAD_LEAD : Fld := ⟨0x130020, 15, 0⟩
def REDUN_ALIGN : Nat := 0x130024
def F_REDUN_ALIGN_SKEW : Fld := ⟨0x130024, 31, 16⟩
def F_REDUN_ALIGN_THR : Fld := ⟨0x130024, 7, 0⟩
def REDUN_RESYNC : Nat := 0x130028
def F_REDUN_RESYNC_TRIES : Fld := ⟨0x130028, 31, 24⟩
def F_REDUN_RESYNC_ITEMS_LEFT : Fld := ⟨0x130028, 7, 0⟩
def REDUN_RESYNC_MS : Nat := 0x13002c
def F_REDUN_RESYNC_MS_MS : Fld := ⟨0x13002c, 15, 0⟩
def REDUN_DIV_IDX_LO : Nat := 0x130030
def F_REDUN_DIV_IDX_LO_IDX : Fld := ⟨0x130030, 31, 0⟩
def REDUN_DIV_IDX_HI : Nat := 0x130034
def F_REDUN_DIV_IDX_HI_IDX : Fld := ⟨0x130034, 31, 0⟩
def REDUN_DIV_ITEM : Nat := 0x130038
def F_REDUN_DIV_ITEM_COUNT : Fld := ⟨0x130038, 22, 16⟩
def F_REDUN_DIV_ITEM_ITEM : Fld := ⟨0x130038, 6, 0⟩
def REDUN_HASH_LO : Nat := 0x13003c
def F_REDUN_HASH_LO_HASH : Fld := ⟨0x13003c, 31, 0⟩
def REDUN_HASH_HI : Nat := 0x130040
def F_REDUN_HASH_HI_HASH : Fld := ⟨0x130040, 31, 0⟩
def REDUN_SIRLOS_STAT : Nat := 0x130044
def F_REDUN_SIRLOS_STAT_RTT : Fld := ⟨0x130044, 31, 16⟩
def F_REDUN_SIRLOS_STAT_LOCK : Fld := ⟨0x130044, 1, 0⟩
def REDUN_MISS_CNT : Nat := 0x130048
def F_REDUN_MISS_CNT_CNT : Fld := ⟨0x130048, 31, 0⟩
def REDUN_FWD_LATE_SUMP_CNT : Nat := 0x13004c
def F_REDUN_FWD_LATE_SUMP_CNT_CNT : Fld := ⟨0x13004c, 31, 0⟩
def REDUN_SIRLOS_RETX_CNT : Nat := 0x130050
def F_REDUN_SIRLOS_RETX_CNT_CNT : Fld := ⟨0x130050, 31, 0⟩
def REDUN_SIRLOS_CRC_SUMP_CNT : Nat := 0x130054
def F_REDUN_SIRLOS_CRC_SUMP_CNT_CNT : Fld := ⟨0x130054, 31, 0⟩
def REDUN_GRANT_SUMP_CNT : Nat := 0x130058
def F_REDUN_GRANT_SUMP_CNT_CNT : Fld := ⟨0x130058, 31, 0⟩
def CV_CTL : Nat := 0x140000
def F_CV_CTL_MID_HI : Fld := ⟨0x140000, 0, 0⟩
def CV_STAT : Nat := 0x140004
def F_CV_STAT_FAULT_REJ_S : Fld := ⟨0x140004, 6, 6⟩
def F_CV_STAT_FAULT_REVERT_S : Fld := ⟨0x140004, 5, 5⟩
def F_CV_STAT_VDDCV_LOW_S : Fld := ⟨0x140004, 4, 4⟩
def F_CV_STAT_SPAN_REJ_S : Fld := ⟨0x140004, 3, 3⟩
def F_CV_STAT_VDDCV_LOSS_S : Fld := ⟨0x140004, 2, 2⟩
def F_CV_STAT_VDD_CV_HI : Fld := ⟨0x140004, 1, 1⟩
def F_CV_STAT_VDD_CV_OK : Fld := ⟨0x140004, 0, 0⟩
def CV_IE : Nat := 0x140008
def F_CV_IE_HIST_IE : Fld := ⟨0x140008, 6, 2⟩
def CV_PARK : Nat := 0x14000c
def F_CV_PARK_DRIVEN : Fld := ⟨0x14000c, 31, 16⟩
def F_CV_PARK_PARK : Fld := ⟨0x14000c, 15, 0⟩
def CV_OUT (i : Nat) : Nat := (0x140100 + 0x4 * i)
def F_CV_OUT_LOAD (i : Nat) : Fld := ⟨(0x140100 + 0x4 * i), 31, 31⟩
def F_CV_OUT_SPAN (i : Nat) : Fld := ⟨(0x140100 + 0x4 * i), 17, 16⟩
def F_CV_OUT_CODE (i : Nat) : Fld := ⟨(0x140100 + 0x4 * i), 15, 0⟩
def PRF_WORD (i : Nat) : Nat := (0x150000 + 0x4 * i)
def F_PRF_WORD_VALUE (i : Nat) : Fld := ⟨(0x150000 + 0x4 * i), 31, 0⟩
def PRF_STAT : Nat := 0x151000
def F_PRF_STAT_PENDING : Fld := ⟨0x151000, 8, 5⟩
def F_PRF_STAT_PF : Fld := ⟨0x151000, 4, 4⟩
def F_PRF_STAT_BUSY : Fld := ⟨0x151000, 3, 3⟩
def F_PRF_STAT_LOAD_ERR_S : Fld := ⟨0x151000, 2, 2⟩
def F_PRF_STAT_QUEUE_REJ_S : Fld := ⟨0x151000, 1, 1⟩
def F_PRF_STAT_WEAR_LIMIT_S : Fld := ⟨0x151000, 0, 0⟩
def PRF_STAT2 : Nat := 0x151004
def F_PRF_STAT2_DENY_S : Fld := ⟨0x151004, 0, 0⟩
def PRF_IE : Nat := 0x151008
def F_PRF_IE_DENY_IE : Fld := ⟨0x151008, 3, 3⟩
def F_PRF_IE_LOAD_ERR_IE : Fld := ⟨0x151008, 2, 2⟩
def F_PRF_IE_QUEUE_REJ_IE : Fld := ⟨0x151008, 1, 1⟩
def F_PRF_IE_WEAR_LIMIT_IE : Fld := ⟨0x151008, 0, 0⟩
def PRF_QUEUE_SUMP_CNT : Nat := 0x15100c
def F_PRF_QUEUE_SUMP_CNT_QUEUE_SUMP_CNT : Fld := ⟨0x15100c, 31, 0⟩
def PRF_LOAD_ERR_CNT : Nat := 0x151010
def F_PRF_LOAD_ERR_CNT_LOAD_ERR_CNT : Fld := ⟨0x151010, 31, 0⟩
def PRF_LAST_ERR : Nat := 0x151014
def F_PRF_LAST_ERR_WORD : Fld := ⟨0x151014, 9, 0⟩
def PRF_WEAR_MAP (i : Nat) : Nat := (0x151100 + 0x4 * i)
def F_PRF_WEAR_MAP_OVER (i : Nat) : Fld := ⟨(0x151100 + 0x4 * i), 31, 0⟩
def PRF_WEAR (i : Nat) : Nat := (0x152000 + 0x4 * i)
def F_PRF_WEAR_COUNT (i : Nat) : Fld := ⟨(0x152000 + 0x4 * i), 23, 0⟩
def BOOT_STAT : Nat := 0x160000
def F_BOOT_STAT_CAUSE_B : Fld := ⟨0x160000, 23, 20⟩
def F_BOOT_STAT_CAUSE_A : Fld := ⟨0x160000, 19, 16⟩
def F_BOOT_STAT_SET_CHANGED : Fld := ⟨0x160000, 9, 9⟩
def F_BOOT_STAT_WARM : Fld := ⟨0x160000, 8, 8⟩
def F_BOOT_STAT_SLOW_FLASH : Fld := ⟨0x160000, 7, 7⟩
def F_BOOT_STAT_RESCUE : Fld := ⟨0x160000, 6, 6⟩
def F_BOOT_STAT_TRIAL : Fld := ⟨0x160000, 5, 5⟩
def F_BOOT_STAT_SLOT : Fld := ⟨0x160000, 4, 4⟩
def F_BOOT_STAT_STAGE : Fld := ⟨0x160000, 3, 0⟩
def BOOT_HIST : Nat := 0x160004
def F_BOOT_HIST_ROLLBACK_S : Fld := ⟨0x160004, 4, 4⟩
def F_BOOT_HIST_UPD_FAIL_S : Fld := ⟨0x160004, 3, 3⟩
def F_BOOT_HIST_UPD_DONE_S : Fld := ⟨0x160004, 2, 2⟩
def F_BOOT_HIST_SCENE_FAIL_S : Fld := ⟨0x160004, 1, 1⟩
def F_BOOT_HIST_FALLBACK_S : Fld := ⟨0x160004, 0, 0⟩
def BOOT_IE : Nat := 0x160008
def F_BOOT_IE_HIST_IE : Fld := ⟨0x160008, 4, 0⟩
def BOOT_FUSE : Nat := 0x16000c
def F_BOOT_FUSE_CKEY_SET : Fld := ⟨0x16000c, 9, 9⟩
def F_BOOT_FUSE_UNIT_SET : Fld := ⟨0x16000c, 8, 8⟩
def F_BOOT_FUSE_ROLLBACK : Fld := ⟨0x16000c, 6, 0⟩
def BOOT_UNIT_ID_LO : Nat := 0x160010
def F_BOOT_UNIT_ID_LO_UNIT_ID : Fld := ⟨0x160010, 31, 0⟩
def BOOT_UNIT_ID_HI : Nat := 0x160014
def F_BOOT_UNIT_ID_HI_UNIT_ID : Fld := ⟨0x160014, 31, 0⟩
def BOOT_UPD_STAT : Nat := 0x160018
def F_BOOT_UPD_STAT_RESULT : Fld := ⟨0x160018, 19, 16⟩
def F_BOOT_UPD_STAT_KIND : Fld := ⟨0x160018, 10, 8⟩
def F_BOOT_UPD_STAT_STATE : Fld := ⟨0x160018, 2, 0⟩
def BOOT_UPD_NEXT : Nat := 0x16001c
def F_BOOT_UPD_NEXT_OFFSET : Fld := ⟨0x16001c, 23, 0⟩
def BOOT_TIME : Nat := 0x160020
def F_BOOT_TIME_MS : Fld := ⟨0x160020, 15, 0⟩
def BOOT_IMG (i : Nat) : Nat := (0x160100 + 0x4 * i)
def F_BOOT_IMG_IF_REV (i : Nat) : Fld := ⟨(0x160100 + 0x4 * i), 31, 16⟩
def F_BOOT_IMG_SEC_VER (i : Nat) : Fld := ⟨(0x160100 + 0x4 * i), 15, 8⟩
def F_BOOT_IMG_VALID (i : Nat) : Fld := ⟨(0x160100 + 0x4 * i), 0, 0⟩
def TEST_UNLOCK : Nat := 0x170000
def F_TEST_UNLOCK_KEY : Fld := ⟨0x170000, 31, 0⟩
def TEST_STAT : Nat := 0x170004
def F_TEST_STAT_OPEN : Fld := ⟨0x170004, 31, 31⟩
def F_TEST_STAT_ACTIVE : Fld := ⟨0x170004, 6, 0⟩
def TEST_HIST : Nat := 0x170008
def F_TEST_HIST_LOCKED_WR_S : Fld := ⟨0x170008, 3, 3⟩
def F_TEST_HIST_UNLOCK_REJ_S : Fld := ⟨0x170008, 2, 2⟩
def F_TEST_HIST_CLOSED_S : Fld := ⟨0x170008, 1, 1⟩
def F_TEST_HIST_OPENED_S : Fld := ⟨0x170008, 0, 0⟩
def TEST_IE : Nat := 0x17000c
def F_TEST_IE_HIST_IE : Fld := ⟨0x17000c, 3, 0⟩
def TEST_CFG : Nat := 0x170010
def F_TEST_CFG_LOCK : Fld := ⟨0x170010, 31, 31⟩
def F_TEST_CFG_AUTO_LOCK : Fld := ⟨0x170010, 15, 0⟩
def TEST_XBAR_DLY : Nat := 0x170020
def F_TEST_XBAR_DLY_MASTERS : Fld := ⟨0x170020, 25, 8⟩
def F_TEST_XBAR_DLY_DELAY : Fld := ⟨0x170020, 7, 0⟩
def TEST_MAC_BP : Nat := 0x170024
def F_TEST_MAC_BP_PORTS : Fld := ⟨0x170024, 28, 24⟩
def F_TEST_MAC_BP_QUEUE : Fld := ⟨0x170024, 18, 16⟩
def F_TEST_MAC_BP_DUTY : Fld := ⟨0x170024, 7, 0⟩
def TEST_ASRC_JIT : Nat := 0x170028
def F_TEST_ASRC_JIT_PERIOD : Fld := ⟨0x170028, 31, 16⟩
def F_TEST_ASRC_JIT_AMP : Fld := ⟨0x170028, 7, 0⟩
def TEST_ASRC_MASK : Nat := 0x17002c
def F_TEST_ASRC_MASK_PORTS : Fld := ⟨0x17002c, 31, 0⟩
def TEST_TICK : Nat := 0x170030
def F_TEST_TICK_GO : Fld := ⟨0x170030, 31, 31⟩
def F_TEST_TICK_DLY : Fld := ⟨0x170030, 7, 0⟩
def TEST_CDC : Nat := 0x170034
def F_TEST_CDC_PIN3 : Fld := ⟨0x170034, 0, 0⟩
def TEST_ECC_CTL : Nat := 0x170038
def F_TEST_ECC_CTL_GO : Fld := ⟨0x170038, 31, 31⟩
def F_TEST_ECC_CTL_TARGET : Fld := ⟨0x170038, 29, 28⟩
def F_TEST_ECC_CTL_DOUBLE : Fld := ⟨0x170038, 24, 24⟩
def F_TEST_ECC_CTL_CORE : Fld := ⟨0x170038, 13, 8⟩
def TEST_ECC_ADDR : Nat := 0x17003c
def F_TEST_ECC_ADDR_ADDR : Fld := ⟨0x17003c, 26, 0⟩
def TEST_LEASE : Nat := 0x170040
def F_TEST_LEASE_SUPP_B : Fld := ⟨0x170040, 1, 1⟩
def F_TEST_LEASE_SUPP_A : Fld := ⟨0x170040, 0, 0⟩
def TEST_SIRLOS : Nat := 0x170044
def F_TEST_SIRLOS_GO : Fld := ⟨0x170044, 31, 31⟩
def F_TEST_SIRLOS_LANES : Fld := ⟨0x170044, 17, 16⟩
def F_TEST_SIRLOS_DUR : Fld := ⟨0x170044, 15, 0⟩

end Sys2Proof.Machine.R
end

