-- ==== Sys2Proof/Machine/Parts.lean ====
section
/-! DEFINITION. The structures that State is made of, one per kind of thing the spec names: sessions, commit groups, ramps,
crossfades, cores, queues. Every field's docstring names the rule of spec/ that gives it and its value at reset. -/
namespace Sys2Proof.Machine

/-- A message that leaves the engine on a transport (R135, R137). -/
structure OutMsg where
  dst : Endpoint
  bytes : List Nat
deriving DecidableEq, Repr

/-- A journaled command that has not been applied (R150, R151): its first position, its length in positions, its commit
index, and whether it has been applied. -/
structure JCmd where
  jpos : Nat
  len : Nat
  nC : Nat
  applied : Bool
deriving DecidableEq, Repr

/-- An ACK that waits for the peer's acknowledgement of its entries (R149, R152): the last JPOS of its command, where it
goes, its record, and the sources of the further copies of the message that are held (R146). -/
structure WaitAck where
  last : Nat
  dst : Endpoint
  session : Nat
  cls : Nat
  ack : AckRec
  copies : List Endpoint
deriving DecidableEq, Repr

/-- A message received for Headrace and not yet served (R135, R138, R140). -/
structure RxMsg where
  via : Via
  bytes : List Nat
deriving DecidableEq, Repr

/-- Headrace (06_headrace.md). Reset: no session open, empty queues, JPOS positions 0. -/
structure Headrace where
  /-- The 64 sessions of the retention SRAM; an unlisted session is closed. -/
  sessions : List (Nat × Session)
  /-- Last JPOS written (R149, HEADRACE_JHEAD). -/
  jhead : Nat
  /-- JAPPLIED (R150). -/
  jappl : Nat
  /-- Commands above JAPPLIED, in journal order (R150). -/
  jcmds : List JCmd
  /-- ACKs that wait for the mirror (R149, R152), in journal order. -/
  waitAck : List WaitAck
  /-- Journal position of each mirrored entry the peer has acknowledged (R152). -/
  mack : Nat
  /-- Sessions whose expiry waits for a free journal position (R148). -/
  expiring : List Nat
  /-- First and last replayed JPOS at the latest restart, 0 when nothing was replayed (R157, EVENT WARM_RESTART). -/
  replayFirst : Nat
  replayLast : Nat
  /-- Messages received and not yet served, oldest first (R135, R138). -/
  rxQ : List RxMsg
  /-- Replies that wait for their port, oldest first. -/
  txQ : List OutMsg
  /-- Bytes that the latest surface transaction returned (R137). -/
  surfOut : List Nat
  /-- Retention SRAM marker valid, session table and journal index CRC matching, no uncorrectable error (R156). -/
  retOk : Bool
deriving DecidableEq, Repr

/-- The states of a commit group (R105); DONE groups leave the list. -/
inductive GState where
  | wait | opn | ready | settle
deriving DecidableEq, Repr

/-- One parameter write of a group member: the word, the value and the ramp word the command itself carries (R122 rule 1),
and the scene-header ramp word for a recalled word (rule 2). -/
structure PWrite where
  pid : Nat
  value : Nat
  own : Option Nat
  recalled : Option Nat
  jpos : Nat
deriving DecidableEq, Repr

/-- A member of a commit group (R105, R127, R128, R151). -/
inductive Member where
  | words (ws : List PWrite)
  | recalled (jpos scene : Nat) (units : List Nat) (load : Bool) (len : Nat)
  | store (jpos scene : Nat) (mask : Option (List Nat)) (ramps : Option (List Nat))
  | reg (jpos off value : Nat)
deriving DecidableEq, Repr

/-- A commit group (R105): index, state, late mark, members in journal order, the writes staged so far (in journal order),
the replayed mark of R133, and the pass at which the members were staged. -/
structure Group where
  idx : Nat
  st : GState
  late : Bool
  members : List Member
  staged : List PWrite
  replayed : Bool
deriving DecidableEq, Repr

/-- An urgent write of FLOOD_CMD or FLOOD_RAMP that waits for its index (R116, R117): `received` tells that the Sluice holds it, and
`ready` is the first tick that begins at least 64 CK_FAB cycles after that. -/
structure UrgentW where
  idx : Nat
  jpos : Nat
  pid : Nat
  value : Nat
  received : Bool
  ready : Nat
deriving DecidableEq, Repr

/-- A running ramp (R118): start index, length, codes at the ends of its field. -/
structure Ramp where
  start : Nat
  n : Nat
  a : Nat
  b : Nat
deriving DecidableEq, Repr

/-- The show and the scene buffer's use (R126, R127, R130). -/
structure SceneBuf where
  valid : Bool
  loading : Bool
  storing : Bool
  scene : Nat
  /-- a load asked for by SLUICE_PRELOAD, not for a recall -/
  preload : Bool
  /-- record length of the store in progress -/
  storeLen : Nat
  /-- JPOS of the store in progress -/
  storeJpos : Nat
  /-- address and size of show storage, from the flash map (R126); 0 until Cage has read it -/
  showBase : Nat
  showSize : Nat
  /-- directory copy in use, none when neither copy checks (R126, SLUICE_SHOW.OPEN) -/
  dir : Option Nat
deriving DecidableEq, Repr

/-- The Sluice (05_sluice_scenes.md). Reset: every BSEL 0, every cell clean, no group, nothing owed. -/
structure Sluice where
  /-- Cell-state entries (R102): bit 0 BSEL, bit 1 DIRTY; an unlisted cell has both 0. -/
  cells : List (Nat × Nat)
  /-- Pending groups, oldest first (R105). -/
  groups : List Group
  /-- Settle cycles still owed at the latest tick, R of R115: settling takes 8 CK_FAB cycles a cell. -/
  owed : Nat
  /-- Urgent writes not yet in effect (R116). -/
  urgent : List UrgentW
  /-- For FLOOD_CMD and FLOOD_RAMP: index and JPOS of the write in effect (R117). -/
  cmdAt : Nat × Nat
  rampAt : Nat × Nat
  /-- SMP_IDX of the latest flip. -/
  lastFlip : Nat
  /-- FLOOD_RAMP in effect for that sample, which a store of the group captures (R117, R127). Reset 0. -/
  capRamp : Nat
  /-- Running ramps by PID (R118 to R120). -/
  ramps : List (Nat × Ramp)
  /-- Show storage and the scene buffer (R126 to R130). -/
  buf : SceneBuf
deriving DecidableEq, Repr

/-- SCHED (02_sample_period.md). -/
structure Sched where
  /-- SMP_IDX (R20). Reset 0. -/
  idx : BitVec 64
  /-- SCHED_STAT.RUNNING: the tick runs (R54). Reset false. -/
  running : Bool
  /-- The tick at which an armed shadow table is checked (R26); none when nothing is armed. -/
  arm : Option Nat
  /-- Tally seconds and nanoseconds at the latest tick (R53). Reset 0. -/
  tickSec : Nat
  tickNs : Nat
  /-- Consecutive overruns of each core (R31). -/
  ovrRun : List (Nat × Nat)
  /-- Hold counters of the silence detectors (R34). -/
  hold : List (Nat × Nat)
  /-- Dormant input strips, bit i for strip i (R34). -/
  dormant : Nat
  /-- The window in progress, if any (R23). -/
  window : Option Window
  /-- Cores released in the window in progress, and cores that had not issued WAIT when it began (R29, R31, R38). -/
  released : List Nat
  late : List Nat
  /-- The same of the FX cores, whose window is the whole Ts, and whether that window is in progress. -/
  fxReleased : List Nat
  fxLate : List Nat
  fxOpen : Bool
  /-- Remaining delay of TEST_TICK for the next tick, CK_AUD cycles (R369). -/
  extra : Nat
deriving DecidableEq, Repr

/-- A route crossfade point that crossfades (R64 to R66): start index, length X, old and new setting, and the queued setting. -/
structure Xf where
  start : Nat
  len : Nat
  old : Nat
  new : Nat
  queued : Option Nat
deriving DecidableEq, Repr

/-- A running bus or matrix crossfade (R86 to R88): start index, length L, and whether a set is pending with the ramp length
of its latest commit. L = 0: the column does not crossfade and its pending set waits for the other column of its linked pair. -/
structure MixXf where
  start : Nat
  len : Nat
  pend : Option Nat
deriving DecidableEq, Repr

/-- The gain planes (0 to 2) in which a column's roles stand (R111, R112): LIVE, PREV while it crossfades, and the plane that
holds a staged or pending set. -/
structure Planes where
  live : Nat
  prev : Option Nat
  held : Option Nat
deriving DecidableEq, Repr

/-- Sends, buses, matrix and Confluence (04_sends_buses_confluence.md). A gain is stored as 4γ + 2 PRE + ON under the key
256 × source + column for sends and 128 × source + column for matrix crosspoints; an unlisted gain is 0 with PRE and ON 0. -/
structure Mix where
  /-- LIVE plane of the send columns (R111, R112). Reset: empty. -/
  live : List (Nat × Nat)
  /-- PREV plane (the old set of a crossfade). Reset: empty. -/
  prev : List (Nat × Nat)
  /-- Pending set of a crossfading bus (R87). Reset: empty. -/
  pend : List (Nat × Nat)
  /-- The columns that the group at hand has staged whole (R111). Reset: empty. -/
  stg : List (Nat × Nat)
  /-- The same four sets of the matrix columns. -/
  mlive : List (Nat × Nat)
  mprev : List (Nat × Nat)
  mpend : List (Nat × Nat)
  mstg : List (Nat × Nat)
  /-- The plane of each role, keyed as `xf`; an unlisted column has LIVE in plane 0 and the others free. -/
  planes : List (Nat × Planes)
  /-- Send words committed while their column crossfades, latest value kept, keyed by PID (R87, CONFL_XP_SUMP_CNT). -/
  queued : List (Nat × Nat)
  /-- Running crossfades: key b for bus b, 256 + x for matrix strip x. -/
  xf : List (Nat × MixXf)
  /-- The leaves of the running sample, key 256 × m + b (R84). -/
  leaf : List (Nat × Int)
  /-- The bus sums delivered for the running sample (R85). -/
  sum : List (Nat × Int)
deriving DecidableEq, Repr

/-- The Floodgate (R95 to R98). -/
structure Flood where
  /-- The gain g, 0 to 2^31. Reset 0. -/
  g : Nat
  /-- The decision of the latest tick (FLOOD_STATE.CLOSED). Reset false. -/
  closed : Bool
  /-- The accepted level of MUTE_N after filter and synchroniser; high at reset (DESIGN CHOICE). -/
  pin : Bool
  /-- The latch of the PIN source. Reset false. -/
  latch : Bool
  /-- PIN, LEASE or FAULT was active since the latest tick (R97). Reset false. -/
  seen : Bool
  /-- The FAULT source (R95). Reset false. -/
  fault : Bool
  /-- SMP_IDX of the latest closing. Reset 0. -/
  closeIdx : Nat
deriving DecidableEq, Repr

/-- What the FX shell holds for a slot while its object runs (R189): FX_SW's setting, with the old one and its weight while it
crossfades; the gained inputs; the return gains; whether the identifiers match (R73). -/
structure FxHold where
  now : Nat
  old : Option (Nat × Int)
  in0 : Int
  in1 : Int
  gl : Nat
  gr : Nat
  idOk : Bool
deriving DecidableEq, Repr

/-- The signal-flow graph's state (03_strips.md). Every map is empty at reset. -/
structure Dsp where
  /-- Values of source IDs presented in phase A of the running Ts, Q1.31 (source pool). -/
  src : List (Nat × Int)
  /-- Values of IDs 0xD00 to 0xE8F computed in the running Ts, Q9.31 (R44, R58). -/
  out : List (Nat × Int)
  /-- The same of the previous Ts. -/
  outPrev : List (Nat × Int)
  /-- FX cores that overran in the latest window (R188). -/
  fxOver : List Nat
  /-- What the FX shell has read for the sample it processes, by slot (R189). -/
  fxHold : List (Nat × FxHold)
  /-- Input strips whose source selection a commit of the running Ts changed (R37). -/
  srcMoved : List Nat
  /-- x0 of each input strip in the running Ts (R70). -/
  x0 : List (Nat × Int)
  /-- Input alignment delay lines: key 8192 × strip + (n mod 8192) (R11, R70). -/
  align : List (Nat × Int)
  /-- Output delay lines: key 8192 × line + (n mod 8192) (R59). -/
  odly : List (Nat × Int)
  /-- Values of the output delay lines' taps in the running Ts (tap IDs 0x1400 on). -/
  odlyOut : List (Nat × Int)
  /-- Words of the post-fader and pre-fader frames of the running sample, Q5.27 (R14), and the previous pre-fader frame. -/
  post : List (Nat × Int)
  pre : List (Nat × Int)
  preLast : List (Nat × Int)
  /-- Direct outputs in the running sample, by scope unit. -/
  dir : List (Nat × Int)
  /-- Block states: key ((64 × strip unit + block) × 8 + version). -/
  blk : List (Nat × List Int)
  /-- Route crossfade points that crossfade or hold a queued setting. -/
  xf : List (Nat × Xf)
  /-- Phase of generator g (key 2g, old generator of a TYPE crossfade 2g + 1) and noise register likewise (R77). -/
  genPhi : List (Nat × Nat)
  genReg : List (Nat × Nat)
  /-- Dither register (R74); reads 1 at reset. -/
  prng : Nat
  /-- Steps taken for the latest sample. -/
  steps : Nat
  /-- Meter values written for the running sample: key 4u + kind (R71). -/
  meter : List (Nat × Nat)
  /-- Samples handed off in the running Ts: key = patch entry, value y of R98 (zero unlisted). -/
  handoff : List (Nat × Int)
  /-- Conversions before the Floodgate, key = patch entry: q of R74 (FX inputs among them). -/
  conv : List (Nat × Int)
deriving DecidableEq, Repr

end Sys2Proof.Machine
end

