-- ==== Sys2Proof/Machine/PartsB.lean ====
section
/-! DEFINITION. The structures of State for the persistent register file, the CV outputs, the memories and the crossbar, the
Mintal cores, and the reset logic. -/
namespace Sys2Proof.Machine

/-- One stored copy of a PRF word (R335): sequence number, value, and whether its check code is right. Sequence 0: the copy
has never been programmed. -/
structure PrfCopy where
  seq : Nat
  value : Nat
  ok : Bool
deriving DecidableEq, Repr

/-- The two copies of a PRF word (R335). -/
structure PrfWord where
  a : PrfCopy
  b : PrfCopy
deriving DecidableEq, Repr

/-- The persistent register file (13_cv_persistent.md). -/
structure Prf where
  /-- The stored copies; an unlisted word has never been written (R333). -/
  words : List (Nat × PrfWord)
  /-- Wear counters (R337). -/
  wear : List (Nat × Nat)
  /-- Accepted writes, oldest first: word and value; the first one is in progress while `busy` (R334). -/
  queue : List (Nat × Nat)
  /-- The first write of the queue is being programmed (PRF_STAT.BUSY, R334). -/
  busy : Bool
  /-- The power-fail detector has tripped (R336). -/
  pf : Bool
  /-- A PRF load waits for the queue to empty (R334). -/
  loadDue : Bool
deriving DecidableEq, Repr

/-- What a CV output does (R327 to R329): high impedance, parking towards a code, held parked at its rest level, driven. -/
inductive CvPhase where
  | hiz | park | held | driven
deriving DecidableEq, Repr

/-- A CV output (R326 to R329): phase, latched span and code, a write that waits for the next tick (span, code), and whether
a fall of VDD_CV_HI holds it parked. -/
structure CvOut where
  ph : CvPhase
  span : Nat
  code : Nat
  pend : Option (Nat × Nat)
  wasHeld : Bool
deriving DecidableEq, Repr

/-- The CV block (R324 to R331). -/
structure Cv where
  /-- The comparisons of VDD_CV (R325). -/
  ok : Bool
  hi : Bool
  /-- The outputs by number; an unlisted one is at high impedance. -/
  outs : List (Nat × CvOut)
  /-- MID_HI as driven on CV_MID (R329). -/
  mid : Bool
deriving DecidableEq, Repr

/-- A Reservoir bank handover that waits for granted accesses to drain (R204). -/
structure Handover where
  bank : Nat
  owner : Nat
deriving DecidableEq, Repr

/-- A memory test on request (R224): target, algorithm, core, bank. -/
structure Mbist where
  target : Nat
  alg : Nat
  core : Nat
  bank : Nat
deriving DecidableEq, Repr

/-- A crossbar request that waits, with the lock or unlock attribute (R218). -/
structure BusWait where
  req : BusReq
  lock : Bool
  unlock : Bool
deriving DecidableEq, Repr

/-- The memories' state beyond their contents, and the crossbar (08_reservoir_crossbar.md). -/
structure Bus where
  /-- Stored words whose data bits differ from their check code: word address, flipped bits; bit 8 marks a corrected word
  that waits for its write-back (R167, R208, R369). -/
  ecc : List (Nat × Nat)
  /-- What the latest crossbar command returned: master, data read, and whether it was marked poisoned (R209). -/
  rdata : List (Nat × List Nat × Bool)
  /-- Locks: target and the master that holds it (R218). -/
  locks : List (Nat × Nat)
  /-- Requests that wait for a lock, a handover or the CSR target, oldest first (R204, R218, R250). -/
  waits : List BusWait
  /-- The round-robin pointer of each target (R216) and the master it is parked on (R217). -/
  rr : List (Nat × Nat)
  parked : List (Nat × Nat)
  /-- The bank handover that drains (R204). -/
  handover : Option Handover
  /-- The memory test that runs (R224). -/
  mbist : Option Mbist
  /-- The word that the scrubber reads next, in every bank (R210). -/
  scrub : Nat
  /-- Memories marked failed (R222): scratchpad banks 4c + k, instruction memories 256 + c. -/
  failed : List Nat
  /-- Spare rows and columns in use by soft repair (R222): keys as in `failed`, 512 + b for Reservoir bank b. -/
  spares : List (Nat × (Nat × Nat))
  /-- An access to a stopped clock holds the CSR target (R250). -/
  csrHung : Bool
deriving DecidableEq, Repr

/-- The destination of a result in flight (R168); `sum` is an AHSUM that no write of the forwarding chain has followed. -/
inductive FlDst where
  | v (r lane : Nat)
  | acc (a : Nat)
  | sum (a : Nat)
  | reg (r : Nat)
deriving DecidableEq, Repr

/-- A result in flight: the slot from which it is visible, its destination and its values (lanes from `lane` on for a
V register). -/
structure Flight where
  at_ : Nat
  dst : FlDst
  vals : List Int
deriving DecidableEq, Repr

/-- A crossbar access of an FX core (R181): load or store, V register, format, byte offset in the window, the data of a
store, and the core's cycle count at issue. -/
structure XAcc where
  load : Bool
  v : Nat
  fmt : Nat
  off : Nat
  data : List Nat
  cyc : Nat
deriving DecidableEq, Repr

/-- A Mintal core (07_mintal_core.md). Reset: held, every register 0. -/
structure Core where
  /-- Held in reset (MINTAL_STAT.HELD). -/
  held : Bool
  /-- Lanes of V0 to V15, key 8r + lane, 40-bit values (Q9.31). -/
  v : List (Nat × Int)
  /-- Lanes of ACC0 to ACC3 as readers other than the chain see them, key 8a + lane, 80-bit values. -/
  acc : List (Nat × Int)
  /-- The accumulators as the forwarding chain sees them (R169). -/
  chain : List (Nat × Int)
  /-- The non-vector registers by number (0 to 55). -/
  regs : List (Nat × Nat)
  /-- The issue slot of the next instruction. -/
  slot : Nat
  /-- Results not yet visible, in order of issue (R168). -/
  flight : List Flight
  /-- Address of the next instruction. -/
  pc : Nat
  /-- Target of a taken branch whose delay slot has not issued (R171). -/
  branch : Option Nat
  /-- The instruction at the innermost loop's end has issued and its count has not been checked (R173). -/
  loopDue : Bool
  /-- A loop with count 0: last address of its prologue, and where execution continues (R172). -/
  skip : Option (Nat × Nat)
  /-- A level-1 loop has started in the present pass of the level-0 body (R174). -/
  nested : Bool
  /-- Stopped by WAIT until the next release (R180). -/
  waiting : Bool
  /-- WAIT has issued and waits for outstanding accesses (R180). -/
  waitPend : Bool
  /-- Stalled by WAITX (R179). -/
  xstall : Bool
  /-- A ninth access that stalls issue (R181). -/
  ninth : Option XAcc
  /-- Outstanding accesses, oldest first (R181). -/
  xq : List XAcc
  /-- Causes that wait to be taken (R184): fault, overrun and a debug cause -/
  fault : Option Nat
  ovr : Bool
  debug : Option Nat
  /-- Halted by HALT_REQ or DBG_HALT (R198). -/
  halted : Bool
  /-- MINTAL_CTL.STEP has been written and the step has not issued (R198). -/
  step : Bool
  /-- Stopped by a fault in a handler until reset (R185). -/
  stopped : Bool
  /-- Cycles since the latest release, and whether the window of that release is in progress. -/
  cyc : Nat
  inWindow : Bool
  /-- The FX object that the shell has called: its position, the shell's return address, and whether its RET has issued (R189,
  R190). -/
  obj : Option (Nat × Nat × Bool)
deriving DecidableEq, Repr

/-- The stage of a reset (R360): none; asserted until RESET_RELEASE; Cage boots; waiting for the firmware; waiting to start;
running; failed. -/
inductive BootStage where
  | asserted | fw | wait | restart | running | failed
deriving DecidableEq, Repr

end Sys2Proof.Machine
end

