-- ==== Sys2Proof/Machine/PartsC.lean ====
section
/-! DEFINITION. The structures of State for the pair (12_paired_engines.md): what a HELLO carries, the frames that wait for
their acknowledgement, and the state of roles, synchronisation, resync and Canary. -/
namespace Sys2Proof.Machine

/-- The frames an engine sends on Sirlos (R314), one constructor per channel. -/
inductive LinkMsg where
  | status (role sync : Nat) (home test : Bool) (ack0 ack1 : Nat)
  | hello (h : Hello)
  | tick (idx tmc phi sec ns : Nat) (peerEdge : Bool)
  | canary (n hash : Nat) (items : List Nat)
  | mirror (jpos : Nat) (entries : List Nat)
  | mack (jpos : Nat)
  | ratio (n : Nat) (words lost : List (Nat × Nat))
  | fwd (slot ts value : Nat)
  | close (n : Nat) (present : List Nat)
  | copy (x : CopyItem)
  | sweep (item ns : Nat) (x : SweepData)
  | swack (item : Nat) (ok : Bool)
deriving DecidableEq, Repr

/-- The peer as its STATUS frames report it (R314); role 7 is unknown. -/
structure PeerView where
  role : Nat
  sync : Nat
  home : Bool
  test : Bool
deriving DecidableEq, Repr

/-- The pair (12_paired_engines.md). -/
structure Redun where
  /-- PAIR in effect since the latest reset (R293). Reset: PAIR of the PRF default, lone. -/
  paired : Bool
  /-- Role code of R294: 0 LONE, 1 STANDBY, 2 ACTIVE, 3 YIELDING, 4 HALTED; 5 for a paired engine before Cage sets RUN. -/
  role : Nat
  /-- The pin ROLE_ACT. -/
  roleAct : Bool
  /-- The pin LEASE_HB (R297, R378). -/
  hb : Bool
  /-- A lease is held (R297). -/
  leaseHeld : Bool
  /-- Cause with which YIELDING was entered (R294). -/
  yieldCause : Nat
  /-- Synchronisation state of R295: 0 OFF, 1 NO_PEER, 2 PEERED, 3 RESYNC, 4 SYNCED. -/
  sync : Nat
  /-- REASON (R295). -/
  reason : Nat
  /-- Resync phase (R317). -/
  phase : Nat
  /-- The peer's role, synchronisation, HOME and TEST as its latest STATUS frame gave them (R314). -/
  peer : PeerView
  /-- Block lock of the two lanes (R313, R314). -/
  lane0 : Bool
  lane1 : Bool
  /-- The latest HELLO of the peer (R313). -/
  peerHello : Option Hello
  /-- Frames sent and not acknowledged, oldest first: lane, sequence number, content (R315). -/
  tx : List (Nat × Nat × LinkMsg)
  /-- Next sequence number of each lane, and the number up to which each lane's frames have been received. -/
  seq0 : Nat
  seq1 : Nat
  rcv0 : Nat
  rcv1 : Nat
  /-- Mirroring and forwarding run for a resyncing peer (R307, R318). -/
  feeding : Bool
  /-- COPY is complete, at tick n_p (R318). -/
  copied : Option Nat
  /-- ALIGN is complete (R319). -/
  aligned : Bool
  /-- This engine is the unit that is being resynced (R317). -/
  unit : Bool
  /-- The tick n_0 at which the unit's cores were released (R319). -/
  n0 : Option Nat
  /-- Sweep items not yet installed, one bit each (R320): 0 ENGINE, 1 to 89 TILE, 90 to 105 MIX, 106 to 153 FX. -/
  items : Nat
  /-- Final passes sent and not answered: item and index n_s (R321). -/
  passes : List (Nat × Nat)
  /-- Dirty lines of the FX items under sweep, by slot (R194). -/
  dirty : List (Nat × List Nat)
  /-- FX slots whose object the standby's shell does not call (R196). -/
  muted : List Nat
  /-- VERIFY runs: equal hashes so far (R322). -/
  verify : Option Nat
  /-- The pair enters SYNCED at the next tick (R322), or leaves it at the next tick with this REASON (R309, R312). -/
  syncNext : Bool
  unsyncNext : Option Nat
  /-- Canary hashes and items of this engine and of the peer that have not been compared: n, hash, item CRCs (R312). -/
  own : List (Nat × Nat × List Nat)
  theirs : List (Nat × Nat × List Nat)
  /-- Engine hash of the latest completed sample, and sample of the latest mismatch (R312). -/
  hash : Nat
  divIdx : Nat
  /-- Standby: RATIO words and CLOSE maps received, by index (R305, R308). -/
  ratios : List (Nat × List (Nat × Nat))
  closes : List (Nat × List Nat)
  /-- Standby: index, TMC and φ of the latest TICK record (R305). -/
  tickRec : Option (Nat × Nat × Nat)
  /-- E(n) of the latest tick (R300) and of the one before. -/
  en : Bool
  enPrev : Bool
  /-- Digests of the loaded DSP and CFG images that HELLO carries, and the largest CONV_LEN of the loaded FX objects (R313,
  R317). -/
  myDsp : Nat
  myAudio : Nat
  convLen : Nat
  /-- Unit: the ENGINE item received, with its n_s, until the tick n_s + 16 (R320). -/
  engine : Option (Nat × SweepData)
deriving DecidableEq, Repr

/-- A reference input as the RCU measures it (R229 to R233): time of the latest accepted edge in root cycles, accepted edges
in the running interval, times of the latest hits, whether the hits of this interval disqualify, and interval ends since the
input became QUALIFYING. -/
structure RefIn where
  last : Option Int
  edges : Nat
  hits : List Int
  hitBad : Bool
  qual : Nat
deriving DecidableEq, Repr

/-- The RCU (09_references_clocks.md) beyond its registers. -/
structure Rcu where
  /-- The reference inputs by number (R229 to R233). -/
  ins : List (Nat × RefIn)
  /-- Holdover history, newest first (R242). -/
  hist : List Int
  /-- The history still holds the samples of the previous input (R242). -/
  histOld : Bool
  /-- The inputs that have been VALID without a break for RCU_WTR (R237). -/
  revert : List Nat
  /-- The next accepted edge of the selected input measures the phase step (R241). -/
  stepDue : Bool
  /-- SMP_IDX at the latest switch (R237, RCU_SWITCH_IDX). -/
  switchIdx : Nat
  /-- The time of the latest tick in root cycles, on the count by which the edges of the inputs are stamped (R229, R244). -/
  tickT : Int
  /-- The word clock outputs that have a phase: the time in root cycles of the active edge placed by the latest alignment, and the
  length of the period that ends with it (R244, R245). -/
  wck : List (Nat × (Int × Int))
deriving DecidableEq, Repr

/-- Resets, faults and boot (14_boot_update.md, 15_resets_faults_test.md). -/
structure Rst where
  /-- Where the engine stands between a reset and RUNNING (R349, R360). -/
  stage : BootStage
  /-- The reset or boot in progress is a warm one. -/
  warm : Bool
  /-- The cores are held from a warm reset, or a cold take-over, until the restart tick n_r (R22, R134, R303). -/
  coresHeld : Bool
  /-- CK_XO makes edges (R228). -/
  xo : Bool
  /-- The watchdog runs (R364). -/
  wdt : Bool
  /-- A BULK RESTART has been acknowledged and its reset has not started (R357). -/
  restartDue : Bool
  /-- Slot that runs, and the slot that ran before the latest reset (R351). -/
  slot : Nat
  lastSlot : Option Nat
  /-- SHA-384 digests of the headers of the set that ran before the latest reset (R351). -/
  lastSet : List Nat
  /-- VDD_IO33 stands within its limits (R376, R379). -/
  io33 : Bool
deriving DecidableEq, Repr

end Sys2Proof.Machine
end

