-- ==== Sys2Proof/Machine/PartsD.lean ====
section
/-! DEFINITION. The structures of State for Tally, the network ports and stream contexts (10_network_tally.md), the serial
ports, the rate converters and the modulator inputs (11_serial_pdm.md). -/
namespace Sys2Proof.Machine

/-- Tally (R261 to R263) and the media clock (R268). Reset: all 0. -/
structure Tally where
  /-- Seconds, nanoseconds and fraction at the base instant: `at_` CK_FAB cycles after the latest tick. -/
  sec : Nat
  ns : Nat
  frac : Nat
  at_ : Nat
  /-- A written TALLY_ADDEND_FRAC that waits for INT (R262). -/
  held : Option Nat
  /-- TMC of the latest tick, and the residue φ in 10⁻⁹ samples (R268). -/
  tmc : Nat
  phi : Int
  /-- The next tick realigns TMC (R268). -/
  realign : Bool
deriving DecidableEq, Repr

/-- A received frame that waits for firmware (R256): queue 1 PTP_EVENT, 5 HOST or MGMT; OVERSIZE mark; the results of the
checksum checks; its receive stamp. -/
structure RxFrame where
  queue : Nat
  oversize : Bool
  csumOk : Bool
  sec : Nat
  ns : Nat
  bytes : List Nat
deriving DecidableEq, Repr

/-- A frame that waits to be sent: FCS included; one-step flag and tag of a PTP event (R264, R266). -/
structure TxFrame where
  oneStep : Bool
  tag : Nat
  bytes : List Nat
deriving DecidableEq, Repr

/-- A network port (R252 to R266). Reset: no link, empty queues. -/
structure MacPort where
  /-- SPEED at the latest rise of EN (R252). -/
  mode : Nat
  /-- A received PAUSE holds the HOST, MGMT and BULK queues (R254). -/
  paused : Bool
  /-- This port has asked its link partner to pause (R254). -/
  asked : Bool
  /-- Frames received for firmware, oldest first. -/
  rx : List RxFrame
  /-- Frames to send: PTP event, MEDIA, HOST or MGMT, BULK (R258); HEADRACE messages wait in Headrace. -/
  txP : List TxFrame
  txM : List TxFrame
  txH : List TxFrame
  txB : List TxFrame
  /-- The transmit time-stamp queue: tag, seconds, nanoseconds (R264, R265). -/
  tsq : List (Nat × Nat × Nat)
  /-- The frame sent latest. -/
  sent : List Nat
deriving DecidableEq, Repr

/-- What a receive context has seen of RTP sequence numbers: the highest of each leg as a running number, and the numbers
received above the lost ones (RX_LOST_CNT). -/
structure RxSeq where
  hiP : Option Nat
  hiS : Option Nat
  low : Nat
  got : List Nat
deriving DecidableEq, Repr

/-- A transmit context at work (R273): whether its first packet has begun, time-stamp and sequence number of the packet in
assembly, and its samples so far. -/
structure TxCtx where
  on : Bool
  ts : Nat
  seq : Nat
  frames : List (List Int)
deriving DecidableEq, Repr

/-- The network (10_network_tally.md). Reset: empty. -/
structure Net where
  /-- The ports by number: media ports 0 to 3, management 4 (R252). -/
  ports : List (Nat × MacPort)
  /-- Playout ring positions that hold a sample, key 256 × slot + (RTP time-stamp mod 256): its time-stamp (R269). The sample is a word
  of memory (Region table of 10_network_tally.md). -/
  ring : List (Nat × Nat)
  /-- Counters of the selected-context window, key 8 × context + index. -/
  cnt : List (Nat × Nat)
  /-- Sequence numbers of the receive contexts (R272). -/
  rxSeq : List (Nat × RxSeq)
  /-- The transmit contexts at work (R273). -/
  txCtx : List (Nat × TxCtx)
deriving DecidableEq, Repr

/-- The settings of a serial port that one frame runs under (R391): CTL, IN_MASK, OUT_MASK, IN_BASE, OUT_BASE. -/
structure SpCfg where
  ctl : Nat
  inMask : Nat
  outMask : Nat
  inBase : Nat
  outBase : Nat
deriving DecidableEq, Repr

/-- A serial port (R274 to R281). Reset: off. -/
structure Sport where
  /-- EN = 1 and the configuration has been accepted (R277). -/
  ok : Bool
  /-- Settings of the frame that the latest tick ended, and of the frame in progress (R391). -/
  prev : Option SpCfg
  cur : Option SpCfg
  /-- The port has reached STATE 2; it had when the latest tick came. -/
  run : Bool
  runPrev : Bool
  /-- Accepted settings under which the port starts again with its next frame (R277, R391). -/
  restart : Bool
  /-- Frame count F. -/
  f : Nat
  /-- Frames since the latest loss, up to 1,024 (SPORT_STAT.STATE). -/
  sinceLoss : Nat
  /-- A gang member's frame start that waits for the other members: the tick, and the words of the frame (R281). -/
  start : Option (Nat × List Int)
  /-- Words that DOUT carries in the frame that the latest tick ended, and in the frame in progress. -/
  outPrev : List Int
  out : List Int
  /-- The frame that the latest tick ended has been handed off or judged (R276, R279); the frame in progress has been found missing. -/
  seen : Bool
  missed : Bool
  /-- δ and the slot words of the accepted frame that the latest tick ended, for the lanes (R282, R283). -/
  delta : Option Int
  words : List Int
  /-- ASYNC: the settings of the frame in progress, if one is (R280). -/
  inFrame : Option SpCfg
  /-- ASYNC: frames in the input FIFO with their index, and in the output FIFO (R279). -/
  inQ : List (Nat × List Int)
  outQ : List (List Int)
  /-- The ratio that the tracker now measures (R284). -/
  track : Nat
  /-- ASYNC: the converter (R285, R286). -/
  conv : Conv
deriving DecidableEq, Repr

/-- The modulator inputs (R288 to R292): the channels, and ratios of the CLKIN trackers latched and not yet in effect. -/
structure Pdm where
  chans : List (Nat × PdmChan)
  ratios : List (Nat × List (Nat × Nat))
  /-- Capture records by clock source: index, seconds, epoch, nanoseconds (R292). -/
  capt : List (Nat × (Nat × Nat × Nat × Nat))
deriving DecidableEq, Repr

/-- Serial ports, lanes and modulators (11_serial_pdm.md). -/
structure Serial where
  /-- The serial ports by number (R274 to R281). -/
  ports : List (Nat × Sport)
  /-- Cut-through lanes of the frame that the latest tick ended, and of the frame in progress: ROUTE and GAIN (R283). -/
  lanesPrev : List (Nat × (Nat × Nat))
  lanes : List (Nat × (Nat × Nat))
  /-- The modulator inputs (R288 to R292). -/
  pdm : Pdm
  /-- Floodgate gain of the frame that the latest tick ended (R98). -/
  gPrev : Nat
  /-- ASYNC input frames (port, F) that this engine has lost since its latest RATIO word, and those that the active engine has
  reported lost (R305). -/
  lost : List (Nat × Nat)
  zeroed : List (Nat × Nat)
deriving DecidableEq, Repr

end Sys2Proof.Machine
end

