-- ==== Sys2Proof/Machine/PartsE.lean ====
section
/-! DEFINITION. The structures of State for the boot, the field update (14_boot_update.md) and the TEST block
(15_resets_faults_test.md). -/
namespace Sys2Proof.Machine

/-- The fuses (R345, R347): hash of the Quefel key, hash of the customer key, unit identity, rollback count F. -/
structure Fuses where
  quefel : Nat
  customer : Option Nat
  unit : Option Nat
  rollback : Nat
deriving DecidableEq, Repr

/-- A region entry of the flash map (R339): crossbar address and size in bytes. -/
structure Region where
  base : Nat
  size : Nat
deriving DecidableEq, Repr

/-- The regions of a valid flash map (R339). -/
structure FlashMap where
  slotA : Region
  slotB : Region
  s1 : Region
  s2 : Region
  showR : Region
deriving DecidableEq, Repr

/-- A field update (R357): BOOT_UPD_STAT.STATE; kind, identifier, total and next expected offset of the open or latest
transfer; the bytes in the write buffer not yet programmed. -/
structure Upd where
  state : Nat
  kind : Nat
  xfer : Nat
  total : Nat
  next : Nat
  held : Nat
deriving DecidableEq, Repr

/-- What Cage puts back when it clears a loaded set (R346): registers, memory, cell states, and the digests and lengths of the
set (R313) as they stood before the load. -/
structure Snap where
  csr : List (Nat × BitVec 32)
  mem : List (Nat × BitVec 8)
  cells : List (Nat × Nat)
deriving DecidableEq, Repr

/-- The boot (R338 to R359). Reset: no map, no set, no transfer; the fuses stand as blown. -/
structure Boot where
  /-- The fuses (R345, R347). -/
  fuse : Fuses
  /-- The flash map that Cage has found (R339). -/
  map : Option FlashMap
  /-- The other slot has been tried at this boot (R354). -/
  triedBoth : Bool
  /-- The set that Cage boots is a trial set (R354). -/
  trial : Bool
  /-- The wait of a WAIT_REF record, while it lasts (R350). -/
  waitRef : Option Nat
  /-- The restart check of this warm boot has passed (R156, R351). -/
  restartOk : Bool
  /-- Memories that MBIST has found failed at this boot, as in `Bus.failed`, banks of the Reservoir under 512 + bank. -/
  bad : List Nat
  /-- The field update (R357). -/
  upd : Upd
  /-- Every transparent march of this boot has passed (R156, R223). -/
  march : Bool
  /-- As the engine stood before the set was loaded, until the firmware reports ready. -/
  snap : Option Snap
  /-- Digests of the headers of the loaded set (R351). -/
  digests : List Nat
  /-- The settings area that the running CTL firmware uses, 1 or 2; none: it uses its defaults (R356). -/
  settings : Option Nat
deriving DecidableEq, Repr

/-- The TEST block (R368): the first key of the unlock sequence has just been written (TEST_STAT.OPEN is a CSR field). -/
structure Test where
  first : Bool
deriving DecidableEq, Repr

end Sys2Proof.Machine
end

