-- ==== Sys2Proof/Machine/State.lean ====
section
/-! DEFINITION. The state of the engine, what can stop a step, and the state right after reset. -/
namespace Sys2Proof.Machine

/-- Why the machine stops. No meaning of this model raises a fault: every row of the opcode table has an effect in every
state (an access to an address that does not exist completes without a fault, R16). -/
inductive Fault where
  /-- Raised by no command (safe: a stop could only make a claim unprovable). -/
  | outsideSpec
deriving DecidableEq, Repr

/-- Why a command has no meaning. -/
inductive Refusal where
  /-- Raised by an arm of `exec` whose command has no meaning yet (safe). -/
  | notModelled (mnemonic : String)
deriving DecidableEq, Repr

/-- The whole engine. -/
structure State where
  /-- Commands that wait, first in first out. Reset: empty. -/
  pending : List Instr
  /-- CSR words that differ from their cold-reset value, by CSR offset (register tables of spec/). Reset: empty. -/
  csr : List (Nat × Word)
  /-- Bytes of the internal address map that differ from what an unlisted address reads as. Reset: empty. -/
  mem : List Host.Cell
  /-- Draws of free values so far; the model's own field. -/
  freeCtr : Nat
  /-- One field per block; the structures' own docstrings say what each holds. -/
  sched : Sched
  dsp : Dsp
  mix : Mix
  flood : Flood
  slu : Sluice
  hr : Headrace
  prf : Prf
  cv : Cv
  bus : Bus
  /-- The Mintal cores by number; an unlisted core is as after reset. -/
  cores : List (Nat × Core)
  rcu : Rcu
  redun : Redun
  rst : Rst
  tally : Tally
  net : Net
  ser : Serial
  boot : Boot
  tst : Test
deriving DecidableEq, Repr

/-- SCHED, the signal-flow graph and its parts as after reset. -/
def Sched.reset : Sched := ⟨0, false, none, 0, 0, [], [], 0, none, [], [], [], [], false, 0⟩
def Mix.reset : Mix := ⟨[], [], [], [], [], [], [], [], [], [], [], [], []⟩
def Flood.reset : Flood := ⟨0, false, true, false, false, false, 0⟩
def Dsp.reset : Dsp := ⟨[], [], [], [], [], [], [], [], [], [], [], [], [], [], [], [], [], [], 1, 0, [], [], []⟩
def SceneBuf.reset : SceneBuf := ⟨false, false, false, 0, false, 0, 0, 0, 0, none⟩
def Sluice.reset : Sluice := ⟨[], [], 0, [], (0, 0), (0, 0), 0, 0, [], SceneBuf.reset⟩
def Headrace.reset : Headrace := ⟨[], 0, 0, [], [], 0, [], 0, 0, [], [], [], true⟩
def Prf.reset : Prf := ⟨[], [], [], false, false, false⟩
def Cv.reset : Cv := ⟨false, false, [], false⟩
def Bus.reset : Bus := ⟨[], [], [], [], [], [], none, none, 0, [], [], false⟩
def Rcu.reset : Rcu := ⟨[], [], false, [], false, 0, 0, []⟩
/-- A lone engine without a role, no lane in block lock, the peer unknown. -/
def Redun.reset : Redun :=
  ⟨false, 0, false, false, false, 0, 0, 0, 0, ⟨7, 0, false, false⟩, false, false, none, [], 0, 0, 0, 0, false, none, false,
    false, none, 0, [], [], [], none, false, none, [], [], 0, 0, [], [], none, false, false, 0, 0, 0, none⟩
def Rst.reset : Rst := ⟨.asserted, false, true, true, false, false, 0, none, [], false⟩
def Tally.reset : Tally := ⟨0, 0, 0, 0, none, 0, 0, true⟩
def Net.reset : Net := ⟨[], [], [], [], []⟩
def Serial.reset : Serial := ⟨[], [], [], ⟨[], [], []⟩, 0, [], []⟩
def Upd.reset : Upd := ⟨0, 0, 0, 0, 0, 0⟩
def Boot.reset : Boot := ⟨⟨0, none, none, 0⟩, none, false, false, none, false, [], Upd.reset, true, none, [], none⟩

/-- The engine right after a power-on reset has begun: every register at its cold-reset value, every memory as R361 leaves
it, nothing received, queued or waiting; the reset is asserted until RESET_RELEASE (R360). -/
def State.reset : State :=
  ⟨[], [], [], 0, Sched.reset, Dsp.reset, Mix.reset, Flood.reset, Sluice.reset, Headrace.reset, Prf.reset, Cv.reset, Bus.reset,
    [], Rcu.reset, Redun.reset, Rst.reset, Tally.reset, Net.reset, Serial.reset, Boot.reset, ⟨false⟩⟩

/-- What a command's meaning answers. -/
abbrev Out := Host.Outcome State Fault Refusal

end Sys2Proof.Machine
end

