-- ==== Sys2Proof/Machine/Ops.lean ====
section
/-! DEFINITION. The named operations over registers and memory: CSR words and fields, counters and sticky bits, bytes and
words of the internal address map, PSTORE cells, and EVENTs. -/
namespace Sys2Proof.Machine

/-- The register table of a CSR block (CSR block map of 00_scope.md). The five MAC blocks share one table, whose rows give
the instance of MAC_0. -/
def regTable (blk : Nat) : List RegDef :=
  match blk with
  | 0x00 => regTable00
  | 0x01 => regTable01
  | 0x02 => regTable02
  | 0x03 => regTable03
  | 0x04 => regTable04
  | 0x05 => regTable05
  | 0x06 => regTable06
  | 0x07 => regTable07
  | 0x08 => regTable08
  | 0x09 => regTable09
  | 0x0A => regTable09
  | 0x0B => regTable09
  | 0x0C => regTable09
  | 0x0D => regTable09
  | 0x0E => regTable0E
  | 0x0F => regTable0F
  | 0x10 => regTable10
  | 0x11 => regTable11
  | 0x12 => regTable12
  | 0x13 => regTable13
  | 0x14 => regTable14
  | 0x15 => regTable15
  | 0x16 => regTable16
  | 0x17 => regTable17
  | 0x18 => regTable18
  | 0x19 => regTable19
  | 0x1A => regTable1A
  | _ => []

/-- The register at a CSR offset, if one is assigned (R5). -/
def regAt (off : Nat) : Option RegDef := (regTable (off / 65536)).find? (fun d => regDefHas d off)

/-- The fields of the register at a CSR offset; none at an unassigned offset. -/
def regFields (off : Nat) : List FieldDef :=
  match regAt off with
  | some d => d.fields
  | none => []

/-- The cold-reset value of the word at a CSR offset (Reset column). -/
def csrReset (off : Nat) : Word := BitVec.ofNat 32 (fieldsReset (regFields off))

/-- The stored CSR word at an offset. -/
def csrGet (s : State) (off : Nat) : Word :=
  match smapFind s.csr off with
  | some v => v
  | none => csrReset off

/-- Store a CSR word; the map stays canonical. -/
def csrPut (s : State) (off : Nat) (v : Word) : State :=
  { s with csr := if v = csrReset off then smapDel s.csr off else smapPut s.csr off v }

/-- The value of a field. -/
def getF (s : State) (f : Fld) : Nat := bits (csrGet s f.off).toNat f.hi f.lo

/-- Replace a field's value. -/
def setF (s : State) (f : Fld) (x : Nat) : State :=
  csrPut s f.off (BitVec.ofNat 32 (setBits (csrGet s f.off).toNat f.hi f.lo x))

/-- Whether a one-bit field reads 1. -/
def isSet (s : State) (f : Fld) : Bool := getF s f == 1

/-- Set a sticky field (R6). -/
def stick (s : State) (f : Fld) : State := setF s f (2 ^ (f.hi + 1 - f.lo) - 1)

/-- Advance a CNT field by `k`, saturating at its all-ones value (R7). -/
def count (s : State) (f : Fld) (k : Nat) : State :=
  setF s f (min (getF s f + k) (2 ^ (f.hi + 1 - f.lo) - 1))

/-- The generic software write of a register (R4, register types): each field by its type; unassigned offsets are ignored (R5). -/
def csrWrite (s : State) (off : Nat) (v : Word) : State :=
  csrPut s off (BitVec.ofNat 32 (fieldsWrite (csrGet s off).toNat v.toNat (regFields off)))

/-- SMP_IDX as a number. -/
def nowIdx (s : State) : Nat := s.sched.idx.toNat

/-! Memory of the internal address map (01_engine_at_scale.md). -/

/-- What an unlisted address reads as: 0xFF in the flash windows (erased flash), 0 elsewhere (R361). -/
def memDefault (a : Nat) : BitVec 8 := if 0x0400000000 ≤ a && a < 0x0420000000 then 0xFF else 0

/-- One byte of memory. -/
def memGet (m : List Host.Cell) (a : Nat) : BitVec 8 :=
  match smapFind m a with
  | some b => b
  | none => memDefault a

/-- Write one byte; the list stays in canonical form. -/
def memPut (m : List Host.Cell) (a : Nat) (b : BitVec 8) : List Host.Cell :=
  if b = memDefault a then smapDel m a else smapPut m a b

/-- No listed byte equals what its address reads as when unlisted. -/
def memNoDefault : List Host.Cell → Bool
  | [] => true
  | (a, b) :: r => b != memDefault a && memNoDefault r

/-- The canonical form of memory: addresses strictly rising, no entry equal to the unlisted value. -/
def Memory.wf (m : List Host.Cell) : Bool := smapRising 0 m && memNoDefault m

def readByte (s : State) (a : Nat) : Nat := (memGet s.mem a).toNat

/-- The address of the ECC word that holds byte `a`: 32 bits in a scratchpad (R167), 64 bits elsewhere (R199). -/
def eccWord (a : Nat) : Nat := if 0x0100000000 ≤ a && a < 0x0101000000 then a - a % 4 else a - a % 8

/-- Write one byte; the word's check code is renewed with it. -/
def writeByte (s : State) (a : Nat) (b : Nat) : State :=
  { s with mem := memPut s.mem a (BitVec.ofNat 8 b), bus := { s.bus with ecc := smapDel s.bus.ecc (eccWord a) } }

/-- `n` bytes from address `a` on. -/
def readBytes (s : State) (a : Nat) : Nat → List Nat
  | 0 => []
  | n + 1 => readByte s a :: readBytes s (a + 1) n

/-- Write a list of bytes from address `a` on. -/
def writeBytes (s : State) (a : Nat) : List Nat → State
  | [] => s
  | b :: bs => writeBytes (writeByte s a b) (a + 1) bs

/-- Words are stored least significant byte first. -/
def readWord (s : State) (a n : Nat) : Nat := ofLeBytes (readBytes s a n)
def writeWord (s : State) (a n v : Nat) : State := writeBytes s a (leBytes n v)

/-! Free values. -/

/-- Draw a fresh index for a free value. -/
def freshFree (s : State) : Nat × State := (s.freeCtr, { s with freeCtr := s.freeCtr + 1 })

/-- Draw `n` free values. -/
def freshMany (s : State) (n : Nat) : List Nat × State :=
  (tabulate n (fun i => Config.freeNat (s.freeCtr + i)), { s with freeCtr := s.freeCtr + n })

/-! PSTORE (R101 to R103). -/

/-- Address of word `p` in half `h` (R101). -/
def pstoreAddr (h p : Nat) : Nat := 0x04000000 + h * 0x200000 + 4 * p

/-- BSEL and DIRTY of a cell (R102). -/
def cellBsel (s : State) (c : Nat) : Nat := smapGet 0 s.slu.cells c % 2
def cellDirty (s : State) (c : Nat) : Bool := (smapGet 0 s.slu.cells c).testBit 1
def setCell (s : State) (c bsel : Nat) (dirty : Bool) : State :=
  { s with slu := { s.slu with cells := smapSet 0 s.slu.cells c (bsel % 2 + (if dirty then 2 else 0)) } }

/-- The live value of a word: the half that BSEL names. -/
def plive (s : State) (p : Nat) : Nat := readWord s (pstoreAddr (cellBsel s (p / 16)) p) 4
/-- The shadow value of a word. -/
def pshadow (s : State) (p : Nat) : Nat := readWord s (pstoreAddr (1 - cellBsel s (p / 16)) p) 4

/-- Write both halves of a word, as Cage builds PSTORE (R344). -/
def pwriteBoth (s : State) (p v : Nat) : State :=
  writeWord (writeWord s (pstoreAddr 0 p) 4 v) (pstoreAddr 1 p) 4 v

/-! Rates (R20; 00_scope.md, domains). -/

/-- SCHED_CTL.RATE. -/
def rateCode (s : State) : Nat := getF s R.F_SCHED_CTL_RATE
/-- fs in Hz. -/
def fsOf (rate : Nat) : Nat :=
  match rate with
  | 0 => 44100
  | 1 => 48000
  | 2 => 88200
  | _ => 96000
def fsHz (s : State) : Nat := fsOf (rateCode s)
/-- CK_FAB cycles per Ts, C_Ts (R115). -/
def cTs (s : State) : Nat := if 2 ≤ rateCode s then 8192 else 16384
/-- CK_DSP cycles per Ts (R20). -/
def dspPerTs (rate : Nat) : Nat := if 2 ≤ rate then 16384 else 32768
/-- The rate family of a RATE code: 0 for 48 kHz, 1 for 44.1 kHz. -/
def rateFamily (rate : Nat) : Nat := if rate % 2 = 1 then 0 else 1

/-! The pair (R294, R295). -/
def isPaired (s : State) : Bool := s.redun.paired
def isSynced (s : State) : Bool := s.redun.sync == 4
def isActive (s : State) : Bool := s.redun.roleAct
/-- The engine forwards and mirrors: it is the active engine of a SYNCED pair, or feeds a resyncing peer (R307, R318). -/
def feeds (s : State) : Bool := s.redun.paired && isActive s && (isSynced s || s.redun.feeding)
/-- The engine takes its inputs from the active one: the SYNCED standby (R305), and the resyncing unit from n_0 on, which converges by
running on the same inputs (R317, R320; DEDUCED, in the log). -/
def follows (s : State) : Bool :=
  s.redun.paired && !isActive s && (isSynced s || (s.redun.sync == 3 && s.redun.unit && decide (3 ≤ s.redun.phase)))
/-- Role in the numbering of SESSION_OPEN and EVENT ROLE: 0 lone, 1 active, 2 standby. -/
def roleReport (s : State) : Nat := if !s.redun.paired then 0 else if s.redun.roleAct then 1 else 2

/-! Sessions and EVENTs (R160). -/

def emptySpace : SeqSpace := ⟨1, []⟩
def emptyEndpoint : Endpoint := ⟨.mgmt, 0, 0, 0, 0, 0⟩
def closedSession : Session := ⟨false, 0, emptyEndpoint, emptySpace, emptySpace, 0, 1, 0, [], []⟩
def getSession (s : State) (k : Nat) : Session := smapGet closedSession s.hr.sessions k
def putSession (s : State) (k : Nat) (x : Session) : State :=
  { s with hr := { s.hr with sessions := smapSet closedSession s.hr.sessions k x } }

/-- A session without an event of its own: event numbers start at 1 on each engine (R160). -/
def uneventful (x : Session) : Session := { x with outQ := [], lost := 0, evSeq := 1 }

/-- Remove the first queued METER message, if one is queued. -/
def dropMeter : List EventMsg → Option (List EventMsg)
  | [] => none
  | e :: r => if e.code = 7 then some r else (dropMeter r).map (fun r' => e :: r')

/-- Queue an event to one session (R160): with 64 messages queued, a queued METER message is dropped first; when none is
queued the new event is dropped; each drop counts. -/
def queueEvent (s : State) (k : Nat) (e : EventMsg) : State :=
  let x := getSession s k
  if x.outQ.length < 64 then putSession s k { x with outQ := x.outQ ++ [e] }
  else
    let s := count s R.F_HEADRACE_EVT_SUMP_CNT_EVT_SUMP_CNT 1
    match dropMeter x.outQ with
    | some q => putSession s k { x with outQ := q ++ [e], lost := min (x.lost + 1) 0xFFFF }
    | none => putSession s k { x with lost := min (x.lost + 1) 0xFFFF }

/-- Whether a session's mask selects an event code (R160): bits 1 to 3, 6, 8 and 9 count; WARM_RESTART, ROLE and METER go out
whatever the mask. -/
def eventWanted (x : Session) (code : Nat) : Bool :=
  x.isOpen && (if code = 4 || code = 5 then true
    else (code == 1 || code == 2 || code == 3 || code == 6 || code == 8 || code == 9) && x.mask.testBit code)

/-- The CTL firmware runs and answers messages: from its start, through replay, to RUNNING (R157, R158, R349). -/
def answers (s : State) : Bool :=
  match s.rst.stage with
  | .wait => true
  | .restart => true
  | .running => true
  | .asserted => false
  | .fw => false
  | .failed => false

/-- The standby sends no events (R160, R294), and none arises while the CTL firmware does not run (R158). -/
def sendsEvents (s : State) : Bool := answers s && (!s.redun.paired || s.redun.role != 1)

def sendEventTo (code smp : Nat) (data : List Nat) (s : State) (k : Nat) : State :=
  if eventWanted (getSession s k) code then queueEvent s k ⟨code, smp, data⟩ else s

/-- Send an EVENT with `data` to every session that wants it. -/
def sendEvent (s : State) (code : Nat) (data : List Nat) : State :=
  if sendsEvents s then (List.range 64).foldl (sendEventTo code (nowIdx s) data) s else s

end Sys2Proof.Machine
end

