-- ==== Sys2Proof/Machine/Params.lean ====
section
/-! DEFINITION. Parameters as the graph reads them: the code a ramp delivers for a sample (R118 to R120), the setting of a
route crossfade point (R64) and the two settings it mixes (R65, R66). -/
namespace Sys2Proof.Machine

/-- The ramp field of a PID in this engine. -/
def rampFieldOf (pid : Nat) : Option RampField := rampField Config.fxRampable pid

/-- R118, R119: the code that a ramp of `n` samples from `a` to `b` delivers at step `j`. -/
def rampCode (isG : Bool) (a b n j : Nat) : Nat :=
  if n ≤ j then b
  else if isG && a == 0 && b == 0 then 0
  else if isG && b == 0 && j + 1 == n then 0
  else
    let a' : Int := if isG && a == 0 then 0x8000 else (a : Int)
    let b' : Int := if isG && b == 0 then 0x8000 else (b : Int)
    (a' + (b' - a') * ((j : Int) + 1) / (n : Int)).toNat

/-- The code of a word's ramp field in effect for sample `n`; the whole live word for a word without one. -/
def codeAt (s : State) (n pid : Nat) : Nat :=
  match rampFieldOf pid with
  | none => plive s pid
  | some f =>
    match smapFind s.slu.ramps pid with
    | some r => rampCode f.isG r.a r.b r.n (idxAge n r.start)
    | none => bits (plive s pid) f.hi f.lo

/-- A setting whose switch stands in bit `b`: "off" is one setting, whatever the other fields hold (R64). -/
def whenOn (set b : Nat) : Nat := if set.testBit b then set else 0

/-- The setting of a crossfade point, from the words `get` returns (R64, R60, R73, R77). That of SRC is the selected source, with
ALT in bit 12. -/
def pointSetting (get : Nat → Nat) (key : Nat) : Nat :=
  if key < 64 * 1424 then
    let u := key / 64
    let w := fun k => get (pidStrip u k)
    match key % 64 with
    | 0 => if (w 0).testBit 24 then 4096 + bits (w 0) 23 12 else bits (w 0) 11 0
    | 1 => bits (w 3) 12 0
    | 2 => bits (w 2) 0 0
    | 3 => bits (w 2) 1 1
    | 4 => bits (w 2) 2 2
    | 5 => bits (w 2) 3 3
    | 6 => whenOn (bits (w 18) 1 0) 0
    | 7 => whenOn (bits (w 18) 3 2) 0
    | 16 => bits (w 2) 4 4 + 2 * bits (w 2) 7 6 + (if (w 2).testBit 4 then 8 * bits (w 6) 11 0 else 0)
    | 17 => bits (w 2) 5 5
    | 18 => bits (w 0) 25 25
    | 19 => whenOn (bits (w 10) 2 0) 2
    | t =>
      if 8 ≤ t && t < 16 then whenOn (bits (w (35 + 4 * (t - 8))) 3 0) 3
      else if 32 ≤ t && t < 48 then bits (w 83) (t - 32) (t - 32)
      else 0
  else if key < 64 * 1424 + 4096 then
    let e := key - 64 * 1424
    if 3072 ≤ e && e < 3584 then
      whenOn (bits (get (pidPatch e)) 31 31 * 2 ^ 31 + bits (get (pidPatch e)) 28 16 * 2 ^ 16 + bits (get (pidPatch e)) 12 0) 31
    else whenOn (bits (get (pidPatch e)) 15 15 * 2 ^ 15 + bits (get (pidPatch e)) 13 0) 15
  else if key < 64 * 1424 + 4096 + 64 then bits (get (pidGenA (key - 64 * 1424 - 4096))) 2 0
  else bits (get (pidFx (key - 64 * 1424 - 4096 - 64) 0)) 1 0

/-- Two settings of a point are the same: of SRC, the source that they select (R64). -/
def samePoint (key a b : Nat) : Bool := if key % 64 = 0 && key < 64 * 1424 then a % 4096 == b % 4096 else a == b

/-- The standard graph is loaded (R55). -/
def stdGraph (s : State) : Bool := getF s R.F_STRIP_FMT_OBJ_FMT == 1

/-- The crossfade points that a written word can change. -/
def pointsOf (pid : Nat) : List Nat :=
  match pidKind pid with
  | .strip u w =>
    let input := decide (u < 1024)
    (match w with
      | 0 => (if input then [xkSrc u] else []) ++ (if u % 2 = 0 then [xkLink u] else [])
      | 2 => [xkPol u] ++ (if input then [xkGate u] else []) ++ [xkEq u, xkComp u, xkIns u, xkMute u]
      | 3 => if input then [xkDelay u] else []
      | 6 => [xkIns u]
      | 10 => [xkDir u]
      | 18 => [xkHpf u, xkLpf u]
      | 83 => if unitKind u = 1 then (List.range 16).map (xkAssign u) else []
      | _ => if 32 ≤ w && w < 64 && w % 4 = 3 then [xkBand u ((w - 32) / 4)] else [])
  | .fx s w => if w = 0 then [xkFx s] else []
  | .patch e => if e < 3680 then [xkPatch e] else []
  | .glob g => if 0x180 ≤ g && g < 0x1C0 && g % 2 = 0 then [xkGen ((g - 0x180) / 2)] else []
  | .msend _ _ => []
  | .send _ _ => []

/-- The setting of a point in the live words. -/
def liveSetting (s : State) (key : Nat) : Nat := pointSetting (plive s) key

/-- A point's setting for sample `n`, and, while it crossfades, its old setting with the weight ρ_j (R65). -/
def xfAt (s : State) (n key : Nat) : Nat × Option (Nat × Int) :=
  match smapFind s.dsp.xf key with
  | none => (liveSetting s key, none)
  | some r =>
    if idxAge n r.start < r.len then (r.new, some (r.old, rho (idxAge n r.start) r.len)) else (r.new, none)

/-- Whether a point crossfades in sample `n`. -/
def xfRuns (s : State) (n key : Nat) : Bool := ((xfAt s n key).2).isSome

/-- Mix the values of the old and the new setting. -/
def xfMix (x : Nat × Option (Nat × Int)) (val : Nat → Int) : Int :=
  match x.2 with
  | none => val x.1
  | some (o, w) => xmix (val o) (val x.1) w

/-- ROUTE_XF in effect (R93, R94). -/
def routeXf (s : State) : Nat := min (bits (plive s pidRouteXf) 10 0) 1024
/-- SEND_XF_MIN in effect (R93). -/
def sendXfMin (s : State) : Nat := bits (plive s pidSendXfMin) 12 0
/-- FLOOD_RAMP in effect (R93). -/
def floodRamp (s : State) : Nat := min (bits (plive s pidFloodRamp) 6 0) 64
/-- FLOOD_CMD.CLOSE in effect (R117). -/
def floodCmd (s : State) : Bool := (plive s pidFloodCmd).testBit 0

/-- Whether the pair of units 2k, 2k + 1 holding `u` is linked in sample `n`: by the LINK setting of the even strip (R67). -/
def linkAt (s : State) (n u : Nat) : Nat × Option (Nat × Int) := xfAt s n (xkLink (u - u % 2))

/-- The length in samples of a ramp word (R121): 0 for EN = 0. -/
def rampLen (fs w : Nat) : Nat := if w.testBit 31 then min (nOf fs (bits w 15 0)) 16777215 else 0

end Sys2Proof.Machine
end

