-- ==== Sys2Proof/Machine/Prf.lean ====
section
/-! DEFINITION. The persistent register file (R333 to R337): its words, write queue, copies and wear counters. -/
namespace Sys2Proof.Machine

/-- The default of a PRF word (R333; REDUN_MODE 0x03C2_0800, every other word 0). -/
def prfDefault (w : Nat) : Nat := if w = 0x20 then 0x03C20800 else 0

def prfNone : PrfWord := ⟨⟨0, 0, false⟩, ⟨0, 0, false⟩⟩

/-- The newer valid copy, if any (R335). -/
def prfNewest (x : PrfWord) : Option Nat :=
  if x.a.ok && (!x.b.ok || decide (x.b.seq ≤ x.a.seq)) then some x.a.value
  else if x.b.ok then some x.b.value else none

/-- The value a PRF load gives the word (R335). -/
def prfLoaded (s : State) (w : Nat) : Nat := (prfNewest (smapGet prfNone s.prf.words w)).getD (prfDefault w)

/-- What a read of the word returns: the latest accepted write, else the loaded value (R334). -/
def prfRead (s : State) (w : Nat) : Nat :=
  match (s.prf.queue.filter (fun q => q.1 == w)).getLast? with
  | some q => q.2
  | none => prfLoaded s w

/-- Reserved words (R333). -/
def prfReserved (w : Nat) : Bool :=
  (0x11 ≤ w && w ≤ 0x1F) || (0x21 ≤ w && w ≤ 0x2F) || (0x50 ≤ w && w ≤ 0xFF) || 0x400 ≤ w

/-- BOOT words, writable by Cage and firmware only (R333). -/
def prfBoot (w : Nat) : Bool := 0x30 ≤ w && w ≤ 0x3F

/-- A write to a PRF word by the host (`host`) or by firmware or Cage (R333, R334, R336): denied, refused by a full queue,
discarded while the power-fail detector has tripped, or queued; the first queued write is in progress. -/
def prfWrite (s : State) (host : Bool) (w v : Nat) : State :=
  if prfReserved w || (host && prfBoot w) then stick s R.F_PRF_STAT2_DENY_S
  else if 8 ≤ s.prf.queue.length then
    count (stick s R.F_PRF_STAT_QUEUE_REJ_S) R.F_PRF_QUEUE_SUMP_CNT_QUEUE_SUMP_CNT 1
  else if s.prf.pf then s
  else { s with prf := { s.prf with queue := s.prf.queue ++ [(w, v % 2 ^ 32)], busy := true } }

/-- Program the older copy and validate it (R335). -/
def prfProgram (x : PrfWord) (v : Nat) : PrfWord :=
  let n := max x.a.seq x.b.seq + 1
  if x.b.ok && (!x.a.ok || decide (x.a.seq < x.b.seq)) then { x with a := ⟨n, v, true⟩ }
  else if x.a.ok then { x with b := ⟨n, v, true⟩ } else { x with a := ⟨n, v, true⟩ }

/-- A write that power loss interrupts leaves the copy it was programming invalid (R335, R336). -/
def prfTear (x : PrfWord) : PrfWord :=
  let n := max x.a.seq x.b.seq + 1
  if x.b.ok && (!x.a.ok || decide (x.a.seq < x.b.seq)) then { x with a := ⟨n, 0, false⟩ }
  else if x.a.ok then { x with b := ⟨n, 0, false⟩ } else { x with a := ⟨n, 0, false⟩ }

/-- Words whose load fails: programmed at least once and without a valid copy (R335). -/
def prfBad (s : State) : List Nat :=
  (s.prf.words.filter (fun p => (prfNewest p.2).isNone && (p.2.a.seq != 0 || p.2.b.seq != 0))).map (fun p => p.1)

/-- A PRF load (R335): the words without a valid copy take their defaults and are reported. -/
def prfLoad (s : State) : State :=
  let s := { s with prf := { s.prf with loadDue := false } }
  match prfBad s with
  | [] => s
  | w :: r =>
    let s := stick s R.F_PRF_STAT_LOAD_ERR_S
    let s := count s R.F_PRF_LOAD_ERR_CNT_LOAD_ERR_CNT (r.length + 1)
    setF s R.F_PRF_LAST_ERR_WORD w

/-- The write in progress completes (R334, R337): the word is persistent, its wear counter advances, the next one starts. -/
def prfDone (s : State) : State :=
  match s.prf.queue with
  | [] => s
  | (w, v) :: q =>
    if !s.prf.busy then s else
    let n := smapGet 0 s.prf.wear w
    let p := { s.prf with
      words := smapPut s.prf.words w (prfProgram (smapGet prfNone s.prf.words w) v),
      wear := smapSet 0 s.prf.wear w (min (n + 1) 0xFFFFFF),
      queue := q, busy := !q.isEmpty }
    let s := { s with prf := p }
    let s := if n = 200000 then stick s R.F_PRF_STAT_WEAR_LIMIT_S else s
    if q.isEmpty && s.prf.loadDue then prfLoad s else s

/-- The power-fail detector trips (R336): queued writes that have not started are discarded. -/
def prfFail (s : State) : State :=
  { s with prf := { s.prf with pf := true, queue := if s.prf.busy then s.prf.queue.take 1 else [] } }

/-- VKEEP was lost and is back (R335, R336): a write in progress is lost, the detector is clear, and the PRF is loaded. -/
def prfPowerUp (s : State) : State :=
  let ws := match s.prf.queue with
    | (w, _) :: _ => if s.prf.busy then smapPut s.prf.words w (prfTear (smapGet prfNone s.prf.words w)) else s.prf.words
    | [] => s.prf.words
  prfLoad { s with prf := { s.prf with words := ws, queue := [], busy := false, pf := false, loadDue := false } }

/-- A PRF load at a cold reset with VKEEP up: at once, or when the queue is empty (R334). -/
def prfReload (s : State) : State :=
  if s.prf.queue.isEmpty then prfLoad s else { s with prf := { s.prf with loadDue := true } }

/-- PRF_WEAR_MAP (R337). -/
def prfWearMap (s : State) (k : Nat) : Nat :=
  (List.range 32).foldl (fun m i => if 200000 < smapGet 0 s.prf.wear (32 * k + i) then m ||| 2 ^ i else m) 0

end Sys2Proof.Machine
end

