-- ==== Sys2Proof/Machine/Cv.lean ====
section
/-! DEFINITION. The control-voltage outputs (R324 to R331). -/
namespace Sys2Proof.Machine

def cvHiz : CvOut := ⟨.hiz, 0, 0, none, false⟩
def getCv (s : State) (k : Nat) : CvOut := smapGet cvHiz s.cv.outs k
def putCv (s : State) (k : Nat) (o : CvOut) : State :=
  { s with cv := { s.cv with outs := smapSet cvHiz s.cv.outs k o } }

/-- Spans U5V and B2V5 need VDD_CV above V_CVH (R324). -/
def cvHighSpan (sp : Nat) : Bool := sp == 1 || sp == 3
/-- Spans B1V25 and B2V5 are bipolar (R324). -/
def cvBipolar (sp : Nat) : Bool := sp == 2 || sp == 3

/-- Latch a span and code into an output (R326, R329): at high impedance nothing moves; a parking output takes the new
target; a change of span parks; otherwise the code is driven. -/
def cvLatch (s : State) (k span code : Nat) : State :=
  let o := getCv s k
  match o.ph with
  | .hiz => putCv s k { o with span := span, code := code, pend := none }
  | .park => putCv s k { o with span := span, code := code, pend := none }
  | .held => putCv s k { o with
      ph := if o.span = span then .driven else .park, span := span, code := code, pend := none, wasHeld := false }
  | .driven => putCv s k { o with ph := if o.span = span then .driven else .park, span := span, code := code, pend := none }

/-- An output enters its span from high impedance (R327, R328): parking towards its code, or held parked at its rest level
where the span needs VDD_CV_HI and does not have it, or where it was held before. -/
def cvEnter (s : State) (k : Nat) : State :=
  let sp := getF s (R.F_CV_OUT_SPAN k)
  let cd := getF s (R.F_CV_OUT_CODE k)
  let o := getCv s k
  if cvHighSpan sp && !s.cv.hi then stick (putCv s k ⟨.held, sp, cd, none, o.wasHeld⟩) R.F_CV_STAT_SPAN_REJ_S
  else if o.wasHeld then putCv s k ⟨.held, sp, cd, none, true⟩
  else putCv s k ⟨.park, sp, cd, none, false⟩

/-- Every output and CV_MID enter from high impedance (R327, R328); MID_HI needs VDD_CV_HI as a high span does (DEDUCED, in the log). -/
def cvEnterAll (s : State) : State :=
  let s := if isSet s R.F_CV_CTL_MID_HI && !s.cv.hi then stick (setF s R.F_CV_CTL_MID_HI 0) R.F_CV_STAT_SPAN_REJ_S else s
  (List.range 16).foldl cvEnter { s with cv := { s.cv with mid := isSet s R.F_CV_CTL_MID_HI } }

/-- Change MID_HI (R329): every output in a bipolar span parks. -/
def cvMid (s : State) (hi : Bool) : State :=
  let s0 := setF s R.F_CV_CTL_MID_HI (ofBool hi)
  if s.cv.mid == hi || !s.cv.ok then s0
  else (List.range 16).foldl (fun s k =>
    let o := getCv s k
    if cvBipolar o.span && o.ph == .driven then putCv s k { o with ph := .park } else s)
    { s0 with cv := { s0.cv with mid := hi } }

/-- Load the CV registers from their power-up words (R327, R331, R333). A power-up word that sets MID_HI without VDD_CV_HI
leaves it 0 (DEDUCED from CV_STAT.SPAN_REJ_S, in the log); while VDD_CV is absent it is judged when the outputs enter. -/
def cvLoadRegs (s : State) : State :=
  (List.range 16).foldl (fun s k =>
    let w := prfRead s k
    setF (setF s (R.F_CV_OUT_SPAN k) (bits w 17 16)) (R.F_CV_OUT_CODE k) (bits w 15 0)) s

def cvPuMid (s : State) : Bool := (prfRead s 0x10).testBit 0 && (s.cv.hi || !s.cv.ok)
def cvPuMidBad (s : State) : Bool := (prfRead s 0x10).testBit 0 && !cvPuMid s

/-- One output goes to the value its register now holds (R331). -/
def cvRevertOne (s : State) (k : Nat) : State :=
  let sp := getF s (R.F_CV_OUT_SPAN k)
  let cd := getF s (R.F_CV_OUT_CODE k)
  let o := getCv s k
  match o.ph with
  | .hiz => putCv s k ⟨.hiz, sp, cd, none, false⟩
  | .park => if cvHighSpan sp && !s.cv.hi then stick (putCv s k ⟨.held, sp, cd, none, false⟩) R.F_CV_STAT_SPAN_REJ_S
    else putCv s k ⟨.park, sp, cd, none, false⟩
  | .held => if cvHighSpan sp && !s.cv.hi then stick (putCv s k ⟨.held, sp, cd, none, false⟩) R.F_CV_STAT_SPAN_REJ_S
    else cvLatch s k sp cd
  | .driven => if cvHighSpan sp && !s.cv.hi then stick (putCv s k ⟨.held, sp, cd, none, false⟩) R.F_CV_STAT_SPAN_REJ_S
    else cvLatch s k sp cd

/-- A fault reloads every CV register from its power-up word (R331). -/
def cvRevert (s : State) : State :=
  let s := stick s R.F_CV_STAT_FAULT_REVERT_S
  let s := cvLoadRegs s
  let s := if cvPuMidBad s then stick s R.F_CV_STAT_SPAN_REJ_S else s
  (List.range 16).foldl cvRevertOne (cvMid s (cvPuMid s))

/-- After the PRF load (R327): registers take the power-up words and the outputs enter their spans from high impedance,
at once when VDD_CV is present. -/
def cvPowerUp (s : State) (ok hi : Bool) : State :=
  let s := { s with cv := { ok := ok, hi := ok && hi, outs := [], mid := false } }
  let s := cvLoadRegs s
  let s := setF s R.F_CV_CTL_MID_HI (ofBool (cvPuMid s))
  let s := if cvPuMidBad s then stick s R.F_CV_STAT_SPAN_REJ_S else s
  if ok then cvEnterAll s else s

/-- A write of CV_OUT_k (R325, R326, R331). -/
def cvOutWrite (s : State) (k v : Nat) : State :=
  if 16 ≤ k then s
  else if s.flood.fault then stick s R.F_CV_STAT_FAULT_REJ_S
  else
    let sp := bits v 17 16
    let cd := bits v 15 0
    if cvHighSpan sp && !s.cv.hi then stick s R.F_CV_STAT_SPAN_REJ_S
    else
      let s := csrWrite s (R.CV_OUT k) (BitVec.ofNat 32 v)
      let o := getCv s k
      let s := if o.ph == .hiz then putCv s k { o with wasHeld := false } else s
      if bits v 31 31 = 1 then cvLatch s k sp cd
      else putCv s k { getCv s k with pend := some (sp, cd) }

/-- The first tick after a LOAD = TICK write latches it (R326). -/
def cvTickLatch (s : State) : State :=
  (List.range 16).foldl (fun s k =>
    match (getCv s k).pend with
    | some (sp, cd) => cvLatch s k sp cd
    | none => s) s

/-- A write of CV_CTL (R325, R331). -/
def cvCtlWrite (s : State) (v : Nat) : State :=
  if s.flood.fault then stick s R.F_CV_STAT_FAULT_REJ_S
  else if v.testBit 0 && !s.cv.hi then stick s R.F_CV_STAT_SPAN_REJ_S
  else cvMid s (v.testBit 0)

/-- 12 µs after a latch the parked output is driven to its code (R329). -/
def cvParkEnd (s : State) (k : Nat) : State :=
  let o := getCv s k
  if k < 16 && o.ph == .park then putCv s k { o with ph := .driven } else s

/-- VDD_CV falls below V_CVH (R325): an output in a high span is held parked, and a write that waits for the tick does not drive
it; no waiting write selects a high span. -/
def cvHiFall (s : State) : State :=
  let used := isSet s R.F_CV_CTL_MID_HI || (List.range 16).any (fun k =>
    let o := getCv s k
    cvHighSpan o.span && o.ph != .hiz)
  let s := { s with cv := { s.cv with hi := false } }
  let s := (List.range 16).foldl (fun s k =>
    let o := getCv s k
    if o.pend.any (fun p => cvHighSpan p.1) then putCv s k { o with pend := none } else s) s
  if !used then s
  else
    let s := stick s R.F_CV_STAT_VDDCV_LOW_S
    let s := (List.range 16).foldl (fun s k =>
      let o := getCv s k
      if cvHighSpan o.span && o.ph != .hiz then putCv s k { o with ph := .held, wasHeld := true, pend := none } else s) s
    cvMid s false

/-- VDD_CV falls below 2.5 V (R328). -/
def cvLoss (s : State) : State :=
  if !s.cv.ok then s
  else
    let s := if s.cv.hi then cvHiFall s else s
    let s := stick s R.F_CV_STAT_VDDCV_LOSS_S
    let s := { s with cv := { s.cv with ok := false } }
    (List.range 16).foldl (fun s k =>
      let o := getCv s k
      putCv s k { o with ph := .hiz, wasHeld := o.wasHeld && (o.ph == .held || o.ph == .hiz) }) s

/-- VDD_CV rises above 2.5 V, `hi` telling whether it is above V_CVH too (R327, R328); with VDD_CV present it only tells the
second comparison. -/
def cvRestore (s : State) (hi : Bool) : State :=
  if s.cv.ok then { s with cv := { s.cv with hi := s.cv.hi || hi } }
  else cvEnterAll { s with cv := { s.cv with ok := true, hi := hi } }

/-- CV_PARK (R329). -/
def cvParkWord (s : State) : Nat :=
  (List.range 16).foldl (fun m k =>
    let o := getCv s k
    m + (if o.ph == .park || o.ph == .held then 2 ^ k else 0) + (if o.ph == .hiz then 0 else 2 ^ (16 + k))) 0

end Sys2Proof.Machine
end

