-- ==== Sys2Proof/Machine/Rcu.lean ====
section
/-! DEFINITION. The reference and clock unit (09_references_clocks.md): qualification of inputs, selection, the DPLL's states,
holdover, and word clock outputs. What an edge measures (its time stamp, its phase error against the timing in force) and the
loop's frequency offset come with the command: the loop's dynamics are physical. -/
namespace Sys2Proof.Machine

/-- Nominal root frequency of a family (R225). -/
def rootHz (family : Nat) : Nat := if family = 0 then 3145728000 else 2890137600
/-- Nominal root frequency of the family in effect. -/
def rootNow (s : State) : Nat := rootHz (getF s R.F_RCU_STAT_FAMILY)

def refIdle : RefIn := ⟨none, 0, [], false, 0⟩
def getIn (s : State) (i : Nat) : RefIn := smapGet refIdle s.rcu.ins i
def putIn (s : State) (i : Nat) (x : RefIn) : State :=
  { s with rcu := { s.rcu with ins := smapSet refIdle s.rcu.ins i x } }

/-- Nominal edge rate of an input (R230): fs for PEER. -/
def inHz (s : State) (i : Nat) : Nat := if i = 7 then fsHz s else getF s (R.F_RCU_IN_CFG_NOM_HZ i)

/-- Whether NOM_HZ is valid (R230). -/
def nomOk (s : State) (i : Nat) : Bool :=
  let f := getF s (R.F_RCU_IN_CFG_NOM_HZ i)
  if i = 7 then true
  else if i = 6 then 1 ≤ f && f ≤ 128
  else 1 ≤ f && f ≤ 96000 && rootNow s % f == 0

/-- The number of periods of a measurement interval: the smallest whole number not shorter than 100 ms. -/
def intervalPeriods (hz : Nat) : Nat := (hz + 9) / 10

def inState (s : State) (i : Nat) : Nat := getF s (R.F_RCU_IN_STAT_STATE i)
def dpll (s : State) : Nat := getF s R.F_RCU_STAT_DPLL
def selIn (s : State) : Nat := getF s R.F_RCU_STAT_SEL

/-- The sticky bit of RCU_HIST that a DPLL state sets (R239). -/
def dpllBit (st : Nat) : Fld :=
  match st with
  | 0 => R.F_RCU_HIST_FREERUN_S
  | 1 => R.F_RCU_HIST_ACQUIRE_S
  | 2 => R.F_RCU_HIST_LOCKED_S
  | 3 => R.F_RCU_HIST_HOLDOVER_S
  | _ => R.F_RCU_HIST_SWITCHING_S

/-- The loop is closed (R239). -/
def loopClosed (st : Nat) : Bool := st != 0 && st != 3

/-- The DPLL enters a state (R239): its sticky bit, and EVENT CLOCK. No limit is active in an open loop (RCU_STAT.CLAMP). -/
def enterDpll (s : State) (st : Nat) : State :=
  let s := stick (setF s R.F_RCU_STAT_DPLL st) (dpllBit st)
  let s := if loopClosed st then s else setF s R.F_RCU_STAT_CLAMP 0
  sendEvent s 9 [st, selIn s, 0, 0]

/-- The mean of every holdover sample except the newest (R242). -/
def holdMean (hist : List Int) : Int :=
  let l := hist.drop 1
  let sum := l.foldl (fun a b => a + b) 0
  if l.isEmpty then 0
  else if sum % (l.length : Int) = 0 then sum / (l.length : Int) else Config.meanPpb sum l.length

/-- With no candidate, or while HOLD is 1: HOLDOVER when the history is ready, else FREERUN (R235, R242). -/
def enterHold (s : State) : State :=
  let s := setF s R.F_RCU_STAT_SEL 15
  let d := dpll s
  if d = 0 || d = 3 then s
  else if isSet s R.F_RCU_STAT_HOLD_READY then
    let m := lowBits 32 (holdMean s.rcu.hist)
    let s := setF (setF s R.F_RCU_HOLD_FOFF_FOFF m) R.F_RCU_FOFF_FOFF m
    enterDpll s 3
  else enterDpll (setF s R.F_RCU_FOFF_FOFF 0) 0

/-- Select an input (R237, R239, R241). -/
def selectIn (s : State) (i cause : Nat) : State :=
  let old := selIn s
  let d := dpll s
  let s := setF s R.F_RCU_STAT_SEL i
  let s := stick s R.F_RCU_HIST_SEL_CHG_S
  let s := setF s R.F_RCU_SWITCH_INFO_CAUSE cause
  let s := setF s R.F_RCU_SWITCH_INFO_FROM old
  let s := setF s R.F_RCU_SWITCH_INFO_TO i
  let s := { s with rcu := { s.rcu with switchIdx := nowIdx s } }
  let s := count s R.F_RCU_SWITCH_CNT_SWITCH_CNT 1
  let s := { s with rcu := { s.rcu with stepDue := true, histOld := true } }
  if d = 0 then enterDpll s 1 else enterDpll (setF s R.F_RCU_STAT_SWITCH_BUSY 1) 4

/-- REDUN reports the engine as standby (R238). -/
def isStandby (s : State) : Bool := s.redun.paired && s.redun.role == 1

/-- The candidates (R235, R238). -/
def candidates (s : State) : List Nat :=
  let ok := fun i => inState s i == 2 && isSet s (R.F_RCU_IN_CFG_EN i)
  if isStandby s && ok 7 then [7] else (List.range 7).filter ok

def prio (s : State) (i : Nat) : Nat := getF s (R.F_RCU_IN_CFG_PRIO i)

/-- The best-ranked candidate, the lowest index among equals (R235). -/
def bestOf (s : State) (cs : List Nat) : Option Nat :=
  cs.foldl (fun b i => match b with
    | none => some i
    | some j => if prio s i < prio s j then some i else some j) none

/-- The input stays VALID and enabled. -/
def stillGood (s : State) (i : Nat) : Bool := inState s i == 2 && isSet s (R.F_RCU_IN_CFG_EN i)

/-- The candidates of strictly better rank than the selected input whose wait has ended (R237). -/
def betterWaited (s : State) : List Nat :=
  (candidates s).filter (fun i => s.rcu.revert.contains i && decide (prio s i < prio s (selIn s)))

/-- Re-evaluate the selection (R235 to R238). `cause` is the cause recorded when the selected input is left; one that leaves PEER
while it is VALID leaves it through a change of role. While a switch is busy only the loss of its input moves the selection. -/
def reselect (s : State) (cause : Nat) : State :=
  if isSet s R.F_RCU_CTL_HOLD then enterHold s
  else
    let cs := candidates s
    let sel := selIn s
    let busy := isSet s R.F_RCU_STAT_SWITCH_BUSY
    if cs.contains sel then
      (if busy || !isSet s R.F_RCU_CTL_REVERT then s
      else match bestOf s (betterWaited s) with
        | some j => selectIn s j 2
        | none => s)
    else if busy && (sel = 15 || stillGood s sel) then s
    else
      match bestOf s cs with
      | none => enterHold s
      | some i =>
        if sel = 15 then selectIn s i (if cause = 4 then 4 else 5)
        else selectIn s i (if sel = 7 && stillGood s 7 then 3 else cause)

/-- DISCORD (R236). -/
def discord (s : State) : State :=
  let cs := candidates s
  let top := match bestOf s cs with | some b => cs.filter (fun i => prio s i == prio s b) | none => []
  let f := fun i => sext 32 (getF s (R.F_RCU_IN_FOFF_FOFF i))
  let lim := (getF s R.F_RCU_CTL_CONCORD * 100 : Nat)
  let dis := top.any (fun i => top.any (fun j => decide ((lim : Int) < f i - f j)))
  let s' := setF s R.F_RCU_STAT_DISCORD (ofBool dis)
  if dis && !isSet s R.F_RCU_STAT_DISCORD then stick s' R.F_RCU_HIST_DISCORD_S else s'

/-- An input changes state (R231). -/
def setInState (s : State) (i st : Nat) : State :=
  stick (setF s (R.F_RCU_IN_STAT_STATE i) st) R.F_RCU_HIST_INPUT_S

/-- Disqualify an input with a cause (R231); nothing happens to an input that is already DISQUALIFIED. -/
def disqualify (s : State) (i cause : Nat) : State :=
  if inState s i = 0 then s
  else
    let s := setInState s i 0
    let s := setF s (R.F_RCU_IN_STAT_LAST_DISQ i) cause
    let s := setF s (R.F_RCU_IN_STAT_QUAL_LEFT i) 0
    let s := stick s (R.F_RCU_IN_HIST_DISQ_S i)
    let s := if cause = 4 then stick s (R.F_RCU_IN_HIST_WINDOW_S i) else s
    let s := { s with rcu := { s.rcu with revert := s.rcu.revert.filter (fun j => j != i) } }
    putIn s i { getIn s i with qual := 0 }

/-! Word clock outputs (R244, R245). -/

/-- Whether a word clock rate obeys the rules of R244. -/
def wckNomOk (s : State) (k : Nat) : Bool :=
  let f := getF s (R.F_RCU_WCK_CFG_NOM_HZ k)
  1 ≤ f && f ≤ 96000 && rootNow s % f == 0 && (getF s (R.F_RCU_WCK_CFG_ALIGN k) != 8 || fsHz s % f == 0)

/-- The ALIGN source is a VALID input or the tick. -/
def wckSource (s : State) (k : Nat) : Bool :=
  let a := getF s (R.F_RCU_WCK_CFG_ALIGN k)
  if a < 8 then inState s a == 2 else a == 8

/-- The period of an output in root cycles. -/
def wckPeriod (s : State) (k : Nat) : Nat := rootNow s / max 1 (getF s (R.F_RCU_WCK_CFG_NOM_HZ k))

/-- OFFSET in effect: values beyond half a period act as that limit (R244). -/
def wckOffset (s : State) (k : Nat) : Int :=
  let f := getF s (R.F_RCU_WCK_CFG_NOM_HZ k)
  let lim : Int := (if f = 0 then 0 else rootNow s / (2 * f) : Nat)
  max (-lim) (min lim (sext 32 (getF s (R.F_RCU_WCK_OFFSET_OFFSET k))))

/-- Judge an output (R244, R245): NOM_BAD, CLAMPED, ALIGNED. -/
def wckJudge (s : State) (k : Nat) : State :=
  let bad := !wckNomOk s k
  let s := setF s (R.F_RCU_WCK_STAT_NOM_BAD k) (ofBool bad)
  let s := setF s (R.F_RCU_WCK_STAT_CLAMPED k) (ofBool (wckOffset s k != sext 32 (getF s (R.F_RCU_WCK_OFFSET_OFFSET k))))
  setF s (R.F_RCU_WCK_STAT_ALIGNED k) (ofBool (isSet s (R.F_RCU_WCK_CFG_EN k) && !bad && wckSource s k))

/-- The ALIGN source's edge in root cycles: the latest accepted edge of a VALID input, or the latest tick whose SMP_IDX is a multiple
of fs / NOM_HZ (R244). -/
def wckEdge (s : State) (k : Nat) : Option Int :=
  let a := getF s (R.F_RCU_WCK_CFG_ALIGN k)
  let m := fsHz s / max 1 (getF s (R.F_RCU_WCK_CFG_NOM_HZ k))
  if a < 8 then (if inState s a = 2 then (getIn s a).last else none)
  else if a = 8 then some (s.rcu.tickT - ((nowIdx s % max 1 m) * (rootNow s / max 1 (fsHz s)) : Nat))
  else none

/-- Place an active edge of an output at `b`, or one period later where it would fall less than ¾ of a period after the previous
active edge (R245). -/
def wckPlace (s : State) (k : Nat) (b : Int) : State :=
  let p : Int := (wckPeriod s k : Nat)
  let into := match smapFind s.rcu.wck k with
    | none => p
    | some a => let d := (b - a.1) % p; if 4 * d < 3 * p then d + p else d
  { s with rcu := { s.rcu with wck := smapPut s.rcu.wck k (b, into) } }

/-- Judge and align an output (R244, R245): its active edge falls at the source's edge plus OFFSET, which leaves no drift. An output
that is enabled without a source takes some phase, a free value; a disabled one has none. -/
def wckAlign (s : State) (k : Nat) : State :=
  let s := wckJudge s k
  if !isSet s (R.F_RCU_WCK_CFG_EN k) then { s with rcu := { s.rcu with wck := smapDel s.rcu.wck k } }
  else
    match (if isSet s (R.F_RCU_WCK_STAT_ALIGNED k) then wckEdge s k else none) with
    | some e => setF (wckPlace s k (e + wckOffset s k)) (R.F_RCU_WCK_STAT_DRIFT k) 0
    | none =>
      if (smapFind s.rcu.wck k).isSome then s
      else
        let f := freshFree s
        wckPlace f.2 k (Config.freeNat f.1 : Nat)

/-- The phase of an output against a source edge at `t` plus OFFSET, reduced to the nearest edge of output or source (DRIFT). -/
def wckDrift (s : State) (k : Nat) (t : Int) (a : Int) : Int :=
  let hz := if getF s (R.F_RCU_WCK_CFG_ALIGN k) < 8 then inHz s (getF s (R.F_RCU_WCK_CFG_ALIGN k)) else 1
  let p : Int := (min (wckPeriod s k) (rootNow s / max 1 hz) : Nat)
  satInt 24 ((a - wckOffset s k - t + p / 2) % p - p / 2)

/-- DRIFT of the outputs aligned to source `i` at an edge of it at `t` (R245). -/
def wckMeasure (s : State) (i : Nat) (t : Int) : State :=
  (List.range 4).foldl (fun s k =>
    match (if getF s (R.F_RCU_WCK_CFG_ALIGN k) = i then smapFind s.rcu.wck k else none) with
    | some a => setF s (R.F_RCU_WCK_STAT_DRIFT k) (lowBits 24 (wckDrift s k t a.1))
    | none => s) s

/-- ALIGNED follows the ALIGN input; an output aligns when its input becomes VALID (R245). -/
def wckInput (s : State) (i : Nat) : State :=
  (List.range 4).foldl (fun s k =>
    if getF s (R.F_RCU_WCK_CFG_ALIGN k) = i then
      if inState s i = 2 then wckAlign s k else setF s (R.F_RCU_WCK_STAT_ALIGNED k) 0
    else s) s

/-- After a change of an input's state: selection, discord and the word clock outputs follow. -/
def inputsMoved (s : State) (i cause : Nat) : State := wckInput (discord (reselect s cause)) i

/-- WCK_OUT_k produces its square wave: enabled, with a valid rate (R244). -/
def wckRuns (s : State) (k : Nat) : Bool := isSet s (R.F_RCU_WCK_CFG_EN k) && wckNomOk s k

/-- The level of WCK_OUT_k at time `t` in root cycles: active for the first half of each period, the inactive level when it does not
run (R244). -/
def wckLevel (s : State) (k : Nat) (t : Int) : Bool :=
  let p : Int := (wckPeriod s k : Nat)
  let active := match (if wckRuns s k then smapFind s.rcu.wck k else none) with
    | some a => decide (2 * ((t - a.1) % p) < p)
    | none => false
  active != isSet s (R.F_RCU_WCK_CFG_POL k)

/-! Edges (R229 to R233, R239, R241). -/

/-- Root cycles of `ns` nanoseconds compared with a time: |d| root cycles exceed `ns`. -/
def cyclesExceed (root : Nat) (d : Int) (ns : Nat) : Bool := decide (ns * root < d.natAbs * 1000000000)

/-- Whether the edge at `t` is a hit (R233): it differs by more than HIT_THR from the prediction, the previous accepted edge plus
whole periods, the nominal period corrected by the latest FOFF; or it arrives between two expected edges, nearer to the previous
accepted edge than to any expected one. -/
def isHit (s : State) (i : Nat) (t : Int) : Bool :=
  let thr := getF s (R.F_RCU_IN_HIT_HIT_THR i)
  match (getIn s i).last with
  | none => false
  | some t0 =>
    if thr = 0 then false
    else
      let root := rootNow s
      let hz := inHz s i
      let d := (1000000000 : Int) + sext 32 (getF s (R.F_RCU_IN_FOFF_FOFF i))
      let per : Int := (root : Int) * 1000000000
      let den : Int := (hz : Int) * d
      let x := (t - t0) * den
      let k := (2 * x + per) / (2 * per)
      decide (k < 1) || decide ((thr : Int) * (root : Int) * den < ((x - k * per).natAbs : Int) * 1000000000)

/-- A hit (R233): counted, and more than HIT_N of them within a span disqualify. -/
def takeHit (s : State) (i : Nat) (t : Int) : State :=
  let span : Int := ((max 1 (getF s (R.F_RCU_IN_HIT_HIT_WIN i)) * rootNow s / 10 : Nat) : Int)
  let s := count s (R.F_RCU_IN_HIT_CNT_HIT_CNT i) 1
  let s := stick s (R.F_RCU_IN_HIST_HIT_S i)
  let hs := t :: (getIn s i).hits.filter (fun h => decide (t - h ≤ span))
  let bad := decide (getF s (R.F_RCU_IN_HIT_HIT_N i) < hs.length)
  let x := getIn s i
  let s := putIn s i { x with hits := hs, hitBad := x.hitBad || bad }
  if bad then inputsMoved (disqualify s i 5) i 1 else s

/-- A phase error judged by the DPLL (R239): `in1` within LOCK_THR, `in4` within 4 × LOCK_THR. -/
def judge (s : State) (in1 in4 : Bool) : State :=
  match dpll s with
  | 4 => if in1 then enterDpll s 1 else s
  | 2 => if in4 then s else enterDpll s 1
  | _ => s

/-- The loop's demand at an edge of the selected input: whether a limit is active is a free value, and CLAMP_S records that one
becomes active (R225). -/
def loopDemand (s : State) : State :=
  let f := freshFree s
  let c := Config.freeNat f.1 % 2
  if loopClosed (dpll s) then
    let t := setF f.2 R.F_RCU_STAT_CLAMP c
    if c = 1 && !isSet s R.F_RCU_STAT_CLAMP then stick t R.F_RCU_HIST_CLAMP_S else t
  else s

/-- A phase error reduced to within half of the new input's period (R241). -/
def reduceStep (s : State) (i : Nat) (err : Int) : Int :=
  let hz := max 1 (inHz s i)
  let root : Int := (rootNow s : Nat)
  let num := (err * (hz : Int) + root / 2) % root - root / 2
  if num % (hz : Int) = 0 then num / (hz : Int) else Config.stepCycles num hz

/-- An accepted edge of the selected input (R239, R241): the phase step is recorded once, then the error is judged. -/
def selEdge (s : State) (i : Nat) (err : Int) (in1 in4 : Bool) : State :=
  let red := reduceStep s i err
  let s := setF (loopDemand s) R.F_RCU_PHASE_ERR_ERR (lowBits 32 err)
  let s := if s.rcu.stepDue then
      let s := setF s R.F_RCU_SWITCH_STEP_STEP (lowBits 32 red)
      { s with rcu := { s.rcu with stepDue := false } }
    else s
  judge s in1 in4

/-- An edge of input `i` at time `t` (root cycles) with phase error `err` against the timing in force; `bad` tells a biphase
violation of an AES3 frame (R229, R233). -/
def refEdge (s : State) (i : Nat) (t err : Int) (bad : Bool) (in1 in4 : Bool) : State :=
  if 8 ≤ i then s
  else
    let s := setF s (R.F_RCU_IN_STAT_PRESENT i) 1
    if (bad && getF s (R.F_RCU_IN_HIT_HIT_THR i) != 0) || isHit s i t then takeHit s i t
    else
      let x := getIn s i
      let s := wckMeasure (putIn s i { x with last := some t, edges := x.edges + 1 }) i t
      if selIn s = i then selEdge s i err in1 in4 else s

/-- LOCK_THR in ns (R239). -/
def lockThr (s : State) : Nat := max 1 (getF s R.F_RCU_DPLL_CFG_LOCK_THR)

/-- A pin or peer edge (R229). -/
def refEdgePin (s : State) (i : Nat) (t err : Int) (bad : Bool) : State :=
  let thr := lockThr s
  refEdge s i t err bad (!cyclesExceed (rootNow s) err thr) (!cyclesExceed (rootNow s) err (4 * thr))

/-- A write of RCU_PTP_ERR: an edge of input 6 with its phase error in units of 2⁻⁸ ns (R229, R243). -/
def ptpEdge (s : State) (t : Int) (v : Nat) : State :=
  let e := sext 32 v
  let root := rootNow s
  let num := e * (root : Int)
  let err := if num % 256000000000 = 0 then num / 256000000000 else Config.ptpCycles e root
  let thr := lockThr s
  refEdge s 6 t err false (decide (e.natAbs ≤ 256 * thr)) (decide (e.natAbs ≤ 1024 * thr))

/-- Loss of edges (R232). -/
def refLoss (s : State) (i : Nat) : State :=
  if 8 ≤ i then s
  else
    let s := setF s (R.F_RCU_IN_STAT_PRESENT i) 0
    let s := count s (R.F_RCU_IN_LOSS_CNT_LOSS_CNT i) 1
    let s := stick s (R.F_RCU_IN_HIST_LOSS_S i)
    let s := putIn s i { getIn s i with last := none }
    inputsMoved (disqualify s i 3) i 1

/-- The input has been QUALIFYING for `n` intervals: the time left in units of 100 ms (R231, QUAL_LEFT). -/
def qualLeft (s : State) (i n : Nat) : Nat :=
  let hz := max 1 (inHz s i)
  getF s (R.F_RCU_IN_QUAL_QTIME i) - n * intervalPeriods hz * 10 / hz

/-- The input becomes VALID (R231). -/
def makeValid (s : State) (i : Nat) : State :=
  stick (setF (setInState s i 2) (R.F_RCU_IN_STAT_QUAL_LEFT i) 0) (R.F_RCU_IN_HIST_VALID_S i)

/-- End of a measurement interval with the measured offset `foff` in ppb (R231). -/
def measEnd (s : State) (i : Nat) (foff : Int) : State :=
  if 8 ≤ i then s
  else
    let x := getIn s i
    let s := setF s (R.F_RCU_IN_FOFF_FOFF i) (lowBits 32 foff)
    let win := max 10 (min 500 (getF s (R.F_RCU_IN_QUAL_WINDOW i))) * 1000
    let inside := decide (foff.natAbs ≤ win)
    let clean := isSet s (R.F_RCU_IN_CFG_EN i) && nomOk s i && x.edges == intervalPeriods (inHz s i) && !x.hitBad && inside
    let s := putIn s i { x with edges := 0, hitBad := false }
    match inState s i with
    | 0 =>
      if clean then
        let s := setInState s i 1
        let s := setF s (R.F_RCU_IN_STAT_QUAL_LEFT i) (getF s (R.F_RCU_IN_QUAL_QTIME i))
        let s := putIn s i { getIn s i with qual := 0 }
        let s := if getF s (R.F_RCU_IN_QUAL_QTIME i) = 0 then makeValid s i else s
        inputsMoved s i 1
      else s
    | 1 =>
      if !inside then inputsMoved (disqualify s i 4) i 1
      else
        let n := x.qual + 1
        let s := putIn s i { getIn s i with qual := n }
        let hz := max 1 (inHz s i)
        let s := setF s (R.F_RCU_IN_STAT_QUAL_LEFT i) (qualLeft s i n)
        if getF s (R.F_RCU_IN_QUAL_QTIME i) * hz ≤ n * intervalPeriods hz * 10 then inputsMoved (makeValid s i) i 1 else s
    | _ => if !inside then inputsMoved (disqualify s i 4) i 1 else discord s

/-- A write of RCU_IN_CFG (R230, R231). -/
def inCfgWrite (s : State) (i : Nat) (v : Word) : State :=
  if 8 ≤ i then s
  else
    let s := csrWrite s (R.RCU_IN_CFG i) v
    let s := setF s (R.F_RCU_IN_STAT_NOM_BAD i) (ofBool (!nomOk s i))
    let s := if !isSet s (R.F_RCU_IN_CFG_EN i) then disqualify s i 1
      else if !nomOk s i then disqualify s i 2 else s
    inputsMoved s i 1

/-- The lock timer has run for 2 s (R239): LOCKED_NARROW; the history of a previous input is cleared (R242). -/
def lockExpiry (s : State) : State :=
  if dpll s != 1 then s
  else
    let s := if s.rcu.histOld then
        let s := setF s R.F_RCU_HOLD_HIST_SAMPLES 0
        let s := setF s R.F_RCU_STAT_HOLD_READY 0
        { s with rcu := { s.rcu with hist := [], histOld := false } }
      else s
    let s := setF s R.F_RCU_STAT_SWITCH_BUSY 0
    reselect (enterDpll s 2) 1

/-- A switch has been busy for 500 ms (R237). -/
def switchTimeout (s : State) : State := discord (reselect (setF s R.F_RCU_STAT_SWITCH_BUSY 0) 1)

/-- A candidate has been VALID for RCU_WTR without a break (R237). -/
def revertExpiry (s : State) (i : Nat) : State :=
  if (candidates s).contains i then
    reselect { s with rcu := { s.rcu with revert := i :: s.rcu.revert.filter (fun j => j != i) } } 1
  else s

/-- The DPLL's offset, held at the limit of ±1,000 ppm (R225). -/
def heldOffset (foff : Int) : Int := max (-1000000) (min 1000000 foff)

/-- The 100 ms sample of the offset in LOCKED_NARROW (R242). -/
def holdSample (s : State) (foff : Int) : State :=
  if dpll s != 2 then s
  else
    let h := (heldOffset foff :: s.rcu.hist).take 600
    let s := { s with rcu := { s.rcu with hist := h } }
    let s := setF s R.F_RCU_FOFF_FOFF (lowBits 32 (heldOffset foff))
    let s := if heldOffset foff = foff then s else stick (setF s R.F_RCU_STAT_CLAMP 1) R.F_RCU_HIST_CLAMP_S
    let s := setF s R.F_RCU_HOLD_HIST_SAMPLES h.length
    if 10 ≤ h.length then setF s R.F_RCU_STAT_HOLD_READY 1 else s

/-- A write of RCU_CTL (R227, R235): a change of FAMILY while RUN is 1 is ignored; otherwise the fields take their values, a
change of HOLD acts at once, and the result tells whether a relock starts. -/
def rcuCtlWrite (s : State) (v : Word) : State × Bool :=
  let fam := bits v.toNat 0 0
  if fam != getF s R.F_RCU_CTL_FAMILY && isSet s R.F_SCHED_CTL_RUN then (stick s R.F_RCU_HIST_FAMILY_REJ_S, false)
  else
    let rel := fam != getF s R.F_RCU_CTL_FAMILY
    let wasHold := isSet s R.F_RCU_CTL_HOLD
    let s := csrWrite s R.RCU_CTL v
    let s := discord (reselect s (if wasHold then 4 else 1))
    (if rel then setF s R.F_RCU_STAT_RELOCKING 1 else s, rel)

/-- The VCO has relocked (R227): the family takes effect, the history is cleared, every input is DISQUALIFIED and judged
against the new family, and the DPLL enters FREERUN. -/
def rcuRelocked (s : State) : State :=
  let s := setF s R.F_RCU_STAT_FAMILY (getF s R.F_RCU_CTL_FAMILY)
  let s := setF s R.F_RCU_STAT_RELOCKING 0
  let s := stick s R.F_RCU_HIST_RELOCK_DONE_S
  let s := setF (setF s R.F_RCU_HOLD_HIST_SAMPLES 0) R.F_RCU_STAT_HOLD_READY 0
  let s := { s with rcu := { s.rcu with ins := [], hist := [], histOld := false, revert := [], stepDue := false } }
  let s := (List.range 8).foldl (fun s i =>
    let s := setF (disqualify s i 2) (R.F_RCU_IN_STAT_LAST_DISQ i) 2
    wckInput (setF s (R.F_RCU_IN_STAT_NOM_BAD i) (ofBool (!nomOk s i))) i) s
  let s := setF (setF s R.F_RCU_STAT_SEL 15) R.F_RCU_STAT_SWITCH_BUSY 0
  let s := enterDpll (setF s R.F_RCU_FOFF_FOFF 0) 0
  (List.range 4).foldl wckJudge (discord s)

end Sys2Proof.Machine
end

