-- ==== Sys2Proof/Machine/Reply.lean ====
section
/-! DEFINITION. The messages the engine sends (06_headrace.md): header, ACK, NAK and EVENT bodies, the ACK records of a
session, and the ACKs that wait for the mirror. -/
namespace Sys2Proof.Machine

/-- The header of a message and its body, with CHECK computed (R139, "Header"; R143). -/
def message (session cls op seq : Nat) (body : List Nat) : List Nat :=
  let head := beBytes 2 0x5A48 ++ [1, session % 64, 0x80 + cls % 4, op] ++ beBytes 2 body.length ++ beBytes 6 seq
  head ++ beBytes 2 (crc16 (head ++ body)) ++ body

/-- A reply goes to the source of the message it answers (R135). -/
def sendOut (s : State) (dst : Endpoint) (bytes : List Nat) : State :=
  { s with hr := { s.hr with txQ := s.hr.txQ ++ [⟨dst, bytes⟩] } }

/-- JPOS of a command that is not journaled. -/
def noJpos : Nat := 0xFFFFFFFFFFFFFFFF

/-- The body of an ACK. -/
def ackBody (a : AckRec) (replayed : Bool) : List Nat :=
  beBytes 8 a.jpos ++ beBytes 8 a.nC ++ beBytes 8 a.r ++
  beBytes 2 (ofBool a.moved + 2 * ofBool replayed + 4 * ofBool a.urgent + 8 * ofBool a.unmirrored) ++ beBytes 2 0 ++ a.data

def sendAck (s : State) (dst : Endpoint) (session cls : Nat) (a : AckRec) (replayed : Bool) : State :=
  sendOut s dst (message session cls 0x60 a.seq (ackBody a replayed))

/-- A NAK (R144): never consumes a number; counted and recorded. -/
def sendNak (s : State) (h : Hdr) (code detail expected : Nat) : State :=
  let s := count s R.F_HEADRACE_NAK_CNT_NAK_CNT 1
  let s := stick s R.F_HEADRACE_STAT_NAK_S
  let s := setF s R.F_HEADRACE_LAST_NAK_CODE code
  let s := setF s R.F_HEADRACE_LAST_NAK_SESSION h.session.toNat
  sendOut s h.src (message h.session.toNat h.cls.toNat 0x61 h.seq.toNat
    (beBytes 2 code ++ beBytes 2 0 ++ beBytes 4 detail ++ beBytes 6 expected ++ beBytes 2 0 ++ beBytes 8 (nowIdx s)))

/-- The space of a class: urgent for class 0, normal otherwise (R145). -/
def spaceOf (x : Session) (cls : Nat) : SeqSpace := if cls = 0 then x.urg else x.norm
def setSpace (x : Session) (cls : Nat) (sp : SeqSpace) : Session :=
  if cls = 0 then { x with urg := sp } else { x with norm := sp }

/-- EXPECTED of a NAK. -/
def expectedOf (s : State) (h : Hdr) : Nat := (spaceOf (getSession s h.session.toNat) h.cls.toNat).exp

/-- A NAK. The spec gives a session that is not open no expected number: EXPECTED is then a free value. -/
def nak (s : State) (h : Hdr) (code detail : Nat) : State :=
  if (getSession s h.session.toNat).isOpen then sendNak s h code detail (expectedOf s h)
  else
    let f := freshFree s
    sendNak f.2 h code detail (Config.freeNat f.1 % 2 ^ 48)

/-! Arrival: class queues (R135, R138 to R140). -/

/-- CLASS of a buffered message. -/
def rawClass (m : RxMsg) : Nat := ofBeBytes ((m.bytes.drop 4).take 1) % 4

/-- The queue of a class is full: 8 of class 0, 256 of each other class, waiting or in service (R140). -/
def queueFull (s : State) (cls : Nat) : Bool :=
  let n := (s.hr.rxQ.filter (fun m => rawClass m == cls)).length + (s.hr.waitAck.filter (fun w => w.cls == cls)).length
  if cls = 0 then 8 ≤ n else 256 ≤ n

/-- A message is discarded without reply. -/
def rxSump (s : State) : State := stick (count s R.F_HEADRACE_RX_SUMP_CNT_RX_SUMP_CNT 1) R.F_HEADRACE_STAT_RX_DISCARD_S

/-- A message finds the queue of its class full (R140). -/
def nakBusy (s : State) (h : Hdr) : State :=
  let s := if h.cls = 0 then
      stick (count s R.F_HEADRACE_URGENT_SUMP_CNT_URGENT_SUMP_CNT 1) R.F_HEADRACE_STAT_URGENT_DROP_S
    else s
  nak s h 0x0014 0

/-- The header of a raw message. -/
def rawHdr (src : Endpoint) (m : List Nat) : Hdr :=
  let f := fun (o n : Nat) => ofBeBytes ((m.drop o).take n)
  ⟨src, BitVec.ofNat 6 (f 3 1), BitVec.ofNat 2 (f 4 1), BitVec.ofNat 48 (f 8 6), f 6 2, 0⟩

/-- CHECK is right, or zero over UDP (R139). -/
def checkOk (v : Via) (m : List Nat) : Bool :=
  let c := ofBeBytes ((m.drop 14).take 2)
  c == crc16 (m.take 14 ++ m.drop 16) || (v != .surface && c == 0)

/-- A whole message arrives: it joins the queue of its class. One that finds the queue full is answered BUSY, if it passes the
checks of R139 on MAGIC, DIR and CHECK, and is discarded otherwise (R139, R140). -/
def queueRx (s : State) (src : Endpoint) (m : List Nat) : State :=
  if queueFull s (rawHdr src m).cls.toNat then
    (if m.length < 16 || ofBeBytes (m.take 2) != 0x5A48 || 128 ≤ ofBeBytes ((m.drop 4).take 1) || !checkOk src.via m then rxSump s
     else nakBusy s (rawHdr src m))
  else { s with hr := { s.hr with rxQ := s.hr.rxQ ++ [⟨src.via, m⟩] } }

/-- Mark the record of an accepted command UNMIRRORED. -/
def markUnmirrored (jpos : Nat) (sp : SeqSpace) : SeqSpace :=
  { sp with acks := sp.acks.map (fun a => if a.jpos = jpos then { a with unmirrored := true } else a) }

/-- Send the ACKs of one waiting command: the command counts as accepted, then the held copies are answered (R146, R149). -/
def sendWaiting (s : State) (w : WaitAck) (unmirrored : Bool) : State :=
  let a := if unmirrored then { w.ack with unmirrored := true } else w.ack
  let x := getSession s w.session
  let s := if unmirrored then putSession s w.session (setSpace x w.cls (markUnmirrored a.jpos (spaceOf x w.cls))) else s
  let s := count s R.F_HEADRACE_ACCEPT_CNT_ACCEPT_CNT 1
  let s := sendAck s w.dst w.session w.cls a false
  w.copies.foldl (fun s dst => sendAck s dst w.session w.cls a true) s

/-- The Sluice receives the urgent writes whose entries are mirrored or need no mirror (R116, R149); HEADRACE_URGENT_LAST then
holds the measured cycles of R159, a free value. Whether 64 CK_FAB cycles are left before the next tick is a free value too. -/
def urgentReceived (s : State) (p : Nat → Bool) : State :=
  if s.slu.urgent.any (fun u => !u.received && p u.jpos) then
    let f := freshFree s
    let g := freshFree f.2
    let s := setF g.2 R.F_HEADRACE_URGENT_LAST_CYCLES (Config.freeNat f.1)
    let at' := idxAdd (nowIdx s) (1 + Config.freeNat g.1 % 2)
    { s with slu := { s.slu with urgent := s.slu.urgent.map (fun u =>
        if !u.received && p u.jpos then { u with received := true, ready := at' } else u) } }
  else s

/-- The Sluice receives the urgent writes of a command that needs no mirror within the bounds of R159, at least 64 CK_FAB cycles
before their index (R116). -/
def urgentInTime (s : State) (jpos : Nat) : State :=
  if s.slu.urgent.any (fun u => !u.received && u.jpos == jpos) then
    let f := freshFree s
    let s := setF f.2 R.F_HEADRACE_URGENT_LAST_CYCLES (Config.freeNat f.1)
    { s with slu := { s.slu with urgent := s.slu.urgent.map (fun u => if u.jpos == jpos then { u with received := true } else u) } }
  else s

/-- The peer is lost or the pair leaves SYNCED: the waiting ACKs go out UNMIRRORED (R153). -/
def flushWaiting (s : State) : State :=
  let ws := s.hr.waitAck
  ws.foldl (fun s w => sendWaiting s w true) (urgentReceived { s with hr := { s.hr with waitAck := [] } } (fun _ => true))

/-- The peer has acknowledged every entry up to `jpos`: the ACKs of those commands go out in journal order (R152). -/
def ackUpTo (s : State) (jpos : Nat) : State :=
  let ws := s.hr.waitAck.filter (fun w => decide (w.last ≤ jpos))
  let s := { s with hr := { s.hr with waitAck := s.hr.waitAck.filter (fun w => !decide (w.last ≤ jpos)), mack := max s.hr.mack jpos } }
  ws.foldl (fun s w => sendWaiting s w false) (urgentReceived s (fun j => decide (j ≤ jpos)))

/-- The body of an EVENT (R160). -/
def eventBody (e : EventMsg) (lost : Nat) : List Nat :=
  beBytes 2 e.code ++ beBytes 2 (min lost 0xFFFF) ++ beBytes 8 e.smp ++ e.data

/-- Take the next event of a session: its message, with the event sequence and LOST, and the state without it. A standby sends
none (R160). -/
def popEvent (s : State) (k : Nat) : Option (List Nat × State) :=
  let x := getSession s k
  match (if s.redun.paired && s.redun.role = 1 then [] else x.outQ) with
  | [] => none
  | e :: q =>
    some (message k 1 0x50 x.evSeq (eventBody e x.lost), putSession s k { x with outQ := q, lost := 0, evSeq := x.evSeq + 1 })

end Sys2Proof.Machine
end

