-- ==== Sys2Proof/Machine/Roles.lean ====
section
/-! DEFINITION. Roles and synchronisation of the pair (R293 to R299, R304, R317), and the action of a fatal fault (R366). -/
namespace Sys2Proof.Machine

/-! REDUN_MODE is PRF word 0x020 (R333); values outside a field's range act as its nearer limit. -/
def redunMode (s : State) : Nat := prfRead s 0x20
def pairBit (s : State) : Bool := (redunMode s).testBit 0
def revertBit (s : State) : Bool := (redunMode s).testBit 1
def homeBit (s : State) : Bool := (redunMode s).testBit 2
def leaseUs (s : State) : Nat := max 64 (min 512 (bits (redunMode s) 13 4))
def hbUnits (s : State) : Nat := max 2 (min 32 (bits (redunMode s) 19 14))
def wtrSec (s : State) : Nat := max 1 (min 3600 (bits (redunMode s) 31 20))
/-- The lease in CK_AON cycles: floor(15.52 × L) (R297). -/
def leaseCycles (s : State) : Nat := 1552 * leaseUs s / 100

/-- Drive ROLE_ACT. In paired operation a low level is the LEASE source, which counts for the decision of the next tick (R95,
R97). -/
def setRoleAct (s : State) (b : Bool) : State :=
  let s := if s.redun.paired && s.redun.roleAct && !b then stick s R.F_FLOOD_HIST_LEASE_S else s
  { s with
    redun := { s.redun with roleAct := b },
    flood := { s.flood with seen := s.flood.seen || (s.redun.paired && (!b || !s.redun.roleAct)) } }

/-- Enter a role (R294): ROLE_S. -/
def enterRole (s : State) (r : Nat) : State :=
  stick { s with redun := { s.redun with role := r } } R.F_REDUN_HIST_ROLE_S

/-- The RCU's candidates follow a change of role (R238). -/
def roleFollows (s : State) : State := discord (reselect s 3)

/-- Change the role (R238, R294). -/
def setRole (s : State) (r : Nat) : State := if s.redun.role = r then s else roleFollows (enterRole s r)

/-- EVENT ROLE to every open session (R294, R298). -/
def sendRole (s : State) (cause : Nat) : State := sendEvent s 5 [roleReport s, cause, 0, 0]

/-- Leave RESYNC or SYNCED for `sync` with a REASON: mirroring ends and the waiting ACKs go out UNMIRRORED (R153, R295). -/
def dropSync (s : State) (sync reason : Nat) : State :=
  let s := if s.redun.sync = 4 then stick s R.F_REDUN_HIST_UNSYNC_S else s
  let d := { s.redun with
    sync := sync, reason := reason, phase := 0, feeding := false, copied := none, aligned := false, unit := false, n0 := none,
    items := 0, passes := [], dirty := [], muted := [], verify := none, syncNext := false,
    unsyncNext := none, engine := none }
  flushWaiting (setF { s with redun := d } R.F_REDUN_RESYNC_ITEMS_LEFT 0)

/-- Leave SYNCED with a REASON (R295). -/
def leaveSynced (s : State) (reason : Nat) : State := if s.redun.sync = 4 then dropSync s 2 reason else s

/-- A resync fails (R317). -/
def resyncFail (s : State) : State :=
  if s.redun.sync = 3 then dropSync (stick s R.F_REDUN_HIST_RESYNC_FAIL_S) 2 10 else s

/-- The engine halts (R294, R299): the lease is released, ROLE_ACT drops, LEASE_HB stops, a resync fails, SYNCED ends. -/
def halt (s : State) : State :=
  if !s.redun.paired then setRoleAct s false
  else
    let s := setRoleAct s false
    let s := { s with redun := { s.redun with leaseHeld := false } }
    let s := leaveSynced (resyncFail s) 0
    if s.redun.role = 1 || s.redun.role = 2 || s.redun.role = 3 then setRole s 4 else s

/-- The action of a fatal fault (R366): its cause bit; the first one also activates FAULT, reverts the CV outputs and halts. -/
def fatalFault (s : State) (cause : Fld) : State :=
  let s := stick (stick s cause) R.F_RST_STAT_FATAL_S
  if s.flood.fault then s
  else halt (cvRevert { stick s R.F_FLOOD_HIST_FAULT_S with flood := { s.flood with fault := true, seen := true } })

/-- The lone engine's ROLE_ACT (R293): high while the tick runs, the cores are not held and no fatal fault is present. -/
def loneRole (s : State) : State :=
  if s.redun.paired then s else setRoleAct s (s.sched.running && !s.rst.coresHeld && !s.flood.fault)

/-- LEASE_HB toggles in the roles that show it (R294, R297; R293 for a lone engine). -/
def hbRuns (s : State) : Bool :=
  if s.redun.paired then s.redun.role == 1 || s.redun.role == 2 else s.redun.roleAct

end Sys2Proof.Machine
end

