-- ==== Sys2Proof/Machine/Flood.lean ====
section
/-! DEFINITION. The Floodgate's sources, its decision at the tick and its gain (R95 to R97; FLOOD registers). -/
namespace Sys2Proof.Machine

/-- PIN is active: MUTE_N is low after its filter, or a latch is held (R95). -/
def pinActive (s : State) : Bool := !s.flood.pin || s.flood.latch
/-- LEASE is active: paired operation with ROLE_ACT low (R95). -/
def leaseActive (s : State) : Bool := s.redun.paired && !s.redun.roleAct

/-- Note a change of the PIN source: it counts for the coming decision while active, and PIN_S is set as it becomes active. -/
def notePin (before : Bool) (s : State) : State :=
  let now := pinActive s
  let s := if now && !before then stick s R.F_FLOOD_HIST_PIN_S else s
  { s with flood := { s.flood with seen := s.flood.seen || now || before } }

/-- The accepted level of MUTE_N changes (R95, R96). -/
def muteChange (s : State) (high : Bool) : State :=
  notePin (pinActive s) { s with flood := { s.flood with
    pin := high, latch := s.flood.latch || (!high && isSet s R.F_FLOOD_CTL_PIN_LATCH) } }

/-- A write of FLOOD_CTL (R95): a release acts while the pin is high; PIN_LATCH = 1 latches at once while the pin is low;
PIN_LATCH = 0 ends a held latch. -/
def floodCtlWrite (s : State) (v : Nat) : State :=
  let before := pinActive s
  let on := v.testBit 0
  let rel := v.testBit 1 && s.flood.pin
  let s := setF s R.F_FLOOD_CTL_PIN_LATCH (ofBool on)
  notePin before { s with flood := { s.flood with latch := on && ((s.flood.latch && !rel) || !s.flood.pin) } }

/-- The step of the gain for ramp length K (R97). -/
def floodStep (k : Nat) : Nat := 2 ^ 31 / (k + 1) + 1

/-- The gain for the coming sample (R97); g is 0 while the cores are held. -/
def floodGain (s : State) (closed : Bool) : Nat :=
  let st := floodStep (floodRamp s)
  if s.rst.coresHeld then 0 else if closed then s.flood.g - st else min (2 ^ 31) (s.flood.g + st)

/-- FLOOD_SRC and FLOOD_STATE as they read. -/
def floodSrc (s : State) : Nat :=
  8 * ofBool s.flood.fault + 4 * ofBool (leaseActive s) + 2 * getF s R.F_FLOOD_SRC_CMD + ofBool (pinActive s)
def floodState (s : State) : Nat :=
  4 * ofBool (s.flood.g != 0 && s.flood.g != 2 ^ 31) + 2 * ofBool (s.flood.g == 2 ^ 31) + ofBool s.flood.closed

/-- The decision at the tick that starts Ts n (R97), the gain for sample n, and EVENT FLOOD when the decision changes (R160). -/
def floodTick (s : State) (n : Nat) : State :=
  let cmd := floodCmd s
  let closed := s.flood.seen || pinActive s || leaseActive s || s.flood.fault || cmd
  let s := if cmd && !isSet s R.F_FLOOD_SRC_CMD then stick s R.F_FLOOD_HIST_CMD_S else s
  let s := setF s R.F_FLOOD_SRC_CMD (ofBool cmd)
  let s := if closed && !s.flood.closed then
      { count s R.F_FLOOD_CLOSE_CNT_CLOSE_CNT 1 with flood := { s.flood with closeIdx := n } }
    else s
  let g0 := s.flood.g
  let g := floodGain s closed
  let s := if g0 < 2 ^ 31 && g = 2 ^ 31 then stick s R.F_FLOOD_HIST_OPENED_S else s
  let s := if 0 < g0 && g = 0 then stick s R.F_FLOOD_HIST_CLOSED_S else s
  let was := s.flood.closed
  let s := { s with flood := { s.flood with
      g := g, closed := closed, seen := pinActive s || leaseActive s || s.flood.fault } }
  if was = closed then s else sendEvent s 6 (beBytes 4 (floodSrc s) ++ beBytes 4 (floodState s))

end Sys2Proof.Machine
end

