-- ==== Sys2Proof/Machine/Tally.lean ====
section
/-! DEFINITION. Tally, its steps and epochs, and the tick media count (R261 to R268). -/
namespace Sys2Proof.Machine

/-- The nominal addend of a rate family, in 2⁻³² ns (R261). -/
def tallyNominal (family : Nat) : Nat := if family = 0 then 0x145855555 else 0x1624EF2A6

/-- The root family in effect (RCU_STAT.FAMILY). -/
def rootFamily (s : State) : Nat := getF s R.F_RCU_STAT_FAMILY

/-- The addend in effect, in 2⁻³² ns. -/
def tallyAddend (s : State) : Nat :=
  getF s R.F_TALLY_ADDEND_INT_INT * 2 ^ 32 + getF s R.F_TALLY_ADDEND_FRAC_FRAC

/-- Load an addend: TALLY_STAT.STEER tells one that is not the nominal (R262). -/
def setAddend (s : State) (a : Nat) : State :=
  let s := setF s R.F_TALLY_STAT_STEER (ofBool (a != tallyNominal (rootFamily s)))
  setF (setF s R.F_TALLY_ADDEND_INT_INT (a / 2 ^ 32)) R.F_TALLY_ADDEND_FRAC_FRAC (a % 2 ^ 32)

/-- Carry nanoseconds into seconds; the seconds wrap at 2⁴⁸ (R261). `f` is in 2⁻³² ns. -/
def tallyNorm (t : Tally) (f : Nat) : Tally :=
  { t with sec := (t.sec + f / (10 ^ 9 * 2 ^ 32)) % 2 ^ 48, ns := f / 2 ^ 32 % 10 ^ 9, frac := f % 2 ^ 32 }

/-- Tally's nanoseconds and fraction, in 2⁻³² ns. -/
def tallyFine (t : Tally) : Nat := t.ns * 2 ^ 32 + t.frac

/-- What Tally adds in `n` CK_FAB cycles, in 2⁻³² ns; during a relock `n` counts CK_XO cycles, and Tally adds 40.690104 ns in each
(R227, R261). -/
def tallySpan (s : State) (n : Nat) : Nat :=
  if isSet s R.F_RCU_STAT_RELOCKING then n * 40690104 * 2 ^ 32 / 10 ^ 6 else n * tallyAddend s

/-- Tally `cyc` CK_FAB cycles after the latest tick, or after the latest start or end of a relock (R261). -/
def tallyAt (s : State) (cyc : Nat) : Tally :=
  tallyNorm s.tally (tallyFine s.tally + tallySpan s (cyc - s.tally.at_))

/-- Move the base instant of Tally to `cyc` CK_FAB cycles after the latest tick, before its addend changes. -/
def tallyRebase (s : State) (cyc : Nat) : State :=
  { s with tally := { tallyAt s cyc with at_ := max cyc s.tally.at_ } }

/-- A tick comes `cyc` CK_FAB cycles after the one before. -/
def tallyTick (s : State) (cyc : Nat) : State :=
  { s with tally := { tallyAt s cyc with at_ := 0 } }

/-- A relock starts at some time, a free value: from then on Tally counts CK_XO cycles (R227, R261). -/
def tallyRelockStart (s : State) : State :=
  let f := freshFree s
  let r := setF f.2 R.F_RCU_STAT_RELOCKING 0
  { s with freeCtr := f.2.freeCtr, tally := { tallyAt r (s.tally.at_ + Config.freeNat f.1) with at_ := 0 } }

/-- A relock has taken `xo` CK_XO cycles: the clocks follow the root again, and the nominal addend of the family is loaded
(R227, R261). -/
def relocked (s : State) (xo : Nat) : State :=
  let s := rcuRelocked (tallyTick s xo)
  setAddend s (tallyNominal (rootFamily s))

/-- A write of TALLY_ADDEND_FRAC is held until INT is written (R262). -/
def tallyFracWrite (s : State) (v : Nat) : State := { s with tally := { s.tally with held := some (v % 2 ^ 32) } }

/-- A write of TALLY_ADDEND_INT applies both parts; an addend more than 1,000 ppm from the nominal is held at the limit (R262). -/
def tallyIntWrite (s : State) (cyc v : Nat) : State :=
  let s := tallyRebase s cyc
  let frac := s.tally.held.getD (getF s R.F_TALLY_ADDEND_FRAC_FRAC)
  let a := v % 256 * 2 ^ 32 + frac
  let nom := tallyNominal (rootFamily s)
  let lo := nom - nom / 1000
  let hi := nom + nom / 1000
  let s := { s with tally := { s.tally with held := none } }
  if a < lo then stick (setAddend s lo) R.F_TALLY_STAT_CLAMP_S
  else if hi < a then stick (setAddend s hi) R.F_TALLY_STAT_CLAMP_S
  else setAddend s a

/-- A write of 1 to TALLY_CTL.STEP (R263). -/
def tallyStep (s : State) : State :=
  let ns := getF s R.F_TALLY_STEP_NS_NS
  if isSet s R.F_TALLY_STAT_STEP_USED || 999999999 < ns then stick s R.F_TALLY_STAT_STEP_REJ_S
  else
    let off : Int := sext 32 (getF s R.F_TALLY_STEP_SEC_SEC)
    let n := s.tally.ns + ns
    let sec := lowBits 48 ((s.tally.sec : Int) + off + (n / 10 ^ 9 : Nat))
    let s := { s with tally := { s.tally with sec := sec, ns := n % 10 ^ 9, realign := true } }
    stick (setF s R.F_TALLY_STAT_STEP_USED 1) R.F_TALLY_STAT_STEP_S

/-- A write of 1 to TALLY_CTL.EPOCH_RESET (R263). -/
def tallyEpoch (s : State) : State :=
  let s := setF s R.F_TALLY_EPOCH_EPOCH (getF s R.F_TALLY_EPOCH_EPOCH + 1)
  let s := setF s R.F_TALLY_STAT_STEP_USED 0
  stick { s with tally := { s.tally with realign := true } } R.F_TALLY_STAT_EPOCH_S

/-- A write of TALLY_CTL: the epoch reset acts first, then the step; a host's STEP is ignored (R262). -/
def tallyCtlWrite (s : State) (fw : Bool) (v : Nat) : State :=
  let s := if v.testBit 0 then tallyEpoch s else s
  if v.testBit 1 && fw then tallyStep s else s

/-- The media clock at Tally, in 10⁻⁹ samples (R268). -/
def mediaNano (s : State) : Nat := (s.tally.sec * 10 ^ 9 + s.tally.ns) * fsHz s

/-- TMC and φ at a tick (R268). φ in 10⁻⁹ samples. -/
def tmcTick (s : State) : State :=
  let x := mediaNano s
  if s.tally.realign then
    let t := (x + 500000000) / 10 ^ 9
    stick { s with tally := { s.tally with tmc := t, phi := (x : Int) - (t * 10 ^ 9 : Nat), realign := false } }
      R.F_STREAM_STAT_REALIGN_S
  else
    let t := s.tally.tmc + 1
    let p := (x : Int) - (t * 10 ^ 9 : Nat)
    let slip := fun (t : Nat) =>
      stick (count { s with tally := { s.tally with tmc := t, phi := (x : Int) - (t * 10 ^ 9 : Nat) } }
        R.F_STREAM_SLIP_CNT_SLIP_CNT 1) R.F_STREAM_STAT_SLIP_S
    if 10 ^ 9 ≤ p then slip (t + 1)
    else if p ≤ -(10 ^ 9) then slip (t - 1)
    else { s with tally := { s.tally with tmc := t, phi := p } }

/-- STREAM_PHASE: φ in 2⁻¹⁶ samples (R268). -/
def phiWord (s : State) : Nat := lowBits 32 (s.tally.phi * 65536 / 10 ^ 9)

end Sys2Proof.Machine
end

