-- ==== Sys2Proof/Machine/Link.lean ====
section
/-! DEFINITION. The Sirlos link (R313 to R316): channels, lanes, and the frames that wait for their acknowledgement. -/
namespace Sys2Proof.Machine

/-- The channel of a frame (R314). -/
def channelOf : LinkMsg → Nat
  | .status _ _ _ _ _ _ => 0
  | .hello _ => 1
  | .tick _ _ _ _ _ _ => 2
  | .canary _ _ _ => 3
  | .mirror _ _ => 4
  | .mack _ => 5
  | .ratio _ _ _ => 6
  | .fwd _ _ _ => 7
  | .close _ _ => 8
  | .copy _ => 9
  | .sweep _ _ _ => 10
  | .swack _ _ => 11

/-- The lane that carries a channel: 0 to 6, 8 and 11 on lane 0, the others on lane 1; the other lane when that one is down
(R314). -/
def laneOf (s : State) (ch : Nat) : Option Nat :=
  if ch = 7 || ch = 9 || ch = 10 then
    (if s.redun.lane1 then some 1 else if s.redun.lane0 then some 0 else none)
  else if s.redun.lane0 then some 0 else if s.redun.lane1 then some 1 else none

/-- Send a frame: it is retained until the peer acknowledges it (R315). With no lane, or in a lone engine, nothing is sent. -/
def linkSend (s : State) (m : LinkMsg) : State :=
  if !s.redun.paired then s
  else match laneOf s (channelOf m) with
    | some 0 =>
      { s with redun := { s.redun with tx := s.redun.tx ++ [(0, s.redun.seq0, m)], seq0 := (s.redun.seq0 + 1) % 2 ^ 32 } }
    | some _ =>
      { s with redun := { s.redun with tx := s.redun.tx ++ [(1, s.redun.seq1, m)], seq1 := (s.redun.seq1 + 1) % 2 ^ 32 } }
    | none => s

/-- A frame with sequence number `a` is at or before `b`, modulo 2³². -/
def seqLe (a b : Nat) : Bool := (b + 2 ^ 32 - a) % 2 ^ 32 < 2 ^ 31

/-- Frames up to `ack` of a lane are acknowledged (R315). `ack` is the next number the peer expects. -/
def linkAck (s : State) (lane ack : Nat) : State :=
  { s with redun := { s.redun with tx := s.redun.tx.filter (fun f => !(f.1 == lane && seqLe (f.2.1 + 1) ack)) } }

/-- Whether a received frame is the next of its lane, and the state with it counted in; a frame with a bad CRC is discarded and
counted, and a repeated frame or one behind a gap is discarded (R315). -/
def linkAccept (s : State) (h : LinkHdr) : Bool × State :=
  if !s.redun.paired then (false, s)
  else if !h.crcOk then (false, count s R.F_REDUN_SIRLOS_CRC_SUMP_CNT_CNT 1)
  else if h.lane = 0 then
    (if s.redun.lane0 && h.seq = s.redun.rcv0 then
      (true, { s with redun := { s.redun with rcv0 := (s.redun.rcv0 + 1) % 2 ^ 32 } }) else (false, s))
  else
    (if s.redun.lane1 && h.seq = s.redun.rcv1 then
      (true, { s with redun := { s.redun with rcv1 := (s.redun.rcv1 + 1) % 2 ^ 32 } }) else (false, s))

end Sys2Proof.Machine
end

