-- ==== Sys2Proof/Machine/Frames.lean ====
section
/-! DEFINITION. Ethernet, IPv4, UDP and RTP as the ports read and form them (R255 to R260, R266, R273). A frame is its bytes
from the destination address to the FCS. -/
namespace Sys2Proof.Machine

/-- The big-endian number in `n` bytes of `f` from offset `o` on; bytes past the end read 0. -/
def fieldAt (f : List Nat) (o n : Nat) : Nat := ofBeBytes (((f.drop o).take n) ++ List.replicate (n - (f.length - o)) 0)

/-- Replace the bytes of `f` from offset `o` on. -/
def putAt (f : List Nat) (o : Nat) (bs : List Nat) : List Nat := f.take o ++ bs ++ f.drop (o + bs.length)

/-- The FCS of a frame body, as sent. -/
def fcsBytes (body : List Nat) : List Nat := leBytes 4 (crc32 body)
def withFcs (body : List Nat) : List Nat := body ++ fcsBytes body
/-- A frame's FCS is right. -/
def fcsOk (f : List Nat) : Bool := 4 ≤ f.length && f.drop (f.length - 4) == fcsBytes (f.take (f.length - 4))

/-- The ones-complement sum of 16-bit words that IPv4 and UDP checks use. -/
def onesSum : List Nat → Nat
  | [] => 0
  | [a] => a * 256
  | a :: b :: r => a * 256 + b + onesSum r
def foldOnes (x : Nat) : Nat :=
  let y := x % 65536 + x / 65536
  let z := y % 65536 + y / 65536
  z % 65536 + z / 65536
def onesCheck (bs : List Nat) : Nat := 0xFFFF - foldOnes (onesSum bs)

/-- What the classifier reads of a frame: the VLAN tag count and identifier, the EtherType within at most one tag, and the
offset of the payload (R256). -/
structure L2 where
  tags : Nat
  vlan : Nat
  ety : Nat
  at_ : Nat
deriving DecidableEq, Repr

def parseL2 (f : List Nat) : L2 :=
  let t := fieldAt f 12 2
  if t = 0x8100 then
    let t2 := fieldAt f 16 2
    if t2 = 0x8100 || t2 = 0x88A8 then ⟨2, 0, t2, 18⟩ else ⟨1, fieldAt f 14 2 % 4096, t2, 18⟩
  else if t = 0x88A8 then ⟨2, 0, t, 14⟩
  else ⟨0, 0, t, 14⟩

/-- An IPv4 UDP datagram, or the first fragment of one: addresses, ports, the UDP payload, whether the checks pass (R256, R257), and
whether its IPv4 header has no options. -/
structure Udp where
  src : Nat
  dst : Nat
  sport : Nat
  dport : Nat
  lenOk : Bool
  ipOk : Bool
  udpOk : Bool
  frag : Bool
  plain : Bool
  payload : List Nat
deriving DecidableEq, Repr

/-- Bytes of the IPv4 header at offset `ip` (RFC 791). -/
def ipLen (f : List Nat) (ip : Nat) : Nat := 4 * (fieldAt f ip 1 % 16)

/-- The frame is IPv4 under at most one tag. -/
def isIpv4 (f : List Nat) : Bool :=
  let l := parseL2 f
  decide (l.tags < 2) && l.ety == 0x0800 && fieldAt f l.at_ 1 / 16 == 4 && decide (20 ≤ ipLen f l.at_)

/-- The IPv4 header checksum of an IPv4 frame holds. -/
def ipSumOk (f : List Nat) : Bool :=
  let ip := (parseL2 f).at_
  foldOnes (onesSum ((f.drop ip).take (ipLen f ip))) == 0xFFFF

/-- The IPv4 UDP datagram of a frame whose fragment offset is zero (R256). The UDP length check compares UDP LENGTH with what the
IPv4 total length and the frame hold (R135); the checksum of a fragment cannot be checked. -/
def parseUdp (f : List Nat) : Option Udp :=
  let l := parseL2 f
  let ip := l.at_
  let hl := ipLen f ip
  if isIpv4 f && fieldAt f (ip + 6) 2 % 8192 = 0 && fieldAt f (ip + 9) 1 = 17 then
    let total := fieldAt f (ip + 2) 2
    let frag := (fieldAt f (ip + 6) 2).testBit 13
    let ulen := fieldAt f (ip + hl + 4) 2
    let room := f.length - 4 - ip
    let ok := decide (hl + 8 ≤ total) && decide (total ≤ room) && decide (ulen + hl = total)
    let udp := (f.drop (ip + hl)).take (min (max ulen 8) (room - hl))
    let ps := (f.drop (ip + 12)).take 8 ++ [0, 17] ++ beBytes 2 ulen
    some ⟨fieldAt f (ip + 12) 4, fieldAt f (ip + 16) 4, fieldAt f (ip + hl) 2, fieldAt f (ip + hl + 2) 2, ok, ipSumOk f,
      frag || fieldAt f (ip + hl + 6) 2 == 0 || foldOnes (onesSum (ps ++ udp)) == 0xFFFF, frag, hl == 20, udp.drop 8⟩
  else none

/-- RFC 1112: the Ethernet address of a multicast IPv4 address. -/
def multicastMac (ip : Nat) : Nat := 0x01005E000000 + ip % 2 ^ 23
def isMulticast (ip : Nat) : Bool := ip / 2 ^ 28 == 14

/-- The fields of an IPv4 UDP frame that the engine forms. -/
structure UdpOut where
  dmac : Nat
  smac : Nat
  /-- 802.1Q tag control word, when tagged. -/
  tag : Option Nat
  dscp : Nat
  ttl : Nat
  df : Bool
  src : Nat
  dst : Nat
  sport : Nat
  dport : Nat
  /-- Compute the UDP checksum; else it is zero. -/
  csum : Bool
deriving DecidableEq, Repr

/-- Form the frame, FCS included; identification 0. Short frames are padded to 64 bytes. -/
def udpFrame (u : UdpOut) (payload : List Nat) : List Nat :=
  let tag := match u.tag with
    | some t => beBytes 2 0x8100 ++ beBytes 2 t
    | none => []
  let ulen := payload.length + 8
  let addrs := beBytes 4 u.src ++ beBytes 4 u.dst
  let head := fun (c : Nat) =>
    [0x45, 4 * u.dscp % 256] ++ beBytes 2 (ulen + 20) ++ [0, 0] ++ (if u.df then [0x40, 0] else [0, 0]) ++
      [u.ttl % 256, 17] ++ beBytes 2 c ++ addrs
  let ports := beBytes 2 u.sport ++ beBytes 2 u.dport ++ beBytes 2 ulen
  let c := onesCheck (addrs ++ [0, 17] ++ beBytes 2 ulen ++ ports ++ [0, 0] ++ payload)
  let c := if u.csum then (if c = 0 then 0xFFFF else c) else 0
  let body := beBytes 6 u.dmac ++ beBytes 6 u.smac ++ tag ++ [0x08, 0x00] ++ head (onesCheck (head 0)) ++ ports ++
    beBytes 2 c ++ payload
  withFcs (body ++ List.replicate (60 - body.length) 0)

/-- The RTP payload of a datagram (R271): version, payload type, sequence number, time-stamp, SSRC, and the payload after
padding, CSRC list and extension are removed. -/
structure Rtp where
  v : Nat
  pt : Nat
  seq : Nat
  ts : Nat
  ssrc : Nat
  data : List Nat
deriving DecidableEq, Repr

def parseRtp (p : List Nat) : Rtp :=
  let b0 := fieldAt p 0 1
  let cs := 12 + 4 * (b0 % 16)
  let off := if b0.testBit 4 then cs + 4 + 4 * fieldAt p (cs + 2) 2 else cs
  let pad := if b0.testBit 5 then (p.getLast?).getD 0 else 0
  ⟨b0 / 64, fieldAt p 1 1 % 128, fieldAt p 2 2, fieldAt p 4 4, fieldAt p 8 4, (p.take (p.length - pad)).drop off⟩

/-- An RTP packet as the packetiser sends it (R273). -/
def rtpPacket (pt seq ts ssrc : Nat) (data : List Nat) : List Nat :=
  [0x80, pt % 128] ++ beBytes 2 seq ++ beBytes 4 ts ++ beBytes 4 ssrc ++ data

/-- A segmented send (R260): the frames of a payload behind a header template, `maxfrm` bytes at most. -/
def segFrame (tmpl payload : List Nat) (k s n : Nat) : List Nat :=
  let ip := (parseL2 tmpl).at_
  let chunk := (payload.drop (k * s)).take s
  let ulen := 24 + chunk.length
  let t := putAt tmpl (ip + 2) (beBytes 2 (ulen + 20))
  let t := putAt t (ip + 4) (beBytes 2 ((fieldAt tmpl (ip + 4) 2 + k) % 65536))
  let t := putAt t (ip + 10) [0, 0]
  let t := putAt t (ip + 10) (beBytes 2 (onesCheck ((t.drop ip).take 20)))
  let t := putAt t (ip + 24) (beBytes 2 ulen)
  let t := putAt t (ip + 31) [fieldAt tmpl (ip + 31) 1 / 4 * 4 + (if k = 0 then 2 else 0) + (if k + 1 = n then 1 else 0)]
  let t := putAt t (ip + 36) (beBytes 4 (k * s))
  let t := putAt t (ip + 26) [0, 0]
  let ps := (t.drop (ip + 12)).take 8 ++ [0, 17] ++ beBytes 2 ulen
  let c := onesCheck (ps ++ t.drop (ip + 20) ++ chunk)
  let t := putAt t (ip + 26) (beBytes 2 (if c = 0 then 0xFFFF else c))
  withFcs (t ++ chunk ++ List.replicate (60 - (t.length + chunk.length)) 0)

def segFrames (tmpl payload : List Nat) (maxfrm : Nat) : List (List Nat) :=
  let s := maxfrm - tmpl.length - 4
  let n := (payload.length + s - 1) / s
  tabulate n (fun k => segFrame tmpl payload k s n)

end Sys2Proof.Machine
end

