-- ==== Sys2Proof/Machine/Memory.lean ====
section
/-! DEFINITION. Reservoir, scratchpads, instruction memories and retention SRAM as the crossbar reaches them
(01_engine_at_scale.md R16 to R18, 08_reservoir_crossbar.md): targets, owner classes, ECC, handover, locks, arbitration, and
memory tests on request. CSR accesses are in Xbar.lean. -/
namespace Sys2Proof.Machine

/-- Target ID of an address (R215); 0xFF outside every range. -/
def xbarTarget (a : Nat) : Nat :=
  if a < 0x05000000 then a / 0x800000
  else if 0x0100000000 ≤ a && a < 0x0101000000 then 16 + (a - 0x0100000000) / 0x40000
  else if 0x0180000000 ≤ a && a < 0x0180200000 then 14
  else if 0x0200000000 ≤ a && a < 0x0200200000 then 11
  else if 0x0300000000 ≤ a && a < 0x0300200000 then 10
  else if 0x0400000000 ≤ a && a < 0x0420000000 then 12
  else if 0x0500000000 ≤ a && a < 0x0500041000 then 13
  else 0xFF

/-- Whether a target admits a master (R215). -/
def xbarAdmits (t m : Nat) : Bool :=
  let dexCage := m ≤ 4
  if t ≤ 9 then m ≤ 17
  else if t = 10 then dexCage || m == 5 || m == 16
  else if t = 11 then dexCage || m == 5
  else if t = 12 then dexCage || m == 5
  else if t = 13 then dexCage || m == 16
  else if t = 14 then dexCage || m == 15
  else if 16 ≤ t && t ≤ 79 then dexCage || m == 5 || m == 6 || m == 7 || m == 14 || m == 15
  else false

/-- Priority class of a master (R214). -/
def masterClass (m : Nat) : Nat :=
  if m ≤ 4 then 1 else if m ≤ 8 then 0 else if m ≤ 13 then 2 else if m = 14 then 0 else if m = 15 then 2
  else if m = 16 then 0 else 1

/-- A refusal under R16, R17 or R215. -/
def xbarRefuse (s : State) (target master : Nat) (write : Bool) : State :=
  let s := count s R.F_XBAR_REFUSE_SUMP_CNT_REFUSE_SUMP_CNT 1
  let s := stick s R.F_XBAR_STAT_REFUSE_S
  let s := setF s R.F_XBAR_REFUSE_LAST_TARGET target
  let s := setF s R.F_XBAR_REFUSE_LAST_WRITE (ofBool write)
  setF s R.F_XBAR_REFUSE_LAST_MASTER master

/-- Owner class of a Reservoir bank (R202; codes 10 to 15 act as NONE). -/
def ownerOf (s : State) (bank : Nat) : Nat := (csrGet s (R.RSV_OWN (bank / 8))).toNat / 16 ^ (bank % 8) % 16

/-- Port A rights (R202). -/
def portA (cls m : Nat) (write : Bool) : Bool :=
  let dex := m ≤ 3
  let cage := m == 4
  match cls with
  | 1 => m == 6 || cage || (dex && !write)
  | 2 => m == 7 || cage || (dex && !write)
  | 3 => m == 17 || dex || cage
  | 4 => m == 5 || m == 14 || cage || (dex && !write)
  | 5 => m == 16 || m == 14 || cage || (dex && !write)
  | 6 => dex || m == 5 || cage || (m == 16 && !write)
  | 7 => (9 ≤ m && m ≤ 13) || dex || cage || (m == 14 && !write)
  | 9 => dex || cage
  | _ => false

/-- Port B rights (R202): path 0 stream engines, 1 Confluence meter path, 2 state-sweep engine. -/
def portB (cls path : Nat) : Bool := (cls == 7 && path == 0) || (cls == 6 && path == 1) || (cls == 3 && path == 2)

/-- The bank admits an access of master `m` (R202): masters 32 to 34 are the port B paths (R200). -/
def bankAdmits (s : State) (bank m : Nat) (write : Bool) : Bool :=
  if 32 ≤ m then portB (ownerOf s bank) (m - 32) else portA (ownerOf s bank) m write

/-- A refusal by ownership (R203). -/
def ownRefuse (s : State) (bank master : Nat) (onB write : Bool) : State :=
  let s := count s R.F_RSV_OWN_SUMP_CNT_OWN_SUMP_CNT 1
  let s := stick s R.F_RSV_STAT_OWN_S
  let s := setF s R.F_RSV_OWN_LAST_BANK bank
  let s := setF s R.F_RSV_OWN_LAST_PORT_B (ofBool onB)
  let s := setF s R.F_RSV_OWN_LAST_WRITE (ofBool write)
  setF s R.F_RSV_OWN_LAST_MASTER master

/-! ECC (R167, R208, R209, R365). -/

/-- Flipped bits of the stored word at `w`. -/
def eccBits (s : State) (w : Nat) : Nat := smapGet 0 s.bus.ecc w % 256
def eccDouble (s : State) (w : Nat) : Bool := eccBits s w == 3

/-- A corrected word waits for its write-back. -/
def eccPend (s : State) (w : Nat) : State :=
  { s with bus := { s.bus with ecc := smapPut s.bus.ecc w (256 + eccBits s w) } }

/-- A read meets the stored word at `w` (word address): corrected and uncorrectable errors are counted and reported by the
memory that holds it. Words of SLUICE, HEADRACE and FIRMWARE banks and of the retention SRAM make a fatal fault. -/
def eccTouch (scrub : Bool) (s : State) (w : Nat) : State :=
  let m := eccBits s w
  if m = 0 then s
  else if w < 0x05000000 then
    let bank := w / 0x80000
    let s := setF s R.F_RSV_ECC_LAST_UNCORR (ofBool (m == 3))
    let s := setF s R.F_RSV_ECC_LAST_SCRUB (ofBool scrub)
    let s := setF s R.F_RSV_ECC_LAST_BANK bank
    let s := setF s R.F_RSV_ECC_LAST_WORD (w % 0x80000 / 8)
    if m = 3 then
      let s := stick (count s R.F_RSV_UECC_CNT_UECC_CNT 1) R.F_RSV_STAT_UECC_S
      let o := ownerOf s bank
      if o = 4 || o = 5 || o = 9 then fatalFault s R.F_RST_FATAL_RSV_UECC_S else s
    else eccPend (stick (count s R.F_RSV_ECC_CNT_ECC_CNT 1) R.F_RSV_STAT_CECC_S) w
  else if 0x0100000000 ≤ w && w < 0x0101000000 then
    let c := (w - 0x0100000000) / 0x40000
    if m = 3 then stick s (R.F_MINTAL_STAT_DECC_S c)
    else eccPend (stick (count s (R.F_MINTAL_ECC_CNT_ECC_CNT c) 1) (R.F_MINTAL_STAT_CECC_S c)) w
  else if m = 3 then fatalFault s R.F_RST_FATAL_AON_UECC_S
  else eccPend s w

/-- The words that hold bytes `a` to `a + n - 1`. -/
def wordsOf (a n : Nat) : List Nat :=
  if n = 0 then []
  else
    let st := if 0x0100000000 ≤ a && a < 0x0101000000 then 4 else 8
    (List.range ((a + n - 1) / st - a / st + 1)).map (fun k => (a / st + k) * st)

/-- One byte as read: a double error delivers the flipped bits. -/
def readRaw (s : State) (a : Nat) : Nat :=
  let w := eccWord a
  if a = w && eccDouble s w then readByte s a ^^^ 3 else readByte s a

/-- A read of `n` bytes through ECC: data, whether any word was uncorrectable, and the state with the errors reported. -/
def eccRead (s : State) (a n : Nat) : List Nat × Bool × State :=
  let ws := wordsOf a n
  ((List.range n).map (fun k => readRaw s (a + k)), ws.any (eccDouble s), ws.foldl (eccTouch false) s)

/-- Write bytes word by word (R201, R213): a write of part of a word reads it first, and does nothing when that read is
uncorrectable. -/
def eccWrite (s : State) (a : Nat) (data : List Nat) : State :=
  (wordsOf a data.length).foldl (fun s w =>
    let st := if 0x0100000000 ≤ a && a < 0x0101000000 then 4 else 8
    let lo := max w a
    let hi := min (w + st) (a + data.length)
    let part := hi - lo < st
    let s' := if part then eccTouch false s w else s
    if part && eccDouble s w then s' else writeBytes s' lo ((data.drop (lo - a)).take (hi - lo))) s

/-! The engine's own masters on banks (R202, R203, R365): a transfer moves in bursts that end at 256-byte boundaries, each checked
against the bank's owner. Outside the Reservoir nothing refuses them. -/

/-- The access of master `m` to the bank of `a` is admitted. -/
def mayReach (s : State) (m a : Nat) (write : Bool) : Bool := decide (0x05000000 ≤ a) || bankAdmits s (a / 0x80000) m write

/-- An access of master `m` at `a` is refused by ownership. -/
def refuseAt (s : State) (m a : Nat) (write : Bool) : State := ownRefuse s (a / 0x80000) (m % 32) (decide (32 ≤ m)) write

/-- The bursts of a transfer of `n` bytes at `a`: start and length. -/
def burstsOf (a n : Nat) : List (Nat × Nat) :=
  if n = 0 then []
  else (List.range ((a + n - 1) / 256 - a / 256 + 1)).map (fun k =>
    let lo := max a ((a / 256 + k) * 256)
    (lo, min (a + n) ((a / 256 + k + 1) * 256) - lo))

/-- Master `m` writes bytes from `a` on. -/
def engineWrite (s : State) (m a : Nat) (data : List Nat) : State :=
  (burstsOf a data.length).foldl (fun s b =>
    if mayReach s m b.1 true then eccWrite s b.1 ((data.drop (b.1 - a)).take b.2) else refuseAt s m b.1 true) s

/-- An uncorrectable word at `a` is used as zero: in the Reservoir, but for FX banks, whose data are used as read (R365). -/
def badAsZero (s : State) (a : Nat) : Bool :=
  eccDouble s (eccWord a) && decide (a < 0x05000000) && ownerOf s (a / 0x80000) != 3

/-- One byte as master `m` uses it: zero where the bank refuses it (R203), or in place of an uncorrectable word (R365). -/
def viewByte (s : State) (m a : Nat) : Nat := if mayReach s m a false && !badAsZero s a then readRaw s a else 0

/-- `n` bytes from `a` on as master `m` uses them. -/
def viewBytes (s : State) (m a n : Nat) : List Nat := (List.range n).map (fun k => viewByte s m (a + k))
def viewWord (s : State) (m a n : Nat) : Nat := ofLeBytes (viewBytes s m a n)

/-- What a read of `n` bytes from `a` on by master `m` reports: refused bursts, and the errors of the words that it meets. -/
def scanRange (s : State) (m a n : Nat) : State :=
  (burstsOf a n).foldl (fun s b =>
    if mayReach s m b.1 false then
      ((s.bus.ecc.map (fun e => e.1)).filter (fun w => decide (eccWord b.1 ≤ w) && decide (w < b.1 + b.2))).foldl (eccTouch false) s
    else refuseAt s m b.1 false) s

/-! PSTORE halves as the Sluice, master 5, writes them (R18, R103, R117). -/

/-- Write bytes of the shadow half of word `p`'s cell, from byte `o` of the word on, and mark the cell dirty (R18). -/
def pwriteBytes (s : State) (p o : Nat) (data : List Nat) : State :=
  let a := pstoreAddr (1 - cellBsel s (p / 16)) p + o
  if mayReach s 5 a true then setCell (engineWrite s 5 a data) (p / 16) (cellBsel s (p / 16)) true else refuseAt s 5 a true

/-- Write the shadow half of a word's cell and mark the cell dirty (R18). -/
def pwriteShadow (s : State) (p v : Nat) : State := pwriteBytes s p 0 (leBytes 4 v)

/-- Write both halves of a word of cell 0x3C10, word by word (R117). -/
def pwriteLive (s : State) (p v : Nat) : State :=
  engineWrite (engineWrite s 5 (pstoreAddr 0 p) (leBytes 4 v)) 5 (pstoreAddr 1 p) (leBytes 4 v)

/-- Copy one half of a cell over the other. -/
def copyHalf (s : State) (c src : Nat) : State :=
  let a := pstoreAddr src (16 * c)
  engineWrite (scanRange s 5 a 64) 5 (pstoreAddr (1 - src) (16 * c)) (viewBytes s 5 a 64)

/-! Accesses to memory targets. -/

/-- The instruction memory of core `c` is accessible: the core is held (R17). -/
def coreHeld (s : State) (c : Nat) : Bool :=
  match smapFind s.cores c with
  | some k => k.held
  | none => true

/-- What an access gives: data read, poison mark, state. -/
structure Access where
  data : List Nat
  poison : Bool
  st : State

def zeros (n : Nat) : List Nat := List.replicate n 0

/-- Perform a burst on plain memory. -/
def memDo (s : State) (r : BusReq) : Access :=
  match r.data with
  | some d => ⟨[], false, eccWrite s r.addr d⟩
  | none => let x := eccRead s r.addr r.len; ⟨x.1, x.2.1, x.2.2⟩

def isWrite (r : BusReq) : Bool := r.data.isSome
def refused (s : State) (r : BusReq) (t : Nat) : Access :=
  ⟨if isWrite r then [] else zeros r.len, false, xbarRefuse s t r.master (isWrite r)⟩

/-- Where the shadow half holds byte `o` of the PSTORE window. -/
def shadowAt (s : State) (o : Nat) : Nat := pstoreAddr (1 - cellBsel s (o / 64)) (o / 4) + o % 4

/-- PSTORE window (R18): a write of any bytes writes the shadow half of each word and marks the cells dirty; a read returns the shadow
half. The window reaches the banks as the Sluice does, each stored word of a read once. -/
def pstoreDo (s : State) (r : BusReq) : Access :=
  let o := r.addr - 0x0200000000
  match r.data with
  | some d => ⟨[], false, (List.range ((o + d.length + 3) / 4 - o / 4)).foldl (fun s k =>
      let lo := max o (4 * (o / 4 + k))
      pwriteBytes s (o / 4 + k) (lo % 4) ((d.drop (lo - o)).take (4 - lo % 4))) s⟩
  | none =>
    let as := (List.range r.len).map (fun k => shadowAt s (o + k))
    let no := (as.filter (fun a => !mayReach s 5 a false)).map (fun a => a / 0x80000)
    let ok := as.filter (fun a => mayReach s 5 a false)
    let ws := (ok.map eccWord).eraseDups
    let s1 := no.eraseDups.foldl (fun s b => ownRefuse s b 5 false false) s
    ⟨as.map (fun a => if mayReach s 5 a false then readRaw s a else 0), ws.any (eccDouble s), ws.foldl (eccTouch false) s1⟩

/-- PRF words through the crossbar (R334). -/
def prfDo (s : State) (r : BusReq) : Access :=
  let w := (r.addr - 0x0500040000) / 4
  match r.data with
  | some d => ⟨[], false, (List.range (d.length / 4)).foldl (fun s k =>
      prfWrite s false (w + k) (ofLeBytes ((d.drop (4 * k)).take 4))) s⟩
  | none => ⟨(List.range ((r.len + 3) / 4)).flatMap (fun k => leBytes 4 (prfRead s (w + k))), false, s⟩

/-- A write of the retention SRAM through the crossbar: whether it changes the session table or the journal index, which the spec does
not place, is a free value; where it does, their CRC-32 no longer matches (R156). -/
def keptWrite (s : State) (r : BusReq) : State :=
  if isWrite r then
    let f := freshFree s
    { f.2 with hr := { f.2.hr with retOk := f.2.hr.retOk && Config.freeNat f.1 % 2 == 0 } }
  else s

/-- A granted burst on a target other than CSR space (R215 to R218). -/
def memAccess (s : State) (r : BusReq) : Access :=
  let t := xbarTarget r.addr
  if !xbarAdmits t r.master then refused s r t
  else if t ≤ 9 then
    let bank := r.addr / 0x80000
    if portA (ownerOf s bank) r.master (isWrite r) then memDo s r
    else ⟨if isWrite r then [] else zeros r.len, false, ownRefuse s bank r.master false (isWrite r)⟩
  else if t = 11 then pstoreDo s r
  else if t = 12 then (if isWrite r then refused s r t else ⟨readBytes s r.addr r.len, false, s⟩)
  else if t = 13 then (if 0x0500040000 ≤ r.addr then prfDo s r else memDo (keptWrite s r) r)
  else if t = 14 then
    if coreHeld s ((r.addr - 0x0180000000) / 0x8000) then
      (match r.data with
       | some d => ⟨[], false, writeBytes s r.addr d⟩
       | none => ⟨readBytes s r.addr r.len, false, s⟩)
    else refused s r t
  else if t = 10 then ⟨zeros r.len, false, s⟩
  else memDo s r

/-- The bytes that a burst moves. -/
def burstLen (r : BusReq) : Nat :=
  match r.data with
  | some d => d.length
  | none => r.len

/-- A burst that Dexmos firmware issues across a 256-byte boundary is ended there, and its remaining beats are refused under R16
(R214); `f` performs the part before the boundary. -/
def atBoundary (f : State → BusReq → Access) (s : State) (r : BusReq) : Access :=
  let n := burstLen r
  let room := 256 - r.addr % 256
  if r.master ≤ 3 && room < n then
    let h := f s { r with len := room, data := r.data.map (fun d => d.take room) }
    ⟨h.data ++ (if isWrite r then [] else zeros (n - room)), h.poison, xbarRefuse h.st (xbarTarget r.addr) r.master (isWrite r)⟩
  else f s r

/-- A granted burst of any length on a target other than CSR space. -/
def memBurst (s : State) (r : BusReq) : Access := atBoundary memAccess s r

/-- A port B access (R200, R203): masters 32 to 34. -/
def portBAccess (s : State) (r : BusReq) : Access :=
  if bankAdmits s (r.addr / 0x80000) r.master (isWrite r) && r.addr < 0x05000000 then memDo s r
  else ⟨if isWrite r then [] else zeros r.len, false, refuseAt s r.master r.addr (isWrite r)⟩

/-- A port B write of a word that port A writes in the same cycle (R211). -/
def collide (s : State) : State :=
  stick (count s R.F_RSV_COLLIDE_SUMP_CNT_COLLIDE_SUMP_CNT 1) R.F_RSV_STAT_COLLIDE_S

/-- The lock on a target, if any (R218). -/
def lockOf (s : State) (t : Nat) : Option Nat := smapFind s.bus.locks t

/-- Master `m` holds the lock on target `t`. -/
def holdsLock (s : State) (t m : Nat) : Bool := lockOf s t == some m

/-- Another master than `m` holds the lock on target `t`. -/
def lockedOut (s : State) (t m : Nat) : Bool := (lockOf s t).isSome && !holdsLock s t m

/-- The bank is in a handover (R204). -/
def bankMoves (s : State) (bank : Nat) : Bool :=
  match s.bus.handover with
  | some h => h.bank == bank
  | none => false

/-- The Reservoir banks that a request reaches: its own, or the two halves of a cell behind the PSTORE window. -/
def banksOf (r : BusReq) : List Nat :=
  if r.addr < 0x05000000 then [r.addr / 0x80000]
  else if xbarTarget r.addr = 11 then
    let p := (r.addr - 0x0200000000) / 4
    [pstoreAddr 0 p / 0x80000, pstoreAddr 1 p / 0x80000]
  else []

/-- The request waits: another master holds port A of its target, or of target port 8 behind the PSTORE window, by a lock (R218); a
bank it reaches is in a handover, which waits for a locked sequence of this master to end (R204); or the CSR target is held (R250). -/
def mustWait (s : State) (r : BusReq) : Bool :=
  let t := xbarTarget r.addr
  (decide (r.master < 32) && (lockedOut s t r.master || (t == 11 && lockedOut s 8 r.master))) ||
  ((banksOf r).any (bankMoves s) && !(decide (r.master < 32) && holdsLock s (if t = 11 then 8 else t) r.master)) ||
  (t == 10 && s.bus.csrHung)

def enqueueWait (s : State) (w : BusWait) : State := { s with bus := { s.bus with waits := s.bus.waits ++ [w] } }

/-- The pointer of a target moves past the granted master (R216), and the target parks on it (R217). -/
def granted (s : State) (t m : Nat) : State :=
  { s with bus := { s.bus with rr := smapSet 0 s.bus.rr t ((m + 1) % 18), parked := smapPut s.bus.parked t m } }

/-- Rank of a waiting request: class first, then the distance from the round-robin pointer (R216). -/
def grantRank (s : State) (r : BusReq) : Nat :=
  let t := xbarTarget r.addr
  18 * masterClass r.master + (r.master + 18 - smapGet 0 s.bus.rr t) % 18

/-- The request granted next: the lowest rank; of one master's requests, the oldest. -/
def nextGrant (s : State) : List BusWait → Option (BusWait × List BusWait)
  | [] => none
  | r :: rs =>
    match nextGrant s rs with
    | none => some (r, rs)
    | some (b, rest) => if grantRank s b.req < grantRank s r.req then some (b, r :: rest) else some (r, rs)

/-- Record what a command returned. -/
def putRead (s : State) (m : Nat) (x : Access) : State :=
  { x.st with bus := { x.st.bus with rdata := s.bus.rdata ++ [(m, x.data, x.poison)] } }

/-- XBAR_LOCKED shows the locks (R218). -/
def showLocks (s : State) : State :=
  let m := (List.range 10).foldl (fun a t => if (lockOf s t).isSome then a + 2 ^ t else a) 0
  setF (setF s R.F_XBAR_LOCKED_RSV m) R.F_XBAR_LOCKED_AON (ofBool (lockOf s 13).isSome)

/-- The locks of a master end (R218, R219). -/
def dropLocks (s : State) (m : Nat) : State :=
  showLocks { s with bus := { s.bus with locks := s.bus.locks.filter (fun l => l.2 != m) } }

/-- Master `m` holds the lock on another target than `t` (R218). -/
def lockClash (s : State) (m t : Nat) : Bool := s.bus.locks.any (fun l => l.2 == m && l.1 != t)

/-- A granted request is served by `f`; a read with the lock attribute then locks its target, a write with the unlock attribute ends
its master's lock on it, and a second lock is refused (R218). Port B knows neither. -/
def serveBurst (f : State → BusReq → Access) (s : State) (w : BusWait) : State :=
  let r := w.req
  if 32 ≤ r.master then putRead s r.master (portBAccess s r)
  else if w.lock && lockClash s r.master (xbarTarget r.addr) then
    putRead s r.master (refused (stick s R.F_XBAR_STAT_LOCK_REFUSE_S) r (xbarTarget r.addr))
  else
    let t := xbarTarget r.addr
    let s := putRead s r.master (f (granted s t r.master) r)
    if w.lock then showLocks { s with bus := { s.bus with locks := smapPut s.bus.locks t r.master } }
    else if w.unlock && holdsLock s t r.master then dropLocks s r.master else s

/-- Requests that waited are served by class and pointer once nothing holds them (R204, R216, R218). -/
def drainWaits : Nat → State → State
  | 0, s => s
  | n + 1, s =>
    match nextGrant s (s.bus.waits.filter (fun w => !mustWait s w.req)) with
    | none => s
    | some (w, _) => drainWaits n (serveBurst memBurst { s with bus := { s.bus with waits := s.bus.waits.erase w } } w)

def retryWaits (s : State) : State := drainWaits s.bus.waits.length s

/-- A request of a burst with a lock attribute is served, or waits (R218). -/
def serveOrWait (s : State) (w : BusWait) : State := if mustWait s w.req then enqueueWait s w else serveBurst memBurst s w

/-- A read with the lock attribute (R218): granted as usual and then locks its target; a second lock is refused. -/
def lockedRead (s : State) (m a n : Nat) : State :=
  let s := { s with bus := { s.bus with rdata := [] } }
  let r : BusReq := ⟨m, a, n, none, false⟩
  let t := xbarTarget a
  let may := (m ≤ 3 || m == 16) && (t ≤ 9 || t == 13)
  if !may then putRead s m (refused s r t)
  else if lockClash s m t then
    putRead s m (refused (stick s R.F_XBAR_STAT_LOCK_REFUSE_S) r t)
  else serveOrWait s ⟨r, true, false⟩

/-- Release the locks of a master; the waiting requests are served (R218, R219). -/
def releaseLock (s : State) (m : Nat) : State := retryWaits (dropLocks s m)

/-- A write with the unlock attribute (R218); what waited for the lock is served after it. -/
def unlockWrite (s : State) (m a : Nat) (d : List Nat) : State :=
  retryWaits (serveOrWait { s with bus := { s.bus with rdata := [] } } ⟨⟨m, a, d.length, some d, false⟩, false, true⟩)

/-- A master's reset finds a write burst in progress (R219): accepted beats are written, the rest are cancelled; of a Reservoir bank or
a scratchpad it is reported. The beats of one on CSR space are written before (`cutAll`). -/
def cutBurst (s : State) (b : CutBurst) : State :=
  let t := xbarTarget b.addr
  let onRsv := decide (t ≤ 9)
  let onScr := decide (16 ≤ t) && decide (t ≤ 79)
  let taken := xbarAdmits t b.master && (!onRsv || bankAdmits s (b.addr / 0x80000) b.master true)
  let s := (memAccess s ⟨b.master, b.addr, b.data.length, some b.data, false⟩).st
  if !taken || !(onRsv || onScr) then s
  else
    let o := ownerOf s (b.addr / 0x80000)
    let s := if onScr then stick s R.F_XBAR_STAT_SCR_ABORT_S
      else csrPut s R.RSV_ABORT (csrGet s R.RSV_ABORT ||| BitVec.ofNat 32 (2 ^ o))
    let s := count s R.F_XBAR_ABORT_CNT_ABORT_CNT 1
    let s := setF s R.F_XBAR_ABORT_LAST_TARGET t
    let s := setF s R.F_XBAR_ABORT_LAST_BEATS (b.data.length / 32)
    setF s R.F_XBAR_ABORT_LAST_MASTER b.master

/-- A master is reset (R219): its waiting requests are withdrawn, its bursts are cut short, its locks are released. -/
def masterReset (s : State) (ms : List Nat) (cut : List CutBurst) : State :=
  let s := { s with bus := { s.bus with waits := s.bus.waits.filter (fun w => !ms.contains w.req.master) } }
  let s := (cut.filter (fun b => ms.contains b.master)).foldl cutBurst s
  ms.foldl releaseLock s

/-! Write-back and scrubbing. -/

/-- The corrected word at `w` is written back (R167, R208); dropped when a write has renewed it. -/
def eccWriteback (s : State) (w : Nat) : State :=
  let m := smapGet 0 s.bus.ecc w
  if 256 ≤ m && m % 256 != 3 then { s with bus := { s.bus with ecc := smapDel s.bus.ecc w } } else s

/-- One scrub interval (R210): one word of every bank except those of class MBIST; a bank without an idle port B cycle
(`busy`) is skipped and counted. -/
def scrubRead (s : State) (busy : List Nat) : State :=
  if !isSet s R.F_RSV_SCRUB_CTL_EN then s
  else
    let w := s.bus.scrub
    let s := (List.range 160).foldl (fun s b =>
      if ownerOf s b = 8 then s
      else if busy.contains b then count s R.F_RSV_SCRUB_SUMP_CNT_SCRUB_SUMP_CNT 1
      else eccTouch true s (b * 0x80000 + 8 * w)) s
    { s with bus := { s.bus with scrub := (w + 1) % 65536 } }

/-! Handover (R204, R205). -/

def setOwner (s : State) (bank o : Nat) : State :=
  let k := bank / 8
  let w := (csrGet s (R.RSV_OWN k)).toNat
  csrPut s (R.RSV_OWN k) (BitVec.ofNat 32 (setBits w (4 * (bank % 8) + 3) (4 * (bank % 8)) o))

/-- Bank `b` is marked failed in RSV_FAIL (R222). -/
def bankFailed (s : State) (b : Nat) : Bool := (csrGet s (R.RSV_FAIL (b / 32))).toNat.testBit (b % 32)

/-- A write of RSV_HANDOVER (R204, R205). -/
def handoverWrite (s : State) (v : Nat) : State :=
  let bank := bits v 7 0
  let o := bits v 11 8
  let rej := s.bus.handover.isSome || decide (160 ≤ bank) || decide (10 ≤ o) ||
    (bankFailed s bank && o != 0 && o != 8) ||
    (128 ≤ bank && bank ≤ 139 && isSet s R.F_SCHED_CTL_RUN && o != ownerOf s bank)
  if rej then stick s R.F_RSV_STAT_HANDOVER_REJ_S
  else
    let s := setF (setF s R.F_RSV_HANDOVER_OWNER o) R.F_RSV_HANDOVER_BANK bank
    if o = ownerOf s bank then stick s R.F_RSV_STAT_HANDOVER_DONE_S
    else setF { s with bus := { s.bus with handover := some ⟨bank, o⟩ } } R.F_RSV_HANDOVER_BUSY 1

/-- The granted accesses have drained (R204): the owner changes and the waiting accesses are checked against it. -/
def handoverComplete (s : State) : State :=
  match s.bus.handover with
  | none => s
  | some h =>
    if (lockOf s (h.bank / 16)).isSome then s
    else
      let s := setOwner { s with bus := { s.bus with handover := none, rdata := [] } } h.bank h.owner
      let s := setF s R.F_RSV_HANDOVER_BUSY 0
      retryWaits (stick s R.F_RSV_STAT_HANDOVER_DONE_S)

/-! Memory test on request (R224). -/

/-- Base address and size of the memory under test. -/
def mbistRange (m : Mbist) : Nat × Nat :=
  match m.target with
  | 0 => (m.bank * 0x80000, 0x80000)
  | 1 => (0x0100000000 + m.core * 0x40000 + (m.bank % 4) * 0x10000, 0x10000)
  | _ => (0x0180000000 + m.core * 0x8000, 0x8000)

/-- Clear a range of memory and its marks: March C− leaves every word zero with a valid check code (R220). -/
def clearRange (s : State) (a n : Nat) : State :=
  { s with
    mem := s.mem.filter (fun c => !(decide (a ≤ c.1) && decide (c.1 < a + n))),
    bus := { s.bus with ecc := s.bus.ecc.filter (fun c => !(decide (a ≤ c.1) && decide (c.1 < a + n))) } }

/-- A write of RSV_MBIST_CTL (R224). Without GO the fields are only stored; GO reads 1 while a test runs. -/
def mbistWrite (s : State) (v : Nat) : State :=
  let m : Mbist := ⟨bits v 29 28, bits v 24 24, bits v 13 8, bits v 7 0⟩
  let run := s.bus.mbist.isSome
  let s1 := csrPut s R.RSV_MBIST_CTL (BitVec.ofNat 32 ((v % 2 ^ 31 &&& 0x31003FFF) + 2 ^ 31 * ofBool run))
  if !v.testBit 31 then s1
  else
    let ok := !run && m.target != 3 &&
      (if m.target = 0 then m.bank < 160 && ownerOf s m.bank == 8 &&
          (match s.bus.handover with | some h => h.bank != m.bank | none => true)
       else if m.target = 1 then isSet s (R.F_MINTAL_CTL_RESET m.core) && coreHeld s m.core && m.bank < 4
       else isSet s (R.F_MINTAL_CTL_RESET m.core) && coreHeld s m.core)
    if ok then
      let s := setF s1 R.F_RSV_MBIST_CTL_GO 1
      setF { s with bus := { s.bus with mbist := some m } } R.F_RSV_MBIST_STAT_BUSY 1
    else
      let s := if run then s else s1
      stick (setF s R.F_RSV_MBIST_STAT_RESULT 3) R.F_RSV_STAT_MBIST_REJ_S

/-- Mark a memory failed, or not (R222): a Reservoir bank in RSV_FAIL with its owner forced to NONE; a scratchpad bank or
instruction memory holds its core. -/
def markFailed (s : State) (m : Mbist) (bad : Bool) : State :=
  match m.target with
  | 0 =>
    let k := m.bank / 32
    let w := (csrGet s (R.RSV_FAIL k)).toNat
    let s := csrPut s (R.RSV_FAIL k) (BitVec.ofNat 32 (setBits w (m.bank % 32) (m.bank % 32) (ofBool bad)))
    if bad then setOwner s m.bank 0 else s
  | t =>
    let key := if t = 1 then 4 * m.core + m.bank % 4 else 256 + m.core
    let l := s.bus.failed.filter (fun k => k != key)
    { s with bus := { s.bus with failed := if bad then l ++ [key] else l } }

/-- A core has a failed scratchpad bank or instruction memory, which holds it in reset (R222). -/
def coreFailed (s : State) (c : Nat) : Bool := s.bus.failed.any (fun k => k == 256 + c || (k < 256 && k / 4 == c))

/-- The key of a memory under test: 4c + k and 256 + c as in `Bus.failed`, 512 + b for Reservoir bank b. -/
def mbistKey (m : Mbist) : Nat :=
  match m.target with
  | 0 => 512 + m.bank
  | 1 => 4 * m.core + m.bank % 4
  | _ => 256 + m.core

/-- The spare rows and columns of a memory (R222). -/
def spareRoom (key : Nat) : Nat × Nat := if key < 256 then (4, 1) else if key < 512 then (2, 0) else (8, 2)

/-- The faults of a memory that need `rows` and `cols` more spares exceed them (R222). -/
def sparesExceeded (s : State) (key rows cols : Nat) : Bool :=
  let u := smapGet (0, 0) s.bus.spares key
  decide ((spareRoom key).1 < u.1 + rows) || decide ((spareRoom key).2 < u.2 + cols)

/-- A soft repair takes spares into use (R222, RSV_REPAIR). -/
def softRepair (s : State) (key rows cols : Nat) : State :=
  let u := smapGet (0, 0) s.bus.spares key
  let s := { s with bus := { s.bus with spares := smapSet (0, 0) s.bus.spares key (u.1 + rows, u.2 + cols) } }
  setF (setF s R.F_RSV_REPAIR_ROWS (getF s R.F_RSV_REPAIR_ROWS + rows)) R.F_RSV_REPAIR_COLS (getF s R.F_RSV_REPAIR_COLS + cols)

/-- The marks of single-bit errors in a range go: a transparent march leaves them corrected (R220). -/
def clearSingles (s : State) (a n : Nat) : State :=
  { s with bus := { s.bus with ecc := s.bus.ecc.filter (fun c => !(decide (a ≤ c.1) && decide (c.1 < a + n)) || c.2 % 256 == 3) } }

/-- A test on request completes (R220, R222, R224): `rows` and `cols` are the spares that its faults need; `bad` when they cannot be
repaired. -/
def mbistComplete (s : State) (rows cols : Nat) (fails : Bool) : State :=
  match s.bus.mbist with
  | none => s
  | some m =>
    let bad := fails || sparesExceeded s (mbistKey m) rows cols
    let s := { s with bus := { s.bus with mbist := none } }
    let r := mbistRange m
    let s := if m.alg = 0 || bad then clearRange s r.1 r.2 else clearSingles s r.1 r.2
    let s := markFailed s m bad
    let s := setF (setF s R.F_RSV_MBIST_STAT_BUSY 0) R.F_RSV_MBIST_CTL_GO 0
    let s := setF s R.F_RSV_MBIST_STAT_RESULT (if bad then 2 else if rows + cols = 0 then 0 else 1)
    let s := setF s R.F_RSV_MBIST_STAT_SPARES (if bad then 0 else rows + cols)
    let s := if bad then s else softRepair s (mbistKey m) rows cols
    stick s R.F_RSV_STAT_MBIST_DONE_S

end Sys2Proof.Machine
end

