-- ==== Sys2Proof/Machine/Stream.lean ====
section
/-! DEFINITION. Stream contexts, playout rings, presentation and packets (R267 to R273, R307, R308). -/
namespace Sys2Proof.Machine

/-- Samples per packet of a packet time code at the engine rate in effect (Protocols supported). -/
def packetLen (s : State) (code : Nat) : Nat :=
  let p := match code with
    | 0 => 6
    | 1 => 12
    | 2 => 16
    | _ => 48
  if 2 ≤ rateCode s then 2 * p else p

def ctxOn (s : State) (c : Nat) : Bool := isSet s (R.F_STREAM_RX_CTL_EN c)
def ctxTxOn (s : State) (c : Nat) : Bool := isSet s (R.F_STREAM_TX_CTL_EN c)
def rxChannels (s : State) (c : Nat) : Nat := getF s (R.F_STREAM_RX_POOL_CHANNELS c)
def rxBase (s : State) (c : Nat) : Nat := getF s (R.F_STREAM_RX_POOL_BASE c)
def rxBytes (s : State) (c : Nat) : Nat := if isSet s (R.F_STREAM_RX_CTL_ENC c) then 2 else 3
def rxPtime (s : State) (c : Nat) : Nat := packetLen s (getF s (R.F_STREAM_RX_CTL_PTIME c))

/-- The link offset of a receive context: its group's, or its own (R269). -/
def linkOffset (s : State) (c : Nat) : Nat :=
  let g := getF s (R.F_STREAM_RX_CTL_GROUP c)
  if g = 0 then getF s (R.F_STREAM_RX_LINK_LINK c) else getF s (R.F_STREAM_GRP_LO (g - 1))

/-- A context's counter k in the selected-context window: 0 LATE, 1 EARLY, 2 FORMAT, 3 LOST, 4 PKT_P, 5 PKT_S, 6 UNDERRUN,
7 TX_PKT. -/
def ctxCount (s : State) (c k n : Nat) : State :=
  let v := smapGet 0 s.net.cnt (8 * c + k)
  { s with net := { s.net with cnt := smapSet 0 s.net.cnt (8 * c + k) (min (v + n) 0xFFFFFFFF) } }

/-! Enable checks (R267). -/

/-- The largest accepted frame of a port (R255). -/
def maxFrame (s : State) (p : Nat) : Nat := max 1522 (min 9216 (getF s (R.F_MAC_MAXFRM_MAXFRM p)))

def linkOk (s : State) (c : Nat) : Bool :=
  decide (rxPtime s c ≤ linkOffset s c) && decide (linkOffset s c ≤ 255 - rxPtime s c)

/-- Slot ranges of two contexts overlap. -/
def rangesMeet (a n b m : Nat) : Bool := decide (a < b + m) && decide (b < a + n)

/-- The first failing check of receive context c, 0 when all pass. -/
def rxCheck (s : State) (c : Nat) : Nat :=
  let ch := rxChannels s c
  let b := rxBase s c
  let len := 58 + 4 * getF s (R.F_STREAM_RX_CTL_VLAN_EN c) + ch * rxPtime s c * rxBytes s c
  let sec := isSet s (R.F_STREAM_RX_CTL_SEC_EN c)
  let p := getF s (R.F_STREAM_RX_CTL_PORT c)
  let q := getF s (R.F_STREAM_RX_CTL_SEC_PORT c)
  if ch = 0 || 64 < ch then 1
  else if 2047 < b + ch - 1 then 2
  else if (List.range 256).any (fun d => d != c && ctxOn s d && rangesMeet b ch (rxBase s d) (rxChannels s d)) then 3
  else if maxFrame s p < len || (sec && maxFrame s q < len) then 4
  else if sec && p = q then 5
  else if !linkOk s c then 6
  else 0

/-- The first failing check of transmit context c, 0 when all pass. -/
def txCheck (s : State) (c : Nat) : Nat :=
  let ch := getF s (R.F_STREAM_TX_POOL_CHANNELS c)
  let b := getF s (R.F_STREAM_TX_POOL_BASE c)
  let by' := if isSet s (R.F_STREAM_TX_CTL_ENC c) then 2 else 3
  let len := 58 + 4 * getF s (R.F_STREAM_TX_CTL_VLAN_EN c) + ch * packetLen s (getF s (R.F_STREAM_TX_CTL_PTIME c)) * by'
  let sec := isSet s (R.F_STREAM_TX_CTL_SEC_EN c)
  let p := getF s (R.F_STREAM_TX_CTL_PORT c)
  let q := getF s (R.F_STREAM_TX_CTL_SEC_PORT c)
  if ch = 0 || 64 < ch then 1
  else if 2047 < b + ch - 1 then 2
  else if maxFrame s p < len || (sec && maxFrame s q < len) then 4
  else if sec && p = q then 5
  else if sec && !isMulticast (getF s (R.F_STREAM_TX_DST_IP2_DST_IP2 c)) then 7
  else 0

/-- Record a refusal (R267). -/
def ctxReject (s : State) (c : Nat) (tx : Bool) (reason : Nat) : State :=
  let s := stick s R.F_STREAM_STAT_CFG_REJ_S
  let s := setF s R.F_STREAM_BAD_CTX_REASON reason
  setF (setF s R.F_STREAM_BAD_CTX_TX (ofBool tx)) R.F_STREAM_BAD_CTX_CTX c

/-- Empty the rings of a receive context's slots, and forget its sequence numbers. -/
def ctxClear (s : State) (c : Nat) : State :=
  let b := 256 * rxBase s c
  let n := 256 * rxChannels s c
  { s with net := { s.net with
      ring := s.net.ring.filter (fun e => !(decide (b ≤ e.1) && decide (e.1 < b + n))),
      rxSeq := smapDel s.net.rxSeq c } }

/-- A context leaves or enters the RECEIVING state (R271). -/
def setReceiving (s : State) (c : Nat) (on : Bool) : State :=
  let f := R.F_STREAM_RX_ACTIVE_RECEIVING (c / 32)
  let w := getF s f
  setF s f (if on then w ||| 2 ^ (c % 32) else w - (w &&& 2 ^ (c % 32)))

/-- A write of a receive context's CTL word (R267). -/
def rxCtlWrite (s : State) (c v : Nat) : State :=
  let off := 0xF1000 + 0x20 * c
  if ctxOn s c then
    let s' := csrWrite s off (BitVec.ofNat 32 (setBits (csrGet s off).toNat 31 31 (bits v 31 31)))
    let s' := if bits v 31 31 = 0 then setReceiving (ctxClear s' c) c false else s'
    if bits (csrGet s (off)).toNat 30 0 = bits (csrGet (csrWrite s off (BitVec.ofNat 32 v)) off).toNat 30 0 then s'
    else ctxReject s' c false 8
  else
    let s := csrWrite s off (BitVec.ofNat 32 (bits v 30 0))
    if bits v 31 31 = 0 then s
    else
      let r := rxCheck s c
      if r = 0 then setF (ctxClear s c) (R.F_STREAM_RX_CTL_EN c) 1 else ctxReject s c false r

/-- A write of a transmit context's CTL word (R267). -/
def txCtlWrite (s : State) (c v : Nat) : State :=
  let off := 0xF3000 + 0x20 * c
  let forget := fun (s : State) => { s with net := { s.net with txCtx := smapDel s.net.txCtx c } }
  if ctxTxOn s c then
    let s' := setF s (R.F_STREAM_TX_CTL_EN c) (bits v 21 21)
    let s' := if bits v 21 21 = 0 then forget s' else s'
    let same := fun (w : Nat) => setBits (csrGet (csrWrite s off (BitVec.ofNat 32 w)) off).toNat 21 21 0
    if same (csrGet s off).toNat = same v then s' else ctxReject s' c true 8
  else
    let s := csrWrite s off (BitVec.ofNat 32 (setBits (v % 2 ^ 32) 21 21 0))
    if bits v 21 21 = 0 then s
    else
      let r := txCheck s c
      if r = 0 then setF (forget s) (R.F_STREAM_TX_CTL_EN c) 1 else ctxReject s c true r

/-- A write of any word of the stream contexts, or of an alignment group (R267). The link offset of an enabled context, own or
of its group, is checked as at enable. -/
def ctxWrite (s : State) (off v : Nat) : State :=
  let w := BitVec.ofNat 32 v
  if 0xF1000 ≤ off && off < 0xF3000 then
    let c := (off - 0xF1000) / 0x20
    let k := (off - 0xF1000) % 0x20
    if k = 0 then rxCtlWrite s c v
    else if !ctxOn s c then csrWrite s off w
    else if k = 0x18 then
      (let s' := csrWrite s off w
       if linkOk s' c then s' else ctxReject s c false 6)
    else ctxReject s c false 8
  else if 0xF3000 ≤ off && off < 0xF5000 then
    let c := (off - 0xF3000) / 0x20
    if (off - 0xF3000) % 0x20 = 0 then txCtlWrite s c v
    else if !ctxTxOn s c then csrWrite s off w
    else ctxReject s c true 8
  else if 0xF0084 ≤ off && off < 0xF0100 then
    let s' := csrWrite s off w
    match (List.range 256).find? (fun c => ctxOn s c && 0xF0080 + 4 * getF s (R.F_STREAM_RX_CTL_GROUP c) == off && !linkOk s' c) with
    | some c => ctxReject s c false 6
    | none => s'
  else csrWrite s off w

/-! Receive (R269 to R272). -/

/-- Which leg of context c a datagram matches, arriving on port p with VLAN identifier `vlan` (R256, R267, R272). -/
def legOf (s : State) (p : Nat) (l : L2) (u : Udp) (c : Nat) : Option Bool :=
  if ctxOn s c &&
      (getF s (R.F_STREAM_RX_SRC_IP_SRC_IP c) == 0 || getF s (R.F_STREAM_RX_SRC_IP_SRC_IP c) == u.src) &&
      getF s (R.F_STREAM_RX_PORT_UDP_PORT c) == u.dport &&
      (!isSet s (R.F_STREAM_RX_CTL_VLAN_EN c) || (l.tags == 1 && getF s (R.F_STREAM_RX_PORT_VLAN_ID c) == l.vlan)) then
    (if getF s (R.F_STREAM_RX_CTL_PORT c) == p && getF s (R.F_STREAM_RX_DST_IP_DST_IP c) == u.dst then some false
     else if isSet s (R.F_STREAM_RX_CTL_SEC_EN c) && getF s (R.F_STREAM_RX_CTL_SEC_PORT c) == p &&
        getF s (R.F_STREAM_RX_DST_IP2_DST_IP2 c) == u.dst then some true
     else none)
  else none

/-- The lowest matching context and the leg. -/
def findCtx (s : State) (p : Nat) (l : L2) (u : Udp) : Option (Nat × Bool) :=
  (List.range 256).findSome? (fun c => (legOf s p l u c).map (fun g => (c, g)))

/-- The checks of R271. -/
def rtpOk (s : State) (c : Nat) (r : Rtp) : Bool :=
  r.v == 2 &&
  (!isSet s (R.F_STREAM_RX_CTL_PT_CHK c) || r.pt == getF s (R.F_STREAM_RX_CTL_PT c)) &&
  (!isSet s (R.F_STREAM_RX_CTL_SSRC_CHK c) || r.ssrc == getF s (R.F_STREAM_RX_SSRC_SSRC c)) &&
  r.data.length == rxChannels s c * rxPtime s c * rxBytes s c

/-- The late cut in CK_FAB cycles before the tick (R41, R307). -/
def lateCut (s : State) : Nat :=
  1024 + (if feeds s then max 0x800 (getF s R.F_REDUN_FWD_LEAD_LEAD) else 0)

def ringKey (slot ts : Nat) : Nat := 256 * slot + ts % 256

/-- Whether a ring position holds the sample of a time-stamp. -/
def ringHas (s : State) (slot ts : Nat) : Bool :=
  match smapFind s.net.ring (ringKey slot ts) with
  | some e => e == ts % 2 ^ 32
  | none => false

/-- The word of a ring position (Region table): 2,048 slots × 256 samples × 4 bytes. -/
def ringAddr (slot ts : Nat) : Nat := 0x04B80000 + 1024 * slot + 4 * (ts % 256)

/-- A stream engine, port B path 0 (R200), stores a sample in its ring position. -/
def ringStore (s : State) (slot ts : Nat) (x : Int) : State :=
  let a := ringAddr slot ts
  if mayReach s 32 a true then
    engineWrite { s with net := { s.net with ring := smapPut s.net.ring (ringKey slot ts) (ts % 2 ^ 32) } } 32 a
      (leBytes 4 (lowBits 32 x))
  else refuseAt s 32 a true

/-- Write one sample into a ring, and forward it where the engine forwards (R307). -/
def ringWrite (s : State) (slot ts : Nat) (x : Int) : State :=
  let s := ringStore s slot ts x
  if feeds s then linkSend s (.fwd slot (ts % 2 ^ 32) (lowBits 32 x)) else s

/-- Sample i of an RTP payload, channel k: L24 enters shifted left by 8, L16 by 16 (R271). -/
def rtpSample (bytesW ch i k : Nat) (d : List Nat) : Int :=
  sext 32 (fieldAt d (bytesW * (i * ch + k)) bytesW * 2 ^ (32 - 8 * bytesW))

/-- Sample i of a valid packet (R269, R270, R272): late and early samples are discarded and counted; a position already written
for this time-stamp stays. `endCyc` CK_FAB cycles after the latest tick the frame's last byte passed the medium boundary. -/
def placeSample (c endCyc : Nat) (r : Rtp) (s : State) (i : Nat) : State :=
  let ts := (r.ts + i) % 2 ^ 32
  let d : Int := sext 32 (ts + linkOffset s c + 2 ^ 32 - s.tally.tmc % 2 ^ 32)
  let ahead : Int := (d + 1) * (cTs s : Nat) - (endCyc : Nat)
  if d < 0 || (s.sched.running && ahead < (lateCut s : Nat)) then
    stick (ctxCount s c 0 1) R.F_STREAM_STAT_LATE_S
  else if 256 ≤ d + 1 then ctxCount s c 1 1
  else
    let b := rxBase s c
    (List.range (rxChannels s c)).foldl (fun s k =>
      if ringHas s (b + k) ts then s
      else ringWrite s (b + k) ts (rtpSample (rxBytes s c) (rxChannels s c) i k r.data)) s

/-- The running form of a 16-bit sequence number near `base`. -/
def seqNear (base q : Nat) : Nat := ((base : Int) + sext 16 (q + 65536 - base % 65536)).toNat

/-- Count the numbers that both legs, or either leg by 16, have passed without delivering (RX_LOST_CNT). -/
def seqStep (sec : Bool) (x : RxSeq) (leg : Bool) (q : Nat) : RxSeq × Nat :=
  let n := seqNear x.low q
  let hi := fun (o : Option Nat) => max (o.getD 0) n
  let x := if leg then { x with hiS := some (hi x.hiS) } else { x with hiP := some (hi x.hiP) }
  let x := if x.low ≤ n then { x with got := n :: x.got } else x
  let p := x.hiP.getD 0
  let z := x.hiS.getD 0
  let top := max p z
  let done := if sec then max (min p z) (top - 16) else p
  let gone := tabulate (done + 1 - x.low) (fun k => x.low + k)
  let lost := (gone.filter (fun k => !x.got.contains k)).length
  ({ x with low := max x.low (done + 1), got := x.got.filter (fun k => decide (done < k)) }, lost)

/-- A MEDIA frame of context c (R271, R272). -/
def mediaFrame (s : State) (c : Nat) (sec : Bool) (payload : List Nat) (endCyc : Nat) : State :=
  let r := parseRtp payload
  if !rtpOk s c r then ctxCount s c 2 1
  else
    let s := setReceiving (ctxCount s c (if sec then 5 else 4) 1) c true
    let x := (smapFind s.net.rxSeq c).getD ⟨none, none, 65536 + r.seq, []⟩
    let y := seqStep (isSet s (R.F_STREAM_RX_CTL_SEC_EN c)) x sec r.seq
    let s := ctxCount { s with net := { s.net with rxSeq := smapPut s.net.rxSeq c y.1 } } c 3 y.2
    (List.range (rxPtime s c)).foldl (placeSample c endCyc r) s

/-! Presentation (R268 to R270, R308). -/

/-- The slots of an enabled context that the CLOSE map of sample n marks present, or, without a map, those that hold the
sample that is due. -/
def presentSlot (close : Option (List Nat)) (s : State) (slot ts : Nat) : Bool :=
  match close with
  | some m => m.contains slot && ringHas s slot ts
  | none => ringHas s slot ts

/-- Present sample n of one context: the position for TMC(n − 1) is delivered and emptied; a missing sample counts once. -/
def presentCtx (close : Option (List Nat)) (tmc : Nat) (s : State) (c : Nat) : State :=
  if !ctxOn s c then s
  else
    let ts := (tmc + 2 ^ 32 - linkOffset s c) % 2 ^ 32
    let b := rxBase s c
    let slots := tabulate (rxChannels s c) (fun k => b + k)
    let miss := !(slots.any (fun k => match close with
      | some m => m.contains k
      | none => ringHas s k ts))
    let s := slots.foldl (fun s k =>
      let has := presentSlot close s k ts
      let v := if has then sext 32 (viewWord s 32 (ringAddr k ts) 4) else 0
      let s := if has then scanRange s 32 (ringAddr k ts) 4 else s
      { s with
        dsp := { s.dsp with src := smapSet 0 s.dsp.src k v },
        net := { s.net with
          ring := if ringHas s k ts then smapDel s.net.ring (ringKey k ts) else s.net.ring } }) s
    if miss then stick (ctxCount s c 6 1) R.F_STREAM_STAT_UNDERRUN_S else s

/-- The presence map of sample n, as the active engine sends it on CLOSE (R307). -/
def presenceMap (s : State) (tmc : Nat) : List Nat :=
  (List.range 256).flatMap (fun c =>
    if ctxOn s c then
      let ts := (tmc + 2 ^ 32 - linkOffset s c) % 2 ^ 32
      (tabulate (rxChannels s c) (fun k => rxBase s c + k)).filter (fun k => ringHas s k ts)
    else [])

/-- Present the network samples of Ts n, given TMC(n − 1) (R269). -/
def presentAll (s : State) (n tmc : Nat) : State :=
  let s := if feeds s then linkSend s (.close n (presenceMap s tmc)) else s
  let close := if follows s then smapFind s.redun.closes n else none
  let s := { s with redun := { s.redun with closes := s.redun.closes.filter (fun e => !idxDue n e.1) } }
  (List.range 256).foldl (presentCtx close tmc) s

/-! Packets (R273). -/

def noTx : TxCtx := ⟨false, 0, 0, []⟩

/-- The Ethernet header fields of a leg of transmit context c. -/
def txUdp (s : State) (c port dst : Nat) : UdpOut :=
  { dmac := if isMulticast dst then multicastMac dst
      else getF s (R.F_STREAM_TX_VLAN_DMAC c) * 2 ^ 32 + getF s (R.F_STREAM_TX_DMAC_DMAC c)
    smac := getF s (R.F_MAC_ADDR_HI_ADDR port) * 2 ^ 32 + getF s (R.F_MAC_ADDR_LO_ADDR port)
    tag := if isSet s (R.F_STREAM_TX_CTL_VLAN_EN c) then
      some (getF s (R.F_STREAM_TX_VLAN_PCP c) * 8192 + getF s (R.F_STREAM_TX_VLAN_VLAN_ID c)) else none
    dscp := getF s (R.F_STREAM_TX_CTL_DSCP c)
    ttl := max 1 (getF s R.F_STREAM_CFG_TTL)
    df := true
    src := getF s (R.F_MAC_IPV4_ADDR port)
    dst := dst
    sport := getF s (R.F_STREAM_TX_PORTS_SRC_PORT c)
    dport := getF s (R.F_STREAM_TX_PORTS_DST_PORT c)
    csum := isSet s R.F_STREAM_CFG_UDP_CSUM }

def emptyPort : MacPort := ⟨0, false, false, [], [], [], [], [], [], []⟩
def getPort (s : State) (p : Nat) : MacPort := smapGet emptyPort s.net.ports p
def putPort (s : State) (p : Nat) (x : MacPort) : State :=
  { s with net := { s.net with ports := smapSet emptyPort s.net.ports p x } }

/-- Queue a media frame on a port. -/
def postMedia (s : State) (p : Nat) (bytes : List Nat) : State :=
  let x := getPort s p
  putPort s p { x with txM := x.txM ++ [⟨false, 0, bytes⟩] }

/-- The packet of P samples is complete: it is sent on each leg unless E is 0 for its last sample (R300). -/
def sendPacket (s : State) (c : Nat) (x : TxCtx) : State :=
  let w := if isSet s (R.F_STREAM_TX_CTL_ENC c) then 2 else 3
  let data := x.frames.flatMap (fun f => f.flatMap (fun v => beBytes w (lowBits 32 v / 2 ^ (32 - 8 * w))))
  let pkt := rtpPacket (0x60 + getF s (R.F_STREAM_TX_CTL_PTIME c)) x.seq (x.ts % 2 ^ 32) (getF s (R.F_STREAM_TX_SSRC_SSRC c)) data
  let p := getF s (R.F_STREAM_TX_CTL_PORT c)
  let q := getF s (R.F_STREAM_TX_CTL_SEC_PORT c)
  let s1 := postMedia s p (udpFrame (txUdp s c p (getF s (R.F_STREAM_TX_DST_IP_DST_IP c))) pkt)
  let s1 := if isSet s (R.F_STREAM_TX_CTL_SEC_EN c) then
    postMedia s1 q (udpFrame (txUdp s c q (getF s (R.F_STREAM_TX_DST_IP2_DST_IP2 c))) pkt) else s1
  let s1 := if s.redun.en then ctxCount s1 c 7 1 else s
  { s1 with net := { s1.net with txCtx := smapPut s1.net.txCtx c { x with seq := (x.seq + 1) % 65536, frames := [] } } }

/-- Phase E of Ts n: each enabled transmit context takes its samples from its pool slots (R273). -/
def packCtx (s : State) (c : Nat) : State :=
  if !ctxTxOn s c then s
  else
    let x := (smapFind s.net.txCtx c).getD noTx
    let f := tabulate (getF s (R.F_STREAM_TX_POOL_CHANNELS c)) (fun k =>
      smapGet 0 s.dsp.handoff (getF s (R.F_STREAM_TX_POOL_BASE c) + k))
    let x := { x with frames := x.frames ++ [f] }
    if x.on && packetLen s (getF s (R.F_STREAM_TX_CTL_PTIME c)) ≤ x.frames.length then sendPacket s c x
    else { s with net := { s.net with txCtx := smapPut s.net.txCtx c x } }

def packAll (s : State) : State := (List.range 256).foldl packCtx s

/-- Tick n + 1 gives TMC(n + 1), by which sample n is stamped: a packet begins with the sample whose TMC is a multiple of P, and
its time-stamp is that of its first sample (R273). -/
def stampCtx (s : State) (c : Nat) : State :=
  match smapFind s.net.txCtx c with
  | none => s
  | some x =>
    let p := packetLen s (getF s (R.F_STREAM_TX_CTL_PTIME c))
    let t := s.tally.tmc
    let x' :=
      if x.on then (if x.frames.length = 1 then { x with ts := t } else x)
      else if x.frames.length = 1 && t % p = 0 then ⟨true, t, t % 65536, x.frames⟩
      else { x with frames := [] }
    { s with net := { s.net with txCtx := smapPut s.net.txCtx c x' } }

def stampAll (s : State) : State := (List.range 256).foldl stampCtx s

end Sys2Proof.Machine
end

