-- ==== Sys2Proof/Machine/Mac.lean ====
section
/-! DEFINITION. The network ports (R252 to R260, R264 to R266). Ports 0 to 3 are MAC_0 to MAC_3, port 4 is MAC_MGMT. -/
namespace Sys2Proof.Machine

/-- HEADRACE_CTL admits datagrams on a port (R135). -/
def hrOnPort (s : State) (p : Nat) : Bool :=
  if p = 4 then isSet s R.F_HEADRACE_CTL_MGMT_EN else (getF s R.F_HEADRACE_CTL_MAC_EN).testBit p

def viaOf (p : Nat) : Via := if p = 4 then .mgmt else .mac p

/-- Take the link down (R252). -/
def linkDown (s : State) (p : Nat) : State :=
  let up := isSet s (R.F_MAC_STAT_LINK p)
  let s := setF (setF (setF s (R.F_MAC_STAT_LINK p) 0) (R.F_MAC_STAT_BLOCK_LOCK p) 0) (R.F_MAC_STAT_AN_DONE p) 0
  if up then stick s (R.F_MAC_HIST_LINK_DOWN_S p) else s

/-- The link comes up; in SGMII the link partner gives the speed (R252). -/
def linkUp (s : State) (p speed : Nat) : State :=
  if 5 ≤ p || !isSet s (R.F_MAC_CTL_EN p) || isSet s (R.F_MAC_STAT_LINK p) || isSet s R.F_RCU_STAT_RELOCKING ||
      (csrGet s R.RST_DOM).toNat.testBit p then s
  else
    let s := setF (setF s (R.F_MAC_STAT_LINK p) 1) (R.F_MAC_STAT_BLOCK_LOCK p) 1
    let s := if p = 4 then
      setF (setF s (R.F_MAC_STAT_AN_DONE p) 1) (R.F_MAC_STAT_SGMII_SPEED p) (if (getPort s p).mode = 1 then speed else 0) else s
    stick s (R.F_MAC_HIST_LINK_UP_S p)

/-- A write of MAC_CTL (R252, R259): SPEED acts when EN goes from 0 to 1, EN = 0 takes the link down, and THR returns to INIT. -/
def macCtlWrite (s : State) (p v : Nat) : State :=
  if 5 ≤ p then s
  else
    let was := isSet s (R.F_MAC_CTL_EN p)
    let s := csrWrite s (R.MAC_CTL p) (BitVec.ofNat 32 (if p = 4 then setBits (v % 2 ^ 32) 3 3 0 else v))
    let s := setF s (R.F_MAC_CT_THR_THR p) (getF s (R.F_MAC_CT_THR_INIT p))
    if isSet s (R.F_MAC_CTL_EN p) then
      (if was then s else putPort s p { getPort s p with mode := getF s (R.F_MAC_CTL_SPEED p) })
    else linkDown s p

/-! Receive. -/

/-- The receive stamp: Tally at the start of the frame, with the board correction, in whole nanoseconds (R264). -/
def stampOf (s : State) (cyc : Nat) (adj : Int) : Nat × Nat :=
  let t := tallyAt s cyc
  let f : Int := ((t.sec * 10 ^ 9 + t.ns) * 2 ^ 32 + t.frac : Nat) + adj * 2 ^ 30
  let n := (f / 2 ^ 32).toNat
  (n / 10 ^ 9 % 2 ^ 48, n % 10 ^ 9)

/-- Bytes that a queue share holds: PTP events, or the firmware queues with the waiting Headrace messages of the port. -/
def rxUsed (s : State) (p : Nat) (ptp : Bool) : Nat :=
  let fw := (getPort s p).rx.foldl (fun n f => if (f.queue == 1) == ptp then n + f.bytes.length else n) 0
  if ptp then fw
  else s.hr.rxQ.foldl (fun n m => if m.via = viaOf p then n + m.bytes.length else n) fw

/-- The share of the firmware queues (R11, R253). -/
def fwShare (p : Nat) : Nat := if p = 4 then 0x80000 - 0x20000 else 0xC0000 - 0x20000

/-- A PAUSE frame of the port with the given quanta (R254; IEEE 802.3 annex 31B). -/
def pauseFrame (s : State) (p quanta : Nat) : List Nat :=
  let sm := getF s (R.F_MAC_ADDR_HI_ADDR p) * 2 ^ 32 + getF s (R.F_MAC_ADDR_LO_ADDR p)
  withFcs (beBytes 6 0x0180C2000001 ++ beBytes 6 sm ++ [0x88, 0x08, 0, 1] ++ beBytes 2 quanta ++ List.replicate 42 0)

/-- Ask the link partner to pause above ¾ of the firmware share, and to go on below ½ (R254). PAUSE frames are sent ahead of
the queues. -/
def pauseCheck (s : State) (p : Nat) : State :=
  if !isSet s (R.F_MAC_CTL_PAUSE_EN p) then s
  else
    let x := getPort s p
    let u := rxUsed s p false
    if !x.asked && 3 * fwShare p < 4 * u then
      putPort s p { x with asked := true, txP := ⟨true, 0x10000, pauseFrame s p 0xFFFF⟩ :: x.txP }
    else if x.asked && 2 * u < fwShare p then
      putPort s p { x with asked := false, txP := ⟨true, 0x10000, pauseFrame s p 0⟩ :: x.txP }
    else s

/-- Firmware has taken the oldest `k` frames from the port's receive queues. -/
def rxTaken (s : State) (p k : Nat) : State :=
  if k = 0 then s else putPort s p { getPort s p with rx := (getPort s p).rx.drop k }

/-- Queue a frame for firmware, if its share has room (R253). -/
def rxQueue (s : State) (p : Nat) (f : RxFrame) : State :=
  let room := if f.queue = 1 then 0x20000 else fwShare p
  if room < rxUsed s p (f.queue == 1) + f.bytes.length then
    stick (count s (R.F_MAC_RXBUF_SUMP_CNT_CNT p) 1) (R.F_MAC_HIST_RXBUF_S p)
  else
    let s := count s (R.F_MAC_RX_FRAMES_CNT_CNT p) 1
    putPort s p { getPort s p with rx := (getPort s p).rx ++ [f] }

/-- The datagram went to a multicast or broadcast address (R135). -/
def sentToMany (f : List Nat) (u : Udp) : Bool := isMulticast u.dst || u.dst == 0xFFFFFFFF || fieldAt f 0 1 % 2 == 1

/-- Take a datagram's message for Headrace (R135): room in the port's buffer, the UDP length check, no fragment, and a unicast
destination. -/
def rxHeadrace (s : State) (p : Nat) (f : List Nat) (u : Udp) : State :=
  if fwShare p < rxUsed s p false + f.length then
    stick (count s (R.F_MAC_RXBUF_SUMP_CNT_CNT p) 1) (R.F_MAC_HIST_RXBUF_S p)
  else
    let s := count s (R.F_MAC_RX_FRAMES_CNT_CNT p) 1
    if !u.lenOk || u.frag || sentToMany f u then rxSump s
    else queueRx s ⟨viaOf p, BitVec.ofNat 48 (fieldAt f 6 6), BitVec.ofNat 32 u.src, BitVec.ofNat 16 u.sport, BitVec.ofNat 32 u.dst,
      BitVec.ofNat 16 u.dport⟩ u.payload

/-- The queue of a frame (R256): 1 PTP_EVENT, 2 MEDIA, 3 BULK, 4 HEADRACE, 5 HOST or MGMT. A fragment goes to HOST or MGMT, but for
one that shows the Headrace port, which Headrace discards (R135; DEDUCED, in the log). -/
def classify (s : State) (p : Nat) (f : List Nat) : Nat :=
  let l := parseL2 f
  if l.tags < 2 && l.ety = 0x88F7 && fieldAt f l.at_ 1 % 16 < 4 then 1
  else
    match parseUdp f with
    | none => 5
    | some u =>
      if u.dport = 319 && !u.frag then 1
      else if p < 4 && u.plain && !u.frag && (findCtx s p l u).isSome then 2
      else if hrOnPort s p && u.dport = getF s R.F_HEADRACE_CTL_UDP_PORT then
        (if fieldAt u.payload 5 1 = 0x80 && 6 ≤ u.payload.length then 3 else 4)
      else 5

/-- The address filter (R256); `group` tells whether the firmware's group list holds the destination. -/
def addrOk (s : State) (p : Nat) (group : Bool) (f : List Nat) : Bool :=
  let d := fieldAt f 0 6
  d == getF s (R.F_MAC_ADDR_HI_ADDR p) * 2 ^ 32 + getF s (R.F_MAC_ADDR_LO_ADDR p) ||
  d == 0xFFFFFFFFFFFF || group ||
  (List.range 256).any (fun c => ctxOn s c && (
    (getF s (R.F_STREAM_RX_CTL_PORT c) == p && isMulticast (getF s (R.F_STREAM_RX_DST_IP_DST_IP c)) &&
      d == multicastMac (getF s (R.F_STREAM_RX_DST_IP_DST_IP c))) ||
    (isSet s (R.F_STREAM_RX_CTL_SEC_EN c) && getF s (R.F_STREAM_RX_CTL_SEC_PORT c) == p &&
      isMulticast (getF s (R.F_STREAM_RX_DST_IP2_DST_IP2 c)) && d == multicastMac (getF s (R.F_STREAM_RX_DST_IP2_DST_IP2 c)))))

/-- A received PAUSE frame (annex 31B). -/
def isPause (f : List Nat) : Bool := fieldAt f 12 2 == 0x8808 && fieldAt f 14 2 == 1

/-- The engine's answer to an ARP request for MAC_IPV4, or to an ICMP echo request to it (R256; RFC 826, RFC 792). -/
def hostReply (s : State) (p : Nat) (f : List Nat) : Option (List Nat) :=
  let ip := getF s (R.F_MAC_IPV4_ADDR p)
  let sm := getF s (R.F_MAC_ADDR_HI_ADDR p) * 2 ^ 32 + getF s (R.F_MAC_ADDR_LO_ADDR p)
  let l := parseL2 f
  let a := l.at_
  if ip = 0 || 2 ≤ l.tags then none
  else if l.ety = 0x0806 && fieldAt f a 2 = 1 && fieldAt f (a + 2) 2 = 0x0800 && fieldAt f (a + 6) 2 = 1 && fieldAt f (a + 24) 4 = ip then
    let body := (f.drop (a + 8)).take 6 ++ beBytes 6 sm ++ (f.drop 12).take (a - 12) ++
      (f.drop a).take 6 ++ [0, 2] ++ beBytes 6 sm ++ beBytes 4 ip ++ (f.drop (a + 8)).take 10
    some (withFcs (body ++ List.replicate (60 - body.length) 0))
  else if isIpv4 f && fieldAt f (a + 6) 2 % 16384 = 0 && fieldAt f (a + 9) 1 = 1 && fieldAt f (a + 16) 4 = ip &&
      fieldAt f (a + ipLen f a) 2 = 0x0800 then
    let hl := ipLen f a
    let total := fieldAt f (a + 2) 2
    let icmp := (f.drop (a + hl + 4)).take (total - hl - 4)
    let head := putAt ((f.drop a).take 12) 10 [0, 0] ++ beBytes 4 ip ++ (f.drop (a + 12)).take 4 ++ (f.drop (a + 20)).take (hl - 20)
    let head := putAt head 10 (beBytes 2 (onesCheck head))
    let body := (f.drop 6).take 6 ++ beBytes 6 sm ++ (f.drop 12).take (a - 12) ++ head ++ [0, 0] ++
      beBytes 2 (onesCheck ([0, 0, 0, 0] ++ icmp)) ++ icmp
    some (withFcs (body ++ List.replicate (60 - body.length) 0))
  else none

/-- Deliver an accepted frame to HOST or MGMT, past the address filter, and form the engine's own reply. -/
def rxHost (s : State) (p : Nat) (group oversize : Bool) (f : List Nat) (st : Nat × Nat) : State :=
  if !addrOk s p group f then count s (R.F_MAC_FILTER_SUMP_CNT_CNT p) 1
  else
    let ok := (!isIpv4 f || ipSumOk f) && (match parseUdp f with
      | some u => u.udpOk
      | none => true)
    let s := rxQueue s p ⟨5, oversize, ok, st.1, st.2, f⟩
    match (if oversize then none else hostReply s p f) with
    | some r => putPort s p { getPort s p with txH := (getPort s p).txH ++ [⟨false, 0, r⟩] }
    | none => s

/-- A received frame (R255 to R257): `sfd` and `fin` are the CK_FAB cycles from the latest tick to its start and to its last
byte; `taken` frames have been read by firmware before; `group` as in the address filter. -/
def macRx (s : State) (p : Nat) (f : List Nat) (sfd fin taken : Nat) (group : Bool) : State :=
  if 5 ≤ p || !isSet s (R.F_MAC_STAT_LINK p) then s
  else
    let s := pauseCheck (rxTaken s p taken) p
    let len := f.length
    let q := classify s p f
    let st := stampOf s sfd (sext 16 (getF s (R.F_MAC_TS_ADJ_RX p)))
    let s :=
      if len < 64 then stick (count s (R.F_MAC_RUNT_SUMP_CNT_CNT p) 1) (R.F_MAC_HIST_RUNT_S p)
      else if maxFrame s p < len then
        (if q = 3 || q = 5 then
          let cut := f.take (maxFrame s p)
          let s := stick (count s (R.F_MAC_OVERSIZE_CNT_CNT p) 1) (R.F_MAC_HIST_OVERSIZE_S p)
          if q = 5 then rxHost s p group true cut st
          else match parseUdp f with
            | some u => rxHeadrace s p cut { u with lenOk := false }
            | none => s
        else count s (R.F_MAC_PRIV_SUMP_CNT_CNT p) 1)
      else if !fcsOk f then stick (count s (R.F_MAC_FCS_SUMP_CNT_CNT p) 1) (R.F_MAC_HIST_FCS_S p)
      else if isPause f then
        (if isSet s (R.F_MAC_CTL_PAUSE_EN p) then
          putPort (stick s (R.F_MAC_HIST_PAUSE_RX_S p)) p { getPort s p with paused := decide (fieldAt f 16 2 ≠ 0) }
        else count s (R.F_MAC_FILTER_SUMP_CNT_CNT p) 1)
      else if q = 5 then rxHost s p group false f st
      else
        match parseUdp f with
        | none => rxQueue s p ⟨1, false, true, st.1, st.2, f⟩
        | some u =>
          if !u.ipOk || !u.udpOk then count s (R.F_MAC_CSUM_SUMP_CNT_CNT p) 1
          else if q = 1 then rxQueue s p ⟨1, false, true, st.1, st.2, f⟩
          else if q = 2 then
            (match findCtx s p (parseL2 f) u with
              | some c => mediaFrame (count s (R.F_MAC_RX_FRAMES_CNT_CNT p) 1) c.1 c.2 u.payload fin
              | none => s)
          else rxHeadrace s p f u
    pauseCheck s p

/-! Transmit. -/

/-- A frame that firmware has posted joins its queue. -/
def postFrame (p : Nat) (s : State) (x : TxPost) : State :=
  let t : TxFrame := ⟨x.oneStep, x.tag.toNat, withFcs x.bytes⟩
  let m := getPort s p
  if x.queue = 0 then putPort s p { m with txP := m.txP ++ [t] }
  else if x.queue = 1 then putPort s p { m with txH := m.txH ++ [t] }
  else putPort s p { m with txB := m.txB ++ [t] }

/-- The frame of an outbound Headrace message (R135). -/
def hrFrame (s : State) (p : Nat) (m : OutMsg) : List Nat :=
  udpFrame
    { dmac := m.dst.mac.toNat, smac := getF s (R.F_MAC_ADDR_HI_ADDR p) * 2 ^ 32 + getF s (R.F_MAC_ADDR_LO_ADDR p),
      tag := none, dscp := 0, ttl := 64, df := true, src := m.dst.here.toNat, dst := m.dst.ip.toNat,
      sport := m.dst.port.toNat, dport := m.dst.udp.toNat, csum := true } m.bytes

/-- The first queued message for a transport: replies in order, then the events of the lowest session with one (R137, R160). -/
def takeOut (s : State) (via : Via) : Option (OutMsg × State) :=
  match s.hr.txQ.find? (fun m => m.dst.via = via) with
  | some m => some (m, { s with hr := { s.hr with txQ := s.hr.txQ.erase m } })
  | none =>
    (List.range 64).findSome? (fun k =>
      let x := getSession s k
      if x.isOpen && x.reply.via = via then (popEvent s k).map (fun e => (⟨x.reply, e.1⟩, e.2)) else none)

/-- A PTP Sync message's offset in the frame, if it is one (R266). -/
def syncAt (f : List Nat) : Option Nat :=
  let l := parseL2 f
  if l.ety = 0x88F7 && fieldAt f l.at_ 1 % 16 = 0 then some l.at_
  else if l.ety = 0x0800 && (parseUdp f).isSome && fieldAt f (l.at_ + ipLen f l.at_ + 8) 1 % 16 = 0 then
    some (l.at_ + ipLen f l.at_ + 8)
  else none

/-- Write the transmit stamp into originTimestamp and clear the UDP checksum (R266). -/
def oneStepFrame (f : List Nat) (m : Nat) (st : Nat × Nat) : List Nat :=
  let l := parseL2 f
  let f := putAt f (m + 34) (beBytes 6 st.1 ++ beBytes 4 st.2)
  let f := if l.ety = 0x0800 then putAt f (l.at_ + ipLen f l.at_ + 6) [0, 0] else f
  withFcs (f.take (f.length - 4))

/-- Send a PTP event frame: stamped; a one-step Sync carries its stamp, any other makes a queue entry, lost when 64 are held
(R264 to R266). A PAUSE frame of the port's own is not stamped. -/
def sendPtp (s : State) (p cyc : Nat) (t : TxFrame) : State :=
  let st := stampOf s cyc (sext 16 (getF s (R.F_MAC_TS_ADJ_TX p)))
  let done := fun (s : State) (b : List Nat) => putPort s p { getPort s p with sent := b }
  if t.tag = 0x10000 then done s t.bytes
  else
    match (if t.oneStep && isSet s (R.F_MAC_CTL_ONESTEP p) then syncAt t.bytes else none) with
    | some m => done s (oneStepFrame t.bytes m st)
    | none =>
      let x := getPort s p
      if 64 ≤ x.tsq.length then
        stick (count (done s t.bytes) (R.F_MAC_TSQ_SUMP_CNT_CNT p) 1) (R.F_MAC_HIST_TSQ_OVF_S p)
      else putPort s p { x with tsq := x.tsq ++ [(t.tag, st.1, st.2)], sent := t.bytes }

/-- Send a HOST, MGMT or BULK frame; in cut-through mode a frame longer than THR whose buffer runs dry ends with the inverted FCS
and raises THR by 256 bytes (R259). -/
def sendCut (s : State) (p : Nat) (dry : Bool) (t : TxFrame) : State :=
  let thr := getF s (R.F_MAC_CT_THR_THR p)
  if dry && isSet s (R.F_MAC_CTL_CUT p) && thr < t.bytes.length then
    let n := max thr 60
    let body := t.bytes.take (min n (t.bytes.length - 4))
    let bad := body ++ (fcsBytes body).map (fun b => 255 - b)
    let s := putPort s p { getPort s p with sent := bad }
    let s := stick (count s (R.F_MAC_UNDERRUN_SUMP_CNT_CNT p) 1) (R.F_MAC_HIST_UNDERRUN_S p)
    setF s (R.F_MAC_CT_THR_THR p) (min (thr + 256) (maxFrame s p))
  else putPort s p { getPort s p with sent := t.bytes }

/-- The port sends its next frame (R258): PTP event, MEDIA, HEADRACE, HOST or MGMT, BULK. `taken` received frames have been read by
firmware before, so that a PAUSE frame may be due ahead of it (R254). -/
def macTx (s : State) (p : Nat) (posted : List TxPost) (cyc : Nat) (dry : Bool) (taken : Nat) : State :=
  if 5 ≤ p then s
  else
    let s := rxTaken (posted.foldl (postFrame p) s) p taken
    if !isSet s (R.F_MAC_STAT_LINK p) then s
    else
      let s := pauseCheck s p
      let x := getPort s p
      let tx := fun (s : State) => count s (R.F_MAC_TX_FRAMES_CNT_CNT p) 1
      match x.txP with
      | t :: r => tx (sendPtp (putPort s p { x with txP := r }) p cyc t)
      | [] =>
        match x.txM with
        | t :: r => tx (putPort s p { x with txM := r, sent := t.bytes })
        | [] =>
          match takeOut s (viaOf p) with
          | some m => tx (putPort m.2 p { getPort m.2 p with sent := hrFrame m.2 p m.1 })
          | none =>
            if x.paused then s
            else
              match x.txH with
              | t :: r => tx (sendCut (putPort s p { x with txH := r }) p dry t)
              | [] =>
                match x.txB with
                | t :: r => tx (sendCut (putPort s p { x with txB := r }) p dry t)
                | [] => s

/-- The pause time of a received PAUSE frame runs out (R254); `taken` as in `macTx`. -/
def pauseExpiry (s : State) (p taken : Nat) : State :=
  if 5 ≤ p then s
  else
    let s := rxTaken (putPort s p { getPort s p with paused := false }) p taken
    if isSet s (R.F_MAC_STAT_LINK p) then pauseCheck s p else s

/-- A segmentation descriptor (R260). -/
def segSend (s : State) (p : Nat) (tmpl payload : List Nat) : State :=
  if 5 ≤ p then s
  else if payload.length = 0 || 262144 < payload.length then stick s (R.F_MAC_HIST_SEG_REJ_S p)
  else
    let x := getPort s p
    putPort s p { x with txB := x.txB ++ (segFrames tmpl payload (maxFrame s p)).map (fun f => ⟨false, 0, f⟩) }

/-- The read of MAC_TSQ_NS: the oldest entry leaves the queue (R265). -/
def tsqPop (s : State) (p : Nat) : State :=
  let x := getPort s p
  putPort s p { x with tsq := x.tsq.drop 1 }

end Sys2Proof.Machine
end

