-- ==== Sys2Proof/Machine/Sport.lean ====
section
/-! DEFINITION. The serial ports, their configuration checks, frames, losses and gangs (R274 to R281, R391), and the
cut-through lanes (R282, R283). -/
namespace Sys2Proof.Machine

def noConv : Conv := ⟨0, 0, 0, [], [], []⟩
def noSport : Sport :=
  ⟨false, none, none, false, false, false, 0, 1024, none, [], [], false, false, none, [], none, [], [], 0, noConv⟩
def getSp (s : State) (p : Nat) : Sport := smapGet noSport s.ser.ports p
def putSp (s : State) (p : Nat) (x : Sport) : State :=
  { s with ser := { s.ser with ports := smapSet noSport s.ser.ports p x } }

/-! The fields of a CTL word. -/
def ctlSlots (c : Nat) : Nat := bits c 20 16 + 1
def ctlMode (c : Nat) : Nat := bits c 5 4
def ctlGang (c : Nat) : Nat := bits c 27 24
def ctlDlen (c : Nat) : Nat := match bits c 13 12 with
  | 0 => 16
  | 1 => 24
  | _ => 32

def spCtl (s : State) (p : Nat) : Nat := (csrGet s (R.SPORT_CTL p)).toNat

/-- The settings that the registers hold. -/
def spCfg (s : State) (p : Nat) : SpCfg :=
  ⟨spCtl s p, getF s (R.F_SPORT_IN_MASK_MASK p), getF s (R.F_SPORT_OUT_MASK_MASK p), getF s (R.F_SPORT_IN_BASE_BASE p),
    getF s (R.F_SPORT_OUT_BASE_BASE p)⟩

/-- Enabled slots of a mask (R278). -/
def kIn (c : SpCfg) : Nat := popCount c.inMask (ctlSlots c.ctl)
def kOut (c : SpCfg) : Nat := popCount c.outMask (ctlSlots c.ctl)
/-- Index among the enabled slots of slot t. -/
def slotRank (mask t : Nat) : Nat := popCount mask t
/-- Pool limit (R278). -/
def poolLimit (s : State) : Nat := if 2 ≤ rateCode s then 512 else 1024

/-- Ports other than p with EN = 1 and an accepted configuration (R277). -/
def otherPorts (s : State) (p : Nat) : List Nat := (List.range 32).filter (fun q => q != p && (getSp s q).ok)

def spansMeet (a n b m : Nat) : Bool := n != 0 && m != 0 && decide (a < b + m) && decide (b < a + n)

/-- The first failing condition of R277, 0 when the configuration is accepted. -/
def spCheck (s : State) (p : Nat) : Nat :=
  let c := spCfg s p
  let m := ctlMode c.ctl
  let n := ctlSlots c.ctl
  let fast := decide (2 ≤ rateCode s)
  let others := otherPorts s p
  let async := others.filter (fun q => ctlMode (spCtl s q) == 2)
  let g := ctlGang c.ctl
  if m = 3 || (bits c.ctl 1 1 = 0 && n != 2) || bits c.ctl 13 12 = 3 then 1
  else if (m = 0 && !(n == 1 || n == 2 || n == 4 || n == 8 || n == 16 || (n == 32 && !fast))) || (m < 2 && fast && 16 < n) then 2
  else if poolLimit s < c.inBase + kIn c || others.any (fun q => spansMeet c.inBase (kIn c) (spCfg s q).inBase (kIn (spCfg s q))) then 3
  else if poolLimit s < c.outBase + kOut c ||
      others.any (fun q => spansMeet c.outBase (kOut c) (spCfg s q).outBase (kOut (spCfg s q))) then 4
  else if m = 2 && (256 < async.foldl (fun a q => a + kIn (spCfg s q)) (kIn c) ||
      256 < async.foldl (fun a q => a + kOut (spCfg s q)) (kOut c)) then 5
  else if g != 0 && others.any (fun q => ctlGang (spCtl s q) == g && ctlMode (spCtl s q) != m) then 6
  else 0

/-- A tracker enters UNLOCKED (R284). -/
def trkUnlock (s : State) (p : Nat) : State :=
  count (setF s (R.F_ASRC_TRK_STAT_STATE p) 0) (R.F_ASRC_TRK_UNLOCK_CNT_UNLOCK_CNT p) 1

/-- Check the configuration of a port (R277): `old` is its CTL word before the write. -/
def spRecheck (s : State) (p old : Nat) : State :=
  let x := getSp s p
  if !isSet s (R.F_SPORT_CTL_EN p) then putSp s p { x with ok := false }
  else
    let r := spCheck s p
    if r != 0 then
      let s := setF (stick s (R.F_SPORT_HIST_CFG_REJ_S p)) (R.F_SPORT_STAT_REASON p) r
      putSp s p { x with ok := false }
    else
      let c := spCtl s p
      let same := x.ok && ctlMode old == ctlMode c && ctlGang old == ctlGang c
      let s := putSp s p (if same then x else { x with ok := true, restart := true })
      if ctlMode c = 2 && !same then trkUnlock s p else s

/-- A write of a register of a port (R277). FRAME_CNT and STAT keep their values. -/
def sportWrite (s : State) (off v : Nat) : State :=
  let p := (off - 0x100000) / 0x800
  if off < 0x100000 || 32 ≤ p then s
  else
    let old := spCtl s p
    let s := csrWrite s off (BitVec.ofNat 32 v)
    if (off - 0x100000) % 0x800 = 0 || isSet s (R.F_SPORT_CTL_EN p) then spRecheck s p old else s

/-- Check an enabled port as at enable (R277). -/
def spReenable (s : State) (p : Nat) : State :=
  if isSet s (R.F_SPORT_CTL_EN p) then spRecheck (putSp s p { getSp s p with ok := false }) p (spCtl s p) else s

/-- Every enabled port is checked again, in ascending order, at a write that changes RATE (R277). -/
def spRateChange (s : State) : State := (List.range 32).foldl spReenable s

/-- The members of the port's gang with an accepted configuration, the port itself when it is in none (R281). -/
def gangOf (s : State) (p : Nat) : List Nat :=
  let g := ctlGang (spCtl s p)
  if g = 0 then [p] else (List.range 32).filter (fun q => (getSp s q).ok && ctlGang (spCtl s q) == g)

/-- The port whose tracker a port uses: the lowest of its gang (R281). -/
def trkPort (s : State) (p : Nat) : Nat := (gangOf s p).foldl min p

/-- Tracker state of the port. -/
def trkState (s : State) (p : Nat) : Nat := getF s (R.F_ASRC_TRK_STAT_STATE (trkPort s p))

/-- The input frame index on from index `a` to index `b`: F counts modulo 2³². -/
def frameAge (b a : Nat) : Nat := (b + (2 ^ 32 - a % 2 ^ 32)) % 2 ^ 32

/-- The converter of a port that starts beside running members of its gang, or starts again: it reads where the gang's does (R281);
`q` is the port whose frame count and position it follows. -/
def joinConv (q : Sport) (f : Nat) : Conv :=
  { noConv with
    posIn := (q.conv.posIn + (f + (2 ^ 32 - q.f % 2 ^ 32)) * 2 ^ 28) % 2 ^ 60, posOut := q.conv.posOut, lag := q.conv.lag }

/-- A port reaches STATE 2 (R281): its frame count starts. -/
def spStart (f : Nat) (s : State) (p : Nat) : State :=
  let x := getSp s p
  let q := match (gangOf s p).find? (fun q => q != p && (getSp s q).run) with
    | some q => getSp s q
    | none => x
  stick (putSp s p { x with
    run := true, f := f, sinceLoss := 1024, start := none, inQ := [], outQ := [],
    conv := { joinConv q f with ratios := x.conv.ratios } }) (R.F_SPORT_HIST_STARTED_S p)

/-- A loss event of a port. -/
def spLoss (s : State) (p : Nat) : State := putSp s p { getSp s p with sinceLoss := 0 }

/-- SPORT_STAT.STATE. -/
def spState (s : State) (p : Nat) : Nat :=
  let x := getSp s p
  if !x.ok then 0 else if !x.run || x.restart then 1 else if x.sinceLoss < 1024 then 3 else 2

/-! Frames. -/

/-- An input word as the source pool takes it: its top DLEN bits, as Q1.31 (R274). -/
def inWord (dlen : Nat) (w : Int) : Int := sext 32 (lowBits 32 w / 2 ^ (32 - dlen) * 2 ^ (32 - dlen))

/-- The words of the enabled input slots, in rank order. -/
def inSlots (c : SpCfg) (ws : List Int) : List Int :=
  ((List.range (ctlSlots c.ctl)).filter (fun t => c.inMask.testBit t)).map (fun t => inWord (ctlDlen c.ctl) (nth 0 ws t))

/-- Deliver the enabled slots to the source pool (R278). -/
def deliver (s : State) (c : SpCfg) (vs : List Int) : State :=
  (List.range vs.length).foldl (fun s j =>
    { s with dsp := { s.dsp with src := smapSet 0 s.dsp.src (0x800 + c.inBase + j) (nth 0 vs j) } }) s

/-- The words that the pool gives an output frame: slot t of an enabled slot takes patch entry 2,048 + OUT_BASE + rank; other
slots carry zero (R278). -/
def outFrame (s : State) (c : SpCfg) : List Int :=
  tabulate (ctlSlots c.ctl) (fun t =>
    if c.outMask.testBit t then
      inWord (ctlDlen c.ctl) (smapGet 0 s.dsp.handoff (2048 + c.outBase + slotRank c.outMask t))
    else 0)

/-- All-zero words of a frame. -/
def zeroFrame (c : SpCfg) : List Int := List.replicate (ctlSlots c.ctl) 0

/-- The accepted settings of a port. -/
def spAccepted (s : State) (p : Nat) : Option SpCfg := if (getSp s p).ok then some (spCfg s p) else none

/-- Settings in ASYNC, and in a sync mode. -/
def asyncCfg (c : Option SpCfg) : Option SpCfg := c.bind (fun c => if ctlMode c.ctl = 2 then some c else none)
def syncCfg (c : Option SpCfg) : Option SpCfg := c.bind (fun c => if ctlMode c.ctl < 2 then some c else none)

/-- The accepted settings take effect: a port whose mode or gang has changed waits for its start again. -/
def spAdopt (c : Option SpCfg) (x : Sport) : Sport :=
  let on := x.run && c.isSome && !x.restart
  { x with cur := c, run := on, start := if x.restart then none else x.start, restart := false }

/-- What DOUT carries in the frame in progress. An ASYNC frame goes on under the settings that it began with, and a port that has been
disabled releases its pins at its end; another mode gives it up. E(n) of the Ts that ends decides whether the port drives (R300, R391). -/
def spOut (s : State) (x : Sport) (c : Option SpCfg) : List Int :=
  match syncCfg c with
  | some c => if s.redun.enPrev then outFrame s c else []
  | none => if x.inFrame.isSome then x.out else []

/-- A tick begins a frame of every port (R391): the settings shift by one frame, and the output frame takes the samples handed
off in the Ts that ends. -/
def spTick (s : State) (p : Nat) : State :=
  let x := getSp s p
  if x = noSport then s
  else
    let c := spAccepted s p
    let y := spAdopt c { x with
      prev := x.cur, runPrev := x.run, outPrev := x.out, out := spOut s x c, seen := x.missed, missed := false, delta := none, words := [],
      inFrame := if (syncCfg c).isSome then none else x.inFrame }
    match syncCfg c with
    | none => putSp s p y
    | some c =>
      let s := putSp s p { y with
        f := if y.run then (y.f + 1) % 2 ^ 32 else y.f, sinceLoss := min 1024 (y.sinceLoss + 1) }
      if ctlMode c.ctl = 0 && !y.run && (gangOf s p).all (fun q => (getSp s q).ok) then spStart 0 s p else s

/-! Cut-through lanes. -/

/-- A lane's fields: ROUTE word. -/
def laneInPort (r : Nat) : Nat := bits r 29 25
def laneInSlot (r : Nat) : Nat := bits r 24 20
def laneOutPort (r : Nat) : Nat := bits r 19 15
def laneOutSlot (r : Nat) : Nat := bits r 14 10

/-- A lane is active (R282), given the settings of its ports; unequal δ is judged frame by frame. -/
def laneActive (a b : Option SpCfg) (r : Nat) : Bool :=
  match syncCfg a, syncCfg b with
  | some a, some b =>
    r.testBit 31 && ctlSlots a.ctl == ctlSlots b.ctl && decide (laneInSlot r < ctlSlots a.ctl) &&
      decide (laneOutSlot r < ctlSlots b.ctl)
  | _, _ => false

/-- What a lane carries for input word x (R283). -/
def laneWord (route gain g dlen : Nat) (x : Int) : Int :=
  let y := if route.testBit 30 then 0 else sat32 (mulQ x (lin (bits gain 15 0)))
  let y := mulQ y g
  let k := 32 - min dlen 28
  sext 32 (lowBits 32 y / 2 ^ k * 2 ^ k)

/-- The 32 bits of the output slot: 4 BCLK cycles of zero, then the word's first 28 bits (R283). -/
def laneSlot (w : Int) : Int := sext 32 (lowBits 32 w / 16)

/-- The lanes as the registers hold them. -/
def laneRegs (s : State) : List (Nat × (Nat × Nat)) :=
  ((List.range 64).filter (fun l => isSet s (R.F_ASRC_CT_ROUTE_EN l))).map (fun l =>
    (l, ((csrGet s (R.ASRC_CT_ROUTE l)).toNat, (csrGet s (R.ASRC_CT_GAIN l)).toNat)))

/-- ASRC_CT_BAD: enabled lanes that are inactive, those between ports of unequal δ among them (R282). -/
def laneBad (s : State) (k : Nat) : Nat :=
  (laneRegs s).foldl (fun m l =>
    let r := l.2.1
    let delta := fun (p : Nat) => match syncCfg (spAccepted s p) with
      | some c => if ctlMode c.ctl = 1 then getF s (R.F_SPORT_PHASE_DELTA p) else 0
      | none => 0
    if l.1 / 32 = k && !(laneActive (spAccepted s (laneInPort r)) (spAccepted s (laneOutPort r)) r &&
        delta (laneInPort r) == delta (laneOutPort r)) then m + 2 ^ (l.1 % 32) else m) 0

/-- A lane copies into the frame of its input, when its output slot is the later one; else into the next (R46). -/
def laneLater (r : Nat) : Bool := decide (laneInSlot r < laneOutSlot r)

/-- A lane of `all` with a lower number drives the same output slot. -/
def laneLost (act : Nat → Bool) (all : List (Nat × (Nat × Nat))) (l : Nat × (Nat × Nat)) : Bool :=
  all.any (fun m => decide (m.1 < l.1) && laneOutPort m.2.1 == laneOutPort l.2.1 && laneOutSlot m.2.1 == laneOutSlot l.2.1 &&
    act m.2.1)

/-- A lane takes its output slot of the frame that begins at the tick from the patch entry: the slot is zero until the lane's word
comes (R282). -/
def laneTake (s : State) (l : Nat × (Nat × Nat)) : State :=
  let act := fun (r : Nat) =>
    let x := getSp s (laneInPort r)
    laneActive (if laneLater r then x.cur else x.prev) (getSp s (laneOutPort r)).cur r
  let r := l.2.1
  let y := getSp s (laneOutPort r)
  match y.cur with
  | none => s
  | some c =>
    if !act r then s
    else if laneLost act s.ser.lanes l then stick s R.F_ASRC_CT_STAT_DUP_S
    else
      let s := if c.outMask.testBit (laneOutSlot r) then stick s R.F_ASRC_CT_STAT_PATCH_OVR_S else s
      putSp s (laneOutPort r) { y with out := y.out.set (laneOutSlot r) 0 }

/-- One lane copies its slot of the frame that the latest tick ended, once the frames of both its ports are known: into that frame of
the output port, or into the next one. A frame in which δ differs is dropped (R282, R283). `later` says which lanes are meant. -/
def laneCopy (p : Nat) (later : Bool) (all : List (Nat × (Nat × Nat))) (s : State) (l : Nat × (Nat × Nat)) : State :=
  let r := l.2.1
  let x := getSp s (laneInPort r)
  let y := getSp s (laneOutPort r)
  let outCfg := fun (y : Sport) => if later then y.prev else y.cur
  let act := fun (r : Nat) =>
    laneLater r == later && laneActive (getSp s (laneInPort r)).prev (outCfg (getSp s (laneOutPort r))) r
  if (laneInPort r != p && laneOutPort r != p) || !act r || laneLost act all l then s
  else
    match x.delta, y.delta, outCfg y with
    | some a, some b, some c =>
      if a != b then stick s R.F_ASRC_CT_STAT_DELTA_S
      else
        let g := if later then s.ser.gPrev else s.flood.g
        let w := laneSlot (laneWord r l.2.2 g (ctlDlen c.ctl) (nth 0 x.words (laneInSlot r)))
        putSp s (laneOutPort r) (if later then { y with outPrev := y.outPrev.set (laneOutSlot r) w }
          else { y with out := y.out.set (laneOutSlot r) w })
    | _, _, _ => s

def laneCopies (s : State) (p : Nat) : State :=
  let s := s.ser.lanesPrev.foldl (laneCopy p true s.ser.lanesPrev) s
  s.ser.lanes.foldl (laneCopy p false s.ser.lanes) s

/-! Commands of the sync modes. -/

/-- The members of a port's gang that wait have each a frame start at tick n (R281). -/
def gangReady (s : State) (p n : Nat) : Bool :=
  (gangOf s p).all (fun q => (getSp s q).run || (match (getSp s q).start with
    | some t => t.1 == n
    | none => false))

/-- The slave members of a gang start together at the first tick at which each has a frame start (R281). -/
def slaveStart (s : State) (p n : Nat) (vs : List Int) : State :=
  let s := putSp s p { getSp s p with start := some (n, vs) }
  if gangReady s p n then
    (gangOf s p).foldl (fun s q =>
      match (getSp s q).start, (getSp s q).prev with
      | some t, some c => deliver (spStart 1 s q) c t.2
      | some _, none => s
      | none, _ => s) s
  else s

/-- A slave frame is outside the window or of the wrong length: its input is discarded, its output slots carry zero (R279). -/
def frameError (s : State) (p : Nat) (c : SpCfg) : State :=
  let s := spLoss (stick (count s (R.F_SPORT_FRAME_ERR_SUMP_CNT_CNT p) 1) (R.F_SPORT_HIST_FRAME_ERR_S p)) p
  let x := getSp s p
  putSp s p { x with outPrev := if x.outPrev.isEmpty then [] else zeroFrame c }

/-- The frame that the latest tick ended is complete (R276): δ in CK_FAB cycles, its BCLK cycles, and its slot words. -/
def frameHandoff (s : State) (p : Nat) (delta : Int) (bclks : Nat) (ws : List Int) : State :=
  let x := getSp s p
  match syncCfg x.prev with
  | none => s
  | some c =>
    if x.seen || 32 ≤ p then s
    else
      let slave := ctlMode c.ctl == 1
      let s := if slave then setF s (R.F_SPORT_PHASE_DELTA p) (lowBits 16 (satInt 16 delta)) else s
      if slave && !(decide (0 ≤ delta) && decide (delta ≤ 32) && bclks == 32 * ctlSlots c.ctl) then
        frameError (putSp s p { x with seen := true }) p c
      else
        let s := putSp s p { x with
          seen := true, delta := some (if slave then delta else 0), words := ws.map (inWord (ctlDlen c.ctl)) }
        if x.runPrev then laneCopies (deliver s c (inSlots c ws)) p
        else if slave then laneCopies (slaveStart s p (nowIdx s) (inSlots c ws)) p
        else s

/-- No accepted slave frame starts in the window of the latest tick (R279). -/
def frameMissing (s : State) (p : Nat) : State :=
  let x := getSp s p
  match x.cur with
  | none => s
  | some c =>
    if ctlMode c.ctl != 1 || !x.run || x.missed || 32 ≤ p then s
    else
      let s := stick (count s (R.F_SPORT_IN_ZERO_CNT_CNT p) 1) (R.F_SPORT_HIST_IN_ZERO_S p)
      let s := stick (count s (R.F_SPORT_OUT_DROP_SUMP_CNT_CNT p) 1) (R.F_SPORT_HIST_OUT_DROP_S p)
      putSp s p { x with sinceLoss := 0, missed := true, out := if x.out.isEmpty then [] else zeroFrame c }

/-! Commands of ASYNC (R279, R280). -/

/-- An ASYNC input frame is lost, which a RATIO word tells the peer (R305). -/
def asyncLost (s : State) (p : Nat) : State :=
  { s with ser := { s.ser with lost := s.ser.lost ++ [(p, (getSp s p).f)] } }

/-- An FS edge comes before the frame in progress is complete: it is discarded and F advances (R280). -/
def asyncCut (s : State) (p : Nat) : State :=
  let x := getSp s p
  if x.inFrame.isNone then s
  else if !x.run then putSp s p { x with inFrame := none }
  else
    let s := stick (count s (R.F_SPORT_FRAME_ERR_SUMP_CNT_CNT p) 1) (R.F_SPORT_HIST_FRAME_ERR_S p)
    putSp (asyncLost s p) p { x with inFrame := none, f := (x.f + 1) % 2 ^ 32, sinceLoss := 0 }

/-- The output FIFO gives the frame that DOUT carries, all zero when it holds none (R279, R300). -/
def asyncOut (s : State) (p : Nat) (c : SpCfg) : State :=
  let x := getSp s p
  match x.outQ with
  | o :: r => putSp s p { x with outPrev := x.out, out := if s.redun.en then o else [], outQ := r }
  | [] =>
    let s := stick (count s (R.F_SPORT_OUT_ZERO_CNT_CNT p) 1) (R.F_SPORT_HIST_OUT_ZERO_S p)
    putSp s p { x with outPrev := x.out, out := if s.redun.en then zeroFrame c else [], sinceLoss := 0 }

/-- A port takes the settings in force for the frame that begins; while the tick is stopped these are the registers' (R391). -/
def asyncSettings (s : State) (p : Nat) : State :=
  if s.sched.running then s else putSp s p (spAdopt (spAccepted s p) (getSp s p))

/-- An FS edge: a partial frame is discarded, a frame begins, and the output FIFO gives a frame; `ratio` is what the tracker
measures after the edge. A disabled port releases its pins. -/
def fsEdge (s : State) (p ratio : Nat) : State :=
  if 32 ≤ p then s
  else
    let s := asyncSettings (asyncCut s p) p
    let x := getSp s p
    match asyncCfg x.cur with
    | none => if (syncCfg x.cur).isSome then s else putSp s p { x with out := [] }
    | some c =>
      let s := putSp s p { x with inFrame := some c, track := ratio % 2 ^ 32 }
      if x.run then asyncOut s p c
      else
        let s := putSp s p { getSp s p with start := some (nowIdx s, []) }
        if gangReady s p (nowIdx s) then (gangOf s p).foldl (fun s q => if (getSp s q).run then s else spStart 0 s q) s
        else s

/-- A frame enters the input FIFO; while the tracker is UNLOCKED nothing reads it, and the four newest frames are kept. -/
def asyncKeep (s : State) (p : Nat) (w : Nat × List Int) : State :=
  let x := getSp s p
  let x := { x with inFrame := none, f := (x.f + 1) % 2 ^ 32 }
  if trkState s p = 0 then
    putSp s p { x with inQ := (x.inQ ++ [w]).drop (x.inQ.length + 1 - 4), sinceLoss := min 1024 (x.sinceLoss + 1) }
  else if 4 ≤ x.inQ.length then
    let s := stick (count s (R.F_SPORT_IN_DROP_SUMP_CNT_CNT p) 1) (R.F_SPORT_HIST_IN_DROP_S p)
    putSp (asyncLost s p) p { x with sinceLoss := 0 }
  else putSp s p { x with inQ := x.inQ ++ [w], sinceLoss := min 1024 (x.sinceLoss + 1) }

/-- 32 × SLOTS BCLK cycles of the frame have passed: it enters the input FIFO, or is dropped; F advances (R279, R280). With it a port
that has been disabled releases its pins (R391). -/
def asyncDone (s : State) (p : Nat) (ws : List Int) : State :=
  let x := getSp s p
  match x.inFrame with
  | none => s
  | some c =>
    if 32 ≤ p then s
    else if !x.run then putSp s p { x with inFrame := none, out := if x.cur.isSome then x.out else [] }
    else asyncKeep s p (x.f, tabulate (ctlSlots c.ctl) (fun t => inWord (ctlDlen c.ctl) (nth 0 ws t)))

end Sys2Proof.Machine
end

