-- ==== Sys2Proof/Machine/Asrc.lean ====
section
/-! DEFINITION. The rate converters and their ratio trackers (R284 to R287). The filter coefficients are in a ROM whose contents the
spec does not give: they are free functions of the distance in time. -/
namespace Sys2Proof.Machine

/-- A ratio inside 1/8 to 8, Q4.28 (R284). -/
def ratioOk (r : Nat) : Bool := decide (2 ^ 25 ≤ r) && decide (r ≤ 2 ^ 31)

/-- The triangular error of TEST_ASRC_JIT (R369) on a listed port. -/
def jitters (s : State) (p : Nat) : Bool :=
  getF s R.F_TEST_ASRC_JIT_AMP != 0 && (getF s R.F_TEST_ASRC_MASK_PORTS).testBit p
def jitter (s : State) (n p r : Nat) : Nat :=
  if !jitters s p then r
  else
    let t := max 1 (getF s R.F_TEST_ASRC_JIT_PERIOD) * fsHz s
    let x := (n + Config.jitterPhase) * 1000 % t
    let tri : Int := if 4 * x < t then (4 * x : Nat) else if 4 * x < 3 * t then 2 * (t : Int) - (4 * x : Nat) else (4 * x : Nat) - 4 * (t : Int)
    ((r : Int) + (r : Int) * (getF s R.F_TEST_ASRC_JIT_AMP : Nat) * tri / (1000000 * (t : Int))).toNat % 2 ^ 32

/-- The ratio that a converter takes from the peer's RATIO word for sample n, if it is slaved (R287, R305, R369). After a take-over the
words received before it still hold (R302). -/
def peerRatio (s : State) (n key : Nat) : Option Nat :=
  if (follows s || isActive s) && !(decide (key < 32) && jitters s key) then
    (smapFind s.redun.ratios n).bind (fun ws => smapFind ws key)
  else none

/-- The port takes its ratio from the peer. -/
def slaved (s : State) (key : Nat) : Bool := follows s && !(decide (key < 32) && jitters s key)

/-- Read input frame `f` of a port into the converter: an absent frame enters as zero and counts; a frame that the active engine
lost is zero too (R279, R305). Frames before it have been read. -/
def readFrame (c : SpCfg) (p : Nat) (s : State) (f : Nat) : State :=
  let x := getSp s p
  let got := if s.ser.zeroed.contains (p, f) then none else (x.inQ.find? (fun e => e.1 == f)).map (fun e => e.2)
  let s := putSp s p { x with
    inQ := x.inQ.filter (fun e => decide (0 < frameAge e.1 f) && decide (frameAge e.1 f < 2 ^ 31)),
    sinceLoss := if got.isSome then x.sinceLoss else 0,
    conv := { x.conv with inHist := (got.getD (zeroFrame c) :: x.conv.inHist).take 288 } }
  let s := { s with ser := { s.ser with zeroed := s.ser.zeroed.filter (fun e => e != (p, f)) } }
  if got.isSome then s
  else
    let s := if s.ser.lost.contains (p, f) then s else { s with ser := { s.ser with lost := s.ser.lost ++ [(p, f)] } }
    stick (count s (R.F_SPORT_IN_ZERO_CNT_CNT p) 1) (R.F_SPORT_HIST_IN_ZERO_S p)

/-- A filter's output for slot t: the products of the frames `h`, newest first at distance `d`, each next one `step` further back,
with the coefficients, truncated once and saturated (R68, R285). -/
def firSum (coef : Int → Int) (step : Nat) (t : Nat) : Int → List (List Int) → Int
  | _, [] => 0
  | d, x :: h => coef d * nth 0 x t + firSum coef step t (d - step) h
def fir (coef : Int → Int) (step t : Nat) (d : Int) (h : List (List Int)) : Int := sat32 (shrInt (firSum coef step t d h) 31)

/-- Where the newest input frame that has been read lies after the instant that sample n represents, 16 Ts before the tick, in
2⁻²⁸ frames (R40, R285). -/
def inDist (x : Conv) (r : Nat) : Int := ((16 * r : Nat) : Int) - x.lag - ((x.posIn % 2 ^ 28 : Nat) : Int) - 2 ^ 28

/-- Produce the output frame that begins `e` after the tick, in 2⁻²⁸ frames (R279, R285). -/
def pushOut (c : SpCfg) (p r : Nat) (s : State) (e : Nat) : State :=
  let x := getSp s p
  let f := tabulate (ctlSlots c.ctl) (fun t =>
    if c.outMask.testBit t then inWord (ctlDlen c.ctl) (fir (Config.asrcOut r) r t (((16 * r : Nat) : Int) - e) x.conv.outHist) else 0)
  if 4 ≤ x.outQ.length then
    spLoss (stick (count s (R.F_SPORT_OUT_DROP_SUMP_CNT_CNT p) 1) (R.F_SPORT_HIST_OUT_DROP_S p)) p
  else putSp s p { x with outQ := x.outQ ++ [f] }

/-- The samples that the pool gives a port, by slot. -/
def poolFrame (s : State) (c : SpCfg) : List Int :=
  tabulate (ctlSlots c.ctl) (fun t =>
    if c.outMask.testBit t then smapGet 0 s.dsp.handoff (2048 + c.outBase + slotRank c.outMask t) else 0)

/-- The input converter of sample n at ratio r: the position advances, the frames passed are read by their F, and the enabled slots
are delivered (R285, R286). -/
def convertIn (s : State) (p r : Nat) (c : SpCfg) : State :=
  let x := getSp s p
  let pos := x.conv.posIn + r
  let first := x.conv.posIn / 2 ^ 28
  let s := (tabulate (pos / 2 ^ 28 - first) (fun k => (first + k) % 2 ^ 32)).foldl (readFrame c p) s
  let x := getSp s p
  let v := { x.conv with posIn := pos % 2 ^ 60 }
  deliver (putSp s p { x with conv := v }) c
    (((List.range (ctlSlots c.ctl)).filter (fun t => c.inMask.testBit t)).map (fun t =>
      fir (Config.asrcIn r) (2 ^ 28) t (inDist v r) v.inHist))

/-- The output converter of sample n at ratio r: a frame for every external frame that begins before the next sample (R285). -/
def convertOut (s : State) (p r : Nat) (c : SpCfg) : State :=
  let x := getSp s p
  let pos := x.conv.posOut
  let v := { x.conv with outHist := (poolFrame s c :: x.conv.outHist).take 64, posOut := (pos + r) % 2 ^ 28 }
  (List.range ((pos + r) / 2 ^ 28)).foldl (fun s k => pushOut c p r s ((k + 1) * 2 ^ 28 - pos)) (putSp s p { x with conv := v })

/-- The ratios of a port with the tracker's present one latched for n + 4 (R286). -/
def latched (s : State) (n p : Nat) : List (Nat × Nat) :=
  (getSp s p).conv.ratios ++ [(idxAdd n 4, (getSp s (trkPort s p)).track)]

/-- The ratio in use for sample n: the peer's, else the one latched at tick n − 4, else the one in use before. -/
def ratioFor (s : State) (n p : Nat) : Nat :=
  match peerRatio s n (trkPort s p) with
  | some r => r
  | none =>
    match (latched s n p).find? (fun e => e.1 == n) with
    | some e => jitter s n p e.2
    | none => getF s (R.F_ASRC_TRK_RATIO_RATIO p)

/-- Sample n of a port: the tracker's ratio is latched for n + 4, the ratio latched at tick n − 4 is used (R286). -/
def asrcPort (n : Nat) (s : State) (p : Nat) : State :=
  let x := getSp s p
  match asyncCfg x.cur with
  | none => s
  | some c =>
    if !x.run then s
    else
      let r := ratioFor s n p
      let s := putSp s p { x with conv := { x.conv with ratios := (latched s n p).filter (fun e => !idxDue n e.1) } }
      let s := setF s (R.F_ASRC_TRK_RATIO_RATIO p) r
      if trkState s p = 0 then s else convertOut (convertIn s p r c) p r c

/-- The converters of sample n, and the RATIO word of the active engine (R287, R305). -/
def asrcTick (s : State) (n : Nat) : State := (List.range 32).foldl (asrcPort n) s

/-! Tracker commands (R284). -/

/-- The port runs in ASYNC and its tracker is its own. -/
def trkRuns (s : State) (p : Nat) : Bool :=
  decide (p < 32) && (getSp s p).ok && ctlMode (spCtl s p) == 2 && trkPort s p == p

def trackerUnlock (s : State) (p : Nat) : State :=
  if trkRuns s p && getF s (R.F_ASRC_TRK_STAT_STATE p) != 0 then trkUnlock s p else s

/-- The place from which a converter begins to read: the tick lies `fr` into the frame in progress, and reading trails by `lag`; both
are free values within what the delay and the FIFO allow (R279, R285 state no start). -/
def convBegin (fr lag : Nat) (s : State) (p : Nat) : State :=
  let x := getSp s p
  let lag := lag % (min (2 ^ 30) (16 * x.track) + 1)
  putSp s p { x with conv := { noConv with
    posIn := (x.f * 2 ^ 28 + fr % 2 ^ 28 + 2 ^ 60 - lag) % 2 ^ 60, posOut := fr % 2 ^ 28, lag := lag, ratios := x.conv.ratios } }

/-- The converters of the gang that uses the tracker of port p start, at one place. -/
def convStart (s : State) (p : Nat) : State :=
  let v := freshMany s 2
  (gangOf s p).foldl (convBegin (nth 0 v.1 0) (nth 0 v.1 1)) v.2

/-- Enter ACQUIRE from UNLOCKED, where the converters of the gang start, or from LOCKED. -/
def trackerAcquire (s : State) (p : Nat) : State :=
  let st := getF s (R.F_ASRC_TRK_STAT_STATE p)
  if !trkRuns s p || st = 1 || !ratioOk (getSp s p).track then s
  else
    let s := setF s (R.F_ASRC_TRK_STAT_STATE p) 1
    if st = 0 then convStart s p else s

def trackerLock (s : State) (p : Nat) : State :=
  if trkRuns s p && getF s (R.F_ASRC_TRK_STAT_STATE p) = 1 then setF s (R.F_ASRC_TRK_STAT_STATE p) 2 else s

/-- At the first tick after RUN is set again the converters at work start afresh: frames have passed since the latest tick. -/
def asrcRestart (s : State) : State :=
  (List.range 32).foldl (fun s p =>
    if trkRuns s p && getF s (R.F_ASRC_TRK_STAT_STATE p) != 0 then convStart s p else s) s

/-- ASRC_STAT: converter channels in use (R285). -/
def asrcUsed (s : State) : Nat × Nat :=
  (List.range 32).foldl (fun a p =>
    if (getSp s p).ok && ctlMode (spCtl s p) == 2 then (a.1 + kIn (spCfg s p), a.2 + kOut (spCfg s p)) else a) (0, 0)

end Sys2Proof.Machine
end

