-- ==== Sys2Proof/Machine/Pdm.lean ====
section
/-! DEFINITION. The modulator inputs: decimation, the fractional resampler and the capture records (R288 to R292), and the RATIO words
(R287, R305). The ROM's coefficients are free values. -/
namespace Sys2Proof.Machine

/-- State of CLKIN tracker k, 0 or 1. -/
def clkinState (s : State) (k : Nat) : Nat := getF s (if k = 0 then R.F_PDM_STAT_CLKIN0 else R.F_PDM_STAT_CLKIN1)

/-- φ moves one step per sample (R290). -/
def slewPhi (cur goal : Nat) : Nat := if cur < goal then cur + 1 else if goal < cur then cur - 1 else cur

def noChan : PdmChan := ⟨[], 0, [], 0, none, 0⟩

/-! Rates. -/

/-- The CIC's decimation by MRATE (R289). -/
def cicRate (s : State) : Nat := if isSet s R.F_PDM_CTL_MRATE then 16 else 8
/-- Half-band stages, words of the intermediate rate in a sample, and bits in a sample (R288, R289). -/
def halfStages (s : State) : Nat := if 2 ≤ rateCode s then 2 else 3
def midsPerTs (s : State) : Nat := 2 ^ halfStages s
def bitsPerTs (s : State) : Nat := cicRate s * midsPerTs s

/-! The CIC: five running sums of R bits, scaled so that ones-density d gives 2d − 1 of full scale (R289). -/

/-- The running sums of R consecutive terms. -/
def boxcar (r : Nat) (xs : List Int) : List Int :=
  tabulate (xs.length + r - 1) (fun i => (tabulate r (fun k => if k ≤ i then nth 0 xs (i - k) else 0)).foldl (fun a b => a + b) 0)
/-- The weights of the latest bits in one word. -/
def cicTaps (r : Nat) : List Int := boxcar r (boxcar r (boxcar r (boxcar r (boxcar r [1]))))
/-- One word of the intermediate rate, Q1.31, of the bits, newest first. -/
def cicWord (r : Nat) (bs : List Bool) : Int :=
  ((cicTaps r).zip bs).foldl (fun a e => if e.2 then a + e.1 else a - e.1) 0 * (2 ^ 31 / (r ^ 5 : Nat))

/-- One more bit. -/
def pushBit (r k : Nat) (x : PdmChan) (b : Bool) : PdmChan :=
  let bs := (b :: x.bits).take 80
  if r ≤ x.cnt + 1 then
    { x with
      bits := bs, cnt := 0, mid := (cicWord r bs :: x.mid).take 512, tot := (x.tot + 1) % 8,
      pos := x.pos.map (fun q => q - ((2 ^ 28 / k : Nat) : Int)) }
  else { x with bits := bs, cnt := x.cnt + 1 }

/-! The half-band stages and the resampler, each truncated (R68, R289). Every stage is centred on its output's instant. -/

/-- A term of a list with an integer position; zero outside it. -/
def term (xs : List Int) (i : Int) : Int := if i < 0 then 0 else nth 0 xs i.toNat

/-- Tap k of a half-band stage, at odd distance 2 k + 1 on either side of its centre. -/
def halfTap (stage k : Nat) : Int := sext 32 (Config.pdmCoef (Config.pdmHalf stage k % 256))

/-- One output of a half-band stage, centred on position `i` of its input; the centre tap makes the gain at 0 Hz unity. -/
def halfOut (stage : Nat) (xs : List Int) (i : Int) : Int :=
  let a := (List.range 64).foldl (fun a k =>
    let h := halfTap stage k
    (a.1 + h * (term xs (i - (2 * k + 1 : Nat)) + term xs (i + (2 * k + 1 : Nat))), a.2 + 2 * h)) (0, 0)
  shrInt (a.1 + (2 ^ 31 - a.2) * term xs i) 31

/-- A list newest first, halved in rate by one stage: its newest entry has an even or odd number (`odd`). -/
def halfBand (stage odd : Nat) (xs : List Int) : List Int :=
  tabulate (xs.length / 2) (fun j => halfOut stage xs ((odd + 2 * j : Nat) : Int))

/-- `n` stages; `i` is the number of the newest entry. -/
def decimate : Nat → Nat → Nat → List Int → List Int
  | 0, _, _, xs => xs
  | n + 1, stage, i, xs => decimate n (stage + 1) (i / 2) (halfBand stage (i % 2) xs)

/-- Tap k of the resampler, k − 8 samples after the sample at or before the instant. -/
def polyTap (frac k : Nat) : Int := sext 32 (Config.pdmCoef (256 + Config.pdmPhase frac k % 768))

/-- The signal at the instant `at_` (2⁻²⁸ samples) after the newest entry of a list newest first; the tap nearest the instant makes the
gain at 0 Hz unity. -/
def resample (xs : List Int) (at_ : Int) : Int :=
  let j := at_ / 2 ^ 28
  let frac := (at_ % 2 ^ 28).toNat
  let mid := if frac < 2 ^ 27 then 8 else 9
  let a := (List.range 17).foldl (fun a k =>
    if k = mid then a else (a.1 + polyTap frac k * term xs (8 - j - k), a.2 + polyTap frac k)) (0, 0)
  shrInt (a.1 + (2 ^ 31 - a.2) * term xs (8 - j - mid)) 31

/-- The instant that the sample presented at the tick represents: 16 Ts and φ before the tick that starts the Ts before (R43, R289,
R292), in 2⁻²⁸ samples of the clock after the newest word of the last stage; `tickAt` is the tick after the newest bits' word, `r` the
ratio. The CIC's word is centred 5 (R − 1) / 2 bits before its newest bit. -/
def pdmInstant (rr k tot phi r : Nat) (tickAt : Int) : Int :=
  tickAt + ((5 * (rr - 1) * 2 ^ 28 / (2 * rr * k) + (tot + k - 1) % k * (2 ^ 28 / k) : Nat) : Int) -
    ((17 * r + phi * r / 256 : Nat) : Int)

/-- The sample that a channel gives (R289). -/
def pdmSample (s : State) (x : PdmChan) (r : Nat) (tickAt : Int) : Int :=
  let k := midsPerTs s
  sat32 (resample (decimate (halfStages s) 0 ((x.tot + 7) % 8) x.mid) (pdmInstant (cicRate s) k x.tot x.phi r tickAt))

/-! Channels. -/

def getChan (s : State) (c : Nat) : PdmChan := smapGet noChan s.ser.pdm.chans c
def putChan (s : State) (c : Nat) (x : PdmChan) : State :=
  { s with ser := { s.ser with pdm := { s.ser.pdm with chans := smapSet noChan s.ser.pdm.chans c x } } }

/-- The bits that a channel takes in a Ts: with the internal clock as many as it has cycles; with an external one those that came.
INV inverts them (R288, R290). -/
def chanBits (s : State) (c src : Nat) (bs : List Bool) : List Bool :=
  let bs := if src = 0 then tabulate (bitsPerTs s) (fun i => nth false bs i) else bs
  if isSet s (R.F_PDM_CH_INV c) then bs.map (fun b => !b) else bs

/-- The place of the tick after the newest word: counted from the bits with the internal clock; with an external one it advances by the
ratio (R291), from a start of which a fraction of a bit is a free value. -/
def tickPlace (s : State) (x : PdmChan) (src r : Nat) : Int × State :=
  let bit := 2 ^ 28 / bitsPerTs s
  match src, x.pos with
  | 0, _ => ((x.cnt * bit : Nat), s)
  | _ + 1, some q => (q + r, s)
  | _ + 1, none =>
    let v := freshFree s
    ((x.cnt * bit + Config.freeNat v.1 % bit : Nat), v.2)

/-- One channel of sample n; `rs` are the ratios in use (R288 to R291). -/
def pdmChannel (ins : List (Nat × List Bool)) (rs : List (Nat × Nat)) (s : State) (c : Nat) : State :=
  let src := getF s (R.F_PDM_GRP_SRC (c / 8))
  let x := getChan s c
  let x := { x with phi := slewPhi x.phi (getF s (R.F_PDM_CH_PHASE c)) }
  if !isSet s R.F_PDM_CTL_EN || src = 3 then putChan s c x
  else
    let x := (chanBits s c src (smapGet [] ins c)).foldl (pushBit (cicRate s) (midsPerTs s)) x
    if src != 0 && clkinState s (src - 1) = 0 then putChan s c { x with pos := none }
    else
      let r := if src = 0 then 2 ^ 28 else smapGet 0 rs (31 + src)
      let at_ := tickPlace s x src r
      let s := putChan at_.2 c { x with pos := if src = 0 then none else some at_.1 }
      let v := if isSet s (R.F_PDM_CH_EN c) then pdmSample s x r at_.1 else 0
      { s with dsp := { s.dsp with src := smapSet 0 s.dsp.src (0xC00 + c) v } }

/-- Tally at an instant, less 16 Ts, in whole nanoseconds (R292). -/
def lessDelay (s : State) (sec ns : Nat) : Nat × Nat :=
  let t : Int := (((sec * 10 ^ 9 + ns) * fsHz s : Nat) - (16 * 10 ^ 9 : Nat) : Int) / (fsHz s : Nat)
  let u := (t % ((2 ^ 48 * 10 ^ 9 : Nat) : Int)).toNat
  (u / 10 ^ 9, u % 10 ^ 9)

/-- The modulator inputs and capture records of sample n (R288 to R292). Called before the tick's Tally is latched. -/
def pdmTick (s : State) (n : Nat) (i : TickIn) : State :=
  let d := s.ser.pdm
  let rs := d.ratios ++ [(idxAdd n 4, [(32, i.clk0), (33, i.clk1)])]
  let own := match rs.find? (fun e => e.1 == n) with
    | some e => e.2
    | none => []
  let use := [32, 33].map (fun k => (k, (peerRatio s n k).getD (smapGet 0 own k)))
  let e := getF s R.F_TALLY_EPOCH_EPOCH
  let t0 := lessDelay s s.sched.tickSec s.sched.tickNs
  let capt := [(0, (n, t0.1, e, t0.2)), (1, (n, i.capt0.1, e, i.capt0.2)), (2, (n, i.capt1.1, e, i.capt1.2))]
  let s := { s with ser := { s.ser with pdm := { d with ratios := rs.filter (fun e => !idxDue n e.1), capt := capt } } }
  (List.range 128).foldl (pdmChannel i.pdm use) s

/-- The RATIO word that the active engine sends at tick n for sample n + 4, with the ASYNC frames it has lost (R305). -/
def sendRatios (s : State) (n : Nat) : State :=
  if !feeds s then { s with ser := { s.ser with lost := [] } }
  else
    let ports := ((List.range 32).filter (fun p => trkRuns s p)).map (fun p => (p, (getSp s p).track))
    let clk := match s.ser.pdm.ratios.find? (fun e => e.1 == idxAdd n 4) with
      | some e => e.2
      | none => []
    let s := linkSend s (.ratio (idxAdd n 4) (ports ++ clk) s.ser.lost)
    { s with ser := { s.ser with lost := [] } }

/-- A CLKIN tracker becomes UNLOCKED, or LOCKED (R291). -/
def clkinUnlock (s : State) (k : Nat) : State :=
  if 2 ≤ k || clkinState s k = 0 then s
  else
    let s := setF s (if k = 0 then R.F_PDM_STAT_CLKIN0 else R.F_PDM_STAT_CLKIN1) 0
    stick s (if k = 0 then R.F_PDM_STAT_CLKIN0_LOSS_S else R.F_PDM_STAT_CLKIN1_LOSS_S)
def clkinLock (s : State) (k : Nat) : State :=
  if 2 ≤ k then s else setF s (if k = 0 then R.F_PDM_STAT_CLKIN0 else R.F_PDM_STAT_CLKIN1) 2

end Sys2Proof.Machine
end

