-- ==== Sys2Proof/Machine/Strips.lean ====
section
/-! DEFINITION. The processing blocks of the standard graph (03_strips.md, "Processing blocks"): filters, gate, EQ, compressor,
insert, fader, width and balance, computed for a pair of strips and one sample, with the versions that block-switch, insert
and LINK crossfades keep (R64). A signal is a list of four lanes, lane = (1 for the old insert setting) + (2 for the old
LINK setting); only the lanes under the mask in force are computed. -/
namespace Sys2Proof.Machine

/-- Key of a block state: `blk` 0 HPF, 1 LPF, 2 gate, 3 compressor, 8 + b EQ band b; `ver` = (1 for the old setting of the
block's own switch) + 2 × lane. -/
def blkKey (u blk ver : Nat) : Nat := (64 * u + blk) * 8 + ver

/-- A block's state; the empty list is the cleared state. -/
def getBlk (s : State) (u blk ver : Nat) : List Int := smapGet [] s.dsp.blk (blkKey u blk ver)
def putBlk (s : State) (u blk ver : Nat) (x : List Int) : State :=
  { s with dsp := { s.dsp with blk := smapSet [] s.dsp.blk (blkKey u blk ver) x } }

/-- Clear every block state of a strip (R35). -/
def clearStrip (s : State) (u : Nat) : State :=
  { s with dsp := { s.dsp with blk := s.dsp.blk.filter (fun p => p.1 / 512 != u) } }

/-- Lane `i` of a signal, under mask `m`. -/
def lane (m : Nat) (x : List Int) (i : Nat) : Int := nth 0 x (i &&& m)

/-- A signal whose lane `i` is `f i`. -/
def lanes (f : Nat → Int) : List Int := [f 0, f 1, f 2, f 3]

/-- Whether lane `i` is computed under mask `m`. -/
def laneOn (m i : Nat) : Bool := (i &&& m) == i

/-- Run a filter setting (ON, _24) on one sample: the sections in series, each from its state. -/
def filtRun (fs f set : Nat) (high : Bool) (st : List Int) (x : Int) : Int × List Int :=
  if set % 2 = 0 then (x, [])
  else if set / 2 = 0 then
    let r := svStep (filtCoef fs f 0 high) (nth 0 st 0) (nth 0 st 1) x
    (r.2.2, [r.1, r.2.1])
  else
    let r := svStep (filtCoef fs f 1 high) (nth 0 st 0) (nth 0 st 1) x
    let q := svStep (filtCoef fs f 2 high) (nth 0 st 2) (nth 0 st 3) r.2.2
    (q.2.2, [r.1, r.2.1, q.1, q.2.1])

/-- The HPF (`blk` 0) or LPF (`blk` 1) of a strip, with its switch crossfade. -/
def filtStage (s : State) (n u blk : Nat) (x : Int) : Int × State :=
  let f := codeAt s n (pidStrip u (16 + blk))
  let high := blk == 0
  let p := xfAt s n (if blk = 0 then xkHpf u else xkLpf u)
  let a := filtRun (fsHz s) f p.1 high (getBlk s u blk 0) x
  match p.2 with
  | none => (a.1, putBlk s u blk 0 a.2)
  | some (o, w) =>
    let b := filtRun (fsHz s) f o high (getBlk s u blk 1) x
    (xmix b.1 a.1 w, putBlk (putBlk s u blk 0 a.2) u blk 1 b.2)

/-- Trim, polarity, HPF and LPF (steps x1, x2 and the filters). Result: x2, the filtered signal, the state. -/
def preStage (s : State) (n u : Nat) (x0 : Int) : Int × Int × State :=
  let x1 := satQ (mulQ x0 (lin (codeAt s n (pidStrip u 1))))
  let x2 := xfMix (xfAt s n (xkPol u)) (fun pol => if pol = 1 then satQ (-x1) else x1)
  let h := filtStage s n u 0 x2
  let l := filtStage h.2 n u 1 h.1
  (x2, l.1, l.2)

/-- The key signal of an external key word: the pre-fader word of the named strip for sample n − 1, shifted into Q9.31. -/
def extKey (s : State) (kw : Nat) : Int := smapGet 0 s.dsp.preLast (bits kw 9 0) * 16

/-- The detector input of the gate (word 7) or compressor (word 8): R67, "Gate", "Compressor". `own` and `other` are the two
strips' own signals. Key words are words of input strips only. The magnitude is exact: that of −2³⁹ is 2³⁹ (DESIGN CHOICE, in
the log). -/
def detector (s : State) (par keyW : Nat) (linked : Bool) (own other : Int) : Int :=
  let kw := if par < 1024 then plive s (pidStrip par keyW) else 0
  if kw.testBit 15 then ((extKey s kw).natAbs : Int)
  else if linked then ((max own.natAbs other.natAbs : Nat) : Int) else (own.natAbs : Int)

/-- One step of the gate of the words of strip `par` on detector magnitude `d`: the gain gg and the new state. -/
def gateStep (s : State) (n par : Nat) (st : List Int) (d : Int) : Int × List Int :=
  let fs := fsHz s
  let thr := codeAt s n (pidStrip par 20)
  let hc : Int := (thr : Int) - 64 * (bits (plive s (pidStrip par 25)) 7 0 : Nat)
  let thOpen : Int := (lin thr : Nat)
  let thClose : Int := if 1 ≤ hc then (lin hc.toNat : Nat) else 0
  let floorG : Int := min ((lin (codeAt s n (pidStrip par 21)) : Nat) : Int) unity
  let att := max 1 ((unity - floorG) / (nOf fs (bits (plive s (pidStrip par 22)) 15 0) : Nat))
  let rel := max 1 ((unity - floorG) / (nOf fs (bits (plive s (pidStrip par 24)) 15 0) : Nat))
  let hLen : Int := (nOf fs (bits (plive s (pidStrip par 23)) 15 0) : Nat)
  let gg := max floorG (match st with | [] => floorG | x :: _ => x)
  let hc := nth 0 st 1
  if thOpen ≤ d then (min unity (gg + att), [min unity (gg + att), hLen])
  else if d < thClose && hc = 0 then (max floorG (gg - rel), [max floorG (gg - rel), 0])
  else (gg, [gg, if 0 < hc then hc - 1 else 0])

/-- The compressor's static curve (gr of "Compressor") for envelope `e`. -/
def compGr (thr rc knee : Nat) (e : Int) : Int :=
  if thr = 0 || e ≤ 0 then 0
  else
    let overs := logLevel e.toNat - ((thr : Int) - 0xE000)
    let sl : Int := if rc = 255 then 65536 else ((65536 * rc / (8 + rc) : Nat) : Int)
    let w : Int := 256 * ((min knee 24 : Nat) : Int)
    if w = 0 || w ≤ 2 * overs then (if 0 < overs then overs * sl / 65536 else 0)
    else if -w < 2 * overs then (2 * overs + w) * (2 * overs + w) * sl / (8 * w * 65536)
    else 0

/-- One step of the compressor of the words of strip `par`: gain code gc, reduction gr and the new state. -/
def compStep (s : State) (n par : Nat) (st : List Int) (d : Int) : Int × Int × List Int :=
  let fs := fsHz s
  let e0 := nth 0 st 0
  let al := if e0 < d then alphaOf fs (bits (plive s (pidStrip par 67)) 15 0) else alphaOf fs (bits (plive s (pidStrip par 68)) 15 0)
  let e := satQ (e0 + mulQ (d - e0) al)
  let gr := compGr (codeAt s n (pidStrip par 64)) (codeAt s n (pidStrip par 65)) (bits (plive s (pidStrip par 66)) 4 0) e
  let mk := clampInt 0xE000 0xF800 (codeAt s n (pidStrip par 69))
  (clampInt 1 0xFFFF (mk - gr), gr, [e])

/-- A switched block between its input and output: the output under the new switch value, mixed with the old one while the
switch crossfades. -/
def switched (x : Nat × Option (Nat × Int)) (inp outp : Int) : Int :=
  xfMix x (fun v => if v = 1 then outp else inp)

/-- Whether a switch's block runs: on, or crossfading to or from on. -/
def runs (x : Nat × Option (Nat × Int)) : Bool :=
  x.1 == 1 || (match x.2 with | none => false | some (o, _) => o == 1)

/-- The gate (`comp` false) or compressor (`comp` true) of a strip pair in one lane: outputs of both strips, the reductions to
meter, and the state. Unlinked strips run their own detectors; a linked pair runs that of the even strip (R67). -/
def dynLane (comp : Bool) (s : State) (n u i : Nat) (linked : Bool) (a b : Int) : (Int × Int) × (Int × Int) × State :=
  let blk := if comp then 3 else 2
  let keyW := if comp then 8 else 7
  let one := fun (s : State) (par : Nat) (own other : Int) =>
    let sw := xfAt s n (if comp then xkComp par else xkGate par)
    if runs sw then
      let d := detector s par keyW linked own other
      if comp then
        let r := compStep s n par (getBlk s par blk (2 * i)) d
        (sw, ((lin r.1.toNat : Nat) : Int), r.2.1, putBlk s par blk (2 * i) r.2.2)
      else
        let r := gateStep s n par (getBlk s par blk (2 * i)) d
        (sw, r.1, unity - r.1, putBlk s par blk (2 * i) r.2)
    else (sw, unity, 0, s)
  let l := one s u a b
  let r := if linked then (l.1, l.2.1, l.2.2.1, l.2.2.2) else one l.2.2.2 (u + 1) b a
  ((switched l.1 a (satQ (mulQ a l.2.1)), switched r.1 b (satQ (mulQ b r.2.1))), (l.2.2.1, r.2.2.1), r.2.2.2)

/-- The link setting that lane `i` uses. -/
def laneLink (lk : Nat × Option (Nat × Int)) (i : Nat) : Bool :=
  if i.testBit 1 then (match lk.2 with | some (o, _) => o == 1 | none => lk.1 == 1) else lk.1 == 1

/-- The gate or compressor over every lane under mask `m`; the reductions are those of lane 0. -/
def dynStage (comp : Bool) (s : State) (n u m : Nat) (lk : Nat × Option (Nat × Int)) (a b : List Int) :
    (List Int × List Int) × (Int × Int) × State :=
  let go := fun (acc : (List Int × List Int) × (Int × Int) × State) (i : Nat) =>
    if laneOn m i then
      let r := dynLane comp acc.2.2 n u i (laneLink lk i) (nth 0 a i) (nth 0 b i)
      ((acc.1.1 ++ [r.1.1], acc.1.2 ++ [r.1.2]), (if i = 0 then r.2.1 else acc.2.1), r.2.2)
    else ((acc.1.1 ++ [0], acc.1.2 ++ [0]), acc.2.1, acc.2.2)
  [0, 1, 2, 3].foldl go (([], []), (0, 0), s)

/-- One EQ band in one lane. -/
def bandStage (s : State) (n u b i : Nat) (x : Int) : Int × State :=
  let fs := fsHz s
  let f := codeAt s n (pidStrip u (32 + 4 * b))
  let q := codeAt s n (pidStrip u (33 + 4 * b))
  let g := codeAt s n (pidStrip u (34 + 4 * b))
  let run := fun (set : Nat) (st : List Int) =>
    if set.testBit 3 then
      let r := svStep (eqCoef fs (set % 8) f q g) (nth 0 st 0) (nth 0 st 1) x
      (r.2.2, [r.1, r.2.1])
    else (x, [])
  let p := xfAt s n (xkBand u b)
  let a := run p.1 (getBlk s u (8 + b) (2 * i))
  match p.2 with
  | none => (a.1, putBlk s u (8 + b) (2 * i) a.2)
  | some (o, w) =>
    let c := run o (getBlk s u (8 + b) (2 * i + 1))
    (xmix c.1 a.1 w, putBlk (putBlk s u (8 + b) (2 * i) a.2) u (8 + b) (2 * i + 1) c.2)

/-- The eight bands in order, in one lane, behind the EQ_IN switch. -/
def eqLane (s : State) (n u i : Nat) (x : Int) : Int × State :=
  let sw := xfAt s n (xkEq u)
  if runs sw then
    let r := (List.range 8).foldl (fun (acc : Int × State) b => bandStage acc.2 n u b i acc.1) (x, s)
    (switched sw x r.1, r.2)
  else (x, s)

def eqStage (s : State) (n u m : Nat) (x : List Int) : List Int × State :=
  [0, 1, 2, 3].foldl (fun (acc : List Int × State) i =>
    if laneOn m i then
      let r := eqLane acc.2 n u i (nth 0 x i)
      (acc.1 ++ [r.1], r.2)
    else (acc.1 ++ [0], acc.2)) ([], s)

/-- The insert settings of a strip in a sample: new setting, and the old one with its weight. -/
structure Ins where
  now : Nat
  old : Option (Nat × Int)
  retNow : Int
  retOld : Int
deriving DecidableEq, Repr

/-- A source value as intake presents it (R57); a reserved ID is zero. -/
def srcVal (s : State) (id : Nat) : Int := smapGet 0 s.dsp.src id

def insOf (s : State) (n u : Nat) : Ins :=
  let p := xfAt s n (xkIns u)
  let o := match p.2 with | some (o, _) => o | none => p.1
  ⟨p.1, p.2, srcVal s (p.1 / 8), srcVal s (o / 8)⟩

/-- The insert point of a setting; bus, main and matrix strips have no gate and share points 0 and 1. -/
def insPos (set : Nat) : Nat := bits set 2 1

/-- The insert crossfade's segment: earlier and later point. -/
def insLo (x : Ins) : Nat := match x.old with | some (o, _) => min (insPos o) (insPos x.now) | none => insPos x.now
def insHi (x : Ins) : Nat := match x.old with | some (o, _) => max (insPos o) (insPos x.now) | none => insPos x.now

/-- Pass insert point `pt` with mask `m`: the new mask, the signal, and the insert send values seen so far (new, old). -/
def insPoint (x : Ins) (pt m : Nat) (sig : List Int) (snd : List Int × List Int) : Nat × List Int × (List Int × List Int) :=
  -- the old version splits off at the earlier point
  let m1 := if x.old.isSome && pt = insLo x then m ||| 1 else m
  let sg := lanes (fun i => lane m sig i)
  let o := match x.old with | some (o, _) => o | none => x.now
  let put := fun (i : Nat) =>
    let isOld := i.testBit 0
    let set := if isOld then o else x.now
    if insPos set = pt && set % 2 = 1 then (if isOld then x.retOld else x.retNow) else nth 0 sg i
  let sndN := if insPos x.now = pt then lanes (fun i => nth 0 sg (i - i % 2)) else snd.1
  let sndO := if insPos o = pt then lanes (fun i => nth 0 sg (i - i % 2 + (m1 &&& 1))) else snd.2
  let sg2 := lanes put
  match x.old with
  | some (_, w) =>
    if pt = insHi x then
      (m1 &&& 2, lanes (fun i => xmix (nth 0 sg2 (i - i % 2 + 1)) (nth 0 sg2 (i - i % 2)) w), (sndN, sndO))
    else (m1, sg2, (sndN, sndO))
  | none => (m1, sg2, (sndN, sndO))

/-- Mix the two LINK lanes. -/
def linkMix (lk : Nat × Option (Nat × Int)) (x : List Int) : Int :=
  match lk.2 with
  | some (_, w) => xmix (nth 0 x 2) (nth 0 x 0) w
  | none => nth 0 x 0

/-- The fader and the mute (R64: the faded signal, or zero). -/
def fadeStage (s : State) (n u : Nat) (x : Int) : Int :=
  let y := satQ (mulQ x (lin (codeAt s n (pidStrip u 80))))
  xfMix (xfAt s n (xkMute u)) (fun mu => if mu = 1 then 0 else y)

/-- Width and balance of a linked pair ("Fader, mute, width and balance"). -/
def widthBal (w p : Nat) (l r : Int) : Int × Int :=
  let m := shrInt (l + r) 1
  let sd := shrInt (l - r) 1
  let ws := mulQ sd ((w * 2 ^ 24 : Nat) : Int)
  (satQ (mulQ (satQ (m + ws)) (balL p)), satQ (mulQ (satQ (m - ws)) (balR p)))

/-- What one strip delivers for a sample: its picks, reductions and direct output. -/
structure StripOut where
  x2 : Int
  send : Int
  pre : Int
  post : Int
  gateR : Int
  compR : Int
  dir : Int
deriving DecidableEq, Repr

/-- The direct output of a strip from its picks: x2, insert send, pre-fader and post-fader point ("Direct outputs and meters"). -/
def directOut (s : State) (n u : Nat) (x2 send pre post : Int) : Int :=
  xfMix (xfAt s n (xkDir u)) (fun set =>
    if set.testBit 2 then
      let pick := match set % 4 with
        | 0 => x2
        | 1 => send
        | 2 => pre
        | _ => post
      satQ (mulQ pick (lin (codeAt s n (pidStrip u 9))))
    else 0)

/-- The chain of strips `u` and `u + 1` (u even) for sample `n`, from their inputs; `gate` says whether they are input strips.
In a LINK crossfade the gate's two outputs are mixed before the EQ, the inserts and whatever else both versions share, which keep
one state (DESIGN CHOICE, in the log: R64 does not say where the common blocks take two signals). -/
def procPair (s : State) (n u : Nat) (gate : Bool) (xa xb : Int) : StripOut × StripOut × State :=
  let lk := linkAt s n u
  let lm := if lk.2.isSome then 2 else 0
  let pa := preStage s n u xa
  let pb := preStage pa.2.2 n (u + 1) xb
  let ia := insOf pb.2.2 n u
  let ib := insOf pb.2.2 n (u + 1)
  let z := ([0, 0, 0, 0], [0, 0, 0, 0])
  let a0 := insPoint ia 0 0 (lanes fun _ => pa.2.1) z
  let b0 := insPoint ib 0 0 (lanes fun _ => pb.2.1) z
  let g := if gate then
      let m := a0.1 ||| b0.1 ||| lm
      let r := dynStage false pb.2.2 n u m lk (lanes fun i => lane a0.1 a0.2.1 i) (lanes fun i => lane b0.1 b0.2.1 i)
      let mix := fun (x : List Int) => lanes fun i =>
        match lk.2 with
        | some (_, w) => xmix (nth 0 x ((i % 2 ||| 2) &&& m)) (nth 0 x ((i % 2) &&& m)) w
        | none => nth 0 x ((i % 2) &&& m)
      ((mix r.1.1, mix r.1.2), r.2.1, r.2.2)
    else ((a0.2.1, b0.2.1), (0, 0), pb.2.2)
  let a1 := insPoint ia 1 a0.1 g.1.1 a0.2.2
  let b1 := insPoint ib 1 b0.1 g.1.2 b0.2.2
  let ea := eqStage g.2.2 n u a1.1 a1.2.1
  let eb := eqStage ea.2 n (u + 1) b1.1 b1.2.1
  let a2 := insPoint ia 2 a1.1 ea.1 a1.2.2
  let b2 := insPoint ib 2 b1.1 eb.1 b1.2.2
  let m2 := a2.1 ||| b2.1 ||| lm
  let c := dynStage true eb.2 n u m2 lk (lanes fun i => lane a2.1 a2.2.1 i) (lanes fun i => lane b2.1 b2.2.1 i)
  let a3 := insPoint ia 3 (a2.1 ||| lm) (lanes fun i => nth 0 c.1.1 (i &&& m2)) a2.2.2
  let b3 := insPoint ib 3 (b2.1 ||| lm) (lanes fun i => nth 0 c.1.2 (i &&& m2)) b2.2.2
  let s3 := c.2.2
  let fin := fun (x : List Int) (i : Nat) => nth 0 x (2 * i &&& lm)
  let wb := fun (i : Nat) =>
    let l := fadeStage s3 n u (fin a3.2.1 i)
    let r := fadeStage s3 n (u + 1) (fin b3.2.1 i)
    if laneLink lk (2 * i) then widthBal (codeAt s3 n (pidStrip u 82)) (codeAt s3 n (pidStrip u 81)) l r else (l, r)
  let w0 := wb 0
  let w1 := wb 1
  -- each signal that differs between the LINK versions is formed in both and mixed (R64)
  let snd := fun (x : Ins) (q : List Int × List Int) (i : Nat) => match x.old with
    | some (_, w) => xmix (nth 0 q.2 (2 * i &&& lm)) (nth 0 q.1 (2 * i &&& lm)) w
    | none => nth 0 q.1 (2 * i &&& lm)
  let both := fun (f : Nat → Int) => linkMix lk [f 0, 0, f 1, 0]
  let out := fun (v : Nat) (x2 gr cr : Int) (send pre post : Nat → Int) =>
    (⟨x2, both send, both pre, both post, gr, cr, both (fun i => directOut s3 n v x2 (send i) (pre i) (post i))⟩ : StripOut)
  (out u pa.1 g.2.1.1 c.2.1.1 (snd ia a3.2.2) (fin a3.2.1) (fun i => if i = 0 then w0.1 else w1.1),
   out (u + 1) pb.1 g.2.1.2 c.2.1.2 (snd ib b3.2.2) (fin b3.2.1) (fun i => if i = 0 then w0.2 else w1.2), s3)

/-- R14: a Q9.31 sample as a word of a frame, Q5.27. -/
def frameWord (v : Int) : Int := satInt 32 (shrInt v 4)

/-- The bank of the meter area (R71). -/
def meterBank : Nat := 156 + Config.meterBank % 4

/-- The meter values of a strip (R71): key 4u + kind. They go through port B path 1, Confluence's meter path (R200). -/
def putMeters (s : State) (u : Nat) (o : StripOut) (peak : Nat) : State :=
  if !bankAdmits s meterBank 33 true then ownRefuse s meterBank 1 true true
  else
    let m := s.dsp.meter
    let m := smapSet 0 m (4 * u) o.x2.natAbs
    let m := smapSet 0 m (4 * u + 1) peak
    let m := smapSet 0 m (4 * u + 2) o.gateR.natAbs
    let m := smapSet 0 m (4 * u + 3) o.compR.natAbs
    { s with dsp := { s.dsp with meter := m } }

/-- A dormant or overrunning strip writes zero to its meters (R30, R35). -/
def zeroMeters (s : State) (u : Nat) : State := putMeters s u ⟨0, 0, 0, 0, 0, 0, 0⟩ 0

def dormantNow (s : State) (u : Nat) : Bool := s.sched.dormant.testBit u

/-- Deliver the outputs of an input strip: frame words, direct output, meters. -/
def putInput (s : State) (u : Nat) (o : StripOut) (peak : Nat) : State :=
  let s := putMeters s u o peak
  { s with dsp := { s.dsp with
      post := smapSet 0 s.dsp.post u (frameWord o.post)
      pre := smapSet 0 s.dsp.pre u (frameWord o.pre)
      dir := smapSet 0 s.dsp.dir u o.dir } }

/-- A strip that delivers zero for the sample (dormant, or its core overran). -/
def zeroInput (s : State) (u : Nat) : State :=
  let s := zeroMeters s u
  { s with dsp := { s.dsp with
      post := smapDel s.dsp.post u
      pre := smapDel s.dsp.pre u
      dir := smapDel s.dsp.dir u } }

/-- Run the input strips `u`, `u + 1` for sample n: a dormant strip is skipped with cleared state (R35). -/
def runInputPair (s : State) (n u : Nat) : State :=
  let da := dormantNow s u
  let db := dormantNow s (u + 1)
  let r := procPair s n u true (if da then 0 else smapGet 0 s.dsp.x0 u) (if db then 0 else smapGet 0 s.dsp.x0 (u + 1))
  let linked := (linkAt s n u).1 == 1
  let pk := fun (o : StripOut) => if linked then max r.1.post.natAbs r.2.1.post.natAbs else o.post.natAbs
  if da && db then zeroInput (zeroInput (clearStrip (clearStrip s u) (u + 1)) u) (u + 1)
  else
    let s1 := r.2.2
    let s2 := if da then zeroInput (clearStrip s1 u) u else putInput s1 u r.1 (pk r.1)
    if db then zeroInput (clearStrip s2 (u + 1)) (u + 1) else putInput s2 (u + 1) r.2.1 (pk r.2.1)

/-- An input tile: strips 16t to 16t + 15 (SCHED_TILE). -/
def runInputTile (s : State) (n t : Nat) : State :=
  (List.range 8).foldl (fun s k => runInputPair s n (16 * t + 2 * k)) s

/-- The source ID of a bus, main or matrix strip of unit u (source pool): 0xD00 + (u − 1024). -/
def outId (u : Nat) : Nat := 0xD00 + (u - 1024)

/-- Run the bus, main or matrix strips `u`, `u + 1` from their summed inputs. -/
def runMixPair (s : State) (n u : Nat) (xa xb : Int) : State :=
  let r := procPair s n u false xa xb
  let linked := (linkAt s n u).1 == 1
  let pk := fun (o : StripOut) => if linked then max r.1.post.natAbs r.2.1.post.natAbs else o.post.natAbs
  let s := putMeters (putMeters r.2.2 u r.1 (pk r.1)) (u + 1) r.2.1 (pk r.2.1)
  let d := smapSet 0 (smapSet 0 s.dsp.dir u r.1.dir) (u + 1) r.2.1.dir
  { s with dsp := { s.dsp with
      out := smapSet 0 (smapSet 0 s.dsp.out (outId u) r.1.post) (outId (u + 1)) r.2.1.post, dir := d } }

/-- A bus, main or matrix strip whose core overran: its output reads as zero (R30). -/
def zeroMix (s : State) (u : Nat) : State :=
  let s := zeroMeters s u
  { s with dsp := { s.dsp with out := smapDel s.dsp.out (outId u), dir := smapDel s.dsp.dir u } }

end Sys2Proof.Machine
end

