-- ==== Sys2Proof/Machine/Sends.lean ====
section
/-! DEFINITION. Sends, Confluence and matrix (04_sends_buses_confluence.md): the gains of the crosspoints (R79 to R81), the
partials (R82, R83), the bus sums (R84, R85), main and matrix inputs (R72, R90, R92) and the per-column crossfade (R86 to R89). -/
namespace Sys2Proof.Machine

/-- The LINK bit that governs the pair of unit `u` (R67), in the words `get` returns. -/
def linkBit (get : Nat → Nat) (u : Nat) : Bool := (get (pidStrip (u - u % 2) 0)).testBit 25

/-- The gain entry 4γ + 2 PRE + ON of a crosspoint from its governing word (R79 to R81). -/
def gainEntry (law : Nat) (inPair outPair pre : Bool) (i b w : Nat) : Nat :=
  let on := w.testBit 25
  let p := bits w 23 16
  let f :=
    if inPair then
      (if outPair then
        (if i % 2 = 0 && b % 2 = 0 then balL p else if i % 2 = 1 && b % 2 = 1 then balR p else 0)
      else 2 ^ 30)
    else if outPair then (if b % 2 = 0 then panL law p else panR law p)
    else 2 ^ 31
  4 * conv on (bits w 15 0) f + (if pre && w.testBit 24 then 2 else 0) + ofBool on

/-- MIX_CTL.PAN_LAW. -/
def panLaw (get : Nat → Nat) : Nat := bits (get pidMixCtl) 1 0

/-- The gain entry of send crosspoint (i, b) (R79). -/
def sendEntry (get : Nat → Nat) (i b : Nat) : Nat :=
  let ip := linkBit get i
  let bp := linkBit get (1024 + b)
  gainEntry (panLaw get) ip bp true i b
    (get (pidSend (if ip then i - i % 2 else i) (if bp then b - b % 2 else b)))

/-- Scope unit of matrix source k: bus k or main k − 256. -/
def srcUnit (k : Nat) : Nat := if k < 256 then 1024 + k else 1280 + (k - 256)

/-- The gain entry of matrix crosspoint (k, x) (R90). -/
def matEntry (get : Nat → Nat) (k x : Nat) : Nat :=
  let kp := linkBit get (srcUnit k)
  let xp := linkBit get (1296 + x)
  gainEntry (panLaw get) kp xp false k x
    (get (pidMsend (if kp then k - k % 2 else k) (if xp then x - x % 2 else x)))

/-- A column key: bus b is b, matrix strip x is 256 + x. Its planes, number of sources, and entry of source i. -/
def colKey (c i : Nat) : Nat := if c < 256 then 256 * i + c else 128 * i + (c - 256)
def colSources (c : Nat) : Nat := if c < 256 then 1024 else 272
def colEntry (get : Nat → Nat) (c i : Nat) : Nat := if c < 256 then sendEntry get i c else matEntry get i (c - 256)
/-- Scope unit of a column's strip. -/
def colUnit (c : Nat) : Nat := if c < 256 then 1024 + c else 1296 + (c - 256)
/-- Whether plane key `k` lies in column `c` of its plane. -/
def inCol (c k : Nat) : Bool := if c < 256 then k % 256 == c else k % 128 == c - 256

def livePlane (m : Mix) (c : Nat) : List (Nat × Nat) := if c < 256 then m.live else m.mlive
def prevPlane (m : Mix) (c : Nat) : List (Nat × Nat) := if c < 256 then m.prev else m.mprev
def pendPlane (m : Mix) (c : Nat) : List (Nat × Nat) := if c < 256 then m.pend else m.mpend
def stgPlane (m : Mix) (c : Nat) : List (Nat × Nat) := if c < 256 then m.stg else m.mstg
def setLive (m : Mix) (c : Nat) (p : List (Nat × Nat)) : Mix := if c < 256 then { m with live := p } else { m with mlive := p }
def setPrev (m : Mix) (c : Nat) (p : List (Nat × Nat)) : Mix := if c < 256 then { m with prev := p } else { m with mprev := p }
def setPend (m : Mix) (c : Nat) (p : List (Nat × Nat)) : Mix := if c < 256 then { m with pend := p } else { m with mpend := p }
def setStg (m : Mix) (c : Nat) (p : List (Nat × Nat)) : Mix := if c < 256 then { m with stg := p } else { m with mstg := p }

/-- The entries of one column of a plane, and a plane without them. -/
def colOf (p : List (Nat × Nat)) (c : Nat) : List (Nat × Nat) := p.filter (fun e => inCol c e.1)
def colDrop (p : List (Nat × Nat)) (c : Nat) : List (Nat × Nat) := p.filter (fun e => !inCol c e.1)
/-- A plane with column `c` replaced by the listed entries. -/
def colPut (p : List (Nat × Nat)) (c : Nat) (es : List (Nat × Nat)) : List (Nat × Nat) :=
  es.foldl (fun q e => smapPut q e.1 e.2) (colDrop p c)

/-- The planes of a column, and the lowest-numbered one that holds neither LIVE nor PREV (R111). -/
def planesOf (m : Mix) (c : Nat) : Planes := smapGet ⟨0, none, none⟩ m.planes c
def setPlanes (m : Mix) (c : Nat) (p : Planes) : Mix := { m with planes := smapSet ⟨0, none, none⟩ m.planes c p }
def freePlane (p : Planes) : Nat := (([0, 1, 2].filter (fun k => k != p.live && some k != p.prev)).head?).getD 0
/-- A column's staged or pending set takes its free plane. -/
def holdPlane (m : Mix) (c : Nat) : Mix :=
  let p := planesOf m c
  setPlanes m c { p with held := some (p.held.getD (freePlane p)) }
/-- The held plane becomes LIVE, and the former LIVE plane PREV where the column crossfades (R112). -/
def turnPlanes (m : Mix) (c : Nat) (xf : Bool) : Mix :=
  let p := planesOf m c
  setPlanes m c ⟨p.held.getD (freePlane p), if xf then some p.live else none, none⟩
/-- The PREV plane is free again. -/
def dropPrev (m : Mix) (c : Nat) : Mix :=
  let m := setPrev m c (colDrop (prevPlane m c) c)
  setPlanes m c { planesOf m c with prev := none }

/-- The set of column `c` that a further change builds on: the pending set while one is held, else LIVE (R87). -/
def heldCol (m : Mix) (c : Nat) : List (Nat × Nat) :=
  match smapFind m.xf c with
  | some ⟨_, _, some _⟩ => colOf (pendPlane m c) c
  | _ => colOf (livePlane m c) c
/-- The committed entry of source i in column c. -/
def committed (m : Mix) (c i : Nat) : Nat := smapGet 0 (heldCol m c) (colKey c i)
/-- The staged entry of source i in column c. -/
def stagedEntry (m : Mix) (c i : Nat) : Nat := smapGet 0 (stgPlane m c) (colKey c i)

/-- The column that crossfades with `c` as one unit when the pair is linked (R88). -/
def colPair (get : Nat → Nat) (c : Nat) : List Nat :=
  if linkBit get (colUnit c) then [c - c % 2, c - c % 2 + 1] else [c]

/-- L of R86 and R87. -/
def xfLen (s : State) (nRamp : Nat) : Nat := min (max nRamp (sendXfMin s)) 16777215

/-- Replace the listed sources' entries of column `c` in a plane by those that `f` gives. -/
def colUpdate (f : Nat → Nat) (c : Nat) (p : List (Nat × Nat)) (srcs : List Nat) : List (Nat × Nat) :=
  srcs.foldl (fun q i => smapSet 0 q (colKey c i) (f i)) p

/-- Stage column `c` whole (R111): its committed set, with the listed sources' gains derived from the words `get` returns. -/
def stageCol (get : Nat → Nat) (srcs : List Nat) (s : State) (c : Nat) : State :=
  let m := s.mix
  let p := colPut (stgPlane m c) c (heldCol m c)
  { s with mix := holdPlane (setStg m c (colUpdate (colEntry get c) c p srcs)) c }

/-- Start the crossfade of column `c` at `n` toward the plane column built by `upd` from LIVE (R86, R112): PREV takes the
former LIVE; L = 0 switches at once. -/
def startCol (s : State) (n len c : Nat) (upd : List (Nat × Nat) → List (Nat × Nat)) : State :=
  let old := colOf (livePlane s.mix c) c
  let m := turnPlanes s.mix c (len != 0)
  let m := setLive m c (upd (livePlane m c))
  if len = 0 then { s with mix := m }
  else
    let m := setPrev m c (colPut (prevPlane m c) c old)
    { s with mix := { m with xf := smapPut m.xf c ⟨n, len, none⟩ } }

/-- Hold the staged gains of the listed sources of column `c` as pending (R87). A column of a linked pair that does not crossfade
itself waits with its partner (R88). -/
def queueCol (s : State) (n nRamp c : Nat) (srcs : List Nat) : State :=
  let m := s.mix
  let r := (smapFind m.xf c).getD ⟨n, 0, none⟩
  let m := holdPlane (setPend m c (colUpdate (stagedEntry m c) c (colPut (pendPlane m c) c (heldCol m c)) srcs)) c
  { s with mix := { m with xf := smapPut m.xf c { r with pend := some nRamp } } }

/-- A committed change of the listed sources of one column at sample `n` (R86 to R88): it starts a crossfade, or is queued
when the column, or the other column of a linked pair, crossfades. `words` are the send words that take part, with their ramp
lengths. -/
def commitCol (s : State) (n : Nat) (words : List (Nat × Nat)) (c : Nat) (srcs : List Nat) : State :=
  let unit := colPair (plive s) c
  let changed := unit.any (fun d => srcs.any (fun i => committed s.mix d i != stagedEntry s.mix d i))
  let busy := unit.any (fun d => (smapFind s.mix.xf d).isSome)
  let nRamp := words.foldl (fun a w => max a w.2) 0
  let overs := words.filter (fun w => (smapFind s.mix.queued w.1).isSome)
  if busy && (changed || !overs.isEmpty) then
    let s := count s R.F_CONFL_XP_SUMP_CNT_XP_SUMP_CNT overs.length
    let s := stick s R.F_CONFL_STAT_QUEUE_S
    let s := unit.foldl (fun s d => queueCol s n nRamp d srcs) s
    { s with mix := { s.mix with queued := words.foldl (fun q w => smapPut q w.1 c) s.mix.queued } }
  else if changed then
    unit.foldl (fun s d => startCol s n (xfLen s nRamp) d (fun p => colUpdate (stagedEntry s.mix d) d p srcs)) s
  else s

/-- Column `c` crossfades in sample `n`. -/
def colRuns (s : State) (n c : Nat) : Bool :=
  match smapFind s.mix.xf c with
  | some r => decide (idxAge n r.start < r.len)
  | none => false

/-- A column whose crossfade has ended while its partner crossfades: PREV is free, and a pending set waits (R88). -/
def freeCol (s : State) (c : Nat) : State :=
  let m := dropPrev s.mix c
  match smapFind m.xf c with
  | some ⟨a, _, some k⟩ => { s with mix := { m with xf := smapPut m.xf c ⟨a, 0, some k⟩ } }
  | _ => { s with mix := { m with xf := smapDel m.xf c } }

/-- A column that has no crossfade and no pending set. -/
def clearCol (s : State) (c : Nat) : State :=
  let m := dropPrev s.mix c
  let m := setPend m c (colDrop (pendPlane m c) c)
  { s with mix := { m with xf := smapDel m.xf c, queued := m.queued.filter (fun q => q.2 != c) } }

/-- A pending set that equals LIVE is dropped, and its plane is free. -/
def dropHeld (s : State) (c : Nat) : State :=
  { s with mix := setPlanes s.mix c { planesOf s.mix c with held := none } }

/-- R87, R88: the end of the crossfade of a column, or of the two columns of a linked pair as one unit, at n_e = start + L: PREV is
freed and the pending sets start their crossfade together, with one L. -/
def endUnit (s : State) (unit : List Nat) : State :=
  if unit.any (colRuns s (nowIdx s)) then
    unit.foldl (fun s d => if colRuns s (nowIdx s) d then s else freeCol s d) s
  else
    let recs := unit.filterMap (fun d => smapFind s.mix.xf d)
    let pend := recs.filterMap (fun r => r.pend)
    let new := unit.map (fun d => (d, heldCol s.mix d))
    match recs.find? (fun r => r.len != 0) with
    | none => s
    | some r =>
      let s := unit.foldl clearCol s
      if pend.isEmpty || new.all (fun e => colOf (livePlane s.mix e.1) e.1 == e.2) then unit.foldl dropHeld s
      else new.foldl (fun s e =>
        startCol s (idxAdd r.start r.len) (xfLen s (pend.foldl max 0)) e.1 (fun p => colPut p e.1 e.2)) s

/-- End the crossfade of a column and, in a linked pair, of its partner (R88). -/
def endColPair (s : State) (c : Nat) : State := endUnit s (colPair (plive s) c)

/-! Partials and sums. -/

/-- The exact sum of R82 for mix group `m` (64 strips) and bus `b` in a plane. -/
def partialSum (s : State) (plane : List (Nat × Nat)) (m b : Nat) : Int :=
  plane.foldl (fun acc e =>
    if e.1 % 256 = b && e.1 / 256 / 64 = m then
      let i := e.1 / 256
      acc + smapGet 0 (if e.2.testBit 1 then s.dsp.pre else s.dsp.post) i * ((e.2 / 4 : Nat) : Int)
    else acc) 0

/-- The partial that mix group `m` delivers for bus `b` in sample `n` (R82, R83). -/
def partialOf (s : State) (n m b : Nat) : Int :=
  let qb := shrInt (partialSum s s.mix.live m b) 22
  match smapFind s.mix.xf b with
  | some r =>
    if idxAge n r.start < r.len then
      let qa := shrInt (partialSum s s.mix.prev m b) 22
      qa + shrInt ((qb - qa) * rho (idxAge n r.start) r.len) 31
    else qb
  | none => qb

/-- The partials of a mix core that met its window; a leaf the core's instructions have written stays. -/
def mixCore (s : State) (n m : Nat) : State :=
  { s with mix := { s.mix with leaf := (List.range 256).foldl (fun l b =>
      match smapFind l (256 * m + b) with
      | some _ => l
      | none => smapSet 0 l (256 * m + b) (partialOf s n m b)) s.mix.leaf } }

/-- A mix core that overran: its leaf counts as zero for every bus (R30, R84). -/
def zeroLeaves (s : State) (m : Nat) : State :=
  { s with mix := { s.mix with leaf := s.mix.leaf.filter (fun e => e.1 / 256 != m) } }

/-- S_b of R84: the exact sum of the 16 leaves in tree order. -/
def busSum (s : State) (b : Nat) : Int :=
  let p := fun m => smapGet 0 s.mix.leaf (256 * m + b)
  (((p 0 + p 1) + (p 2 + p 3)) + ((p 4 + p 5) + (p 6 + p 7))) +
    (((p 8 + p 9) + (p 10 + p 11)) + ((p 12 + p 13) + (p 14 + p 15)))

/-- Scratchpad address of core c (01_engine_at_scale.md, internal address map). -/
def scratch (c off : Nat) : Nat := 0x0100000000 + c * 0x40000 + off

/-- The core that carries a tile (SCHED_TILE). -/
def tileCore (s : State) (t : Nat) : Nat := getF s (R.F_SCHED_TILE_CORE t)

/-- R85: deliver the sum of bus `b` to its section core, counting a saturation (R84). -/
def deliverBus (s : State) (b : Nat) : State :=
  let x := busSum s b
  let v := satQ x
  let s := if satHits 40 x then
      let s := stick (count s R.F_CONFL_SAT_CNT_SAT_CNT 1) R.F_CONFL_STAT_SAT_S
      setF (setF s R.F_CONFL_SAT_LAST_IDX (nowIdx s)) R.F_CONFL_SAT_LAST_BUS b
    else s
  let s := { s with mix := { s.mix with sum := smapSet 0 s.mix.sum b v } }
  writeWord s (scratch (tileCore s (64 + b / 16)) (0x3FD00 + 8 * (b % 32))) 8 (lowBits 64 v)

/-- Confluence in the first 64 cycles of DB: every bus, the highest first, so that CONFL_SAT_LAST keeps the lowest. -/
def confluence (s : State) : State := ((List.range 256).reverse).foldl deliverBus s

/-- The output of bus or main k in the running Ts. -/
def srcOut (s : State) (k : Nat) : Int := smapGet 0 s.dsp.out (if k < 256 then 0xD00 + k else 0xE00 + (k - 256))

/-- Address of source k in the exchange area of section core c (R91), and the output that stands there. -/
def exAddr (c k : Nat) : Nat := scratch c (0x3F000 + 8 * k)
def exVal (s : State) (c k : Nat) : Int := sext 40 (readWord s (exAddr c k) 8)

/-- The tile that forms source k, and the sources that tile t forms. -/
def sourceTile (k : Nat) : Nat := if k < 256 then 64 + k / 16 else 80
def tileSources (t : Nat) : List Nat :=
  if 64 ≤ t && t < 80 then tabulate 16 (fun i => 16 * (t - 64) + i) else if t = 80 then tabulate 16 (fun i => 256 + i) else []

/-- Section core c writes the outputs of the buses or mains of tile t into its own exchange area (R91); those of a core that
overran count as zero. -/
def putTile (s : State) (c t : Nat) : State :=
  (tileSources t).foldl (fun s k => writeWord s (exAddr c k) 8 (lowBits 64 (srcOut s k))) s

/-- The input of main m (R72), from the copies that its core holds (R91). -/
def mainInput (s : State) (n m : Nat) : Int :=
  satQ ((List.range 256).foldl (fun acc b =>
    let v := exVal s (tileCore s 80) b
    let p := xfAt s n (xkAssign (1024 + b) m)
    acc + (match p.2 with
      | none => if p.1 = 1 then v else 0
      | some (o, w) =>
        if p.1 = 1 && o = 0 then mulQ v w
        else if p.1 = 0 && o = 1 then v - mulQ v w
        else if p.1 = 1 then v else 0)) 0)

/-- The exact matrix sum of R90 over a plane, from the copies that the matrix strip's core holds (R91). -/
def matSum (s : State) (plane : List (Nat × Nat)) (x : Nat) : Int :=
  plane.foldl (fun acc e =>
    if e.1 % 128 = x then acc + exVal s (tileCore s (81 + x / 16)) (e.1 / 128) * ((e.2 / 4 : Nat) : Int) else acc) 0

/-- The input of matrix strip x (R90, R92). -/
def matInput (s : State) (n x : Nat) : Int :=
  let bx := matSum s s.mix.mlive x
  let v := match smapFind s.mix.xf (256 + x) with
    | some r =>
      if idxAge n r.start < r.len then
        let ax := matSum s s.mix.mprev x
        ax + shrInt ((bx - ax) * rho (idxAge n r.start) r.len) 31
      else bx
    | none => bx
  satQ (shrInt v 26)

/-- Run one tile of section cores: bus tile (64 to 79), main tile (80), matrix tile (81 to 88). -/
def runMixTile (s : State) (n t : Nat) : State :=
  let base := if t < 80 then 1024 + 16 * (t - 64) else if t = 80 then 1280 else 1296 + 16 * (t - 81)
  let inp := fun (s : State) (u : Nat) =>
    if u < 1280 then smapGet 0 s.mix.sum (u - 1024)
    else if u < 1296 then mainInput s n (u - 1280)
    else matInput s n (u - 1296)
  (List.range 8).foldl (fun s k =>
    let u := base + 2 * k
    runMixPair s n u (inp s u) (inp s (u + 1))) s

/-- The tile's outputs read as zero (R30). -/
def zeroMixTile (s : State) (t : Nat) : State :=
  let base := if t < 80 then 1024 + 16 * (t - 64) else if t = 80 then 1280 else 1296 + 16 * (t - 81)
  (List.range 16).foldl (fun s k => zeroMix s (base + k)) s

/-- KIND of a core (SCHED_CORE). -/
def coreKind (s : State) (c : Nat) : Nat := getF s (R.F_SCHED_CORE_KIND c)

/-- R91: copy the words of sources `ks` from the areas of the cores that form them into the areas of all section cores. -/
def exchange (s : State) (ks : List Nat) : State :=
  let ws := ks.map (fun k => (k, readWord s (exAddr (tileCore s (sourceTile k)) k) 8))
  ((List.range 64).filter (fun c => coreKind s c = 3)).foldl (fun s c =>
    ws.foldl (fun s w => writeWord s (exAddr c w.1) 8 w.2) s) s

/-- A partial issued after phase C is discarded and counted (R85). -/
def latePartial (s : State) : State :=
  stick (count s R.F_CONFL_LATE_SUMP_CNT_LATE_SUMP_CNT 1) R.F_CONFL_STAT_LATE_S

end Sys2Proof.Machine
end

