-- ==== Sys2Proof/Machine/Intake.lean ====
section
/-! DEFINITION. Intake, phase A of Ts n: generators (R77), sources (R57), source select and alignment delay (R64, R70), the
silence detectors and dormancy (R33 to R38). -/
namespace Sys2Proof.Machine

/-! Generators (R77). -/

/-- One sample of a generator of the given type: its output in Q1.31, phase and noise register after it. -/
def genStep (fs ty f amp phi reg : Nat) : Int × Nat × Nat :=
  match ty with
  | 1 => (min (sineOf amp phi) (2 ^ 31 - 1), (phi + phaseStep fs f) % 2 ^ 32, reg)
  | 2 => let r := prngStep reg; (mulQ (sext 32 r) (amp : Int), phi, r)
  | 3 => (min (amp : Int) (2 ^ 31 - 1), phi, reg)
  | _ => (0, phi, reg)

/-- Run generator `g` for sample n: the output enters the source pool at 0xCE0 + g. -/
def runGen (n : Nat) (s : State) (g : Nat) : State :=
  let f := codeAt s n (pidGenA g)
  let a := lin (min (codeAt s n (pidGenB g)) 0xE000)
  let p := xfAt s n (xkGen g)
  let phi := fun k => smapGet 0 s.dsp.genPhi k
  let reg := fun k => smapGet (g + 1) s.dsp.genReg k
  let x := genStep (fsHz s) p.1 f a (phi (2 * g)) (reg (2 * g))
  let y := match p.2 with
    | some (o, w) =>
      let z := genStep (fsHz s) o f a (phi (2 * g + 1)) (reg (2 * g + 1))
      (xmix z.1 x.1 w, some z)
    | none => (x.1, none)
  let ph := smapSet 0 s.dsp.genPhi (2 * g) x.2.1
  let rg := smapSet (g + 1) s.dsp.genReg (2 * g) x.2.2
  let pr := match y.2 with
    | some z => (smapSet 0 ph (2 * g + 1) z.2.1, smapPut rg (2 * g + 1) z.2.2)
    | none => (ph, rg)
  { s with dsp := { s.dsp with src := smapSet 0 s.dsp.src (0xCE0 + g) y.1, genPhi := pr.1, genReg := pr.2 } }

/-- The generators return to their reset state (R77). -/
def resetGens (s : State) : State := { s with dsp := { s.dsp with genPhi := [], genReg := [] } }

/-! FX returns (R188). -/

/-- The FX core that carries a slot, and the slot's position in it (SCHED_CORE). -/
def fxCoreOf (s : State) (slot : Nat) : Option (Nat × Nat) :=
  match (List.range 64).find? (fun c => coreKind s c == 4 && decide (getF s (R.F_SCHED_CORE_BASE c) ≤ slot) &&
      decide (slot < getF s (R.F_SCHED_CORE_BASE c) + getF s (R.F_SCHED_CORE_COUNT c))) with
  | some c => some (c, slot - getF s (R.F_SCHED_CORE_BASE c))
  | none => none

/-- Address of word `w` of the mailbox of slot position j for the traffic of sample n. -/
def mailbox (c j n w : Nat) : Nat := scratch c (0x3F800 + 0x80 * j + 0x40 * (n % 2) + 4 * w)

/-- Whether a core is held in reset. -/
def coreIsHeld (s : State) (c : Nat) : Bool :=
  match smapFind s.cores c with
  | some k => k.held
  | none => true

/-- Present the returns of a slot, written in Ts n − 1 for sample n − 2. -/
def presentFx (n : Nat) (s : State) (slot : Nat) : State :=
  let v := fun (side : Nat) => match fxCoreOf s slot with
    | some (c, j) => if coreIsHeld s c || s.dsp.fxOver.contains c then 0 else sext 32 (readWord s (mailbox c j n (2 + side)) 4)
    | none => 0
  { s with dsp := { s.dsp with
      src := smapSet 0 (smapSet 0 s.dsp.src (0xC80 + 2 * slot) (v 0)) (0xC81 + 2 * slot) (v 1) } }

/-! Bus, main and matrix outputs as sources (R44, R57). -/

/-- The source IDs that a crossfade point of SRC or INS_RET has in use. -/
def pickedSrc (x : Nat × Option (Nat × Int)) : List Nat :=
  match x.2 with
  | some (o, _) => [x.1 % 4096, o % 4096]
  | none => [x.1 % 4096]
def pickedIns (x : Nat × Option (Nat × Int)) : List Nat :=
  let id := fun (set : Nat) => if set % 2 = 1 then [set / 8] else []
  match x.2 with
  | some (o, _) => id x.1 ++ id o
  | none => id x.1

/-- Every source ID that some strip or insert return selects in sample n; strip words select none under another graph (R55). -/
def pickedIds (s : State) (n : Nat) : List Nat :=
  if stdGraph s then
    (List.range 1024).flatMap (fun u => pickedSrc (xfAt s n (xkSrc u))) ++
    (List.range 1424).flatMap (fun u => pickedIns (xfAt s n (xkIns u)))
  else []

/-- Count a clip of a Q9.31 value to Q1.31 (R57, R75). -/
def countClip (s : State) (v : Int) : State :=
  if satHits 32 v then stick (count s R.F_STRIP_OUT_SAT_CNT_SAT_CNT 1) R.F_STRIP_STAT_OUT_SAT_S else s

/-- Present output ID 0xD00 + k of Ts n − 1, clipped once per sample when something selects it. -/
def presentOut (used : List Nat) (s : State) (id : Nat) : State :=
  let v := smapGet 0 s.dsp.outPrev id
  let s := if used.contains id then countClip s v else s
  { s with dsp := { s.dsp with src := smapSet 0 s.dsp.src id (sat32 v) } }

/-! Source select, crossfade and alignment delay (R65, R70). -/

def alignKey (u n : Nat) : Nat := 8192 * u + n % 8192

/-- The positions of its line that a crossfade point of DELAY reads. -/
def delaysRead (x : Nat × Option (Nat × Int)) : List Nat :=
  match x.2 with
  | some (o, _) => [x.1 % 8192, o % 8192]
  | none => [x.1 % 8192]

/-- The alignment line of strip u in sample n, as the intake DMA, master 6, reaches it (R202, R203): whether the write lands, the
line after it, and what a read `d` samples back returns. -/
def alignWrites (s : State) (u n : Nat) : Bool := bankAdmits s (Config.alignBank u (n % 8192) % 64) 6 true
def alignLine (s : State) (u n : Nat) (v : Int) : List (Nat × Int) :=
  if alignWrites s u n then smapSet 0 s.dsp.align (alignKey u n) v else s.dsp.align
def alignReads (s : State) (u n d : Nat) : Bool := bankAdmits s (Config.alignBank u ((n + 8192 - d) % 8192) % 64) 6 false
def alignTap (s : State) (u n : Nat) (l : List (Nat × Int)) (d : Nat) : Int :=
  if alignReads s u n d then smapGet 0 l (alignKey u (n + 8192 - d)) else 0

/-- The refusals that the intake of strip u meets (R203). -/
def alignRefused (s : State) (u n : Nat) (ds : List Nat) : State :=
  let b := fun k => Config.alignBank u (k % 8192) % 64
  let s := if alignWrites s u n then s else ownRefuse s (b n) 6 false true
  (ds.filter (fun d => !alignReads s u n d)).foldl (fun s d => ownRefuse s (b (n + 8192 - d)) 6 false false) s

/-- The five stages of an input strip's intake. -/
def intakeStrip (n : Nat) (s : State) (u : Nat) : State :=
  let v := xfMix (xfAt s n (xkSrc u)) (fun set => srcVal s (set % 4096))
  let al := alignLine s u n v
  let p := xfAt s n (xkDelay u)
  let x := xfMix p (fun d => alignTap s u n al (d % 8192))
  let s := alignRefused s u n (delaysRead p)
  { s with dsp := { s.dsp with align := al, x0 := smapSet 0 s.dsp.x0 u x } }

/-! Silence detectors (R33 to R37, R76). -/

/-- The threshold and hold word of strip u. -/
def dormWord (s : State) (u : Nat) : Nat :=
  if (plive s (pidStrip u 5)).testBit 1 then plive s pidDormDef else plive s (pidStrip u 4)

/-- Dormancy is enabled for strip u (R76). The words that enable it are the standard graph's: under another one no strip sleeps
(R55; DESIGN CHOICE, in the log). -/
def dormEnabled (s : State) (u : Nat) : Bool :=
  stdGraph s && (plive s pidDormCtl).testBit 0 && (plive s (pidStrip u 5)).testBit 0

/-- The hold counter of strip u after sample x (R34). -/
def holdStep (s : State) (u : Nat) : Nat :=
  let x := smapGet 0 s.dsp.x0 u
  if x.natAbs < lin (bits (dormWord s u) 15 0) then min (smapGet 0 s.sched.hold u + 1) 16777215 else 0

/-- H of R33. -/
def holdLen (s : State) (u : Nat) : Nat := max 1 (min 16777215 (samplesOf (fsHz s) (bits (dormWord s u) 31 16)))

/-- The key words of strip u govern a detector: those of the odd strip of a linked pair select nothing (R37, R67). -/
def keysGovern (s : State) (n u : Nat) : Bool :=
  u % 2 == 0 || (match linkAt s n u with
    | (1, none) => false
    | _ => true)

/-- The strips that are sidechain keys in use (R37), as a bit mask. -/
def keyMask (s : State) (n : Nat) : Nat :=
  (List.range 1024).foldl (fun m u =>
    if keysGovern s n u then
      let g := plive s (pidStrip u 7)
      let c := plive s (pidStrip u 8)
      let on := fun (x : Nat × Option (Nat × Int)) => x.1 == 1 || x.2.isSome
      let m := if g.testBit 15 && on (xfAt s n (xkGate u)) then m ||| 2 ^ (bits g 9 0) else m
      if c.testBit 15 && on (xfAt s n (xkComp u)) then m ||| 2 ^ (bits c 9 0) else m
    else m) 0

/-- The strips on which a route crossfade runs; a LINK crossfade runs on both strips of the pair. -/
def xfMask (s : State) (n : Nat) : Nat :=
  s.dsp.xf.foldl (fun m e =>
    if e.1 < 65536 && idxAge n e.2.start < e.2.len then
      m ||| (if e.1 % 64 = 18 then 3 * 2 ^ (e.1 / 64) else 2 ^ (e.1 / 64))
    else m) 0

/-- The strips that would be dormant in sample n, each judged by itself (R34). -/
def sleepers (s : State) (n : Nat) : Nat :=
  let bar := keyMask s n ||| xfMask s n ||| s.dsp.srcMoved.foldl (fun m u => m ||| 2 ^ u) 0
  (List.range 1024).foldl (fun m u =>
    if dormEnabled s u && decide (holdLen s u ≤ smapGet 0 s.sched.hold u) && !bar.testBit u then m + 2 ^ u else m) 0

/-- A linked pair sleeps only together (R67). -/
def pairSleep (s : State) (n m : Nat) : Nat :=
  (List.range 512).foldl (fun a k =>
    let two := bits m (2 * k + 1) (2 * k)
    let both := if (linkAt s n (2 * k)).1 = 1 && two != 3 then 0 else two
    a + both * 2 ^ (2 * k)) 0

/-- Input tiles with all 16 strips dormant. -/
def tilesGated (d : Nat) : Nat := (List.range 64).foldl (fun a t => if bits d (16 * t + 15) (16 * t) = 65535 then a + 1 else a) 0

/-- The dormancy decision and what it writes: masks in the strip cores, SCHED_DORM, and the ramps of sleeping strips, which
end at their targets (R34, R35, R38). -/
def silence (s : State) (n : Nat) : State :=
  let s := if stdGraph s then { s with sched := { s.sched with
    hold := (List.range 1024).foldl (fun h u => smapSet 0 h u (holdStep s u)) s.sched.hold } } else s
  let d := pairSleep s n (sleepers s n)
  let s := { s with
    sched := { s.sched with dormant := d },
    slu := { s.slu with ramps := s.slu.ramps.filter (fun e => !(decide (e.1 < 131072) && d.testBit (e.1 / 128))) } }
  let s := (List.range 32).foldl (fun s k => setF s (R.F_SCHED_DORM_DORMANT k) (bits d (32 * k + 31) (32 * k))) s
  let s := setF (setF s R.F_SCHED_DORM_CNT_TILES_GATED (tilesGated d)) R.F_SCHED_DORM_CNT_STRIPS_DORMANT (popCount d 1024)
  ((List.range 64).filter (fun c => coreKind s c == 1)).foldl (fun s c =>
    let b := 16 * getF s (R.F_SCHED_CORE_BASE c)
    writeWord s (scratch c 0x3FFF8) 8 (bits d (b + 63) b)) s

/-- Intake of Ts n. -/
def intake (s : State) (n : Nat) : State :=
  let s := (List.range 32).foldl (runGen n) s
  let s := (List.range 48).foldl (presentFx n) s
  let used := pickedIds s n
  let s := ((List.range 400).map (fun k => 0xD00 + k)).foldl (presentOut used) s
  let s := if stdGraph s then (List.range 1024).foldl (intakeStrip n) s else s
  silence s n

end Sys2Proof.Machine
end

