-- ==== Sys2Proof/Machine/Scene.lean ====
section
/-! DEFINITION. The show in flash, the scene buffer and scene records (05_sluice_scenes.md, R123 to R132). -/
namespace Sys2Proof.Machine

/-- The scene buffer: banks 140 to 143 (R11, "Scene buffer"). -/
def bufAddr : Nat := 140 * 0x80000

/-- Number of words of the words 32-bit mask: 87 (R123). -/
def maskWords : Nat := 87

/-- Bit of scope unit u in a list of mask words (R125). -/
def maskBit (m : List Nat) (u : Nat) : Bool := (nth 0 m (u / 32)).testBit (u % 32)

/-- The scope units a mask selects (R123). -/
def maskUnits (m : List Nat) : List Nat := (List.range 2770).filter (maskBit m)

/-- Whether a mask has a bit above unit 2,769 (refused with BAD_ARG). -/
def maskBad (m : List Nat) : Bool := decide (2 ^ 18 ≤ nth 0 m 86)

/-- The SAFE words in effect (R121 table: 0x3_C040 + w). -/
def safeMask (s : State) : List Nat := tabulate maskWords (fun w => plive s (0x3C040 + w))

/-- A directory copy checks: magic and CRC of its entries (R126). -/
def dirChecks (s : State) (k : Nat) : Bool :=
  let a := s.slu.buf.showBase + 0x10000 * k
  readWord s a 4 == 0x5A534449 && readWord s (a + 8) 4 == crc32 (readBytes s (a + 16) 16384)

/-- The copy with the higher sequence number among those that check (R126); of equal ones copy 0 (DESIGN CHOICE, in the log). -/
def dirSelect (s : State) : Option Nat :=
  let q := fun k => readWord s (s.slu.buf.showBase + 0x10000 * k + 4) 4
  match dirChecks s 0, dirChecks s 1 with
  | true, true => if q 0 < q 1 then some 1 else some 0
  | true, false => some 0
  | false, true => some 1
  | false, false => none

/-- Directory entry of a scene: record offset (0 = empty), length and CRC. -/
def dirEntry (s : State) (scene : Nat) : Nat × Nat × Nat :=
  match s.slu.buf.dir with
  | none => (0, 0, 0)
  | some k =>
    let a := s.slu.buf.showBase + 0x10000 * k + 16 + 16 * scene
    (readWord s a 4, readWord s (a + 4) 4, readWord s (a + 8) 4)

/-- Record length S for a scope (R125). -/
def recordLen (units : List Nat) : Nat := 428 + 4 * (units.foldl (fun a u => a + unitLen u) 0)

/-- Insert an interval into a list sorted by start. -/
def insIval (x : Nat × Nat) : List (Nat × Nat) → List (Nat × Nat)
  | [] => [x]
  | y :: r => if x.1 ≤ y.1 then x :: y :: r else y :: insIval x r

/-- The used intervals (offset, end) of show storage: the two directory copies, with the bytes between them (DESIGN CHOICE, in the
log), and every record. -/
def showUsed (s : State) : List (Nat × Nat) :=
  (List.range 1024).foldl (fun l k =>
    let e := dirEntry s k
    if e.1 = 0 then l else insIval (e.1, e.1 + e.2.1) l) [(0, 0x14010)]

/-- The first gap of at least `n` bytes, and the largest gap, of show storage. -/
def showGap (n size : Nat) : List (Nat × Nat) → Nat → Option Nat
  | [], pos => if pos + n ≤ size then some pos else none
  | (a, b) :: r, pos => if pos + n ≤ a then some pos else showGap n size r (max pos b)
def showMaxGap (size : Nat) : List (Nat × Nat) → Nat → Nat
  | [], pos => size - pos
  | (a, b) :: r, pos => max (a - pos) (showMaxGap size r (max pos b))

/-- Room for a record of `n` bytes (R127). -/
def showRoom (s : State) (n : Nat) : Option Nat := showGap n s.slu.buf.showSize (showUsed s) 0

/-- Where a scene is read from: the buffer when it holds it, else its record in flash (R130). -/
def sceneInBuf (s : State) (scene : Nat) : Bool := s.slu.buf.valid && s.slu.buf.scene == scene
def sceneAt (s : State) (scene : Nat) : Nat :=
  if sceneInBuf s scene then bufAddr else s.slu.buf.showBase + (dirEntry s scene).1

/-- The stored scope and the ramp word of class c in a record at address `a` (R125). -/
def recScope (s : State) (a : Nat) : List Nat := tabulate maskWords (fun w => viewWord s 5 (a + 80 + 4 * w) 4)
def recRamp (s : State) (a c : Nat) : Nat := viewWord s 5 (a + 16 + 4 * c) 4

/-- Byte offset in a record of the words of unit `u`: object words stand unit by unit in ascending order (R125). -/
def recOffset (scope : List Nat) (u : Nat) : Nat :=
  428 + 4 * ((maskUnits scope).foldl (fun a v => if v < u then a + unitLen v else a) 0)

/-- The object words of unit `u` in the record at `a`. -/
def recWords (s : State) (a : Nat) (scope : List Nat) (u : Nat) : List (Nat × Nat) :=
  let o := a + recOffset scope u
  tabulate (unitLen u) (fun k => (unitPid u + k, viewWord s 5 (o + 4 * k) 4))

/-- A word of a record, if its scope holds the word's object. -/
def recWord (s : State) (a : Nat) (scope : List Nat) (u k : Nat) : Nat := viewWord s 5 (a + recOffset scope u + 4 * k) 4

/-- The scope unit of a PID, if scenes hold it (R123). -/
def pidUnit (pid : Nat) : Option Nat :=
  match pidKind pid with
  | .strip u _ => some u
  | .fx k _ => some (1424 + k)
  | .send i _ => some (1472 + i)
  | .msend k _ => some (2496 + k)
  | .patch _ => some 2768
  | .glob g => if 0x101 ≤ g && g < 0x1C0 then some 2769 else none

/-- R131: a record checks when its magic, scene number and length fit and the CRC of bytes 16 to S − 1 matches. -/
def recChecks (s : State) (a scene len : Nat) : Bool :=
  viewWord s 5 a 4 == 0x5A534345 && viewWord s 5 (a + 4) 2 == scene && viewWord s 5 (a + 8) 4 == len &&
    viewWord s 5 (a + 12) 4 == crc32 (viewBytes s 5 (a + 16) (len - 16))

/-- Copy a scene's record from flash into the buffer and check it; the buffer is VALID exactly when it checks (R130, R131). -/
def loadScene (s : State) (scene : Nat) : Bool × State :=
  let e := dirEntry s scene
  let n := min e.2.1 0x200000
  let s := scanRange (engineWrite s 5 bufAddr (readBytes s (s.slu.buf.showBase + e.1) n)) 5 bufAddr n
  let ok := e.1 != 0 && e.2.1 ≤ 0x200000 && recChecks s bufAddr scene e.2.1
  (ok, { s with slu := { s.slu with buf := { s.slu.buf with valid := ok, loading := false, preload := false, scene := scene } } })

/-- The format check of a record against STRIP_FMT.OBJ_FMT (R128). -/
def recFormatOk (s : State) (a : Nat) : Bool := viewWord s 5 (a + 6) 2 == getF s R.F_STRIP_FMT_OBJ_FMT

/-- Whether a pending group uses the scene buffer. -/
def memberUsesBuf : Member → Bool
  | .recalled _ _ _ _ _ => true
  | .store _ _ _ _ => true
  | .words _ => false
  | .reg _ _ _ => false

/-- The chip select of a flash address. -/
def chipOf (a : Nat) : Nat := (a - 0x0400000000) / 0x10000000

/-- A field update programs or erases flash (R357): it clones, writes the manifest, or receives with bytes still in the write buffer or
none yet taken, so that the erase of BEGIN may run (DESIGN CHOICE, in the log). -/
def updWrites (s : State) : Bool :=
  let u := s.boot.upd
  u.state == 1 || u.state == 4 || (u.state == 2 && (u.held != 0 || u.next == 0))

/-- The chip select of show storage is busy with a program or erase of the inactive slot (R130). -/
def showChipBusy (s : State) : Bool :=
  match s.boot.map with
  | none => false
  | some m => updWrites s && chipOf (if s.rst.slot = 0 then m.slotB.base else m.slotA.base) == chipOf m.showR.base

/-- The scene buffer is in use, or show storage busy (R130). -/
def bufBusy (s : State) : Bool :=
  s.slu.groups.any (fun g => g.members.any memberUsesBuf) || s.slu.buf.loading || s.slu.buf.storing || showChipBusy s

/-- The errors that a capture meets in the live halves of its units' cells (R208, R209). -/
def scanLive (s : State) (units : List Nat) : State :=
  ((s.bus.ecc.map (fun e => e.1)).filter (fun w =>
    let p := (w - 0x04000000) % 0x200000 / 4
    decide (0x04000000 ≤ w) && decide (w < 0x04400000) && (w - 0x04000000) / 0x200000 == cellBsel s (p / 16) &&
      [p, p + 1].any (fun q => units.any (fun u => decide (unitPid u ≤ q) && decide (q < unitPid u + unitLen u))))).foldl
    (eccTouch false) s

/-- R127: the image of a stored scene written into the buffer from the live words; FLOOD_RAMP, which an urgent write may have changed
since, is the one in effect for sample n_c. -/
def captureScene (s : State) (scene : Nat) (mask : List Nat) (ramps : List Nat) : Nat × State :=
  let units := maskUnits mask
  let len := recordLen units
  let words := units.flatMap (fun u => tabulate (unitLen u) (fun k =>
    if unitPid u + k = pidFloodRamp then s.slu.capRamp else plive s (unitPid u + k)))
  let body := ramps.flatMap (leBytes 4) ++ mask.flatMap (leBytes 4) ++ words.flatMap (leBytes 4)
  let hdr := leBytes 4 0x5A534345 ++ leBytes 2 scene ++ leBytes 2 (getF s R.F_STRIP_FMT_OBJ_FMT) ++ leBytes 4 len ++
    leBytes 4 (crc32 body)
  (len, engineWrite (scanLive s units) 5 bufAddr (hdr ++ body))

/-- The mask that selects every scope unit (06_headrace.md, Bodies: an omitted mask). -/
def fullMask : List Nat := List.replicate 86 0xFFFFFFFF ++ [0x3FFFF]

/-- SLUICE_PRELOAD.LOAD (R130): start loading, or refuse while the buffer is busy. -/
def preloadLoad (s : State) (scene : Nat) : State :=
  if bufBusy s then stick (count s R.F_SLUICE_REFUSE_SUMP_CNT_REFUSE_SUMP_CNT 1) R.F_SLUICE_STAT_REFUSED_S
  else { s with slu := { s.slu with buf := { s.slu.buf with valid := false, loading := true, preload := true, scene := scene } } }

/-- A preload completes: CRC and format check, PRELOAD_DONE_S or PRELOAD_FAIL_S, and EVENT PRELOAD. -/
def preloadDone (s : State) : State :=
  if s.slu.buf.loading && s.slu.buf.preload then
    let scene := s.slu.buf.scene
    let r := loadScene s scene
    let ok := r.1 && recFormatOk r.2 bufAddr
    let s := r.2
    let s := { s with slu := { s.slu with buf := { s.slu.buf with valid := ok } } }
    let s := stick s (if ok then R.F_SLUICE_STAT_PRELOAD_DONE_S else R.F_SLUICE_STAT_PRELOAD_FAIL_S)
    sendEvent s 8 (beBytes 2 scene ++ [if ok then 0 else 1, 0])
  else s

/-- Firmware, a Dexmos core, has written the record and the other directory copy with the next sequence number (R126, R127), or failed. Where
neither copy checks, copy 0 is written with sequence number 1; the buffer stays not valid (DESIGN CHOICES, in the log). -/
def storeDone (s : State) (ok : Bool) : State :=
  if s.slu.buf.storing then
    let scene := s.slu.buf.scene
    let len := s.slu.buf.storeLen
    let s1 := match ok, showRoom s len with
      | true, some off =>
        let base := s.slu.buf.showBase
        let cur := s.slu.buf.dir.getD 1
        let nxt := 1 - cur
        let seq := match s.slu.buf.dir with
          | some k => readWord s (base + 0x10000 * k + 4) 4 + 1
          | none => 1
        let ents := match s.slu.buf.dir with
          | some k => readBytes s (base + 0x10000 * k + 16) 16384
          | none => List.replicate 16384 0
        let crc := viewWord s 0 (bufAddr + 12) 4
        let ents := ents.take (16 * scene) ++ leBytes 4 off ++ leBytes 4 len ++ leBytes 4 crc ++ leBytes 4 0 ++
          ents.drop (16 * scene + 16)
        let s := writeBytes (scanRange s 0 bufAddr len) (base + off) (viewBytes s 0 bufAddr len)
        let s := writeBytes s (base + 0x10000 * nxt)
          (leBytes 4 0x5A534449 ++ leBytes 4 seq ++ leBytes 4 (crc32 ents) ++ leBytes 4 0 ++ ents)
        { s with slu := { s.slu with buf := { s.slu.buf with dir := some nxt } } }
      | _, _ => s
    let s2 := { s1 with slu := { s1.slu with buf := { s1.slu.buf with storing := false } } }
    sendEvent s2 2 (beBytes 2 scene ++ [if ok then 0 else 1, 0])
  else s

end Sys2Proof.Machine
end

