-- ==== Sys2Proof/Machine/Sluice.lean ====
section
/-! DEFINITION. The Sluice (05_sluice_scenes.md): commit groups, the earliest feasible index, staging, the flip, settling, the
urgent lane, ramps and route crossfades. -/
namespace Sys2Proof.Machine

/-! What a member writes. -/

/-- The writes of a member, once its scene is readable (R109 order within the member). -/
def memberWrites (s : State) : Member → List PWrite
  | .words ws => ws
  | .recalled jpos scene units _ _ =>
    let a := sceneAt s scene
    let scope := recScope s a
    units.flatMap (fun u => (recWords s a scope u).map (fun w =>
      let c := match rampFieldOf w.1 with
        | some f => recRamp s a f.cls
        | none => (match pidKind w.1 with
          | .send _ _ => recRamp s a 7
          | .msend _ _ => recRamp s a 8
          | .strip _ _ => 0
          | .fx _ _ => 0
          | .patch _ => 0
          | .glob _ => 0)
      ⟨w.1, w.2, none, some c, jpos⟩))
  | .store _ _ _ _ => []
  | .reg _ _ _ => []

/-- The PID ranges (first, length) that a member writes (R128: whether or not a value changes). -/
def memberRanges : Member → List (Nat × Nat)
  | .words ws => ws.map (fun w => (w.pid, 1))
  | .recalled _ _ units _ _ => units.map (fun u => (unitPid u, unitLen u))
  | .store _ _ _ _ => []
  | .reg _ _ _ => []

/-- The value a member gives a word, if it writes it. -/
def memberValue (s : State) (p : Nat) : Member → Option Nat
  | .words ws => ((ws.filter (fun w => w.pid == p)).getLast?).map (fun w => w.value)
  | .recalled _ scene units _ _ =>
    match pidUnit p with
    | some u => if units.contains u then
        (let a := sceneAt s scene; some (recWord s a (recScope s a) u (p - unitPid u))) else none
    | none => none
  | .store _ _ _ _ => none
  | .reg _ _ _ => none

/-- The value a word will have after the given members (latest first wins), else `base`. -/
def overlay (s : State) (ms : List Member) (base p : Nat) : Nat :=
  match (ms.reverse).findSome? (memberValue s p) with
  | some v => v
  | none => base

/-- The members of every pending group, in journal order. -/
def pendingMembers (s : State) : List Member := s.slu.groups.flatMap (fun g => g.members)

/-! Units and cells (R114). Sets of cells and columns are bit masks. -/

/-- Bits `a` to `a + n - 1`. -/
def bitRange (a n : Nat) : Nat := (2 ^ n - 1) * 2 ^ a

/-- The cells of a range of PIDs. -/
def rangeCells (r : Nat × Nat) : Nat :=
  if r.2 = 0 then 0 else bitRange (r.1 / 16) ((r.1 + r.2 - 1) / 16 - r.1 / 16 + 1)

/-- In a row of destination bits, a linked pair counts both columns when its even word is written, and none for the odd
word (R79, R114). `linked k` says whether pair k is linked. -/
def rowCols (linked : Nat → Bool) (pairs bitsW : Nat) : Nat :=
  (List.range pairs).foldl (fun m k =>
    if linked k then m ||| (if bitsW.testBit (2 * k) then 3 * 2 ^ (2 * k) else 0)
    else m ||| (bitsW &&& (3 * 2 ^ (2 * k)))) 0

/-- Send columns that a range touches: bit 256 m + b for bus b on mix core m. -/
def rangeSendCols (linked : Nat → Bool) (r : Nat × Nat) : Nat :=
  match pidKind r.1 with
  | .send i b => rowCols linked 128 (bitRange b (min r.2 (256 - b))) * 2 ^ (256 * (i / 64))
  | .strip _ _ => 0
  | .fx _ _ => 0
  | .patch _ => 0
  | .msend _ _ => 0
  | .glob _ => 0

/-- Matrix columns that a range touches. -/
def rangeMatCols (linked : Nat → Bool) (r : Nat × Nat) : Nat :=
  match pidKind r.1 with
  | .msend _ x => rowCols linked 64 (bitRange x (min r.2 (128 - x)))
  | .strip _ _ => 0
  | .fx _ _ => 0
  | .patch _ => 0
  | .send _ _ => 0
  | .glob _ => 0

/-- Cells of strip, FX slot, patch-table and engine-global objects (R114, first row). -/
def objectCells : Nat := bitRange 0 0x3380 ||| bitRange 0x3C00 0x400

/-- Every send column and every matrix column. -/
def allSendCols : Nat := bitRange 0 4096
def allMatCols : Nat := bitRange 0 128

/-- Even units whose LINK bit the members change against the value before them (R114). -/
def linkChanges (s : State) (before ms : List Member) : List Nat :=
  ((List.range 712).map (fun k => 2 * k)).filter (fun u =>
    let p := pidStrip u 0
    ms.any (fun m => (memberValue s p m).isSome) &&
      (let old := overlay s before (plive s p) p
       old.testBit 25 != (overlay s ms old p).testBit 25))

/-- Send and matrix columns restaged by a change of LINK of unit u (R114). -/
def linkSendCols (u : Nat) : Nat :=
  if u < 1024 then bitRange (256 * (u / 64)) 256
  else if u < 1280 then (List.range 16).foldl (fun m k => m ||| 3 * 2 ^ (256 * k + (u - 1024))) 0
  else 0
def linkMatCols (u : Nat) : Nat :=
  if u < 1024 then 0 else if u < 1296 then allMatCols else 3 * 2 ^ (u - 1296)

/-- Ranges split so that none crosses a send row or matrix row. -/
def splitRange : Nat → Nat × Nat → List (Nat × Nat)
  | 0, r => [r]
  | f + 1, r =>
    let row := if 0x40000 ≤ r.1 then 256 else 128
    let left := row - r.1 % row
    if 0x33800 ≤ r.1 && left < r.2 then (r.1, left) :: splitRange f (r.1 + left, r.2 - left) else [r]

/-- U_G and W_G of R114 for members `ms` that follow `before`. -/
def groupCost (s : State) (before ms : List Member) : Nat × Nat :=
  let ranges := (ms.flatMap memberRanges).flatMap (splitRange 8)
  let cells := ranges.foldl (fun m r => m ||| rangeCells r) 0
  let all := before ++ ms
  let lk := fun (base k : Nat) =>
    let p := pidStrip (base + 2 * k) 0
    (overlay s all (plive s p) p).testBit 25
  let pl := overlay s before (plive s pidMixCtl) pidMixCtl % 4 != overlay s all (plive s pidMixCtl) pidMixCtl % 4
  let links := linkChanges s before ms
  let sc := ranges.foldl (fun m r => m ||| rangeSendCols (lk 1024) r) 0
  let sc := links.foldl (fun m u => m ||| linkSendCols u) sc
  let sc := if pl then allSendCols else sc
  let mc := ranges.foldl (fun m r => m ||| rangeMatCols (lk 1296) r) 0
  let mc := links.foldl (fun m u => m ||| linkMatCols u) mc
  let mc := if pl then allMatCols else mc
  (popCount (cells &&& objectCells) 32768 + 4 * popCount sc 4096 + 17 * popCount mc 128, popCount cells 32768)

/-- T_load of R130: 4,096 + S CK_PER cycles for each scene the group must load. -/
def loadCost (ms : List Member) : Nat :=
  ms.foldl (fun a m => match m with
    | .recalled _ _ _ true len => a + 4096 + len
    | .recalled _ _ _ false _ => a
    | .words _ => a
    | .store _ _ _ _ => a
    | .reg _ _ _ => a) 0

/-- B_G of R114. -/
def stagingBound (s : State) (before ms : List Member) : Nat :=
  let c := groupCost s before ms
  512 + 8 * (c.1 + c.2) + 8 * loadCost ms

/-- A group that has not flipped: WAIT, OPEN or READY (R107, R115). -/
def unflipped (g : Group) : Bool := g.st != .settle

/-- The earliest feasible index (R115) of a group with members `ms` behind the groups `prior`; `cyc` CK_FAB cycles have
passed since the tick. -/
def nMin (s : State) (cyc : Nat) (prior : List Group) (ms : List Member) : Nat :=
  let before := prior.flatMap (fun g => g.members)
  let b := stagingBound s before ms
  match (prior.filter unflipped).getLast? with
  | none => idxAdd (nowIdx s) (2 + ((s.slu.owed - cyc) + b) / cTs s)
  | some h =>
    let wh := (groupCost s (before.take (before.length - h.members.length)) h.members).2
    idxAdd h.idx (1 + (8 * wh + b) / cTs s)

/-- SLUICE_CFG.MAX_GROUPS: 0 and values above 64 act as 64. -/
def maxGroups (s : State) : Nat :=
  let m := getF s R.F_SLUICE_CFG_MAX_GROUPS
  if m = 0 || 64 < m then 64 else m

/-- What the evaluation of R107 answers: refuse with a NAK code, join the tail, or a new group at an index. -/
inductive Verdict where
  | refuse (code : Nat)
  | join (idx : Nat)
  | form (idx : Nat)
deriving DecidableEq, Repr

/-- R107, step 1: the requested index lies more than SLUICE_MAX_LEAD samples after the running one. A requested index is a sample of
the running count: one that is numerically at or below SMP_IDX is past (DEDUCED, in the log). -/
def tooFar (s : State) (r : Nat) : Bool := decide (nowIdx s + getF s R.F_SLUICE_MAX_LEAD_MAX_LEAD < r)

/-- The later of two indices, as samples after sample n. -/
def idxMax (n a b : Nat) : Nat := if idxAge a n < idxAge b n then b else a

/-- R107 for members `ms` with requested index r. -/
def evaluate (s : State) (cyc r : Nat) (ms : List Member) : Verdict :=
  let n := nowIdx s
  if tooFar s r then .refuse 0x000C
  else
    let gs := s.slu.groups
    let r' := if r ≤ n then idxAdd n 1 else r
    let fresh :=
      if maxGroups s ≤ gs.length then Verdict.refuse 0x000D
      else
        let m := nMin s cyc gs ms
        .form (idxMax n r' (match gs.getLast? with
          | some t => if unflipped t && !t.late then idxMax n m (idxAdd t.idx 1) else m
          | none => m))
    match gs.getLast? with
    | some t =>
      if unflipped t && !t.late && idxAge r' n ≤ idxAge t.idx n && idxAge (nMin s cyc gs.dropLast (t.members ++ ms)) n ≤ idxAge t.idx n then
        .join t.idx
      else fresh
    | none => fresh

/-- Add members to the group at index `idx` if it is the tail and has not flipped, else as a new tail (R105, R108). -/
def joinGroup (s : State) (idx : Nat) (ms : List Member) (replayed : Bool) : State :=
  let gs := s.slu.groups
  let gs' := match gs.getLast? with
    | some t =>
      if unflipped t && t.idx = idx then
        gs.dropLast ++ [{ t with members := t.members ++ ms, st := if t.st = .ready then .opn else t.st }]
      else gs ++ [⟨idx, .wait, false, ms, [], replayed⟩]
    | none => [⟨idx, .opn, false, ms, [], replayed⟩]
  { s with slu := { s.slu with groups := gs' } }

/-! The columns that a group changes (R86 to R89). -/

/-- The last write of each word, by PID. -/
def lastWrites (ws : List PWrite) : List (Nat × PWrite) := ws.foldl (fun m w => smapPut m w.pid w) []

/-- The ramp word that governs a written word of class c (R122), from the words that `get` returns, which hold those that the group
itself commits. -/
def governing (get : Nat → Nat) (w : PWrite) (c : Nat) : Nat :=
  match w.own with
  | some r => r
  | none =>
    match w.recalled with
    | some h => if h.testBit 30 then get (0x3C010 + c) else h
    | none => get (0x3C000 + c)

/-- N of the ramp or crossfade that a write of class c gets. Classes 12 to 15 hold no words. -/
def writeLen (fs : Nat) (get : Nat → Nat) (w : PWrite) (c : Nat) : Nat := rampLen fs (governing get w c)

/-- A change of one column: lead column of its unit, first source, number of sources, and (send word, ramp length). -/
structure ColChange where
  col : Nat
  src : Nat
  num : Nat
  words : List (Nat × Nat)
deriving DecidableEq, Repr

/-- The columns that a group's written words change. -/
def writeCols (fs : Nat) (get : Nat → Nat) (ws : List (Nat × PWrite)) : List ColChange :=
  ws.filterMap (fun e =>
    let w := e.2
    match pidKind w.pid with
    | .send i b =>
      let c := if linkBit get (1024 + b) then b - b % 2 else b
      some ⟨c, i - i % 2, 2, [(w.pid, writeLen fs get w 7)]⟩
    | .msend k x =>
      let c := 256 + (if linkBit get (1296 + x) then x - x % 2 else x)
      some ⟨c, k - k % 2, 2, [(w.pid, writeLen fs get w 8)]⟩
    | .strip _ _ => none
    | .fx _ _ => none
    | .patch _ => none
    | .glob _ => none)

/-- The lead columns of the buses, or of the matrix strips: the even one of a linked pair. -/
def leadBuses (get : Nat → Nat) : List Nat := (List.range 256).filter (fun b => !(linkBit get (1024 + b)) || b % 2 == 0)
def leadMats (get : Nat → Nat) : List Nat := (List.range 128).filter (fun x => !(linkBit get (1296 + x)) || x % 2 == 0)

/-- Columns re-derived by a change of LINK of unit u (R89). -/
def relinkCols (get : Nat → Nat) (u : Nat) : List ColChange :=
  let own := fun (c num : Nat) =>
    if linkBit get u then [ColChange.mk c 0 num []] else [ColChange.mk c 0 num [], ColChange.mk (c + 1) 0 num []]
  if u < 1024 then (leadBuses get).map (fun b => ColChange.mk b u 2 [])
  else if u < 1280 then own (u - 1024) 1024 ++ (leadMats get).map (fun x => ColChange.mk (256 + x) (u - 1024) 2 [])
  else if u < 1296 then (leadMats get).map (fun x => ColChange.mk (256 + x) (256 + (u - 1280)) 2 [])
  else own (256 + (u - 1296)) 272

/-- Every linked pair's columns, re-derived by a change of PAN_LAW (R89). -/
def panCols (get : Nat → Nat) : List ColChange :=
  ((List.range 128).filter (fun k => linkBit get (1024 + 2 * k))).map (fun k => ColChange.mk (2 * k) 0 1024 []) ++
  ((List.range 64).filter (fun k => linkBit get (1296 + 2 * k))).map (fun k => ColChange.mk (256 + 2 * k) 0 272 [])

/-- Merge the changes of one column: its sources and send words. -/
def mergeCols (cs : List ColChange) : List (Nat × List Nat × List (Nat × Nat)) :=
  cs.foldl (fun m c =>
    let old := smapGet ([], []) m c.col
    let srcs := (tabulate c.num (fun i => c.src + i)).filter (fun i => !old.1.contains i)
    smapPut m c.col (old.1 ++ srcs, old.2 ++ c.words)) []

/-- The even units whose LINK bit a list of writes changes: of the values `old` before them and `new` with them (R89). -/
def relinked (old new : Nat → Nat) (ws : List (Nat × PWrite)) : List Nat :=
  ws.filterMap (fun e =>
    match pidKind e.1 with
    | .strip u 0 => if u % 2 == 0 && linkBit old u != linkBit new u then some u else none
    | _ => none)

/-- The columns that a group's writes change: words, LINK and PAN_LAW (R86, R89). -/
def groupCols (fs : Nat) (old new : Nat → Nat) (ws : List (Nat × PWrite)) : List (Nat × List Nat × List (Nat × Nat)) :=
  mergeCols (writeCols fs new ws ++ (relinked old new ws).flatMap (relinkCols new) ++
    (if panLaw old != panLaw new then panCols new else []))

/-- The crosspoints (source, column) whose gains a send or matrix word governs (R79, R90). -/
def governs (get : Nat → Nat) (pid : Nat) : List (Nat × Nat) :=
  let cross := fun (i c su : Nat) =>
    let is := if linkBit get su then (if i % 2 = 0 then [i, i + 1] else []) else [i]
    let cs := if linkBit get (colUnit c) then (if c % 2 = 0 then [c, c + 1] else []) else [c]
    is.flatMap (fun j => cs.map (fun d => (j, d)))
  match pidKind pid with
  | .send i b => cross i b i
  | .msend k x => cross k (256 + x) (srcUnit k)
  | .strip _ _ => []
  | .fx _ _ => []
  | .patch _ => []
  | .glob _ => []

/-- Of a column's written words, those that take part: they change some gain that they govern, or give a value that waits for its
crossfade a successor (R86, R87). -/
def changingWords (s : State) (ws : List (Nat × Nat)) : List (Nat × Nat) :=
  ws.filter (fun w =>
    (governs (plive s) w.1).any (fun x => committed s.mix x.2 x.1 != stagedEntry s.mix x.2 x.1) ||
      (smapFind s.mix.queued w.1).isSome)

/-! Staging. -/

/-- Write a list of words into shadow halves, in order. -/
def stageWrites (s : State) (ws : List PWrite) : State := ws.foldl (fun s w => pwriteShadow s w.pid w.value) s

/-- Stage the columns that a group's writes change, in place of what was staged before: the gains come from the shadow halves, which
are the live ones in clean cells (R111). -/
def stageCols (s : State) (ws : List PWrite) : State :=
  let l := lastWrites ws
  let get := pshadow s
  let s := { s with mix := { s.mix with stg := [], mstg := [] } }
  (groupCols (fsHz s) (plive s) get l).foldl (fun s c => (colPair get c.1).foldl (stageCol get c.2.1) s) s

/-- Load the scene of a recall that needs it; a record that fails its check turns the recall into one of nothing (R131). -/
def stageMember (acc : State × List Member) (m : Member) : State × List Member :=
  match m with
  | .recalled jpos scene units true _ =>
    let r := loadScene acc.1 scene
    if r.1 then (r.2, acc.2 ++ [.recalled jpos scene units false 0])
    else (sendEvent (stick r.2 R.F_SLUICE_STAT_LOAD_FAIL_S) 3 (beBytes 2 scene ++ [0, 0]),
      acc.2 ++ [.recalled jpos scene [] false 0])
  | .recalled jpos scene units false len => (acc.1, acc.2 ++ [.recalled jpos scene units false len])
  | .words ws => (acc.1, acc.2 ++ [.words ws])
  | .store j c m r => (acc.1, acc.2 ++ [.store j c m r])
  | .reg j o v => (acc.1, acc.2 ++ [.reg j o v])

/-- Replace the first group that satisfies `p`. -/
def mapFirst (p : Group → Bool) (f : Group → Group) : List Group → List Group
  | [] => []
  | g :: r => if p g then f g :: r else g :: mapFirst p f r

/-- Every accepted member of the OPEN group has been written and staged: the group becomes READY (R105). -/
def groupStaged (s : State) : State :=
  match s.slu.groups.find? (fun g => g.st == .opn) with
  | none => s
  | some g =>
    let r := g.members.foldl stageMember (s, [])
    let s := r.1
    let ws := r.2.flatMap (memberWrites s)
    let s := stageCols (stageWrites s ws) ws
    let gs := mapFirst (fun g => g.st == .opn) (fun g => { g with st := .ready, members := r.2, staged := ws }) s.slu.groups
    { s with slu := { s.slu with groups := gs } }

/-! Route crossfades: starts, ends and queues (R64 to R66). -/

/-- Copy block state versions of a strip: for each listed block and version pair. -/
def copyBlk (s : State) (u blk fromV toV : Nat) : State := putBlk s u blk toV (getBlk s u blk fromV)
def clearVer (s : State) (u : Nat) (p : Nat → Bool) : State :=
  { s with dsp := { s.dsp with blk := s.dsp.blk.filter (fun e => !(e.1 / 512 == u && p (e.1 % 8))) } }
def clearBlk (s : State) (u blk : Nat) : State :=
  { s with dsp := { s.dsp with blk := s.dsp.blk.filter (fun e => e.1 / 8 != 64 * u + blk) } }
/-- The old setting of a switched block keeps its state in the odd versions; the new one starts cleared (R64). -/
def splitBlk (s : State) (u blk : Nat) (keep : Bool) : State :=
  [0, 2, 4, 6].foldl (fun s v =>
    let s := if keep then copyBlk s u blk v (v + 1) else s
    putBlk s u blk v []) s

/-- The other strip of the pair of strip u. -/
def partner (u : Nat) : Nat := if u % 2 = 0 then u + 1 else u - 1

/-- An insert crossfade of strip u starts: its EQ bands, and the gate and compressor that its detectors stand in, get a version for
the old setting (R64). A linked version's detectors stand in the even strip; a version there that the partner's own insert
crossfade keeps is not touched. -/
def splitInsert (s : State) (u : Nat) : State :=
  let n := nowIdx s
  let lk := linkAt s n u
  let kept := xfRuns s n (xkIns (partner u))
  let s := (List.range 8).foldl (fun s b => [0, 1, 4, 5].foldl (fun s k => copyBlk s u (8 + b) k (k + 2)) s) s
  [0, 1, 4, 5].foldl (fun s k =>
    if laneLink lk (k / 2) then (if kept then s else [2, 3].foldl (fun s b => copyBlk s (u - u % 2) b k (k + 2)) s)
    else [2, 3].foldl (fun s b => copyBlk s u b k (k + 2)) s) s

/-- An insert crossfade of strip u has ended: the old versions of its blocks are discarded, but not those that the partner's insert
crossfade still uses (R64). -/
def joinInsert (s : State) (u : Nat) : State :=
  let n := nowIdx s
  let lk := linkAt s n u
  let old := fun (s : State) (v b : Nat) => [2, 3, 6, 7].foldl (fun s k => putBlk s v b k []) s
  let s := (List.range 8).foldl (fun s b => old s u (8 + b)) s
  if !xfRuns s n (xkIns (partner u)) then [u, partner u].foldl (fun s v => [2, 3].foldl (fun s b => old s v b) s) s
  else if laneLink lk 0 || laneLink lk 2 then s
  else [2, 3].foldl (fun s b => old s u b) s

/-- What happens to the states at the first sample of a point's new setting; `len` 0 means no crossfade. -/
def pointStart (s : State) (key new len : Nat) : State :=
  if key < 64 * 1424 then
    let u := key / 64
    let t := key % 64
    if t = 6 then splitBlk s u 0 (len != 0)
    else if t = 7 then splitBlk s u 1 (len != 0)
    else if 8 ≤ t && t < 16 then splitBlk s u t (len != 0)
    else if t = 3 then (if new = 1 || len = 0 then clearBlk s u 2 else s)
    else if t = 5 then (if new = 1 || len = 0 then clearBlk s u 3 else s)
    else if t = 4 then
      (if new = 1 || len = 0 then (List.range 8).foldl (fun s b => clearBlk s u (8 + b)) s else s)
    else if t = 16 then (if len = 0 then s else splitInsert s u)
    else if t = 18 then
      let s := if len = 0 then s else
        [u, u + 1].foldl (fun s v => [2, 3].foldl (fun s b =>
          [0, 1, 2, 3].foldl (fun s k => copyBlk s v b k (k + 4)) s) s) s
      if new = 1 then s
      else [2, 3].foldl (fun s b => [0, 1, 2, 3].foldl (fun s k =>
          putBlk s (u + 1) b k (getBlk s u b k)) s) s
    else s
  else if 64 * 1424 + 4096 ≤ key && key < 64 * 1424 + 4096 + 64 then
    let g := key - 64 * 1424 - 4096
    let d := s.dsp
    let d := if len = 0 then d else
      { d with genPhi := smapSet 0 d.genPhi (2 * g + 1) (smapGet 0 d.genPhi (2 * g))
               genReg := smapSet 0 d.genReg (2 * g + 1) (smapGet (g + 1) d.genReg (2 * g)) }
    { s with dsp := { d with genPhi := smapDel d.genPhi (2 * g), genReg := smapDel d.genReg (2 * g) } }
  else s

/-- The old version's states are discarded at the end of a crossfade (R64). -/
def pointEnd (s : State) (key new : Nat) : State :=
  if key < 64 * 1424 then
    let u := key / 64
    let t := key % 64
    if t = 6 || t = 7 || (8 ≤ t && t < 16) then
      let blk := if t = 6 then 0 else if t = 7 then 1 else t
      [1, 3, 5, 7].foldl (fun s v => putBlk s u blk v []) s
    else if t = 3 then (if new = 0 then clearBlk s u 2 else s)
    else if t = 5 then (if new = 0 then clearBlk s u 3 else s)
    else if t = 4 then (if new = 0 then (List.range 8).foldl (fun s b => clearBlk s u (8 + b)) s else s)
    else if t = 16 then joinInsert s u
    else if t = 18 then clearVer (clearVer s u (fun v => v.testBit 2)) (u + 1) (fun v => v.testBit 2)
    else s
  else if 64 * 1424 + 4096 ≤ key && key < 64 * 1424 + 4096 + 64 then
    let g := key - 64 * 1424 - 4096
    { s with dsp := { s.dsp with genPhi := smapDel s.dsp.genPhi (2 * g + 1), genReg := smapDel s.dsp.genReg (2 * g + 1) } }
  else s

/-- A point takes a new setting at index `n` (R65, R66): crossfade of ROUTE_XF samples, or a switch when that is 0. -/
def startPoint (s : State) (n key old new : Nat) : State :=
  let x := routeXf s
  let s := pointStart s key new x
  if x = 0 then s else { s with dsp := { s.dsp with xf := smapPut s.dsp.xf key ⟨n, x, old, new, none⟩ } }

/-- A commit to a crossfade point at index `n`; `old` is its setting before the commit. One that changes nothing but NODITHER of a
patch entry queues the entry's setting as every commit to a point that crossfades does (R66; R60 exempts the bit alone: DESIGN
CHOICE, in the log). -/
def commitPoint (s : State) (n key old : Nat) : State :=
  let new := liveSetting s key
  match smapFind s.dsp.xf key with
  | some r =>
    let s := if r.queued.isSome then count s R.F_STRIP_XF_SUMP_CNT_XF_SUMP_CNT 1 else s
    let s := stick s R.F_STRIP_STAT_XF_QUEUED_S
    { s with dsp := { s.dsp with xf := smapPut s.dsp.xf key { r with queued := some new } } }
  | none => if samePoint key old new then s else startPoint s n key old new

/-- R66: a route crossfade ends; a queued setting starts its own crossfade at the first sample after it. -/
def endPoint (s : State) (key : Nat) : State :=
  match smapFind s.dsp.xf key with
  | none => s
  | some r =>
    if idxAge (nowIdx s) r.start < r.len then s
    else
      let s := pointEnd s key r.new
      let s := { s with dsp := { s.dsp with xf := smapDel s.dsp.xf key } }
      match r.queued with
      | none => s
      | some q => if samePoint key q r.new then s else startPoint s (idxAdd r.start r.len) key r.new q

/-- The columns of the crossfades that stand, each linked pair once. -/
def leadCols (s : State) : List Nat :=
  (s.mix.xf.map (fun e => e.1)).filter (fun c => c % 2 == 0 || !linkBit (plive s) (colUnit c) || (smapFind s.mix.xf (c - 1)).isNone)

/-- Every route crossfade, and every bus and matrix crossfade, whose last sample has passed ends, and what it holds queued starts
with the lengths in effect now (R66, R87, R94). -/
def endDue (s : State) : State :=
  let s := (s.dsp.xf.map (fun e => e.1)).foldl endPoint s
  (leadCols s).foldl endColPair s

/-! Reserved IDs made active by a commit (R57, R58, R59). -/

/-- The switch of a point crossfades in sample n: ALT of SRC, ON of a patch entry (R57, R58). -/
def switchRuns (s : State) (n key : Nat) : Bool :=
  let b := if key < 64 * 1424 then 12 else 15
  match xfAt s n key with
  | (x, some (o, _)) => x.testBit b != o.testBit b
  | (_, none) => false

/-- The reserved IDs that the words which `get` returns hold active at a point, each with its field; `sw` tells that the point's
switch crossfades (R57 to R59). -/
def badIds (get : Nat → Nat) (sw : Bool) (key : Nat) : List (Nat × Nat) :=
  let src := fun (on : Bool) (f id : Nat) => if on && 0xE90 ≤ id then [(f, id)] else []
  if key < 64 * 1424 then
    let w := fun k => get (pidStrip (key / 64) k)
    (match key % 64 with
      | 0 => src (!(w 0).testBit 24 || sw) 0 (bits (w 0) 11 0) ++ src ((w 0).testBit 24 || sw) 1 (bits (w 0) 23 12)
      | 16 => src ((w 2).testBit 4) 0 (bits (w 6) 11 0)
      | _ => [])
  else if key < 64 * 1424 + 4096 then
    let e := key - 64 * 1424
    let w := get (pidPatch e)
    if 3072 ≤ e && e < 3584 then
      (let id := bits w 28 16
       if w.testBit 31 && ((0xE90 ≤ id && id < 0x1000) || 0x1400 ≤ id) then [(0, id)] else [])
    else
      (let id := bits w 12 0
       if (w.testBit 15 || sw) && ((0xE90 ≤ id && id < 0x1000) || 0x1600 ≤ id) then [(0, id)] else [])
  else []

/-- What a point holds active in sample n. -/
def badAt (s : State) (n key : Nat) : List (Nat × Nat) := badIds (plive s) (switchRuns s n key) key

/-- PID of the word that holds a point's ID. -/
def badPid (key : Nat) : Nat :=
  if key < 64 * 1424 then pidStrip (key / 64) (if key % 64 = 0 then 0 else 6) else pidPatch (key - 64 * 1424)

def badFld (key : Nat) : Fld :=
  if key < 64 * 1424 then R.F_STRIP_STAT_SRC_INVALID_S
  else if 64 * 1424 + 3072 ≤ key && key < 64 * 1424 + 3584 then R.F_STRIP_STAT_DLY_CHAIN_S
  else R.F_STRIP_STAT_TAP_INVALID_S

/-- Check the touched points, given what each held active before the commit; the lowest PID is recorded. -/
def checkIds (s : State) (n : Nat) (olds : List (Nat × List (Nat × Nat))) : State :=
  let bad := olds.filter (fun e => (badAt s n e.1).any (fun x => !e.2.contains x))
  let s := bad.foldl (fun s e => stick s (badFld e.1)) s
  match bad with
  | [] => s
  | e :: r => setF s R.F_STRIP_BAD_PID_PID (r.foldl (fun a b => min a (badPid b.1)) (badPid e.1))

/-! The flip (R112). -/

/-- Start the ramp of a written word (R118, R120); `a` is the code delivered for sample n − 1. -/
def startRamp (s : State) (n : Nat) (w : PWrite) (a : Nat) : State :=
  match rampFieldOf w.pid with
  | none => s
  | some f =>
    if w.pid < 128 * 1424 && !stdGraph s then s else
    let len := writeLen (fsHz s) (plive s) w f.cls
    let b := bits (plive s w.pid) f.hi f.lo
    let rs := if len = 0 then smapDel s.slu.ramps w.pid else smapPut s.slu.ramps w.pid ⟨n, len, a, b⟩
    { s with slu := { s.slu with ramps := rs } }

/-- Both halves of the words of cell 0x3C10 that a group wrote, word by word (R117). -/
def flipFloodCell (s : State) (n : Nat) (ws : List (Nat × PWrite)) : State :=
  let s := setCell s 0x3C10 (cellBsel s 0x3C10) false
  ws.foldl (fun s e =>
    if e.1 / 16 = 0x3C10 then
      let at' := if e.1 = pidFloodCmd then s.slu.cmdAt else if e.1 = pidFloodRamp then s.slu.rampAt else (0, 0)
      if at'.1 != n || at'.2 ≤ e.2.jpos then
        let s := pwriteLive s e.1 e.2.value
        if e.1 = pidFloodCmd then { s with slu := { s.slu with cmdAt := (n, e.2.jpos) } }
        else if e.1 = pidFloodRamp then { s with slu := { s.slu with rampAt := (n, e.2.jpos) } }
        else s
      else s
    else s) s

/-- The distinct cells of a list of words, other than 0x3C10. -/
def writtenCells (ws : List (Nat × PWrite)) : List (Nat × Unit) :=
  ws.foldl (fun m e => if e.1 / 16 = 0x3C10 then m else smapPut m (e.1 / 16) ()) []

/-- The distinct crossfade points a list of words touches: strip words have points under the standard graph only (R55). -/
def touchedPoints (s : State) (ws : List (Nat × PWrite)) : List Nat :=
  ((ws.foldl (fun m e => (pointsOf e.1).foldl (fun m k => smapPut m k ()) m) []).map (fun e => e.1)).filter (fun k =>
    decide (64 * 1424 ≤ k) || stdGraph s)

/-- A point that a pair linked before and after a commit ignores: GATE_IN and COMP_IN of the odd strip (R67). -/
def ignoredPoint (before after : State) (n key : Nat) : Bool :=
  let u := key / 64
  decide (key < 64 * 1424) && u % 2 == 1 && (key % 64 == 3 || key % 64 == 5) && linkBit (plive after) u &&
    (match linkAt before n u with
      | (1, none) => true
      | _ => false)

/-- Load the dither register from DITHER_SEED (R74). -/
def reloadPrng (s : State) : State :=
  let d := plive s pidDitherSeed
  { s with dsp := { s.dsp with prng := if d = 0 then 1 else d } }

/-- The flip of a group's staged words at the tick that starts Ts n (R112): slot selects toggle, ramps and crossfades start.
With `quiet` (R134) no ramp and no crossfade starts. -/
def flipWords (s : State) (n : Nat) (staged : List PWrite) (quiet : Bool) : State :=
  let before := s
  let ws := lastWrites staged
  let keys := touchedPoints s ws
  let acts := keys.map (fun k => (k, badAt s n k))
  let olds := keys.map (fun k => (k, (xfAt s n k).1))
  let codes := ws.map (fun e => (e.2, codeAt s (idxPrev n) e.1))
  let s := (writtenCells ws).foldl (fun s c => setCell s c.1 (1 - cellBsel s c.1) false) s
  let s := flipFloodCell s n ws
  let cols := groupCols (fsHz s) (plive before) (plive s) ws
  let s := if plive s pidDitherSeed != plive before pidDitherSeed then reloadPrng s else s
  let moved := (olds.filter (fun e => e.1 % 64 == 0 && decide (e.1 < 65536) && !samePoint e.1 e.2 (liveSetting s e.1))).map
    (fun e => e.1 / 64)
  let s := { s with dsp := { s.dsp with srcMoved := s.dsp.srcMoved ++ moved } }
  let s :=
    if quiet then
      cols.foldl (fun s c => (colPair (plive s) c.1).foldl (fun s d => startCol s n 0 d (fun p =>
        colUpdate (stagedEntry s.mix d) d p c.2.1)) s) s
    else
      let s := endDue s
      let s := codes.foldl (fun s c => startRamp s n c.1 c.2) s
      let s := cols.foldl (fun s c => commitCol s n (changingWords s c.2.2) c.1 c.2.1) s
      (olds.filter (fun p => !ignoredPoint before s n p.1)).foldl (fun s p => commitPoint s n p.1 p.2) s
  checkIds { s with mix := { s.mix with stg := [], mstg := [] } } n acts

/-- The JPOS of a member's command. -/
def memberJpos : Member → Nat
  | .words ws => match ws with | [] => 0 | w :: _ => w.jpos
  | .recalled j _ _ _ _ => j
  | .store j _ _ _ => j
  | .reg j _ _ => j

/-- Advance JAPPLIED over the applied commands at the front (R150). -/
def popApplied : List JCmd → Nat → List JCmd × Nat
  | [], a => ([], a)
  | c :: r, a => if c.applied then popApplied r (c.jpos + c.len - 1) else (c :: r, a)

/-- Mark the commands that satisfy `p` as applied (R150, R151). -/
def markApplied (s : State) (p : JCmd → Bool) : State :=
  let l := s.hr.jcmds.map (fun c => if p c then { c with applied := true } else c)
  let r := popApplied l s.hr.jappl
  { s with hr := { s.hr with jcmds := r.1, jappl := r.2 } }

/-- A store member's capture in the settle pass after the flip (R127). -/
def captureMember (s : State) : Member → State
  | .store jpos scene mask ramps =>
    let r := captureScene s scene (mask.getD fullMask) (ramps.getD (List.replicate 16 0x40000000))
    let b := r.2.slu.buf
    { r.2 with slu := { r.2.slu with buf := { b with valid := false, storing := true, scene := scene, storeLen := r.1, storeJpos := jpos } } }
  | .words _ => s
  | .recalled _ _ _ _ _ => s
  | .reg _ _ _ => s

/-- Flip the head group at tick n if it is READY and due (R105, R106, R112). -/
def flipHead (s : State) (n : Nat) : State :=
  match s.slu.groups with
  | [] => s
  | g :: rest =>
    if g.st = .ready && idxDue n g.idx then
      let w := (groupCost s [] g.members).2
      let s := flipWords s n g.staged false
      let s := stick (count s R.F_SLUICE_FLIP_CNT_FLIP_CNT 1) R.F_SLUICE_STAT_FLIP_S
      let s := if g.idx != n then stick (count s R.F_SLUICE_LATE_CNT_LATE_CNT 1) R.F_SLUICE_STAT_LATE_FLIP_S else s
      let s := { s with slu := { s.slu with
          groups := { g with st := .settle } :: rest, owed := s.slu.owed + 8 * w, lastFlip := n } }
      markApplied s (fun c => g.members.any (fun m => memberJpos m = c.jpos))
    else s

/-- Groups whose index arrives before they can flip are marked late (R105). -/
def markLate (s : State) (n : Nat) : State :=
  { s with slu := { s.slu with groups := s.slu.groups.map (fun g =>
      if unflipped g && idxDue n g.idx then { g with late := true } else g) } }

/-- The registers that the groups due at tick n write, in journal order, and the state without those members (R151). -/
def dueRegs (s : State) (n : Nat) : List (Nat × Nat × Nat) × State :=
  let due := s.slu.groups.flatMap (fun g => if idxDue n g.idx then g.members.filterMap (fun m => match m with
    | .reg j o v => some (j, o, v)
    | .words _ => none
    | .recalled _ _ _ _ _ => none
    | .store _ _ _ _ => none) else [])
  let strip := fun (g : Group) => if idxDue n g.idx then
      { g with members := g.members.filter (fun m => match m with
        | .reg _ _ _ => false
        | .words _ => true
        | .recalled _ _ _ _ _ => true
        | .store _ _ _ _ => true) }
    else g
  let s := { s with slu := { s.slu with groups := s.slu.groups.map strip } }
  (due, markApplied s (fun c => due.any (fun d => d.1 == c.jpos) &&
    !(s.slu.groups.any (fun g => g.members.any (fun m => memberJpos m == c.jpos)))))

/-- The live halves of the cells that a list of writes has touched are copied over their other halves (R103). -/
def settleCells (s : State) (ws : List PWrite) : State :=
  (writtenCells (lastWrites ws)).foldl (fun s c => copyHalf s c.1 (cellBsel s c.1)) s

/-- What a flipped group still owes when a warm reset discards it: its cells are made equal, as R103 has it of clean cells. -/
def settleLost (s : State) : State :=
  match s.slu.groups with
  | [] => s
  | g :: _ => if g.st = .settle then settleCells s g.staged else s

/-- Every cell of the flipped group has been settled: its live halves are copied over the other halves, the group is DONE, a
store captures its scene, and a waiting group opens (R103, R105, R127). -/
def groupSettleDone (s : State) : State :=
  match s.slu.groups with
  | [] => s
  | g :: rest =>
    if g.st = .settle then
      let s := settleCells s g.staged
      let s := g.members.foldl captureMember s
      let rest := match rest with
        | [] => []
        | h :: r => (if h.st = .wait then { h with st := .opn } else h) :: r
      { s with slu := { s.slu with groups := rest, owed := 0 } }
    else s

/-! The urgent lane (R116, R117). -/

/-- CK_FAB cycles of 3,125 CK_NTX cycles (8.000 µs), rounded up. -/
def mirrorCycles (s : State) : Nat := if getF s R.F_RCU_STAT_FAMILY = 0 then 6292 else 5781

/-- The urgent index: the first tick that begins at least 368 CK_FAB cycles after the journaling point, `cyc` cycles into the
running Ts, with the mirror term where the entries are mirrored: in a synced pair, and to a resyncing unit, for which R317 lets R159
apply with that term (R116). -/
def urgentIdx (s : State) (cyc : Nat) : Nat :=
  let need := 368 + (if feeds s then mirrorCycles s else 0)
  idxAdd (nowIdx s) (if s.sched.running then max 1 ((cyc + need + cTs s - 1) / cTs s) else 1)

/-- Apply one urgent write at tick n (R117): both halves of its word are written. -/
def applyUrgent (n : Nat) (s : State) (u : UrgentW) : State :=
  let at' := if u.pid = pidFloodCmd then s.slu.cmdAt else s.slu.rampAt
  let s := if u.idx != n then stick (count s R.F_SLUICE_LATE_CNT_LATE_CNT 1) R.F_SLUICE_STAT_LATE_FLIP_S else s
  if at'.1 != n || at'.2 ≤ u.jpos then
    let s := pwriteLive s u.pid u.value
    if u.pid = pidFloodCmd then { s with slu := { s.slu with cmdAt := (n, u.jpos) } }
    else { s with slu := { s.slu with rampAt := (n, u.jpos) } }
  else s

/-- The urgent writes due at tick n, in journal order. A write waits until 64 CK_FAB cycles have passed since the
Sluice received it (R116). -/
def applyDueUrgent (s : State) (n : Nat) : State :=
  let now := fun (u : UrgentW) => u.received && idxDue n u.idx && idxDue n u.ready
  let due := s.slu.urgent.filter now
  let s := { s with slu := { s.slu with urgent := s.slu.urgent.filter (fun u => !now u) } }
  let s := due.foldl (applyUrgent n) s
  markApplied s (fun c => due.any (fun u => u.jpos = c.jpos))

/-! Warm reset (R133). -/

/-- Discard pending groups and restore every dirty cell from its live half. -/
def restoreDirty (s : State) : State :=
  let dirty := (s.slu.cells.filter (fun c => c.2.testBit 1)).map (fun c => c.1)
  let s := dirty.foldl (fun s c => setCell (copyHalf s c (cellBsel s c)) c (cellBsel s c) false) s
  { s with slu := { s.slu with groups := [], owed := 0, urgent := [] } }

/-- Stage every column from the live halves (R133, R89): running crossfades and pending sets end. -/
def restageAll (s : State) : State :=
  let get := plive s
  let live := (List.range 1024).foldl (fun p i => (List.range 256).foldl (fun p b => smapSet 0 p (colKey b i) (sendEntry get i b)) p) []
  let mlive := (List.range 272).foldl (fun p k => (List.range 128).foldl (fun p x => smapSet 0 p (colKey (256 + x) k) (matEntry get k x)) p) []
  { s with mix := { s.mix with
      live := live, prev := [], pend := [], stg := [], mlive := mlive, mprev := [], mpend := [], mstg := [], planes := [], queued := [],
      xf := [] } }

end Sys2Proof.Machine
end

