-- ==== Sys2Proof/Machine/Journal.lean ====
section
/-! DEFINITION. Bodies of commands, their checks, and the journal (06_headrace.md; R105, R107, R116, R139 to R151, R157). -/
namespace Sys2Proof.Machine

/-! Bodies (06_headrace.md, "Bodies"). -/

def op8 (b : List Nat) (o n : Nat) : Nat := ofBeBytes ((b.drop o).take n)

/-- LENGTH allowed for the opcode (R136, R139, R142, Bodies). -/
def lenAllowed (op len : Nat) (b : List Nat) : Bool :=
  if op = 0x10 || op = 0x31 || op = 0x70 then len == 16
  else if op = 0x11 then 1 ≤ op8 b 12 2 && len == 16 + 4 * op8 b 12 2 && len ≤ 1456
  else if op = 0x12 then len == 24
  else if op = 0x20 then len == 16 + (if (op8 b 10 2).testBit 0 then 348 else 0)
  else if op = 0x21 then len == 16 + (if (op8 b 10 2).testBit 1 then 64 else 0) + (if (op8 b 10 2).testBit 0 then 348 else 0)
  else if op = 0x22 then 16 ≤ len && len ≤ 1456
  else if op = 0x30 || op = 0x40 then len == 8
  else if op = 0x71 then len == 0
  else if op = 0x80 then 16 ≤ len && len ≤ 8192
  else false

/-- A list of 32-bit words in a body. -/
def bodyWords (b : List Nat) (o n : Nat) : List Nat := tabulate n (fun k => op8 b (o + 4 * k) 4)

def recallMask (b : List Nat) : Option (List Nat) := if (op8 b 10 2).testBit 0 then some (bodyWords b 16 87) else none
def storeRamps (b : List Nat) : Option (List Nat) := if (op8 b 10 2).testBit 1 then some (bodyWords b 16 16) else none
def storeMask (b : List Nat) : Option (List Nat) :=
  if (op8 b 10 2).testBit 0 then some (bodyWords b (if (op8 b 10 2).testBit 1 then 80 else 16) 87) else none

/-- A NAK code and DETAIL. -/
abbrev Refuse := Nat × Nat

/-- The body-field checks of one command that may stand in a group, none when they pass (R139, R142). -/
def fieldCheck (op : Nat) (b : List Nat) : Option Refuse :=
  let pid := op8 b 8 4
  if op = 0x10 || op = 0x12 then (if 2 ^ 19 ≤ pid then some (0x0009, pid) else none)
  else if op = 0x11 then (if 2 ^ 19 < pid + op8 b 12 2 then some (0x0009, pid) else none)
  else if op = 0x20 then
    (if 1024 ≤ op8 b 8 2 || maskBad ((recallMask b).getD []) then some (0x000B, 0) else none)
  else if op = 0x21 then
    (if 1024 ≤ op8 b 8 2 || maskBad ((storeMask b).getD []) then some (0x000B, 0) else none)
  else if op = 0x31 then (if 0x200000 ≤ pid then some (0x000A, pid) else none)
  else none

/-- The scope of a recall: stored AND mask AND NOT SAFE (R124). -/
def recallUnits (s : State) (scene : Nat) (mask : Option (List Nat)) : List Nat :=
  let st := recScope s (sceneAt s scene)
  let safe := safeMask s
  (maskUnits st).filter (fun u => maskBit (mask.getD fullMask) u && !maskBit safe u)

/-- The checks of R127, R128 and R130 on a scene command or a write of SLUICE_PRELOAD.LOAD, given the members before it in its own command. -/
def sceneCheck (s : State) (prior : List Member) (op : Nat) (b : List Nat) : Option Refuse :=
  let scene := op8 b 8 2
  if op = 0x20 then
    (if (dirEntry s scene).1 = 0 then some (0x000F, 0)
     else if !recFormatOk s (sceneAt s scene) then some (0x0010, 0)
     else if !sceneInBuf s scene && (bufBusy s || prior.any memberUsesBuf) then some (0x000E, 0)
     else none)
  else if op = 0x21 then
    (if bufBusy s || prior.any memberUsesBuf then some (0x000E, 0)
     else if (showRoom s (recordLen (maskUnits ((storeMask b).getD fullMask)))).isNone then some (0x0011, 0)
     else none)
  else if op = 0x31 && op8 b 8 4 = R.SLUICE_PRELOAD && (op8 b 12 4).testBit 31 then
    (if bufBusy s || prior.any memberUsesBuf then some (0x000E, 0) else none)
  else none

/-- The group member that a command is (R105, R127, R128, R151). -/
def memberOf (s : State) (jpos op : Nat) (b : List Nat) : Member :=
  let pid := op8 b 8 4
  if op = 0x10 then .words [⟨pid, op8 b 12 4, none, none, jpos⟩]
  else if op = 0x11 then .words (tabulate (op8 b 12 2) (fun k => ⟨pid + k, op8 b (16 + 4 * k) 4, none, none, jpos⟩))
  else if op = 0x12 then .words [⟨pid, op8 b 12 4, some (op8 b 16 4), none, jpos⟩]
  else if op = 0x20 then
    let scene := op8 b 8 2
    .recalled jpos scene (recallUnits s scene (recallMask b)) (!sceneInBuf s scene) (dirEntry s scene).2.1
  else if op = 0x21 then .store jpos (op8 b 8 2) (storeMask b) (storeRamps b)
  else .reg jpos pid (op8 b 12 4)

/-- The commands embedded in a COMMIT_AT, with the offset of each prefix: opcode, body; or the refusal of its framing (R141). -/
def embedded : Nat → List Nat → Nat → Except Refuse (List (Nat × Nat × List Nat))
  | 0, [], _ => .ok []
  | 0, _ :: _, o => .error (0x0003, o)
  | k + 1, b, o =>
    let op := op8 b 0 1
    let len := op8 b 2 2
    let body := (b.drop 4).take len
    if b.length < 4 then .error (0x0003, o)
    else if !(op == 0x10 || op == 0x11 || op == 0x12 || op == 0x20 || op == 0x21 || op == 0x31) then .error (0x0002, o)
    else if b.length < 4 + len || !lenAllowed op len body then .error (0x0003, o)
    else match embedded k (b.drop (4 + len)) (o + 4 + len) with
      | .ok r => .ok ((o, op, body) :: r)
      | .error e => .error e

/-- The parts of a group command: itself, or what COMMIT_AT embeds. -/
def partsOf (op : Nat) (b : List Nat) : Except Refuse (List (Nat × Nat × List Nat)) :=
  if op = 0x22 then
    let k := op8 b 8 2
    if k = 0 || 32 < k then .error (0x000B, 0) else embedded k (b.drop 16) 16
  else .ok [(0, op, b)]

/-- DETAIL of an embedded command's refusal names its prefix (R141). -/
def detailAt (op o : Nat) (e : Refuse) : Refuse := if op = 0x22 then (e.1, o) else e

/-- The first refusal of the parts by the field checks. -/
def fieldsRefuse (op : Nat) (ps : List (Nat × Nat × List Nat)) : Option Refuse :=
  ps.findSome? (fun p => (fieldCheck p.2.1 p.2.2).map (detailAt op p.1))

/-- The first refusal of the parts by the scene checks, and the members. -/
def membersOf (s : State) (jpos op : Nat) : List (Nat × Nat × List Nat) → List Member → Except Refuse (List Member)
  | [], ms => .ok ms
  | p :: r, ms =>
    match sceneCheck s ms p.2.1 p.2.2 with
    | some e => .error (detailAt op p.1 e)
    | none => membersOf s jpos op r (ms ++ [memberOf s jpos p.2.1 p.2.2])

/-- The members of a journaled command, which passed its checks when it was accepted. -/
def membersAgain (s : State) (jpos op : Nat) (b : List Nat) : List Member :=
  match partsOf op b with
  | .ok ps => ps.map (fun p => memberOf s jpos p.2.1 p.2.2)
  | .error _ => []

/-! The journal (R149, R150). -/

def journalAddr (jpos : Nat) : Nat := 0x4400000 + 32 * (jpos % 65536)
def ncont (len : Nat) : Nat := (len + 23) / 24
def journalFree (s : State) : Nat := 65536 - (s.hr.jhead - s.hr.jappl)

/-- A journal entry with its CRC. -/
def sealEntry (b : List Nat) : List Nat := b ++ beBytes 4 (crc32 b)

/-- The entries of a command. -/
def entriesOf (cls session op seq len nC jpos flags : Nat) (body : List Nat) : List (List Nat) :=
  sealEntry ([1, cls % 4 * 64 + session % 64, op, ncont len] ++ beBytes 6 seq ++ beBytes 2 len ++ beBytes 8 nC ++ beBytes 6 jpos ++
    [flags, 0]) ::
  tabulate (ncont len) (fun k =>
    let part := (body.drop (24 * k)).take 24
    sealEntry ([2, k + 1, 0, 0] ++ part ++ List.replicate (24 - part.length) 0))

/-- Headrace writes entries at consecutive positions. -/
def writeEntries (s : State) (jpos : Nat) : List (List Nat) → State
  | [] => s
  | e :: r => writeEntries (engineWrite s 16 (journalAddr jpos) e) (jpos + 1) r

/-- Journal a command at the head: its entries, the head, and its record until it is applied (R149). -/
def journalCmd (s : State) (cls session op seq nC flags : Nat) (body : List Nat) : State :=
  let jpos := s.hr.jhead + 1
  let es := entriesOf cls session op seq body.length nC jpos flags body
  let s := writeEntries s jpos es
  { s with hr := { s.hr with jhead := s.hr.jhead + es.length, jcmds := s.hr.jcmds ++ [⟨jpos, es.length, nC, false⟩] } }

/-- FLAGS of a first entry. -/
def entryFlags (urgent moved mirrored engine : Bool) : Nat :=
  ofBool urgent + 2 * ofBool moved + 4 * ofBool mirrored + 8 * ofBool engine

/-- Entries are mirrored: a synced pair, or a resyncing peer (R152, R318). -/
def mirrors (s : State) : Bool := feeds s

/-- Mirror the latest command's entries (R149, R152). -/
def mirrorCmd (s : State) (jpos n : Nat) : State :=
  if mirrors s then
    let bs := (List.range n).flatMap (fun k => viewBytes s 16 (journalAddr (jpos + k)) 32)
    linkSend ((List.range n).foldl (fun s k => scanRange s 16 (journalAddr (jpos + k)) 32) s) (.mirror jpos bs)
  else s

/-- A command read back from the journal. -/
structure Entry where
  jpos : Nat
  len : Nat
  cls : Nat
  session : Nat
  op : Nat
  seq : Nat
  nC : Nat
  flags : Nat
  body : List Nat
deriving DecidableEq, Repr

/-- The body held by the continuation entries of the command at `jpos`. -/
def entryBody (s : State) (jpos n len : Nat) : List Nat :=
  ((List.range n).flatMap (fun k => viewBytes s 16 (journalAddr (jpos + 1 + k) + 4) 24)).take len

def readEntry (s : State) (jpos : Nat) : Entry :=
  let b := viewBytes s 16 (journalAddr jpos) 32
  let n := op8 b 3 1
  let len := op8 b 10 2
  ⟨jpos, n + 1, op8 b 1 1 / 64, op8 b 1 1 % 64, op8 b 2 1, op8 b 4 6, op8 b 12 8, op8 b 26 1, entryBody s jpos n len⟩

/-- An entry's CRC is right. -/
def entryOk (s : State) (jpos : Nat) : Bool :=
  let b := viewBytes s 16 (journalAddr jpos) 32
  op8 b 28 4 == crc32 (b.take 28)

/-- The commands from `a` to `b` in journal order, and whether every CRC and KIND sequence fits (R156). -/
def scanJournal (s : State) : Nat → Nat → Nat → List Entry → Option (List Entry)
  | 0, _, _, acc => some acc
  | f + 1, a, b, acc =>
    if b < a then some acc
    else
      let e := readEntry s a
      if viewByte s 16 (journalAddr a) == 1 && a + e.len ≤ b + 1 && (List.range e.len).all (fun k =>
          entryOk s (a + k) && (k == 0 || (viewByte s 16 (journalAddr (a + k)) == 2 && viewByte s 16 (journalAddr (a + k) + 1) == k))) then
        scanJournal s f (a + e.len) b (acc ++ [e])
      else none

/-! Session commands (R145, R148, R151, R160, R161). -/

/-- The first tick after the journaling point. -/
def nextTick (s : State) : Nat := idxAdd (nowIdx s) 1

/-- Active meter subscriptions of all sessions. -/
def meterSubs (s : State) : Nat := s.hr.sessions.foldl (fun n x => n + x.2.subs.length) 0

/-- METER_SUB: set or cancel a subscription whose first period starts at tick `n`, or set the event mask. -/
def applyMeterSub (s : State) (k n : Nat) (b : List Nat) : State :=
  let x := getSession s k
  if op8 b 0 1 = 1 then putSession s k { x with mask := op8 b 4 4 }
  else
    let sub := op8 b 1 1
    let per := op8 b 2 2
    let subs := if per = 0 then smapDel x.subs sub
      else smapPut x.subs sub ⟨16 * max 2 per, op8 b 4 2, op8 b 6 2, n, []⟩
    putSession s k { x with subs := subs }

/-- SESSION_OPEN (R145). -/
def applyOpen (s : State) (k : Nat) (reply : Endpoint) (b : List Nat) : State :=
  let x := getSession s k
  let client := op8 b 0 8
  let mask := op8 b 12 4
  if x.isOpen && (op8 b 8 2).testBit 0 then putSession s k { x with reply := reply, mask := mask }
  else if x.isOpen then putSession s k { x with reply := reply, mask := mask, norm := emptySpace, urg := emptySpace }
  else putSession s k { closedSession with isOpen := true, client := client, reply := reply, mask := mask }

/-- SESSION_CLOSE: the session's record goes, with its meter subscriptions. -/
def applyClose (s : State) (k : Nat) : State :=
  { putSession s k closedSession with hr := { (putSession s k closedSession).hr with expiring := s.hr.expiring.filter (fun j => j != k) } }

/-- The words of a class-0 command: both are FLOOD_CMD or FLOOD_RAMP (R116). -/
def urgentWords (op : Nat) (b : List Nat) : List (Nat × Nat) :=
  let pid := op8 b 8 4
  if op = 0x11 then tabulate (op8 b 12 2) (fun k => (pid + k, op8 b (16 + 4 * k) 4)) else [(pid, op8 b 12 4)]

def urgentPidOk (op : Nat) (b : List Nat) : Bool :=
  (urgentWords op b).all (fun w => w.1 == pidFloodCmd || w.1 == pidFloodRamp)

/-- Keep the latest records of a space: 8 urgent, 32 normal (R145). -/
def keepAcks (cls : Nat) (l : List AckRec) : List AckRec := l.take (if cls = 0 then 8 else 32)

/-- The accepted command's record enters its space, which expects the next number (R146). -/
def recordAck (s : State) (k cls : Nat) (a : AckRec) : State :=
  let x := getSession s k
  putSession s k (setSpace x cls ⟨a.seq + 1, keepAcks cls (a :: (spaceOf x cls).acks)⟩)

/-- Whether a REG_WRITE is unit-local (R310). -/
def unitLocal (off : Nat) : Bool :=
  (0x90000 ≤ off && off < 0xE0000) || (0x60000 ≤ off && off < 0x60008) || (0x130000 ≤ off && off < 0x140000) ||
    off / 65536 == 0x15 || off / 65536 == 0x17

/-- Registers written at once: those of a command journaled while the tick is stopped (R28, R151). -/
def regsOf (ms : List Member) : List (Nat × Nat) := ms.filterMap (fun m => match m with
  | .reg _ o v => some (o, v)
  | .words _ => none
  | .recalled _ _ _ _ _ => none
  | .store _ _ _ _ => none)
def notReg (m : Member) : Bool := match m with
  | .reg _ _ _ => false
  | .words _ => true
  | .recalled _ _ _ _ _ => true
  | .store _ _ _ _ => true

/-- The members of a command go to the Sluice at their index; while the tick is stopped register writes are applied at once by
`ap`, and a command of nothing else has then been applied. -/
def enterGroup (ap : State → Nat → Nat → State) (s : State) (jpos nC : Nat) (ms : List Member) (replayed : Bool) : State :=
  if s.sched.running then joinGroup s nC ms replayed
  else
    let s := (regsOf ms).foldl (fun s r => ap s r.1 r.2) s
    let rest := ms.filter notReg
    if rest.isEmpty then markApplied s (fun c => c.jpos == jpos) else joinGroup s nC rest replayed

/-- A journaled command takes effect from its entry: at the standby, at a resyncing unit, and at replay (R108, R152, R157). The
session table that replay finds holds the effect of every journaled command of a session already, since it changes at the
journaling point (R151) and is retained (R145): replay leaves it (DEDUCED, in the log). -/
def enterEntry (ap : State → Nat → Nat → State) (s : State) (e : Entry) (replayed : Bool) : State :=
  let done := fun (s : State) => markApplied s (fun c => c.jpos == e.jpos)
  let table := fun (f : State → State) => done (if replayed then s else f s)
  if e.op = 0x40 then table (fun s => applyMeterSub s e.session e.nC e.body)
  else if e.op = 0x70 then table (fun s => applyOpen s e.session (getSession s e.session).reply e.body)
  else if e.op = 0x71 then table (fun s => applyClose s e.session)
  else if e.flags.testBit 0 then
    let us := (urgentWords e.op e.body).map (fun w => (⟨e.nC, e.jpos, w.1, w.2, false, e.nC⟩ : UrgentW))
    let s := stick { s with slu := { s.slu with urgent := s.slu.urgent ++ us } } R.F_SLUICE_STAT_URGENT_S
    if replayed then urgentInTime s e.jpos else urgentReceived s (fun j => j == e.jpos)
  else enterGroup ap s e.jpos e.nC (membersAgain s e.jpos e.op e.body) replayed

/-- The ACK record of a mirrored command at the standby (R146, R152). -/
def entryAck (e : Entry) : AckRec :=
  ⟨e.seq, e.jpos, e.nC, if e.flags.testBit 0 || e.op < 0x40 then op8 e.body 0 8 else 0, e.flags.testBit 1, e.flags.testBit 0,
    !e.flags.testBit 2, []⟩

end Sys2Proof.Machine
end

