-- ==== Sys2Proof/Machine/Mintal.lean ====
section
/-! DEFINITION. The Mintal core (07_mintal_core.md): registers, moves, results in flight, faults and interrupts, loops, and the
issue of arithmetic and control instructions. An instruction is a command that names its core; it issues when the core can
issue, and otherwise nothing happens. -/
namespace Sys2Proof.Machine

/-- A core as after reset (R163, R197). -/
def coreInit : Core :=
  { held := true, v := [], acc := [], chain := [], regs := [], slot := 0, flight := [], pc := 0, branch := none, loopDue := false,
    skip := none, nested := false, waiting := false, waitPend := false, xstall := false, ninth := none, xq := [], fault := none,
    ovr := false, debug := none, halted := false, step := false, stopped := false, cyc := 0, inWindow := false, obj := none }

def getCore (s : State) (c : Nat) : Core := smapGet coreInit s.cores c
def putCore (s : State) (c : Nat) (k : Core) : State := { s with cores := smapSet coreInit s.cores c k }

/-! Registers (R163, R164, "Registers"). -/

def vLane (k : Core) (r i : Nat) : Int := smapGet 0 k.v (8 * r + i)
def accLane (k : Core) (a i : Nat) : Int := smapGet 0 k.acc (8 * a + i)
def chainLane (k : Core) (a i : Nat) : Int := smapGet 0 k.chain (8 * a + i)
def regVal (k : Core) (r : Nat) : Nat := smapGet 0 k.regs r

/-- The bits a register holds of a written value: 18, 16, 2 × 12, 12 or 4 bits; ST's reserved bit is 0 and LVL 3 acts as 2. -/
def regFit (r v : Nat) : Nat :=
  if r < 48 then v % 2 ^ 18
  else if r < 50 then v % 2 ^ 16
  else if r < 52 then v &&& 0x0FFF0FFF
  else if r = 52 then (let x := v % 256 &&& 0xF7; if bits x 5 4 = 3 then setBits x 5 4 2 else x)
  else if r < 55 then v % 2 ^ 12
  else v % 16

def setReg (k : Core) (r v : Nat) : Core := { k with regs := smapSet 0 k.regs r (regFit r v) }

/-- The value a read of register `r` gives: N registers sign-extended, the others zero-extended; SIDX is n (R163). -/
def regRead (s : State) (k : Core) (r : Nat) : Int :=
  if r = 56 then (nowIdx s % 2 ^ 32 : Nat)
  else if 12 ≤ r && r < 24 then sext 18 (regVal k r)
  else (regVal k r : Int)

/-! Status bits. -/
def stBits (k : Core) (hi lo : Nat) : Nat := bits (regVal k 52) hi lo
def setSt (k : Core) (hi lo x : Nat) : Core := setReg k 52 (setBits (regVal k 52) hi lo x)
def stHnd (k : Core) : Bool := stBits k 7 7 == 1
def stIe (k : Core) : Bool := stBits k 0 0 == 1
/-- Active loop levels (a stored LVL is at most 2). -/
def stLvl (k : Core) : Nat := stBits k 5 4
def setFlag (k : Core) (b : Nat) (on : Bool) : Core := if on then setSt k b b 1 else k

/-! Results in flight (R168, R170). -/

/-- The register of a destination: V registers, accumulators and non-vector registers in one numbering. -/
def dstKey : FlDst → Nat
  | .v r _ => r
  | .acc a => 16 + a
  | .sum a => 16 + a
  | .reg r => 32 + r

def sameDst (a b : FlDst) : Bool := dstKey a == dstKey b

def putLanes (m : List (Nat × Int)) (base lane : Nat) (vals : List Int) : List (Nat × Int) :=
  (vals.zipIdx).foldl (fun m p => smapSet 0 m (base + lane + p.2) p.1) m

/-- A result becomes visible. -/
def landOne (k : Core) (f : Flight) : Core :=
  match f.dst with
  | .v r lane => { k with v := putLanes k.v (8 * r) lane f.vals }
  | .acc a => { k with acc := putLanes k.acc (8 * a) 0 f.vals }
  | .sum a => { k with acc := putLanes k.acc (8 * a) 0 f.vals, chain := putLanes k.chain (8 * a) 0 f.vals }
  | .reg r => setReg k r (lowBits 32 (f.vals.headD 0))

/-- Land the results visible from the current slot, oldest first. Of two that land in the same slot in one register the one
issued last wins (R170): it stands later in the list. -/
def landList : List Flight → Core → Core
  | [], k => k
  | f :: fs, k => landList fs (if fs.any (fun g => g.at_ == f.at_ && sameDst f.dst g.dst) then k else landOne k f)

def insAt (f : Flight) : List Flight → List Flight
  | [] => [f]
  | g :: r => if g.at_ ≤ f.at_ then g :: insAt f r else f :: g :: r

/-- Bring the core to its current slot: everything due has landed. -/
def landed (k : Core) : Core :=
  let due := (k.flight.filter (fun f => decide (f.at_ ≤ k.slot))).foldl (fun l f => insAt f l) []
  landList due { k with flight := k.flight.filter (fun f => !decide (f.at_ ≤ k.slot)) }

def fly (k : Core) (d : Nat) (dst : FlDst) (vals : List Int) : Core :=
  { k with flight := k.flight ++ [⟨k.slot + d, dst, vals⟩] }

/-- An accumulator write that the forwarding chain sees at once (R169); an AHSUM in flight no longer reaches the chain. -/
def flyAcc (k : Core) (d a : Nat) (vals : List Int) : Core :=
  let fl := k.flight.map (fun f => if f.dst = .sum a then { f with dst := .acc a } else f)
  fly { k with chain := putLanes k.chain (8 * a) 0 vals, flight := fl } d (.acc a) vals

/-! Faults (R184, R185). -/

/-- The sticky bit of a cause. -/
def causeFld (c cause : Nat) : Option Fld :=
  match cause with
  | 2 => some (R.F_MINTAL_STAT_ILL_S c)
  | 3 => some (R.F_MINTAL_STAT_NEST_S c)
  | 4 => some (R.F_MINTAL_STAT_IPAR_S c)
  | 5 => some (R.F_MINTAL_STAT_DECC_S c)
  | 6 => some (R.F_MINTAL_STAT_XWIN_S c)
  | _ => none

/-- Raise a fault: taken at once unless a handler runs, which stops the core. -/
def raiseFault (s : State) (c : Nat) (k : Core) (cause : Nat) : State × Core :=
  let s := match causeFld c cause with | some f => stick s f | none => s
  if stHnd k then (stick s (R.F_MINTAL_STAT_DFAULT_S c), { k with stopped := true })
  else (s, { k with fault := some (k.fault.getD cause) })

/-- A debug cause (R184, R198): it halts the core with DBG_HALT, and waits for its vector otherwise. -/
def raiseDebug (s : State) (c : Nat) (k : Core) (cause : Nat) : State × Core :=
  if isSet s (R.F_MINTAL_CTL_DBG_HALT c) then (stick s (R.F_MINTAL_STAT_DEBUG_S c), { k with halted := true })
  else (s, { k with debug := some ((k.debug).getD cause) })

/-- The cause that INTERRUPT_ENTRY takes now (R184): a fault, else an overrun or a debug cause when IE = 1 and HND = 0. -/
def dueCause (k : Core) : Option Nat :=
  match k.fault with
  | some x => some x
  | none => if stIe k && !stHnd k then (if k.ovr then some 1 else k.debug) else none

/-- The core issues instructions: it runs, is not stalled, and takes no interrupt first. A taken branch's delay slot always
issues before a waiting cause is taken (R171). -/
def canIssue (k : Core) : Bool :=
  !k.held && !k.waiting && !k.waitPend && !k.xstall && k.ninth.isNone && !k.stopped && (!k.halted || k.step) &&
  k.fault.isNone && ((dueCause k).isNone || k.branch.isSome)

/-! Loops (R172 to R175). -/

def loopStart (k : Core) (l : Nat) : Nat := if l = 0 then bits (regVal k 50) 11 0 else bits (regVal k 50) 27 16
def loopEnd (k : Core) (l : Nat) : Nat := if l = 0 then bits (regVal k 51) 11 0 else bits (regVal k 51) 27 16
def loopCnt (k : Core) (l : Nat) : Nat := regVal k (48 + l)
def setLoop (k : Core) (l st e c : Nat) : Core :=
  let lo := if l = 0 then 0 else 16
  let k := setReg k 50 (setBits (regVal k 50) (lo + 11) lo st)
  let k := setReg k 51 (setBits (regVal k 51) (lo + 11) lo e)
  setReg k (48 + l) c

/-- The innermost active level, if any. -/
def innermost (k : Core) : Option Nat := if stLvl k = 0 then none else some (stLvl k - 1)

/-- The instruction at `a` lies in the innermost active body. -/
def inBody (k : Core) (a : Nat) : Bool :=
  match innermost k with
  | some l => decide (loopStart k l ≤ a) && decide (a ≤ loopEnd k l)
  | none => false
def atLoopEnd (k : Core) (a : Nat) : Bool :=
  match innermost k with
  | some l => loopEnd k l == a
  | none => false

/-- The count check at the end of the innermost body, on the values visible as the end instruction issues (R173, R174). A taken
branch whose delay slot is the end instruction keeps its target. -/
def loopBack (k : Core) : Core :=
  if !k.loopDue then k
  else
    let k := { k with loopDue := false }
    match innermost k with
    | none => k
    | some l =>
      let e := loopEnd k l
      let go := fun (k : Core) (a : Nat) => if k.pc = (e + 1) % 4096 then { k with pc := a } else k
      let c := loopCnt k l
      if 1 < c then
        let stall := decide (32 < e + 1 - loopStart k l) || (l == 0 && k.nested)
        let k := setReg k (48 + l) (c - 1)
        let k := setSt k 6 6 (ofBool (!stall))
        let k := { k with nested := k.nested && l != 0, cyc := k.cyc + ofBool stall }
        go k (loopStart k l)
      else
        let k := setReg k (48 + l) 0
        let k := setSt k 5 4 l
        let k := setSt k 6 6 0
        let k := { k with nested := k.nested && l != 0 }
        go k ((e + 1) % 4096)

/-! The call of an FX object (R189, R190). -/

/-- The slots that core c carries with their positions (SCHED_CORE). -/
def fxSlots (s : State) (c : Nat) : List (Nat × Nat) :=
  tabulate (min 2 (getF s (R.F_SCHED_CORE_COUNT c))) (fun j => (getF s (R.F_SCHED_CORE_BASE c) + j, j))

/-- An FX_SW setting lets the object run: ON = 1 and BYPASS = 0 (R73). -/
def objectOn (set : Nat) : Bool := set.testBit 0 && !set.testBit 1

/-- The shell calls the object of a slot (R189 step 5, R196), for either setting of a running FX_SW crossfade. -/
def callsObject (s : State) (slot : Nat) : Bool :=
  match smapFind s.dsp.fxHold slot with
  | none => false
  | some h => h.idOk && !s.redun.muted.contains slot && (objectOn h.now || (match h.old with | some o => objectOn o.1 | none => false))

/-- The non-vector registers but C2, C3, L0 to L11, ST and SIDX. -/
def callClobbers : List Nat := List.range 10 ++ (List.range 24).map (fun i => 12 + i) ++ [48, 49, 50, 51, 53, 54, 55]

/-- The shell's call of the object in position `j` (R190): LVL = 0, IE = 1, L0 to L11 zero, C3 the I/O block and C2 the parameter
block. Every other register, the object's entry address and the shell's return address in RA are free values. -/
def callObject (s : State) (c j : Nat) : State :=
  let f := freshMany s 202
  let x := fun (i : Nat) => nth 0 f.1 i
  let k := getCore s c
  let k := { k with
    v := putLanes [] 0 0 (tabulate 128 (fun i => sext 40 (x i)))
    acc := putLanes [] 0 0 (tabulate 32 (fun i => sext 80 (x (128 + i))))
    chain := putLanes [] 0 0 (tabulate 32 (fun i => sext 80 (x (128 + i))))
    flight := [], branch := none, loopDue := false, skip := none, nested := false, pc := x 201 % 4096 }
  let k := (callClobbers.zipIdx).foldl (fun k p => setReg k p.1 (x (160 + p.2))) k
  let k := (List.range 12).foldl (fun k i => setReg k (36 + i) 0) k
  let k := setReg (setReg k 10 (0x10000 + 0x8000 * j)) 11 (0x7FC0 + 0x8000 * j)
  let k := setReg k 52 (setBits (setBits (setBits (regVal k 52) 6 6 (x 160)) 2 1 (x 161)) 5 4 0 ||| 1)
  putCore f.2 c { k with obj := some (j, regVal k 53, false) }

/-- The shell calls the first of the slots `qs` whose object runs. -/
def callFirst (s : State) (c : Nat) (qs : List (Nat × Nat)) : State :=
  match qs.find? (fun q => callsObject s q.1) with
  | some q => callObject s c q.2
  | none => putCore s c { getCore s c with obj := none }

/-- An object has returned: the shell goes on to the core's next slot. -/
def objectBack (s : State) (c : Nat) : State :=
  match (getCore s c).obj with
  | some (j, _, true) => callFirst s c ((fxSlots s c).filter (fun q => decide (j < q.2)))
  | _ => s

/-- The RET of an object that the shell has called: it goes to the shell's return address. -/
def markReturn (k : Core) : Core :=
  match k.obj with
  | some (j, ra, _) => if regVal k 53 = ra then { k with obj := some (j, ra, true) } else k
  | none => k

/-- After an instruction has issued at the core's pc: slot, cycle count, next address, loop end, breakpoint (R166, R171 to
R173), and after the delay slot of an object's RET the shell's next call (R189). `br` is the target of a branch that this
instruction takes. -/
def advance (s : State) (c : Nat) (k : Core) (stalls : Nat) (br : Option Nat) : State :=
  let a := k.pc
  let s := setF s (R.F_MINTAL_PC_PC c) a
  let nxt := match k.branch with
    | some t => t
    | none => match k.skip with
      | some (l, t) => if l = a then t else (a + 1) % 4096
      | none => (a + 1) % 4096
  let skip := match k.skip with | some (l, t) => if l = a then none else some (l, t) | none => none
  let k := { k with slot := k.slot + 1, cyc := k.cyc + 1 + stalls, pc := nxt, branch := br, skip := skip,
                    loopDue := atLoopEnd k a }
  let stepped := k.step
  let k := { k with step := false }
  let s := if stepped then setF s (R.F_MINTAL_CTL_STEP c) 0 else s
  let r := if stepped then raiseDebug s c k 9 else (s, k)
  let r := if isSet r.1 (R.F_MINTAL_BKPT_EN c) && getF r.1 (R.F_MINTAL_BKPT_ADDR c) == a then raiseDebug r.1 c r.2 8 else r
  let t := putCore r.1 c r.2
  if br.isNone then objectBack t c else t

/-- An illegal instruction does not issue (R178, R184); a STEP goes on waiting for the instruction that does (R198). -/
def illegal (s : State) (c : Nat) (k : Core) : State :=
  let r := raiseFault s c k 2
  putCore r.1 c r.2

/-- The core ready to issue: a loop's count checked and due results landed; none when it does not issue. -/
def begin? (s : State) (c : Nat) : Option Core :=
  if 64 ≤ c then none
  else
    let k := getCore s c
    if canIssue k then some (landed (loopBack k)) else none

/-! Moves (R164 to R167). -/

/-- R165: the address after post-modification. -/
def postMod (k : Core) (r md unit4 unit32 : Nat) : Nat :=
  let a : Int := (regVal k r : Int)
  let m : Int := match md with
    | 0 => 0
    | 1 => sext 18 (regVal k (12 + r))
    | 2 => (unit32 : Int)
    | _ => (unit4 : Int)
  let b : Int := ((regVal k (24 + r) / 4 * 4 : Nat) : Int)
  let l : Int := ((regVal k (36 + r) / 4 * 4 : Nat) : Int)
  let t := a + m
  let t := if l = 0 then t else if b + l ≤ t then t - l else if t < b then t + l else t
  lowBits 18 t

/-- Byte address in the crossbar map of scratchpad address `a` of core `c`. -/
def spAddr (c a : Nat) : Nat := 0x0100000000 + c * 0x40000 + a % 0x40000

/-- The bytes that a format moves: first address and length (R164). -/
def fmtSpan (fmt a : Nat) : Nat × Nat := if 6 ≤ fmt then (a - a % 4, 4) else (a - a % 32, 32)

/-- Word `i` of loaded bytes, `n` bytes wide. -/
def wordAt (bs : List Nat) (n i : Nat) : Nat := ofLeBytes ((bs.drop (n * i)).take n)

/-- The lanes a load writes: first lane and values (R164). -/
def loadLanes (fmt : Nat) (bs : List Nat) : Nat × List Int :=
  match fmt with
  | 0 => (0, tabulate 8 (fun i => sext 32 (wordAt bs 4 i)))
  | 1 => (0, tabulate 8 (fun i => sext 32 (wordAt bs 4 i)))
  | 2 => (0, tabulate 8 (fun i => 16 * sext 32 (wordAt bs 4 i)))
  | 3 => (0, tabulate 8 (fun i => 16 * sext 32 (wordAt bs 4 i)))
  | 4 => (0, tabulate 4 (fun i => sext 40 (wordAt bs 8 i)))
  | 5 => (4, tabulate 4 (fun i => sext 40 (wordAt bs 8 i)))
  | _ => (0, List.replicate 8 (sext 32 (wordAt bs 4 0)))

/-- The bytes a store writes, and whether it saturated (R164, R176). -/
def storeBytes (fmt : Nat) (lane : Nat → Int) : List Nat × Bool :=
  let w32 := fun (v : Int) => leBytes 4 (lowBits 32 v)
  match fmt with
  | 0 => ((tabulate 8 (fun i => w32 (lane i))).flatten, false)
  | 1 => ((tabulate 8 (fun i => w32 (satInt 32 (lane i)))).flatten, (List.range 8).any (fun i => satHits 32 (lane i)))
  | 2 => ((tabulate 8 (fun i => w32 (shrInt (lane i) 4))).flatten, false)
  | 3 => ((tabulate 8 (fun i => w32 (satInt 32 (shrInt (lane i) 4)))).flatten,
      (List.range 8).any (fun i => satHits 32 (shrInt (lane i) 4)))
  | 4 => ((tabulate 4 (fun i => leBytes 8 (lowBits 64 (lane i)))).flatten, false)
  | 5 => ((tabulate 4 (fun i => leBytes 8 (lowBits 64 (lane (4 + i))))).flatten, false)
  | 6 => (w32 (lane 0), false)
  | _ => (w32 (satInt 32 (lane 0)), satHits 32 (lane 0))

/-- The line of a sweep item that holds a byte of an FX core's scratchpad (R187, R194): slot and line. -/
def fxLine (c a : Nat) : Option (Nat × Nat) :=
  if c < 40 then none
  else
    let sl := 2 * (c - 40)
    if a < 0x8000 then some (sl, a / 256)
    else if a < 0x10000 then some (sl + 1, (a - 0x8000) / 256)
    else if 0x10800 ≤ a && a < 0x18000 then some (sl, 128 + (a - 0x10000) / 256)
    else if 0x18800 ≤ a && a < 0x20000 then some (sl + 1, 128 + (a - 0x18000) / 256)
    else if 0x3F000 ≤ a && a < 0x3F400 then some (sl, 256 + (a - 0x3F000) / 256)
    else if 0x3F400 ≤ a && a < 0x3F800 then some (sl + 1, 256 + (a - 0x3F400) / 256)
    else none

def insLine (x : Nat) : List Nat → List Nat
  | [] => [x]
  | y :: r => if x = y then y :: r else if x < y then x :: y :: r else y :: insLine x r

/-- A write to a line of an item under sweep sets its dirty bit (R194). -/
def touchLine (s : State) (sl line : Nat) : State :=
  match smapFind s.redun.dirty sl with
  | some l => { s with redun := { s.redun with dirty := smapPut s.redun.dirty sl (insLine line l) } }
  | none => s

def touchAddr (s : State) (c a : Nat) : State :=
  match fxLine c a with
  | some (sl, l) => touchLine s sl l
  | none => s

def moveKind (m : Move) : Nat := m.kind.toNat
/-- The address register of a bus (0 X, 1 Y, 2 C). -/
def moveReg (bus : Nat) (m : Move) : Nat := 4 * bus + m.ar.toNat
def moveBank (k : Core) (bus : Nat) (m : Move) : Option Nat :=
  if moveKind m = 1 || moveKind m = 2 then some (regVal k (moveReg bus m) / 65536) else none

/-- Stall cycles of bank collisions among the three moves (R166). -/
def bankStalls (k : Core) (x : Arith) : Nat :=
  let b0 := moveBank k 0 x.mx
  let b1 := moveBank k 1 x.my
  let b2 := moveBank k 2 x.mc
  let hit := fun (a b : Option Nat) => a.isSome && a == b
  ofBool (hit b1 b0) + ofBool (hit b2 b0 || hit b2 b1)

/-- The load of a bus, if it makes one: read through ECC, in flight for 3 slots; a double error raises DECC (R167). -/
def doLoad (c bus : Nat) (m : Move) (r : State × Core) : State × Core :=
  if moveKind m != 1 then r
  else
    let k := r.2
    let f := m.fmt.toNat
    let sp := fmtSpan f (regVal k (moveReg bus m))
    let x := eccRead r.1 (spAddr c sp.1) sp.2
    let l := loadLanes f x.1
    let k := fly k 3 (.v m.v.toNat l.1) l.2
    if x.2.1 then raiseFault x.2.2 c k 5 else (x.2.2, k)

/-- The store of a bus, if it makes one, with the register values at issue (`k0`). -/
def doStore (c bus : Nat) (m : Move) (k0 : Core) (r : State × Core) : State × Core :=
  if moveKind m != 2 then r
  else
    let f := m.fmt.toNat
    let sp := fmtSpan f (regVal k0 (moveReg bus m))
    let b := storeBytes f (vLane k0 m.v.toNat)
    (touchAddr (writeBytes r.1 (spAddr c sp.1) b.1) c sp.1, setFlag r.2 1 b.2)

/-- The post-modification of a bus, visible in the next slot. -/
def doPost (bus : Nat) (m : Move) (k0 : Core) (k : Core) : Core :=
  if moveKind m = 0 || m.md = 0 then k
  else let r := moveReg bus m; fly k 1 (.reg r) [(postMod k0 r m.md.toNat 4 32 : Nat)]

/-- The moves of an instruction: loads (the X move wins over Y over C), then stores in bus order, then post-modifications. A
load reads what stood before the stores of its instruction (R168, R170). -/
def doMoves (s : State) (c : Nat) (k0 k : Core) (x : Arith) : State × Core :=
  let r := doLoad c 0 x.mx (doLoad c 1 x.my (doLoad c 2 x.mc (s, k)))
  let r := doStore c 2 x.mc k0 (doStore c 1 x.my k0 (doStore c 0 x.mx k0 r))
  (r.1, doPost 2 x.mc k0 (doPost 1 x.my k0 (doPost 0 x.mx k0 r.2)))

def badMoves (x : Arith) : Bool := moveKind x.mx == 3 || moveKind x.my == 3 || moveKind x.mc == 3

/-! Arithmetic (R176, R178). -/

/-- What an arithmetic operation makes of the core: its results put in flight and its flags. -/
abbrev ArithOp := Core → Arith → Core

/-- Issue an arithmetic instruction: operands are the values visible in its slot. -/
def issueArith (s : State) (c : Nat) (x : Arith) (op : ArithOp) : State :=
  match begin? s c with
  | none => s
  | some k =>
    if badMoves x then illegal s c k
    else
      let r := doMoves s c k (op k x) x
      advance r.1 c r.2 (bankStalls k x) none

def lanes8 (f : Nat → Int) : List Int := tabulate 8 f
def srcA (k : Core) (x : Arith) (i : Nat) : Int := vLane k x.a.toNat i
def srcB (k : Core) (x : Arith) (i : Nat) : Int := vLane k x.b.toNat i

/-- A V result with the choice of S: saturated (ST.SAT when a lane changes) or the low 40 bits (R176). -/
def putV (d : Nat) (k : Core) (x : Arith) (f : Nat → Int) : Core :=
  if x.s then setFlag (fly k d (.v x.d.toNat 0) (lanes8 (fun i => satQ (f i)))) 1 ((List.range 8).any (fun i => satHits 40 (f i)))
  else fly k d (.v x.d.toNat 0) (lanes8 (fun i => wrapInt 40 (f i)))

/-- A V result that is never out of range. -/
def putExact (k : Core) (x : Arith) (f : Nat → Int) : Core := fly k 2 (.v x.d.toNat 0) (lanes8 f)

/-- The accumulator of an operation, E[1:0]. -/
def accSel (x : Arith) : Nat := x.e.toNat % 4

/-- An accumulator result modulo 2⁸⁰; `add` tells an addition, which sets ST.AOV when its exact result does not fit (R176). -/
def putAcc (d : Nat) (k : Core) (a : Nat) (add : Bool) (f : Nat → Int) : Core :=
  setFlag (flyAcc k d a (lanes8 (fun i => wrapInt 80 (f i)))) 2 (add && (List.range 8).any (fun i => satHits 80 (f i)))

/-- Bitwise operations act on the 40 bits of a lane. -/
def bitOp (g : Nat → Nat → Nat) (a b : Int) : Int := sext 40 (g (lowBits 40 a) (lowBits 40 b))

/-! Control instructions (R179). -/

/-- Issue a control instruction: illegal at the end of the innermost body (R175). -/
def issueCtl (s : State) (c : Nat) (f : Core → State) : State :=
  match begin? s c with
  | none => s
  | some k => if atLoopEnd k k.pc then illegal s c k else f k

/-- A result in a register that must exist and be writable: 57 to 63 and a write to SIDX are illegal (R163). -/
def regOk (write : Bool) (r : Nat) : Bool := if write then r ≤ 55 else r ≤ 56

/-- The condition of BR for lane 0 (R179); none for codes 5 to 15. -/
def condHolds (code : Nat) (v : Int) : Option Bool :=
  match code with
  | 0 => some true
  | 1 => some (decide (v < 0))
  | 2 => some (decide (v = 0))
  | 3 => some (decide (0 < v))
  | 4 => some (decide (v ≠ 0))
  | _ => none

/-- A branch taken from inside an active innermost body must stay inside it (R175). -/
def branchOk (k : Core) (t : Nat) : Bool := !inBody k k.pc || inBody k t

/-- LOOP (R172). A count of 0 writes the level's start, end and count all the same, and leaves LVL. -/
def issueLoop (s : State) (c count : Nat) (csrc : Bool) (nsel soff e : Nat) : State :=
  issueCtl s c (fun k =>
    let p := k.pc
    let n := if csrc then regVal k (12 + nsel) % 65536 else count
    let v := stLvl k
    if v = 2 then (let r := raiseFault s c k 3; advance r.1 c r.2 0 none)
    else if e < p + 1 + soff || (v == 1 && decide (loopEnd k 0 ≤ e)) || (csrc && decide (12 ≤ nsel)) then illegal s c k
    else
      let k := setSt (setLoop k v (p + 1 + soff) e n) 6 6 0
      let k := { k with nested := k.nested || v == 1 }
      if n = 0 then
        (if soff = 0 then (let s := advance s c k 0 none; putCore s c { getCore s c with pc := (e + 1) % 4096 })
        else advance s c { k with skip := some (p + soff, (e + 1) % 4096) } 0 none)
      else advance s c (setSt k 5 4 (v + 1)) 0 none)

/-! WAIT and the crossbar port (R180 to R183). -/

/-- The core stops until its next release; the window of the release is met (MINTAL_CYC_LAST, MINTAL_CYC_MAX). -/
def stopWait (s : State) (c : Nat) (k : Core) : State :=
  let s := if k.inWindow then
      let n := min k.cyc 0xFFFF
      let s := setF s (R.F_MINTAL_CYC_LAST_CYCLES c) n
      setF s (R.F_MINTAL_CYC_MAX_CYCLES c) (max n (getF s (R.F_MINTAL_CYC_MAX_CYCLES c)))
    else s
  putCore s c { k with waiting := true, waitPend := false, obj := none }

/-- WAIT (R175, R180): clears HND, sets IE, ends every loop, and waits for outstanding accesses. -/
def issueWait (s : State) (c : Nat) : State :=
  match begin? s c with
  | none => s
  | some k =>
    let k := setSt (setSt (setSt (setSt k 7 7 0) 0 0 1) 5 4 0) 6 6 0
    let s := advance s c { k with nested := false, skip := none } 0 none
    let k := getCore s c
    if k.xq.isEmpty then stopWait s c { k with loopDue := false }
    else putCore s c { k with waitPend := true, loopDue := false }

/-- WAITX (R179). -/
def issueWaitx (s : State) (c : Nat) : State :=
  issueCtl s c (fun k =>
    let s := advance s c k 0 none
    let k := getCore s c
    if k.xq.isEmpty then s else putCore s c { k with xstall := true })

/-- The FX pool window of a core in bytes (R181). -/
def xBase (s : State) (c : Nat) : Nat := getF s (R.F_MINTAL_XBASE_BASE c) * 32
def xLen (s : State) (c : Nat) : Nat := getF s (R.F_MINTAL_XLEN_LEN c) * 32

/-- An access joins the outstanding ones, or is refused outside the window: a refused load writes zero (R181). -/
def startAccess (s : State) (c : Nat) (k : Core) (x : XAcc) : State × Core :=
  if xLen s c ≤ x.off then
    let s := count s (R.F_MINTAL_XWIN_SUMP_CNT_XWIN_SUMP_CNT c) 1
    let k := if x.load then { k with v := putLanes k.v (8 * x.v) 0 (List.replicate 8 0) } else k
    raiseFault s c k 6
  else (setF s (R.F_MINTAL_XLAT_OUTSTANDING c) (k.xq.length + 1), { k with xq := k.xq ++ [x] })

/-- XLD and XST (R181): formats B32 and B32S are illegal; a ninth access stalls issue until one completes. -/
def issueX (s : State) (c : Nat) (load : Bool) (v ck md fmt : Nat) : State :=
  issueCtl s c (fun k =>
    if 6 ≤ fmt then illegal s c k
    else
      let r := 8 + ck
      let off := 32 * regVal k r
      let b := if load then ([], false) else storeBytes fmt (vLane k v)
      let k1 := setFlag k 1 b.2
      let k1 := if md = 0 then k1 else fly k1 1 (.reg r) [(postMod k r md 1 1 : Nat)]
      let x : XAcc := ⟨load, v, fmt, off, b.1, k.cyc⟩
      if k.xq.length = 8 then
        let s := advance s c k1 0 none
        putCore s c { getCore s c with ninth := some x }
      else
        let q := startAccess s c k1 x
        advance q.1 c q.2 0 none)

/-- The access of a completed load or store of core `c` at pool address `a`: the loaded lanes, or the written bytes; a store
below XSWEPT dirties its line for the sweep. -/
def xLand (s : State) (c : Nat) (load : Bool) (k : Core) (x : XAcc) (a : Nat) : State × Core :=
  if load then
    let m := memAccess (granted s (xbarTarget a) 17) ⟨17, a, 32, none, false⟩
    let l := loadLanes x.fmt m.data
    let k := { k with v := putLanes k.v (8 * x.v) l.1 l.2 }
    if m.poison then raiseFault m.st c k 5 else (m.st, k)
  else
    let m := memAccess (granted s (xbarTarget a) 17) ⟨17, a, x.data.length, some x.data, false⟩
    let sw := min (getF s (R.F_MINTAL_XSWEPT_SWEPT c) * 32) (min (xLen s c) 0x100000)
    (if x.off < sw && 40 ≤ c then
        touchLine (touchLine m.st (2 * (c - 40)) (260 + x.off / 256)) (2 * (c - 40) + 1) (260 + x.off / 256)
      else m.st, k)

/-- A ninth access that waited for the queue starts. -/
def xNinth (r : State × Core) (c : Nat) : State × Core :=
  match r.2.ninth with
  | some y => startAccess r.1 c { r.2 with ninth := none } y
  | none => r

/-- The oldest outstanding access of a core completes, unless a lock or a handover makes it wait (R204, R218), after `lat` CK_DSP cycles (R181, R183): a load writes its register, a
store writes the pool; a stalled core goes on. -/
def completeX (s : State) (c : Nat) (load : Bool) (lat : Nat) : State :=
  if 64 ≤ c then s
  else
    let k := landed (loopBack (getCore s c))
    match k.xq with
    | [] => s
    | x :: q =>
      let a := xBase s c + x.off
      if x.load != load || mustWait s ⟨17, a, 32, none, false⟩ then s
      else
        let s := if lat ≤ getF s (R.F_MINTAL_XLAT_MAX c) then s else setF s (R.F_MINTAL_XLAT_MAX c) (min lat 0xFFFF)
        let s := setF s (R.F_MINTAL_XLAT_OUTSTANDING c) q.length
        let k := { k with xq := q }
        let k := if k.xstall || k.waitPend || k.ninth.isSome then { k with cyc := max k.cyc (x.cyc + lat) } else k
        let r := xNinth (xLand s c load k x a) c
        if r.2.xq.isEmpty && r.2.waitPend then stopWait r.1 c r.2
        else putCore r.1 c { r.2 with xstall := r.2.xstall && !r.2.xq.isEmpty }

/-! Interrupt entry, reset, release, debug (R163, R184, R185, R197, R198). -/

/-- R184: a debug cause that waited while DBG_HALT was 0 halts the core once it is 1 (R198); otherwise 4 empty slots, then EPC and ECAUSE, IE cleared, HND set, and the vector. -/
def interruptEntry (s : State) (c : Nat) : State :=
  if 64 ≤ c then s
  else
    let k := getCore s c
    match dueCause k with
    | none => s
    | some cause =>
      let stay := k.held || k.waiting || k.waitPend || k.xstall || k.ninth.isSome || k.stopped || (k.halted && !k.step) ||
        (k.branch.isSome && k.fault.isNone)
      if stay then s
      else if 7 ≤ cause && isSet s (R.F_MINTAL_CTL_DBG_HALT c) then
        putCore (stick s (R.F_MINTAL_STAT_DEBUG_S c)) c { k with debug := none, halted := true }
      else
        let k := landed (loopBack k)
        let k := landed { k with slot := k.slot + 4, cyc := k.cyc + 4 }
        let k := setReg (setReg k 54 k.pc) 55 cause
        let k := setSt (setSt k 0 0 0) 7 7 1
        let vec := if cause = 1 then 4 else if cause ≤ 6 then 8 else 12
        let k := { k with pc := vec, branch := none,
                          fault := none,
                          ovr := if cause = 1 then false else k.ovr,
                          debug := if 7 ≤ cause then none else k.debug }
        let s := if 7 ≤ cause then stick s (R.F_MINTAL_STAT_DEBUG_S c) else s
        let s := setF s (R.F_MINTAL_CAUSE_ECAUSE c) cause
        let s := setF s (R.F_MINTAL_CAUSE_EPC c) (regVal k 54)
        putCore s c k

/-- Hold a core in reset (R197). -/
def holdCore (s : State) (c : Nat) : State :=
  setF (putCore s c coreInit) (R.F_MINTAL_XLAT_OUTSTANDING c) 0

/-- Release a core (R163): address 0, ST = 0x01, everything else zero; statistics since release restart. HALT_REQ = 1 halts it
at its first issue boundary (R198). -/
def releaseCore (s : State) (c : Nat) : State :=
  let k := setReg { coreInit with held := false, halted := isSet s (R.F_MINTAL_CTL_HALT_REQ c) } 52 1
  setF (putCore s c k) (R.F_MINTAL_CYC_MAX_CYCLES c) 0

/-- The core may leave reset: RESET is 0, no failed memory holds it, and no warm reset or cold take-over holds the cores (R22,
R197, R222, R303). -/
def mayRelease (s : State) (c : Nat) : Bool :=
  c < 64 && (getCore s c).held && !isSet s (R.F_MINTAL_CTL_RESET c) && !coreFailed s c && !s.rst.coresHeld

/-- A write of MINTAL_CTL (R197, R198). HALT_REQ = 0 resumes a halted core, but for a STEP of a core that a debug cause has
halted. -/
def mintalCtlWrite (s : State) (c v : Nat) : State :=
  if 64 ≤ c then s
  else
    let s := setF s (R.F_MINTAL_CTL_DBG_HALT c) (bits v 2 2)
    let s := if v.testBit 4 then setF (setF s (R.F_MINTAL_CYC_MAX_CYCLES c) 0) (R.F_MINTAL_XLAT_MAX c) 0 else s
    let was := isSet s (R.F_MINTAL_CTL_HALT_REQ c)
    let s := setF s (R.F_MINTAL_CTL_HALT_REQ c) (bits v 1 1)
    let s := if v.testBit 1 then putCore s c { getCore s c with halted := !(getCore s c).held }
      else if v.testBit 3 && !was then s
      else if was || (getCore s c).halted then putCore s c { getCore s c with halted := false } else s
    let s := if v.testBit 3 && (getCore s c).halted then
        setF (putCore s c { getCore s c with step := true }) (R.F_MINTAL_CTL_STEP c) 1
      else s
    let s := setF s (R.F_MINTAL_CTL_RESET c) (bits v 0 0)
    if v.testBit 0 then holdCore s c else s

/-- A write of XBASE, XLEN or XSWEPT, accepted only while RESET = 1 (R197). -/
def mintalXWrite (s : State) (c off : Nat) (v : Word) : State :=
  if c < 64 && isSet s (R.F_MINTAL_CTL_RESET c) then csrWrite s off v else s

/-- The live fields of MINTAL_STAT. -/
def mintalStat (s : State) (c : Nat) : Nat :=
  let k := getCore s c
  let w := (csrGet s (R.MINTAL_STAT c)).toNat
  let w := setBits w 15 15 (ofBool (stHnd k))
  let w := setBits w 14 14 (ofBool k.halted)
  let w := setBits w 13 13 (ofBool k.waiting)
  setBits w 12 12 (ofBool k.held)

end Sys2Proof.Machine
end

