-- ==== Sys2Proof/Machine/Restart.lean ====
section
/-! DEFINITION. The loss of the journal, the restart check, replay, and the restart of the cores at n_r (R133, R134, R155 to
R158, R303). -/
namespace Sys2Proof.Machine

/-- Hold every core (R22, R303). -/
def holdAll (s : State) : State :=
  (List.range 64).foldl holdCore { s with rst := { s.rst with coresHeld := true } }

/-- The journal and the session table are lost, and written afresh with their CRC-32 (R155, R156). -/
def journalLost (s : State) : State :=
  let h := { s.hr with
    sessions := [], jhead := 0, jappl := 0, jcmds := [], waitAck := [], mack := 0, expiring := [], replayFirst := 0, replayLast := 0, retOk := true }
  stick { s with hr := h } R.F_HEADRACE_STAT_JOURNAL_LOST_S

/-- The entries that replay hands over, when every one fits (R156). -/
def replayList (s : State) : Option (List Entry) := scanJournal s 65537 (s.hr.jappl + 1) s.hr.jhead []

/-- Banks 128 to 139 still retain (R12, R156). -/
def banksRetain (s : State) : Bool := getF s (R.F_RSV_RETAIN_RETAIN 4) % 4096 == 4095

/-- No word of the retention SRAM is uncorrectable (R156). -/
def keptSound (s : State) : Bool :=
  !s.bus.ecc.any (fun e => decide (0x0500000000 ≤ e.1) && decide (e.1 < 0x0500040000) && e.2 % 256 == 3)

/-- The restart check (R156); `march` tells whether the transparent marches of this boot passed. -/
def restartCheck (s : State) (march : Bool) : Bool :=
  s.hr.retOk && keptSound s && march && banksRetain s && (replayList s).isSome

/-- Hand every command from JAPPLIED + 1 to JHEAD to the Sluice, in journal order (R157). -/
def replayAll (ap : State → Nat → Nat → State) (s : State) : State :=
  let es := (replayList s).getD []
  let first := match es with
    | [] => 0
    | e :: _ => e.jpos
  let last := match es.getLast? with
    | some e => e.jpos + e.len - 1
    | none => 0
  let h := { s.hr with
    jcmds := es.map (fun e => ⟨e.jpos, e.len, e.nC, false⟩), replayFirst := first, replayLast := last }
  let s := setF { s with hr := h } R.F_HEADRACE_REPLAY_COMMANDS es.length
  let s := if es.isEmpty then s else stick s R.F_HEADRACE_STAT_REPLAY_S
  es.foldl (fun s e => enterEntry ap s e true) s

/-- Restore the parameters and replay (R133, R157): dirty cells are restored, every column is restaged, the journal replayed. -/
def restageReplay (ap : State → Nat → Nat → State) (s : State) : State :=
  let s := restageAll (restoreDirty s)
  let s := { s with slu := { s.slu with ramps := [] }, dsp := { s.dsp with xf := [] } }
  replayAll ap s

/-- A replayed group whose index has come takes effect with the others at n_r: loaded, written, flipped without ramps or
crossfades, settled, and its stores captured (R134). -/
def mergeGroup (ap : State → Nat → Nat → State) (n : Nat) (s : State) (g : Group) : State :=
  let s := (regsOf g.members).foldl (fun s r => ap s r.1 r.2) s
  let r := g.members.foldl stageMember (s, [])
  let ws := r.2.flatMap (memberWrites r.1)
  let s := stageCols (stageWrites r.1 ws) ws
  let s := flipWords s n ws true
  let s := stick (count s R.F_SLUICE_FLIP_CNT_FLIP_CNT 1) R.F_SLUICE_STAT_FLIP_S
  let s := settleCells s ws
  let s := r.2.foldl captureMember { s with slu := { s.slu with lastFlip := n, capRamp := plive s pidFloodRamp } }
  markApplied s (fun c => g.members.any (fun m => memberJpos m == c.jpos))

/-- Every group due by tick n takes effect together, settled at once with nothing owed (DESIGN CHOICE, in the log); the next group
opens (R134). -/
def mergeDue (ap : State → Nat → Nat → State) (s : State) (n : Nat) : State :=
  let due := s.slu.groups.filter (fun g => idxDue n g.idx)
  let rest := match s.slu.groups.filter (fun g => !idxDue n g.idx) with
    | [] => []
    | h :: r => (if h.st = .wait then { h with st := .opn } else h) :: r
  let s := { s with slu := { s.slu with groups := rest, owed := 0 } }
  let s := due.foldl (mergeGroup ap n) s
  if due.isEmpty then s else stick s R.F_SLUICE_STAT_WARM_MERGE_S

/-- Every core that the DSP image gives a kind may run: MINTAL_CTL.RESET, which a reset leaves at 1, is cleared. -/
def freeCores (s : State) : State :=
  (List.range 64).foldl (fun s c => if coreKind s c == 0 then s else setF s (R.F_MINTAL_CTL_RESET c) 0) s

/-- Release every core that may run. -/
def releaseAll (s : State) : State :=
  (List.range 64).foldl (fun s c => if mayRelease s c then releaseCore s c else s)
    { s with rst := { s.rst with coresHeld := false } }

/-- The cores restart at tick n_r (R134): the due groups take effect, EVENT WARM_RESTART goes to every open session, a lone
engine raises ROLE_ACT, and a HALTED engine without a fatal fault becomes STANDBY (R293, R294). After a warm reset the dither
register and the generators start afresh (R74, R77). -/
def coresRestart (ap : State → Nat → Nat → State) (s : State) : State :=
  if s.rst.stage != .restart || !s.sched.running then s
  else
    let n := nowIdx s
    let s := mergeDue ap s n
    let s := if s.rst.warm then resetGens (reloadPrng s) else s
    let s := releaseAll (if s.rst.warm then freeCores s else s)
    let s := { s with rst := { s.rst with stage := .running, warm := false } }
    let s := loneRole s
    let s := if s.redun.paired && s.redun.role = 4 && !s.flood.fault then setRole s 1 else s
    let s := sendEvent s 4 (beBytes 8 n ++ beBytes 6 s.hr.replayFirst ++ beBytes 6 s.hr.replayLast)
    s

end Sys2Proof.Machine
end

