-- ==== Sys2Proof/Machine/Redun.lean ====
section
/-! DEFINITION. The pair at work: the lease, take-over and return, what the standby receives, resync and Canary's comparison
(R294 to R322). -/
namespace Sys2Proof.Machine

/-! HELLO and STATUS (R313, R314). -/

/-- Sequence number and CRC of the show directory in use; 0 with none (R126, R313). -/
def showMark (s : State) : Nat × Nat :=
  match dirSelect s with
  | some k =>
    let a := s.slu.buf.showBase + 0x10000 * k
    (readWord s (a + 4) 4, readWord s (a + 8) 4)
  | none => (0, 0)

/-- The window tables as HELLO carries them: active and shadow of every window register. -/
def windowList (s : State) : List Nat :=
  [R.SCHED_WIN_A, R.SCHED_WIN_B, R.SCHED_WIN_C, R.SCHED_WIN_D, R.SCHED_WIN_E, R.SCHED_WIN_DB, R.SCHED_WIN_DM].map
    (fun o => (csrGet s o).toNat)

def localHello (s : State) : Hello :=
  { epoch := getF s R.F_REDUN_EPOCH_LOCAL, dsp := s.redun.myDsp, rate := rateCode s, family := rootFamily s,
    windows := windowList s, stuck := getF s R.F_SCHED_CTL_STUCK_LIMIT, audio := s.redun.myAudio,
    showSeq := (showMark s).1, showCrc := (showMark s).2, pair := pairBit s, home := homeBit s }

def helloSend (s : State) : State := linkSend s (.hello (localHello s))

/-- The REASON of the first field that differs, 0 when none does (R295, R313). -/
def helloReason (a b : Hello) : Nat :=
  if a.epoch != b.epoch then 1
  else if a.dsp != b.dsp then 2
  else if a.rate != b.rate || a.family != b.family then 3
  else if a.windows != b.windows || a.stuck != b.stuck then 4
  else if a.audio != b.audio then 5
  else if a.showSeq != b.showSeq || a.showCrc != b.showCrc then 6
  else if !b.pair then 7
  else 0

def statusSend (s : State) : State :=
  linkSend s (.status s.redun.role s.redun.sync (homeBit s) (isSet s R.F_TEST_STAT_OPEN) s.redun.rcv0 s.redun.rcv1)

/-- REASON that prevents a resync (R295). -/
def reasonBlocks (r : Nat) : Bool := 1 ≤ r && r ≤ 7

/-! COPY (R318). -/

/-- The live half of a cell as COPY carries it: the Sirlos engine, master 14, reads it. -/
def copyCell (s : State) (c : Nat) : State :=
  let a := pstoreAddr (cellBsel s c) (16 * c)
  linkSend (scanRange s 14 a 64) (.copy (.cell c (cellBsel s c) (tabulate 16 (fun k => viewWord s 14 (a + 4 * k) 4))))

/-- COPY begins: every cell, the session table, and the journal from JAPPLIED to JHEAD; mirroring and forwarding begin. -/
def startCopy (s : State) : State :=
  let s := { s with redun := { s.redun with phase := 2, feeding := true, copied := none } }
  let s := (List.range 0x4000).foldl copyCell s
  let s := s.hr.sessions.foldl (fun s x => linkSend s (.copy (.session x.1 x.2))) s
  (List.range (s.hr.jhead + 1 - s.hr.jappl)).foldl (fun s k =>
    let a := journalAddr (s.hr.jappl + k)
    linkSend (scanRange s 14 a 32) (.copy (.entry (s.hr.jappl + k) (viewBytes s 14 a 32)))) s

/-- Cells whose live half changed after they were sent are sent again. -/
def copyChanged (s : State) (cs : List Nat) : State :=
  if s.redun.feeding && s.redun.sync = 3 && s.redun.copied.isNone then cs.foldl copyCell s else s

/-- The copy is complete at tick n_p; the final frame names it (R318). -/
def copyComplete (s : State) : State :=
  if isActive s && s.redun.sync = 3 && s.redun.feeding && s.redun.copied.isNone then
    let s := linkSend s (.copy (.last (nowIdx s) s.hr.jappl s.hr.jhead))
    { s with redun := { s.redun with copied := some (nowIdx s) } }
  else s

/-- The unit enters COPY_ALIGN: its cores are held and its journal gives way to the active engine's (R317, R318). -/
def unitPhase2 (s : State) : State :=
  let s := holdAll { s with redun := { s.redun with phase := 2, copied := none, aligned := false, n0 := none } }
  { s with
    hr := { s.hr with sessions := [], jhead := 0, jappl := 0, jcmds := [], waitAck := [], expiring := [] },
    slu := { s.slu with groups := [], urgent := [], owed := 0 } }

/-- The latest HELLO allows COPY_ALIGN (R317). -/
def linkDone (s : State) : State :=
  if s.redun.sync = 3 && s.redun.phase = 1 && !reasonBlocks s.redun.reason then
    (if s.redun.unit then unitPhase2 s else startCopy s)
  else s

/-! Starting a resync (R317). -/

def mayResync (s : State) : Bool :=
  s.redun.paired && s.redun.role == 2 && s.redun.sync == 2 && s.redun.peer.role == 1 && s.redun.peer.sync == 2 &&
    !reasonBlocks s.redun.reason

def resyncStart (s : State) : State :=
  if mayResync s then
    setF { s with redun := { s.redun with sync := 3, phase := 1, unit := false, copied := none, verify := none } }
      R.F_REDUN_RESYNC_TRIES 0
  else s

def autoResync (s : State) : State := if isSet s R.F_REDUN_CTL_AUTO_RESYNC then resyncStart s else s

/-- The unit learns from STATUS that the active engine resyncs it. -/
def unitStart (s : State) : State :=
  if s.redun.role = 1 && s.redun.sync = 2 && s.redun.peer.role = 2 && s.redun.peer.sync = 3 then
    let s := setF { s with redun := { s.redun with sync := 3, phase := 1, unit := true } } R.F_REDUN_RESYNC_TRIES 0
    discord (reselect s 3)
  else s

/-- A STATUS frame (R295, R298, R304, R314). -/
def statusRx (s : State) (role sync : Nat) (home test : Bool) (ack0 ack1 : Nat) : State :=
  let before := s.redun.peer
  let s := linkAck (linkAck s 0 ack0) 1 ack1
  let s := { s with redun := { s.redun with peer := ⟨role % 8, sync % 8, home, test⟩ } }
  let s := if s.redun.sync = 1 then { s with redun := { s.redun with sync := 2, reason := 0 } } else s
  let s := if role = 4 then
      let s := leaveSynced (resyncFail s) 7
      if s.redun.sync = 2 then { s with redun := { s.redun with reason := 7 } } else s
    else if before.role = 4 && s.redun.reason = 7 then { s with redun := { s.redun with reason := 0 } } else s
  let s := if s.redun.role = 2 && role = 2 then
      let first := before.role != 2 || s.redun.reason != 11
      let s := leaveSynced (stick s R.F_REDUN_HIST_DUAL_S) 11
      let s := { s with redun := { s.redun with reason := 11 } }
      if first then sendRole s 8 else s
    else s
  let s := if s.redun.sync = 4 && sync != 4 && before.sync = 4 then leaveSynced s 0 else s
  let s := if s.redun.sync = 3 && sync = 2 && (s.redun.unit || before.sync = 3) then resyncFail s else s
  unitStart s

/-- A HELLO (R313). -/
def helloRx (s : State) (h : Hello) : State :=
  let r := helloReason (localHello s) h
  let s := setF { s with redun := { s.redun with peerHello := some h } } R.F_REDUN_EPOCH_PEER h.epoch
  let s := if s.redun.sync = 1 then { s with redun := { s.redun with sync := 2, reason := 0 } } else s
  let s := if s.redun.sync = 2 || s.redun.sync = 3 then
      (if r != 0 then { s with redun := { s.redun with reason := r } }
       else if reasonBlocks s.redun.reason && s.redun.peer.role != 4 then { s with redun := { s.redun with reason := 0 } }
       else s)
    else s
  linkDone s

/-! The lease (R296 to R299). -/

/-- The new active engine numbers its events from 1 (R160). -/
def restartEvents (s : State) : State :=
  { s with hr := { s.hr with sessions := s.hr.sessions.map (fun e => (e.1, uneventful e.2)) } }

/-- Take over warm (R302): EVENT ROLE comes before any other event, such as the RCU's (R160, R294). -/
def warmTake (s : State) : State :=
  let s := enterRole (setRoleAct (restartEvents s) true) 2
  let stays := s.redun.peer.role == 1 && s.redun.peer.sync == 4
  let s := if stays then s else leaveSynced s (if s.redun.peer.role = 4 then 7 else 0)
  let s := { s with redun := { s.redun with closes := [], tickRec := none } }
  roleFollows (sendRole s 1)

/-- Take over cold (R303). -/
def coldTake (ap : State → Nat → Nat → State) (s : State) : State :=
  let keep := s.redun.sync == 3 && s.redun.unit && s.redun.copied.isSome
  let s := enterRole (setRoleAct (restartEvents s) true) 2
  let s := if s.redun.sync = 3 then dropSync s 2 0 else s
  let s := restageReplay ap (holdAll s)
  let s := if keep then s else journalLost s
  let s := { s with redun := { s.redun with ratios := [] } }
  let s := stick { s with rst := { s.rst with stage := .restart } } R.F_REDUN_HIST_COLD_S
  roleFollows (sendRole s 2)

/-- A renewal is accepted (R294, R296): `src` 1 input A, 2 input B, 3 both. Inputs under TEST_LEASE do not count (R369). -/
def leaseRenew (ap : State → Nat → Nat → State) (s : State) (src : Nat) : State :=
  let src := src % 4 - (src % 4 &&& (csrGet s R.TEST_LEASE).toNat % 4)
  if !s.redun.paired || src = 0 then s
  else if s.redun.role = 3 || s.redun.role = 4 then
    stick (count s R.F_REDUN_GRANT_SUMP_CNT_CNT 1) R.F_REDUN_HIST_GRANT_REJ_S
  else if s.redun.role = 1 || s.redun.role = 2 then
    let s := if src.testBit 0 then count s R.F_REDUN_RENEW_CNT_A 1 else s
    let s := if src.testBit 1 then count s R.F_REDUN_RENEW_CNT_B 1 else s
    let s := setF s R.F_REDUN_LEASE_LAST_SRC src
    let s := { s with redun := { s.redun with leaseHeld := true } }
    if s.redun.role = 2 then s else if s.redun.sync = 4 then warmTake s else coldTake ap s
  else s

/-- The lease expires (R294, R297). -/
def leaseExpiry (s : State) : State :=
  if !s.redun.paired || !s.redun.leaseHeld then s
  else
    let s := setRoleAct { s with redun := { s.redun with leaseHeld := false } } false
    if s.redun.role = 2 then setRole (stick s R.F_REDUN_HIST_LEASE_LOST_S) 1
    else if s.redun.role = 3 then setRole s 1
    else s

def hbToggle (s : State) : State := if hbRuns s then { s with redun := { s.redun with hb := !s.redun.hb } } else s

/-! Yield (R304). -/

def mayYield (s : State) : Bool := s.redun.role == 2 && s.redun.sync == 4 && s.redun.peer.role == 1

def yieldAs (s : State) (cause : Nat) : State := setRole { s with redun := { s.redun with yieldCause := cause } } 3

def redunYield (s : State) : State := if mayYield s then yieldAs s 4 else stick s R.F_REDUN_HIST_YIELD_REJ_S

def revertYield (s : State) : State :=
  if mayYield s && revertBit s && !homeBit s && s.redun.peer.home then yieldAs s 5 else s

/-- A write of REDUN_CTL by software (W1S bits act, AUTO_RESYNC is kept). -/
def redunCtlWrite (s : State) (v : Nat) : State :=
  let s := setF s R.F_REDUN_CTL_AUTO_RESYNC (bits v 3 3)
  let s := if v.testBit 2 then redunYield s else s
  let s := if v.testBit 1 then resyncFail s else s
  if v.testBit 0 then resyncStart s else s

/-! What the standby receives (R305 to R309). -/

/-- A record has missed its deadline at the tick (R309). -/
def fwdLate (s : State) : State :=
  let s := stick (count s R.F_REDUN_FWD_LATE_SUMP_CNT_CNT 1) R.F_REDUN_HIST_FWD_LATE_S
  leaveSynced s 9

/-- A TICK record (R229, R305, R309, R319): an edge of PEER, half the link round trip taken off its time, and the offset that it
measures. -/
def tickRx (s : State) (idx tmc : Nat) (phi : Int) (e : PeerEdge) : State :=
  let s := refEdgePin s 7 e.t e.skew false
  let s := setF s R.F_REDUN_ALIGN_SKEW (lowBits 16 (satInt 16 e.skew))
  let s := { s with redun := { s.redun with tickRec := some (idx, tmc, 0) } }
  if follows s && isSynced s && (idx != nowIdx s || tmc != s.tally.tmc) then
    leaveSynced (stick s R.F_REDUN_HIST_DIVERGE_S) 8
  else if follows s then { s with tally := { s.tally with phi := phi } }
  else s

/-- A RATIO word for index n, with the frames that the active engine lost (R305). -/
def ratioRx (s : State) (n : Nat) (words lost : List (Nat × Nat)) : State :=
  if isActive s then s
  else
    { s with
      redun := { s.redun with ratios := smapPut (s.redun.ratios.filter (fun e => decide (idxAge (nowIdx s) e.1 ≤ 32) || !idxDue (nowIdx s) e.1)) n words },
      ser := { s.ser with zeroed := s.ser.zeroed ++ lost } }

/-- A forwarded sample overwrites its ring position (R308). -/
def fwdRx (s : State) (slot ts value : Nat) : State :=
  if isActive s || 2048 ≤ slot then s
  else ringStore s slot ts (sext 32 value)

def closeRx (s : State) (n : Nat) (present : List Nat) : State :=
  if isActive s then s
  else { s with redun := { s.redun with closes := smapPut s.redun.closes n present } }

/-- Split a mirrored frame into entries of 32 bytes. -/
def chunks32 : Nat → List Nat → List (List Nat)
  | 0, _ => []
  | k + 1, b => if b.isEmpty then [] else b.take 32 :: chunks32 k (b.drop 32)

/-- A mirrored or copied command takes effect here; unit-local register writes are journaled but not applied (R310). -/
def enterMirrored (ap : State → Nat → Nat → State) (s : State) (e : Entry) : State :=
  let ap' := fun (s : State) (o v : Nat) => if unitLocal o then s else ap s o v
  let local' := fun (m : Member) => match m with
    | .reg _ o _ => unitLocal o
    | .words _ => false
    | .recalled _ _ _ _ _ => false
    | .store _ _ _ _ => false
  let ms := membersAgain s e.jpos e.op e.body
  if e.op < 0x40 && !e.flags.testBit 0 && ms.any local' then
    (if ms.all local' then markApplied s (fun c => c.jpos == e.jpos)
     else enterGroup ap' s e.jpos e.nC (ms.filter (fun m => !local' m)) false)
  else enterEntry ap' s e false

/-- The ACK record of a mirrored command enters its session's space (R145, R146). -/
def mirrorRecord (s : State) (e : Entry) : State :=
  if e.op = 0x70 || e.op = 0x71 || !(getSession s e.session).isOpen then s
  else recordAck s e.session e.cls (entryAck e)

/-- Mirrored entries (R152): journaled at their JPOS, acknowledged, and applied; before the copy is complete they are only
journaled. -/
def mirrorRx (ap : State → Nat → Nat → State) (s : State) (jpos : Nat) (bytes : List Nat) : State :=
  if isActive s || !(s.redun.sync = 4 || s.redun.sync = 3) then s
  else
    let es := chunks32 64 bytes
    let s := writeEntries s jpos es
    let e := readEntry s jpos
    let s := { s with hr := { s.hr with
      jhead := max s.hr.jhead (jpos + es.length - 1),
      jcmds := s.hr.jcmds ++ [⟨jpos, es.length, e.nC, false⟩] } }
    let s := if s.redun.sync = 4 || s.redun.copied.isSome then mirrorRecord (enterMirrored ap s e) e else s
    linkSend s (.mack (jpos + es.length - 1))

/-- A COPY frame at the resyncing unit (R318). -/
def copyRx (ap : State → Nat → Nat → State) (s : State) (x : CopyItem) : State :=
  if !(s.redun.sync = 3 && s.redun.unit && s.redun.phase = 2) then s
  else
    match x with
    | .cell c b ws =>
      let c := c % 0x4000
      let bs := ws.flatMap (leBytes 4)
      setCell (engineWrite (engineWrite s 14 (pstoreAddr 0 (16 * c)) bs) 14 (pstoreAddr 1 (16 * c)) bs) c b false
    | .session k y => putSession s (k % 64) (uneventful y)
    | .entry j b => engineWrite { s with hr := { s.hr with jhead := max s.hr.jhead j } } 14 (journalAddr j) b
    | .last np ja jh =>
      let s := { s with
        hr := { s.hr with jappl := ja, jhead := max s.hr.jhead jh, jcmds := [] },
        redun := { s.redun with copied := some np } }
      let es := (replayList s).getD []
      let s := { s with hr := { s.hr with jcmds := es.map (fun e => ⟨e.jpos, e.len, e.nC, idxDue np e.nC⟩) } }
      let s := es.foldl (fun s e => if !idxDue np e.nC then enterMirrored ap s e else s) s
      es.foldl (fun s e => if jh < e.jpos then mirrorRecord s e else s) (markApplied s (fun _ => false))

/-- ALIGN is complete: the unit loads SMP_IDX from the TICK record (R319). -/
def alignComplete (s : State) : State :=
  if s.redun.sync = 3 && s.redun.unit && s.redun.phase = 2 then
    match s.redun.tickRec with
    | some r => { s with
        sched := { s.sched with idx := BitVec.ofNat 64 r.1 },
        tally := { s.tally with tmc := r.2.1 },
        redun := { s.redun with aligned := true } }
    | none => s
  else s

/-- Bits of the 154 sweep items. -/
def allItems : Nat := 2 ^ 154 - 1

def setItems (s : State) (m : Nat) : State :=
  setF { s with redun := { s.redun with items := m } } R.F_REDUN_RESYNC_ITEMS_LEFT (popCount m 154)

/-- The unit's cores run from n_0 (R319): entries due before it take effect together; SWEEP begins at both engines. -/
def resyncRelease (ap : State → Nat → Nat → State) (s : State) : State :=
  if s.redun.sync != 3 || s.redun.phase != 2 || s.redun.copied.isNone then s
  else
    let n := nowIdx s
    if s.redun.unit then
      (if !s.redun.aligned then s
       else
        let s := releaseAll (mergeDue ap (restageAll s) n)
        setItems { s with redun := { s.redun with phase := 3, n0 := some n, muted := List.range 48 } } allItems)
    else
      setItems { s with redun := { s.redun with
        phase := 3, n0 := some n, dirty := (List.range 48).map (fun k => (k, [])) } } allItems

/-! VERIFY and Canary (R311, R312, R322). -/

/-- VERIFY starts; the fourth start fails the resync (R317, R322). -/
def verifyAgain (s : State) : State :=
  let t := getF s R.F_REDUN_RESYNC_TRIES + 1
  let s := setF { s with redun := { s.redun with phase := 4, verify := some 0 } } R.F_REDUN_RESYNC_TRIES t
  if 4 ≤ t then resyncFail s else s

/-- C of R317. -/
def convergeLen (s : State) : Nat := max 8192 s.redun.convLen

def verifyStart (s : State) : State :=
  match s.redun.n0 with
  | some n0 =>
    if s.redun.sync = 3 && s.redun.phase = 3 && s.redun.items = 0 && idxDue (nowIdx s) (idxAdd n0 (convergeLen s)) then verifyAgain s else s
  | none => s

/-- The items that differ: how many, and the lowest. -/
def diffItems (a b : List Nat) : Nat × Nat :=
  let d := (List.range 114).filter (fun k => nth 0 a k != nth 0 b k)
  (d.length, d.headD 0)

/-- The two hashes of sample n are compared (R312, R322). -/
def canaryCompare (s : State) (n : Nat) (h1 : Nat) (i1 : List Nat) (h2 : Nat) (i2 : List Nat) : State :=
  match s.redun.verify with
  | some k =>
    if h1 = h2 then { s with redun := { s.redun with verify := some (k + 1) } } else verifyAgain s
  | none =>
    if h1 = h2 || s.redun.sync != 4 then s
    else
      let d := diffItems i1 i2
      let s := stick { s with redun := { s.redun with unsyncNext := some 8, divIdx := n } } R.F_REDUN_HIST_DIVERGE_S
      setF (setF s R.F_REDUN_DIV_ITEM_COUNT d.1) R.F_REDUN_DIV_ITEM_ITEM d.2

/-- This engine's hash of sample n: kept, sent, and compared when the peer's has arrived (R312). -/
def canaryOwn (s : State) (n h : Nat) (items : List Nat) : State :=
  if !s.redun.paired then s
  else
    let s := linkSend { s with redun := { s.redun with hash := h } } (.canary n h items)
    match s.redun.theirs.find? (fun e => e.1 == n) with
    | some t => canaryCompare { s with redun := { s.redun with theirs := s.redun.theirs.filter (fun e => !idxDue n e.1) } } n h items t.2.1 t.2.2
    | none => { s with redun := { s.redun with own := s.redun.own.filter (fun e => !idxDue n e.1 || decide (idxAge n e.1 < 8)) ++ [(n, h, items)] } }

/-- The peer's hash of sample n. -/
def canaryRx (s : State) (n h : Nat) (items : List Nat) : State :=
  match s.redun.own.find? (fun e => e.1 == n) with
  | some o => canaryCompare { s with redun := { s.redun with own := s.redun.own.filter (fun e => e.1 != n) } } n o.2.1 o.2.2 h items
  | none => { s with redun := { s.redun with theirs := s.redun.theirs.filter (fun e => !idxDue n e.1 || decide (idxAge n e.1 < 8)) ++ [(n, h, items)] } }

/-- The peer's hash of sample n has not arrived by tick n + 2 (R312, R322). -/
def canaryMissing (s : State) (n : Nat) : State :=
  if !s.redun.paired || !s.redun.own.any (fun e => e.1 == n) then s
  else
    let s := count { s with redun := { s.redun with own := s.redun.own.filter (fun e => e.1 != n) } } R.F_REDUN_MISS_CNT_CNT 1
    if s.redun.verify.isSome then verifyAgain s else s

/-- fs equal hashes have been seen: the pair enters SYNCED at the next tick; `ms` is the duration (R322). -/
def resyncSynced (s : State) (ms : Nat) : State :=
  match s.redun.verify with
  | some k =>
    if s.redun.sync = 3 && fsHz s ≤ k then
      setF { s with redun := { s.redun with syncNext := true } } R.F_REDUN_RESYNC_MS_MS (min ms 0xFFFF)
    else s
  | none => s

/-- The changes of SYNC that take effect at a tick (R309, R312, R322). -/
def syncTick (s : State) : State :=
  if s.redun.syncNext && s.redun.sync = 3 then
    let s := { s with redun := { s.redun with
      sync := 4, reason := 0, phase := 0, feeding := false, unit := false, verify := none, syncNext := false, passes := [] } }
    stick (stick s R.F_REDUN_HIST_SYNCED_S) R.F_REDUN_HIST_RESYNC_DONE_S
  else
    match s.redun.unsyncNext with
    | some r => leaveSynced { s with redun := { s.redun with unsyncNext := none } } r
    | none => s

/-- The peer is lost (R316). -/
def peerLost (s : State) : State :=
  if !s.redun.paired || s.redun.sync = 0 then s
  else
    let s := stick s R.F_REDUN_HIST_PEER_LOST_S
    let s := dropSync s 1 0
    { s with redun := { s.redun with peer := ⟨7, 0, false, false⟩, tx := [], own := [], theirs := [] } }

/-- A lane gains or loses block lock (R313, R314). -/
def laneUp (s : State) (l : Nat) : State :=
  if !s.redun.paired || isSet s R.F_RCU_STAT_RELOCKING || (csrGet s R.RST_DOM).toNat.testBit 5 then s
  else
    let first := !s.redun.lane0 && !s.redun.lane1
    let d := if l = 0 then { s.redun with lane0 := true } else { s.redun with lane1 := true }
    let s := setF { s with redun := d } R.F_REDUN_SIRLOS_STAT_LOCK (ofBool d.lane0 + 2 * ofBool d.lane1)
    if first then helloSend s else s
def laneDown (s : State) (l : Nat) : State :=
  let d := if l = 0 then { s.redun with lane0 := false } else { s.redun with lane1 := false }
  setF { s with redun := d } R.F_REDUN_SIRLOS_STAT_LOCK (ofBool d.lane0 + 2 * ofBool d.lane1)

/-- A frame unacknowledged for 2 µs: the lane resends from its oldest one (R315). -/
def linkResend (s : State) (l : Nat) : State :=
  if s.redun.tx.any (fun f => f.1 == l) then count s R.F_REDUN_SIRLOS_RETX_CNT_CNT 1 else s

end Sys2Proof.Machine
end

