-- ==== Sys2Proof/Machine/Meter.lean ====
section
/-! DEFINITION. Metering (R71, R160, R161). -/
namespace Sys2Proof.Machine

/-- Take the meter values of the sample that has ended into a subscription's running period. -/
def subTake (s : State) (n : Nat) (m : MeterSub) : MeterSub :=
  if !idxDue n m.start then m
  else
    let take := fun (a : List (Nat × Nat)) (e : Nat × Nat) =>
      if m.first ≤ e.1 && e.1 < m.first + m.count then smapSet 0 a e.1 (max (smapGet 0 a e.1) e.2) else a
    { m with acc := s.dsp.meter.foldl take m.acc }

/-- Accumulate sample n in every subscription, in both engines of a pair alike. Headrace, master 16, reads the meter area; a bank that
refuses it reads zero (R202, R203). -/
def meterTake (s : State) (n : Nat) : State :=
  let subs := s.hr.sessions.flatMap (fun e => e.2.subs)
  if !bankAdmits s meterBank 16 false then subs.foldl (fun s _ => ownRefuse s meterBank 16 false false) s
  else { s with hr := { s.hr with sessions := s.hr.sessions.map (fun e =>
      (e.1, { e.2 with subs := e.2.subs.map (fun q => (q.1, subTake s n q.2)) })) } }

/-- The code of meter `i` whose largest value in the period was `v` (R161). -/
def meterCode (en : Bool) (i v : Nat) : Nat :=
  if !en then 0
  else if i % 4 ≤ 1 then mcode v
  else if i % 4 = 2 then mcode (2 ^ 31 - v)
  else min v 0xFFFF

/-- The data of the METER messages of one report: fragment k carries at most 718 codes. -/
def meterFrags (sub first : Nat) : Nat → Nat → List Nat → List (List Nat)
  | 0, _, _ => []
  | f + 1, k, codes =>
    if codes.isEmpty then []
    else
      let c := codes.take 718
      ([sub, k] ++ beBytes 2 (first + 718 * k) ++ beBytes 2 c.length ++ [0, 0] ++ c.flatMap (beBytes 2)) ::
        meterFrags sub first f (k + 1) (codes.drop 718)

/-- The report of a subscription at a tick that ends a period: its messages are queued, and a new period begins. -/
def meterReport (s : State) (k sub : Nat) : State :=
  let x := getSession s k
  let n := nowIdx s
  match smapFind x.subs sub with
  | none => s
  | some m =>
    if !x.isOpen || !s.sched.running || m.period = 0 || n % m.period != 0 || !idxDue n m.start || n = m.start then s
    else
      let en := (plive s pidMeterCtl).testBit 0
      let codes := tabulate m.count (fun i => meterCode en (m.first + i) (smapGet 0 m.acc (m.first + i)))
      let s := putSession s k { x with subs := smapPut x.subs sub { m with acc := [], start := n } }
      if sendsEvents s then
        (meterFrags sub m.first 8 0 codes).foldl (fun s d => queueEvent s k ⟨7, n, d⟩) s
      else s

end Sys2Proof.Machine
end

