-- ==== Sys2Proof/Machine/Sched.lean ====
section
/-! DEFINITION. SCHED's control register and the window tables (R20, R23 to R28, R54). -/
namespace Sys2Proof.Machine

/-- The window registers: A, B, C, D, E, DB, DM. -/
def winRegs : List Nat :=
  [R.SCHED_WIN_A, R.SCHED_WIN_B, R.SCHED_WIN_C, R.SCHED_WIN_D, R.SCHED_WIN_E, R.SCHED_WIN_DB, R.SCHED_WIN_DM]

/-- The default lengths of those windows for a rate (R23). -/
def winDefault (rate : Nat) : List Nat :=
  let k := if 2 ≤ rate then 1 else 2
  [1024, 5120, 5120, 4096, 1024, 2560, 512].map (fun x => k * x)

/-- Load a window register: active and shadow. -/
def winLoad (s : State) (x : Nat × Nat) : State := csrPut s x.1 (BitVec.ofNat 32 (x.2 * 65536 + x.2))

/-- The shadow lengths. -/
def winShadow (s : State) : List Nat := winRegs.map (fun o => (csrGet s o).toNat % 65536)

/-- R25. -/
def winValid (cycles : Nat) (w : List Nat) : Bool :=
  let x := fun i => nth 0 w i
  w.all (fun l => l % 64 == 0) && decide (512 ≤ x 0) && decide (512 ≤ x 4) && decide (1024 ≤ x 1) && decide (1024 ≤ x 2) &&
    decide (64 ≤ x 5) && decide (64 ≤ x 6) && decide (x 5 + x 6 + 64 ≤ x 3) && decide (x 0 + x 1 + x 2 + x 3 + x 4 = cycles)

/-- The check of an armed shadow table at tick n (R26). -/
def winCheck (s : State) (n : Nat) : State :=
  match s.sched.arm with
  | none => s
  | some k =>
    if n < k then s
    else
      let s := setF { s with sched := { s.sched with arm := none } } R.F_SCHED_CTL_WIN_ARM 0
      if winValid (dspPerTs (rateCode s)) (winShadow s) then
        (stick s R.F_SCHED_STAT_WIN_APPLIED_S |> fun s => (winRegs.zip (winShadow s)).foldl winLoad s)
      else stick s R.F_SCHED_STAT_WIN_REJ_S

/-- SCHED_WIN_IDX. -/
def winIdx (s : State) : Nat := (csrGet s R.SCHED_WIN_IDX_LO).toNat + 2 ^ 32 * (csrGet s R.SCHED_WIN_IDX_HI).toNat

/-- A write of 1 to WIN_ARM (R26, R27); `run` is RUN before the write. -/
def winArm (s : State) (run : Bool) : State :=
  if !run then stick s R.F_SCHED_STAT_WIN_CANCEL_S
  else
    let k := winIdx s
    let s := setF s R.F_SCHED_CTL_WIN_ARM 1
    if k ≤ nowIdx s then
      stick { s with sched := { s.sched with arm := some (idxAdd (nowIdx s) 1) } } R.F_SCHED_STAT_WIN_LATE_S
    else { s with sched := { s.sched with arm := some k } }

/-- The RATE field of a write of SCHED_CTL (R23, R54). -/
def rateWrite (s : State) (rate : Nat) : State :=
  if rate = rateCode s then s
  else if isSet s R.F_SCHED_CTL_RUN then stick s R.F_SCHED_STAT_RATE_REJ_S
  else
    let s := setF s R.F_SCHED_CTL_RATE rate
    (List.range 4).foldl wckJudge (spRateChange ((winRegs.zip (winDefault rate)).foldl winLoad s))

/-- The RUN field of a write of SCHED_CTL (R54); clearing it halts a paired engine (R294, R299). -/
def runWrite (s : State) (run : Bool) : State :=
  let was := isSet s R.F_SCHED_CTL_RUN
  if run && !was then
    if rateFamily (rateCode s) = getF s R.F_RCU_STAT_FAMILY then setF s R.F_SCHED_CTL_RUN 1
    else stick s R.F_SCHED_STAT_FAMILY_MISMATCH_S
  else if !run && was then
    let s := setF s R.F_SCHED_CTL_RUN 0
    if s.redun.paired then halt s else s
  else s

/-- A write of SCHED_CTL. -/
def schedCtlWrite (s : State) (v : Nat) : State :=
  let run := isSet s R.F_SCHED_CTL_RUN
  let s := rateWrite s (bits v 5 4)
  let s := setF s R.F_SCHED_CTL_STUCK_LIMIT (bits v 23 16)
  let s := runWrite s (v.testBit 0)
  if v.testBit 1 then winArm s run else s

/-- A port whose frames carry zero (R54). -/
def zeroPort (s : State) (p : Nat) : State :=
  let x := getSp s p
  if x = noSport then s
  else putSp s p { x with outPrev := x.outPrev.map (fun _ => 0), out := x.out.map (fun _ => 0), outQ := [] }

/-- The tick stops at the end of the running Ts n (R27, R54): sample n is complete and its meters are taken; no sample is handed
on, packets in assembly are discarded, a pending arm is cancelled. -/
def stopTick (s : State) : State :=
  let s := meterTake s (nowIdx s)
  let s := { s with
    sched := { s.sched with running := false, window := none, released := [], late := [], fxOpen := false, fxReleased := [], fxLate := [] },
    dsp := { s.dsp with handoff := [], conv := [] },
    ser := { s.ser with lanes := [], lanesPrev := [] },
    net := { s.net with txCtx := s.net.txCtx.map (fun e => (e.1, { e.2 with frames := [] })) } }
  let s := (List.range 32).foldl zeroPort s
  let s := if s.sched.arm.isSome then
      stick (setF { s with sched := { s.sched with arm := none } } R.F_SCHED_CTL_WIN_ARM 0) R.F_SCHED_STAT_WIN_CANCEL_S
    else s
  loneRole s

end Sys2Proof.Machine
end

