-- ==== Sys2Proof/Machine/Resets.lean ====
section
/-! DEFINITION. Cold, warm and domain resets (15_resets_faults_test.md, R360 to R363, R366). -/
namespace Sys2Proof.Machine

/-! Registers across a reset (R361). -/

/-- The bits of the fields of a type, among those of a register. -/
def fieldsOf (p : FieldDef → Bool) (fs : List FieldDef) : Nat := fieldsMask (fs.filter p)

/-- A register at a warm reset: "kept" fields stay, the others take their reset values. -/
def csrWarm (off : Nat) (v : Word) : Word :=
  let k := BitVec.ofNat 32 (fieldsKept (regFields off))
  (v &&& k) ||| (csrReset off &&& ~~~k)

/-- A register at a domain reset of its block: sticky bits and counters are cleared. -/
def csrDom (off : Nat) (v : Word) : Word :=
  v &&& ~~~(BitVec.ofNat 32 (fieldsOf (fun f => f.ty == .w1c || f.ty == .cnt) (regFields off)))

/-- Change every listed register by `f`. -/
def csrMap (f : Nat → Word → Word) (s : State) : State :=
  s.csr.foldl (fun t e => csrPut t e.1 (f e.1 (csrGet s e.1))) s

/-! Memories across a reset (R207, R361). -/

def bankRetained (s : State) (b : Nat) : Bool := (getF s (R.F_RSV_RETAIN_RETAIN (b / 32))).testBit (b % 32)

/-- A warm reset leaves this address alone: a retained bank, the always-on domain, flash. -/
def warmKeeps (s : State) (a : Nat) : Bool :=
  if a < 0x05000000 then bankRetained s (a / 0x80000) else decide (0x0300000000 ≤ a)

/-- A cold reset leaves this address alone: flash. -/
def coldKeeps (a : Nat) : Bool := decide (0x0400000000 ≤ a) && decide (a < 0x0420000000)

/-! Warm reset. -/

/-- A cold reset or cold boot runs, so that a warm request is ignored (R360). -/
def coldRuns (s : State) : Bool :=
  !s.rst.warm && (s.rst.stage == .asserted || s.rst.stage == .fw || s.rst.stage == .wait)

/-- The retention SRAM keeps the sessions; what waited to leave the engine is lost (R160, R361). -/
def sessionsKept (l : List (Nat × Session)) : List (Nat × Session) :=
  l.map (fun e => (e.1, { e.2 with outQ := [], subs := e.2.subs.map (fun x => (x.1, { x.2 with acc := [] })) }))

/-- The parts of State at a warm reset (R361). -/
def warmParts (s : State) : State :=
  { s with
    mem := s.mem.filter (fun e => warmKeeps s e.1)
    sched := { Sched.reset with idx := s.sched.idx, running := s.sched.running, tickSec := s.sched.tickSec, tickNs := s.sched.tickNs }
    dsp := Dsp.reset
    mix := Mix.reset
    flood := { Flood.reset with pin := s.flood.pin }
    slu := { Sluice.reset with cells := s.slu.cells }
    hr := { Headrace.reset with
      sessions := sessionsKept s.hr.sessions, jhead := s.hr.jhead, jappl := s.hr.jappl, retOk := s.hr.retOk }
    bus := { Bus.reset with ecc := s.bus.ecc.filter (fun e => warmKeeps s e.1), spares := s.bus.spares }
    cores := []
    redun := { Redun.reset with
      paired := pairBit s, role := if pairBit s then 4 else 0, sync := ofBool (pairBit s), hb := s.redun.hb }
    rst := { s.rst with stage := .asserted, warm := true, xo := true, coresHeld := true, wdt := false, restartDue := false }
    net := Net.reset
    ser := Serial.reset
    boot := { s.boot with
      triedBoth := false, trial := false, waitRef := none, restartOk := false, bad := [], upd := Upd.reset, snap := none, digests := [], settings := none }
    tst := ⟨false⟩ }

/-- The crossings of a held block lose what is in flight (R249): the domain of its side, 0 where it has no crossing. -/
def cdcLost (s : State) (dom : Nat) : State :=
  if dom = 0 then s else setF (stick s R.F_SYS_CDC_STAT_CDC_LOST_S) R.F_SYS_CDC_STAT_DOMAIN dom

/-- A warm reset (R360, R361), unless a cold reset or boot runs: the engine halts (R299), the registers and parts take their
values, the CV outputs revert (R331), and RST_CAUSE records the source. The always-on domain and CK_XO go on, so that its side of
their crossings is one-sided: CDC_LOST_S is set with some domain that was reset, a free value (R249). -/
def warmReset (s : State) (cause : Nat) : State :=
  if coldRuns s then s
  else
    let s := csrMap csrWarm (settleLost (halt s))
    let s := cvRevert (warmParts s)
    let s := count s R.F_RST_WARM_CNT_WARM_CNT 1
    let f := freshFree s
    setF (cdcLost f.2 (1 + Config.freeNat f.1 % 9)) R.F_RST_CAUSE_LAST cause

/-! Cold reset. -/

/-- A cold reset (R360, R361): everything takes its reset value but the PRF, the fuses and flash; the level of MUTE_N and the
supplies of the CV block are not the engine's. -/
def coldParts (s : State) : State :=
  { State.reset with
    pending := s.pending
    mem := s.mem.filter (fun e => coldKeeps e.1)
    freeCtr := s.freeCtr
    flood := { Flood.reset with pin := s.flood.pin }
    prf := s.prf
    cv := s.cv
    rst := { Rst.reset with io33 := s.rst.io33 }
    boot := { Boot.reset with fuse := s.boot.fuse } }

/-- PAIR takes effect (R293); a paired engine has no role before Cage sets RUN (R294). -/
def coldPair (s : State) : State :=
  { s with redun := { s.redun with paired := pairBit s, role := if pairBit s then 5 else 0, sync := ofBool (pairBit s) } }

/-- Power-on (R327, R335, R360): VKEEP rises; the PRF is loaded and the CV outputs enter their spans. -/
def powerOn (s : State) (ok hi io33 : Bool) : State :=
  coldPair (cvPowerUp (prfPowerUp (coldParts { s with rst := { s.rst with io33 := io33 } })) ok hi)

/-- A cold reset with VKEEP up (R331, R334, R360). -/
def coldReset (s : State) (cause : Nat) : State :=
  let s := cvRevert (prfReload (coldParts s))
  setF (coldPair s) R.F_RST_CAUSE_LAST cause

/-! Domain resets (R249, R362, R363). -/

/-- Block `b` of RST_DOM is held in its domain reset. -/
def domHeld (s : State) (b : Nat) : Bool := (csrGet s R.RST_DOM).toNat.testBit b

/-- Sticky bits and counters of the registers between two offsets are cleared. -/
def csrClear (lo hi : Nat) (s : State) : State :=
  csrMap (fun o v => if lo ≤ o && o < hi then csrDom o v else v) s

/-- A tracker without edges. -/
def trkIdle (s : State) (p : Nat) : State :=
  let s := setF s (R.F_ASRC_TRK_STAT_STATE p) 0
  putSp s p { getSp s p with track := 0, conv := noConv }

/-- A port of the held SPORT block (R362): every DOUT pin carries zero, in the Ts of a sample that the engine drives (R300). -/
def heldPort (s : State) (p : Nat) : Nat × Sport :=
  (p, { noSport with out := if s.redun.enPrev then List.replicate (ctlSlots (spCtl s p)) 0 else [] })
def holdPorts (s : State) : State := { s with ser := { s.ser with ports := (List.range 32).map (heldPort s) } }

/-- A block enters its domain reset: buffers, queues and state machines are emptied (R362). -/
def domEnter (s : State) (b : Nat) : State :=
  if b ≤ 4 then
    let s := linkDown s b
    let s := putPort s b { emptyPort with mode := getF s (R.F_MAC_CTL_SPEED b) }
    cdcLost (csrClear (0x90000 + 0x10000 * b) (0xA0000 + 0x10000 * b) s) (if b = 4 then 8 else 6)
  else if b = 5 then
    let s := laneDown (laneDown s 0) 1
    let s := { s with redun := { s.redun with tx := [], seq0 := 0, seq1 := 0, rcv0 := 0, rcv1 := 0 } }
    cdcLost (csrClear R.REDUN_SIRLOS_STAT (R.REDUN_SIRLOS_CRC_SUMP_CNT + 4) s) 6
  else if b = 6 then
    let s := { s with net := { s.net with ring := [], cnt := [], rxSeq := [], txCtx := [] } }
    let s := (List.range 8).foldl (fun s k => setF s (R.F_STREAM_RX_ACTIVE_RECEIVING k) 0) s
    csrClear 0xF0000 0x100000 s
  else if b = 7 then cdcLost (csrClear 0x100000 0x110000 (holdPorts s)) 9
  else if b = 8 then csrClear 0x110000 0x120000 ((List.range 32).foldl trkIdle s)
  else if b = 9 then
    let s := { s with ser := { s.ser with pdm := ⟨[], [], []⟩ } }
    let s := setF (setF s R.F_PDM_STAT_CLKIN0 0) R.F_PDM_STAT_CLKIN1 0
    csrClear 0x120000 0x130000 s
  else s

/-- A block leaves its domain reset and restarts as at enable (R362). -/
def domLeave (s : State) (b : Nat) : State :=
  if b = 7 then spRateChange { s with ser := { s.ser with ports := [] } } else s

/-- A firmware write of RST_DOM; `cut` are the write bursts that the MACs' resets find in progress (R219). -/
def domWrite (s : State) (v : Nat) (cut : List CutBurst) : State :=
  let old := (csrGet s R.RST_DOM).toNat
  let s := csrWrite s R.RST_DOM (BitVec.ofNat 32 v)
  let rise := (List.range 10).filter (fun b => v.testBit b && !old.testBit b)
  let fall := (List.range 10).filter (fun b => !v.testBit b && old.testBit b)
  let s := masterReset s ((rise.filter (fun b => b ≤ 4)).map (fun b => 9 + b)) cut
  fall.foldl domLeave (rise.foldl domEnter s)

/-- What a held block hands on at a tick (R362): zero from every receive pool slot, port, ASYNC slot and modulator channel. -/
def domSilence (s : State) : State :=
  let drop := fun (s : State) (lo hi : Nat) =>
    { s with dsp := { s.dsp with src := s.dsp.src.filter (fun e => !(decide (lo ≤ e.1) && decide (e.1 < hi))) } }
  let s := if domHeld s 6 then { drop s 0 0x800 with net := { s.net with ring := [], txCtx := [] } } else s
  let s := if domHeld s 7 then { drop s 0x800 0xC00 with ser := (holdPorts s).ser } else s
  if domHeld s 9 then drop s 0xC00 0xC80 else s

end Sys2Proof.Machine
end

