-- ==== Sys2Proof/Machine/Test.lean ====
section
/-! DEFINITION. The TEST block (15_resets_faults_test.md, R368 to R370): the unlock sequence, locking, and the perturbations
that a write starts. -/
namespace Sys2Proof.Machine

/-- The block is open (R370). -/
def testOpen (s : State) : Bool := isSet s R.F_TEST_STAT_OPEN

/-- The registers that locking returns to their reset values (R368). -/
def testRegs : List Nat :=
  [R.TEST_CFG, R.TEST_XBAR_DLY, R.TEST_MAC_BP, R.TEST_ASRC_JIT, R.TEST_ASRC_MASK, R.TEST_TICK, R.TEST_CDC, R.TEST_ECC_CTL,
   R.TEST_ECC_ADDR, R.TEST_LEASE, R.TEST_SIRLOS]

/-- Lock the block: every perturbation ends (R368, R370). -/
def testLock (s : State) : State :=
  if !testOpen s then s
  else
    let s := testRegs.foldl (fun s o => csrPut s o (csrReset o)) s
    let s := { s with sched := { s.sched with extra := 0 } }
    stick (setF s R.F_TEST_STAT_OPEN 0) R.F_TEST_HIST_CLOSED_S

/-- The unlock sequence (R368): the second key right after the first opens the block; any other TEST write after the first
key cancels it. -/
def testSequence (s : State) (off v : Nat) : State :=
  if s.tst.first then
    let s := { s with tst := ⟨false⟩ }
    if off = R.TEST_UNLOCK && v == 0xA5AB81A8 then
      if testOpen s then s else stick (setF s R.F_TEST_STAT_OPEN 1) R.F_TEST_HIST_OPENED_S
    else stick s R.F_TEST_HIST_UNLOCK_REJ_S
  else { s with tst := ⟨off == R.TEST_UNLOCK && v == 0x5A547E57⟩ }

/-- Address of the word that TEST_ECC injects (R369): none outside the target's memory. -/
def testEccWord (s : State) : Option Nat :=
  let a := getF s R.F_TEST_ECC_ADDR_ADDR
  match getF s R.F_TEST_ECC_CTL_TARGET with
  | 0 => if a < 0x05000000 then some (a - a % 8) else none
  | 1 => if a < 0x40000 then some (0x0100000000 + getF s R.F_TEST_ECC_CTL_CORE * 0x40000 + (a - a % 4)) else none
  | 2 => if a < 0x40000 then some (0x0500000000 + (a - a % 8)) else none
  | _ => none

/-- Data bit 0, or bits 0 and 1, of one stored word flip; its check code stays (R369). -/
def testInject (s : State) : State :=
  match testEccWord s with
  | none => s
  | some w =>
    let m := eccBits s w ^^^ (if isSet s R.F_TEST_ECC_CTL_DOUBLE then 3 else 1)
    { s with bus := { s.bus with ecc := smapSet 0 s.bus.ecc w m } }

/-- A write of a perturbation register while the block is open (R369). -/
def testPerturb (s : State) (off v : Nat) : State :=
  let s := csrWrite s off (BitVec.ofNat 32 v)
  if off = R.TEST_TICK && v.testBit 31 then
    { s with sched := { s.sched with extra := getF s R.F_TEST_TICK_DLY } }
  else if off = R.TEST_ECC_CTL then
    let s := setF s R.F_TEST_ECC_CTL_GO 0
    if v.testBit 31 then testInject s else s
  else s

/-- A TEST register without an action of its own, TEST_HIST among them: the write takes place before what it makes happen, which a W1C
of the same write does not clear (R6). -/
def testPlain (off : Nat) : Bool := off != R.TEST_UNLOCK && off != R.TEST_CFG && !testRegs.contains off

/-- A write of a TEST register. -/
def testWrite (s : State) (off v : Nat) : State :=
  let s := testSequence (if testPlain off then csrWrite s off (BitVec.ofNat 32 v) else s) off v
  if off = R.TEST_UNLOCK then s
  else if off = R.TEST_CFG then
    let s := setF (csrWrite s off (BitVec.ofNat 32 v)) R.F_TEST_CFG_LOCK 0
    if v.testBit 31 then testLock s else s
  else if testRegs.contains off then
    if testOpen s then testPerturb s off v else stick s R.F_TEST_HIST_LOCKED_WR_S
  else s

/-- AUTO_LOCK seconds have passed without a TEST write (R368); 0 means never. -/
def testAutoLock (s : State) : State := if getF s R.F_TEST_CFG_AUTO_LOCK = 0 then s else testLock s

/-- The stall of TEST_SIRLOS ends. -/
def testSirlosEnd (s : State) : State := setF s R.F_TEST_SIRLOS_GO 0

/-- TEST_STAT.ACTIVE (R370). -/
def testActive (s : State) : Nat :=
  ofBool (getF s R.F_TEST_XBAR_DLY_DELAY != 0 && getF s R.F_TEST_XBAR_DLY_MASTERS != 0) +
  2 * ofBool (getF s R.F_TEST_MAC_BP_DUTY != 0 && getF s R.F_TEST_MAC_BP_PORTS != 0) +
  4 * ofBool (getF s R.F_TEST_ASRC_JIT_AMP != 0 && getF s R.F_TEST_ASRC_MASK_PORTS != 0) +
  8 * getF s R.F_TEST_TICK_GO + 16 * getF s R.F_TEST_CDC_PIN3 +
  32 * ofBool (getF s R.F_TEST_LEASE_SUPP_A != 0 || getF s R.F_TEST_LEASE_SUPP_B != 0) + 64 * getF s R.F_TEST_SIRLOS_GO

end Sys2Proof.Machine
end

