-- ==== Sys2Proof/Machine/Regs.lean ====
section
/-! DEFINITION. The CSR space as its readers and writers see it: what each register reads, with the fields that follow the
engine's state, the captures of R53, R261 and R292, the interrupt summaries (R367), and what a write of each register does by
its writer (R4 to R7, R28, R262, R333, R363). -/
namespace Sys2Proof.Machine

/-! Writes. -/

/-- A relock starts (R227): every media, management and Sirlos link goes down. -/
def relockStart (s : State) : State := tallyRelockStart (laneDown (laneDown ((List.range 5).foldl linkDown s) 0) 1)

/-- RCU_CTL. -/
def rcuCtl (s : State) (v : Word) : State :=
  let r := rcuCtlWrite s v
  if r.2 then relockStart r.1 else r.1

/-- RCU_WCK_CFG and RCU_WCK_OFFSET (R245): which 0 the configuration, 1 the offset. -/
def wckWrite (s : State) (k which : Nat) (v : Word) : State :=
  if 4 ≤ k || 2 ≤ which then s
  else wckAlign (csrWrite s (if which = 0 then R.RCU_WCK_CFG k else R.RCU_WCK_OFFSET k) v) k

/-- A write of an RCU register. A firmware write of RCU_PTP_ERR that carries no time is an edge at a free time (R229). -/
def rcuWrite (o : Origin) (s : State) (off v : Nat) : State :=
  let w := BitVec.ofNat 32 v
  if off = R.RCU_CTL then rcuCtl s w
  else if off = R.RCU_PTP_ERR then
    if o = .host then s
    else
      let f := freshFree s
      ptpEdge f.2 (Config.freeNat f.1 : Nat) v
  else if 0x10100 ≤ off && off < 0x10200 && off % 0x20 = 0 then inCfgWrite s ((off - 0x10100) / 0x20) w
  else if 0x10200 ≤ off && off < 0x10240 && off % 0x10 < 8 then wckWrite s ((off - 0x10200) / 0x10) (off % 0x10 / 4) w
  else csrWrite s off w

/-- The watchdog's count starts again: RST_CFG.WDT_TMO × 4,000 CK_AON cycles, 0 acting as 1 (R364). -/
def wdtReload (s : State) : State := setF s R.F_RST_WDT_LEFT_LEFT (4000 * max 1 (getF s R.F_RST_CFG_WDT_TMO))

/-- A write of RST_WDT_KICK by a Dexmos core: only the key value kicks a running watchdog (R364). -/
def wdtKick (s : State) (v : Nat) : State := if v = 0x5A54 && s.rst.wdt then wdtReload s else s

/-- A write of an RST register (R360, R363, R364). -/
def rstWrite (o : Origin) (s : State) (off v : Nat) : State :=
  if off = R.RST_CTL then
    if o = .host then stick s R.F_RST_STAT_HOST_REJ_S else if v.testBit 0 then warmReset s 4 else s
  else if off = R.RST_DOM then
    if o = .host then stick s R.F_RST_STAT_HOST_REJ_S else domWrite s v []
  else if off = R.RST_WDT_KICK then (if o = .firmware then wdtKick s v else s)
  else csrWrite s off (BitVec.ofNat 32 v)

/-- A write of SLUICE_PRELOAD (R130). -/
def preloadWrite (s : State) (v : Nat) : State :=
  let s := setF s R.F_SLUICE_PRELOAD_SCENE (bits v 9 0)
  if v.testBit 31 then preloadLoad s (bits v 9 0) else s

/-- A firmware write of TALLY_ADDEND_INT that carries no time acts at some time of the running Ts, a free value (R262). -/
def tallyIntFree (s : State) (v : Nat) : State :=
  let f := freshFree s
  let x := Config.freeNat f.1
  tallyIntWrite f.2 (s.tally.at_ + (if s.sched.running then x % max 1 (cTs s + 1 - s.tally.at_) else x)) v

/-- A write of a Tally register (R262, R263). -/
def tallyWrite (o : Origin) (s : State) (off v : Nat) : State :=
  if off = R.TALLY_CTL then tallyCtlWrite s (o != .host) v
  else if off = R.TALLY_ADDEND_INT then if o = .host then s else tallyIntFree s v
  else if off = R.TALLY_ADDEND_FRAC then if o = .host then s else tallyFracWrite s v
  else if off = R.TALLY_STEP_SEC || off = R.TALLY_STEP_NS then
    if o = .host then s else csrWrite s off (BitVec.ofNat 32 v)
  else csrWrite s off (BitVec.ofNat 32 v)

/-- The counter of the selected context at an offset of the window (STREAM_SEL). -/
def selCounter (s : State) (off : Nat) : Nat := 8 * getF s R.F_STREAM_SEL_CTX + (off - 0xF0104) / 4
def inSelWindow (off : Nat) : Bool := 0xF0104 ≤ off && off ≤ 0xF0120

/-- A write of a STREAM register (R7, R267). -/
def streamWrite (s : State) (off v : Nat) : State :=
  if inSelWindow off then { s with net := { s.net with cnt := smapDel s.net.cnt (selCounter s off) } }
  else ctxWrite s off v

/-- A write of a PRF register (R333, R334). -/
def prfRegWrite (o : Origin) (s : State) (off v : Nat) : State :=
  if off < 0x151000 then prfWrite s (o == .host) ((off - 0x150000) / 4) v else csrWrite s off (BitVec.ofNat 32 v)

/-- A write of REDUN_MODE goes to PRF word 0x020; its reserved bit stays zero (R293, R333). -/
def redunModeWrite (s : State) (v : Nat) : State := prfWrite s true 0x20 (setBits (v % 2 ^ 32) 3 3 0)

/-- A write of a register of core c (R197, R198). -/
def mintalRegWrite (s : State) (off v : Nat) : State :=
  let c := (off - 0x190000) / 0x400
  let k := (off - 0x190000) % 0x400
  if 64 ≤ c then s
  else if k = 0 then mintalCtlWrite s c v
  else if k = 0x14 || k = 0x18 || k = 0x1C then mintalXWrite s c off (BitVec.ofNat 32 v)
  else csrWrite s off (BitVec.ofNat 32 v)

/-- A write of the CSR word at a word-aligned offset where a register is assigned. -/
def regWriteAssigned (o : Origin) (s : State) (off v : Nat) : State :=
  match off / 0x10000 with
  | 0x01 => rcuWrite o s off v
  | 0x02 => rstWrite o s off v
  | 0x03 => if off = R.SCHED_CTL then schedCtlWrite s v else csrWrite s off (BitVec.ofNat 32 v)
  | 0x05 => if off = R.SLUICE_PRELOAD then preloadWrite s v else csrWrite s off (BitVec.ofNat 32 v)
  | 0x08 =>
    if off = R.RSV_HANDOVER then handoverWrite s v
    else if off = R.RSV_MBIST_CTL then mbistWrite s v else csrWrite s off (BitVec.ofNat 32 v)
  | 0x09 => if off % 0x10000 = 0 then macCtlWrite s 0 v else csrWrite s off (BitVec.ofNat 32 v)
  | 0x0A => if off % 0x10000 = 0 then macCtlWrite s 1 v else csrWrite s off (BitVec.ofNat 32 v)
  | 0x0B => if off % 0x10000 = 0 then macCtlWrite s 2 v else csrWrite s off (BitVec.ofNat 32 v)
  | 0x0C => if off % 0x10000 = 0 then macCtlWrite s 3 v else csrWrite s off (BitVec.ofNat 32 v)
  | 0x0D => if off % 0x10000 = 0 then macCtlWrite s 4 v else csrWrite s off (BitVec.ofNat 32 v)
  | 0x0E => tallyWrite o s off v
  | 0x0F => streamWrite s off v
  | 0x10 => sportWrite s off v
  | 0x13 =>
    if off = R.REDUN_MODE then redunModeWrite s v
    else if off = R.REDUN_CTL then redunCtlWrite s v else csrWrite s off (BitVec.ofNat 32 v)
  | 0x14 =>
    if off = R.CV_CTL then cvCtlWrite s v
    else if 0x140100 ≤ off && off < 0x140140 then cvOutWrite s ((off - 0x140100) / 4) v
    else csrWrite s off (BitVec.ofNat 32 v)
  | 0x15 => prfRegWrite o s off v
  | 0x17 => testWrite s off v
  | 0x18 => if off = R.FLOOD_CTL then floodCtlWrite s v else csrWrite s off (BitVec.ofNat 32 v)
  | 0x19 => mintalRegWrite s off v
  | _ => csrWrite s off (BitVec.ofNat 32 v)

/-- A write of the CSR word at a word-aligned offset; one to an unassigned offset is ignored (R5). -/
def regWriteAt (o : Origin) (s : State) (off v : Nat) : State :=
  if (regAt off).isNone then s else regWriteAssigned o s off v

/-- The offset of the word that an access addresses: the engine ignores address bits [1:0] (R3). -/
def wordOff (off : Nat) : Nat := off - off % 4

/-- A write of the CSR word at an offset (R3); while an access to a stopped clock holds the CSR target none lands (R250). -/
def regWriteAs (o : Origin) (s : State) (off v : Nat) : State := if s.bus.csrHung then s else regWriteAt o s (wordOff off) v

/-- A REG_WRITE of a host takes effect (R151). -/
def ap (s : State) (off v : Nat) : State := regWriteAs .host s off v

/-! Interrupts (R367). -/

/-- Sticky bits of the register before an _IE register that are set and enabled. -/
def ieHits (s : State) (ie : Nat) : Bool := (csrGet s (ie - 4) &&& csrGet s ie) != 0

/-- The _IE register of a block with one instance; 0 for the others. -/
def ieOf (blk : Nat) : Nat :=
  match blk with
  | 0x01 => R.RCU_IE
  | 0x03 => R.SCHED_IE
  | 0x04 => R.STRIP_IE
  | 0x05 => R.SLUICE_IE
  | 0x06 => R.HEADRACE_IE
  | 0x07 => R.XBAR_IE
  | 0x08 => R.RSV_IE
  | 0x0E => R.TALLY_IE
  | 0x0F => R.STREAM_IE
  | 0x12 => R.PDM_IE
  | 0x13 => R.REDUN_IE
  | 0x14 => R.CV_IE
  | 0x16 => R.BOOT_IE
  | 0x17 => R.TEST_IE
  | 0x18 => R.FLOOD_IE
  | 0x1A => R.CONFL_IE
  | _ => 0

/-- The block summary of R367. -/
def irqBlock (s : State) (blk : Nat) : Bool :=
  match blk with
  | 0x00 => isSet s R.F_SYS_CDC_STAT_CDC_LOST_S && isSet s R.F_RST_IE_CDC_IE
  | 0x02 => (csrGet s R.RST_STAT &&& csrGet s R.RST_IE &&& 7) != 0
  | 0x09 => ieHits s (R.MAC_IE 0)
  | 0x0A => ieHits s (R.MAC_IE 1)
  | 0x0B => ieHits s (R.MAC_IE 2)
  | 0x0C => ieHits s (R.MAC_IE 3)
  | 0x0D => ieHits s (R.MAC_IE 4)
  | 0x10 => (List.range 32).any (fun p => ieHits s (R.SPORT_IE p))
  | 0x15 => (csrGet s R.PRF_STAT &&& csrGet s R.PRF_IE &&& 7) != 0 || (isSet s R.F_PRF_STAT2_DENY_S && isSet s R.F_PRF_IE_DENY_IE)
  | 0x19 => (List.range 64).any (fun c => ieHits s (R.MINTAL_IE c))
  | _ => ieOf blk != 0 && ieHits s (ieOf blk)

/-- RST_IRQ_STAT. -/
def irqStat (s : State) : Nat := (List.range 27).foldl (fun m b => if irqBlock s b then m + 2 ^ b else m) 0

/-- IRQ_N is low (R352, R367). -/
def irqLow (s : State) : Bool :=
  s.rst.stage != .asserted && (s.rst.stage == .failed || (irqStat s &&& (csrGet s R.RST_IRQ_EN).toNat) != 0)

/-! Reads. -/

/-- Index of the group that flips next, and of the tail group; 0 with none. -/
def headIdx (s : State) : Nat := match s.slu.groups.find? unflipped with
  | some g => g.idx
  | none => 0
def tailIdx (s : State) : Nat := match s.slu.groups.getLast? with
  | some g => g.idx
  | none => 0
def gCode : GState → Nat
  | .wait => 1
  | .opn => 2
  | .ready => 3
  | .settle => 4
def tailState (s : State) : Nat := match s.slu.groups.getLast? with
  | some g => gCode g.st
  | none => 0

/-- The 64-bit value behind a *_LO register whose read captures HI (R53). -/
def wideOf (s : State) (off : Nat) : Option Nat :=
  if off = R.SCHED_IDX_LO then some (nowIdx s)
  else if off = R.FLOOD_CLOSE_IDX_LO then some s.flood.closeIdx
  else if off = R.SLUICE_HEAD_IDX_LO then some (headIdx s)
  else if off = R.SLUICE_TAIL_IDX_LO then some (tailIdx s)
  else if off = R.SLUICE_LAST_FLIP_LO then some s.slu.lastFlip
  else if off = R.HEADRACE_JHEAD_LO then some s.hr.jhead
  else if off = R.HEADRACE_JAPPLIED_LO then some s.hr.jappl
  else if off = R.RCU_SWITCH_IDX_LO then some s.rcu.switchIdx
  else if off = R.STREAM_TMC_LO then some s.tally.tmc
  else if off = R.REDUN_DIV_IDX_LO then some s.redun.divIdx
  else if off = R.REDUN_HASH_LO then some s.redun.hash
  else none

/-- Capture the other words of a read of a *_LO register: HI at the next offset, and the tick time with SCHED_IDX_LO (R53). -/
def captureHi (s : State) (off x : Nat) : State :=
  let s := csrPut s (off + 4) (BitVec.ofNat 32 (x / 2 ^ 32))
  if off = R.SCHED_IDX_LO then
    let s := csrPut s R.SCHED_TICK_SEC_LO (BitVec.ofNat 32 s.sched.tickSec)
    let s := csrPut s R.SCHED_TICK_SEC_HI (BitVec.ofNat 32 (s.sched.tickSec / 2 ^ 32 % 65536))
    csrPut s R.SCHED_TICK_NS (BitVec.ofNat 32 s.sched.tickNs)
  else s

/-- A read of TALLY_SEC_LO captures the other three words of Tally at that moment (R261). -/
def tallyCapture (s : State) (cyc : Nat) : Nat × State :=
  let t := tallyAt s cyc
  let s := csrPut s R.TALLY_SEC_HI (BitVec.ofNat 32 (t.sec / 2 ^ 32 % 65536))
  let s := csrPut s R.TALLY_NS (BitVec.ofNat 32 t.ns)
  (t.sec % 2 ^ 32, csrPut s R.TALLY_FRAC (BitVec.ofNat 32 t.frac))

/-- A read of the IDX word of a capture record captures its other words (R292). -/
def pdmCapture (s : State) (k : Nat) : Nat × State :=
  let c := smapGet (0, 0, 0, 0) s.ser.pdm.capt k
  let s := csrPut s (R.PDM_CAPT_SEC_LO k) (BitVec.ofNat 32 c.2.1)
  let s := csrPut s (R.PDM_CAPT_SEC_HI k) (BitVec.ofNat 32 (c.2.1 / 2 ^ 32 % 65536 + 65536 * c.2.2.1))
  (c.1 % 2 ^ 32, csrPut s (R.PDM_CAPT_NS k) (BitVec.ofNat 32 c.2.2.2))

/-- REDUN_STAT (R293 to R295, R317). -/
def redunStat (s : State) : Nat :=
  let d := s.redun
  let hc := d.paired && d.peer.role != 7 && d.peer.home == homeBit s
  (if d.role = 5 then 0 else d.role) + 16 * d.sync + 256 * d.phase + 65536 * d.peer.role + 2 ^ 24 * ofBool d.leaseHeld +
    2 ^ 25 * ofBool (d.sync == 4) + 2 ^ 26 * ofBool hc + 2 ^ 27 * ofBool d.peer.test + 2 ^ 28 * d.reason

/-- BOOT_STAT.STAGE (R349, R352). -/
def bootStage (s : State) : Nat :=
  match s.rst.stage with
  | .asserted => 0
  | .fw => 5
  | .wait => 5
  | .restart => 5
  | .running => 6
  | .failed => 7

/-- Lines of the first and second slot of core c that a sweep still owes (R194, MINTAL_SWEEP). -/
def sweepWord (s : State) (c : Nat) : Nat :=
  let base := getF s (R.F_SCHED_CORE_BASE c)
  let n := fun (j : Nat) => min 8191 (smapGet [] s.redun.dirty (base + j)).length
  if coreKind s c = 4 then n 0 + 65536 * n 1 else 0

/-- SYS_CLK_ALIVE (R250): the clocks that the engine's state decides. -/
def clkAlive (s : State) : Nat :=
  let run := !isSet s R.F_RCU_STAT_RELOCKING
  let ports := fun (f : Nat → Bool) => (List.range 4).foldl (fun m p => if f p then m + 2 ^ p else m) 0
  0x1F + 64 * ofBool run + 128 * ofBool s.rst.xo +
    256 * ports (fun p => run && isSet s (R.F_MAC_CTL_EN p) && !domHeld s p) + 4096 * ofBool (run && s.redun.paired && !domHeld s 5) +
    65536 * ports (fun p => isSet s (R.F_MAC_STAT_LINK p)) + 2 ^ 20 * ofBool (isSet s (R.F_MAC_STAT_LINK 4)) +
    2 ^ 21 * (ofBool s.redun.lane0 + 2 * ofBool s.redun.lane1)

/-- Set a field of a word from state. -/
def inWord32 (w : Nat) (f : Fld) (x : Nat) : Nat := setBits w f.hi f.lo x

/-- Live words of HEADRACE (06_headrace.md). -/
def headraceWord (s : State) (off w : Nat) : Nat :=
  let opened := fun (k : Nat) => (List.range 32).foldl (fun m i => if (getSession s (32 * k + i)).isOpen then m + 2 ^ i else m) 0
  if off = R.HEADRACE_STAT then
    inWord32 (inWord32 w R.F_HEADRACE_STAT_RESTARTING (ofBool (s.rst.stage == .restart))) R.F_HEADRACE_STAT_MIRRORING (ofBool (mirrors s))
  else if off = R.HEADRACE_JFREE then journalFree s
  else if off = R.HEADRACE_SESS_LO then opened 0
  else if off = R.HEADRACE_SESS_HI then opened 1
  else if off = R.HEADRACE_METER then meterSubs s
  else w

/-- Live words of SLUICE (05_sluice_scenes.md). -/
def sluiceWord (s : State) (off w : Nat) : Nat :=
  let b := s.slu.buf
  if off = R.SLUICE_STAT then inWord32 w R.F_SLUICE_STAT_BUSY (ofBool (!s.slu.groups.isEmpty))
  else if off = R.SLUICE_GROUPS then tailState s + 65536 * s.slu.groups.length
  else if off = R.SLUICE_BACKLOG then min s.slu.owed 0xFFFFF
  else if off = R.SLUICE_DIRTY then (s.slu.cells.filter (fun c => c.2.testBit 1)).length % 65536
  else if off = R.SLUICE_PRELOAD then inWord32 w R.F_SLUICE_PRELOAD_LOAD (ofBool (b.loading && b.preload))
  else if off = R.SLUICE_BUF then b.scene % 1024 + 2 ^ 29 * ofBool b.storing + 2 ^ 30 * ofBool b.loading + 2 ^ 31 * ofBool b.valid
  else if off = R.SLUICE_SHOW then
    match b.dir with
    | none => 0
    | some _ => min 0xFFFF (showMaxGap b.showSize (showUsed s) 0 / 65536) +
        65536 * ((List.range 1024).filter (fun k => (dirEntry s k).1 != 0)).length + 2 ^ 31
  else w

/-- Live words of the MAC of port p (R265). -/
def macWord (s : State) (p off w : Nat) : Nat :=
  let q := (getPort s p).tsq
  let e := (q.head?).getD (0, 0, 0)
  let k := off % 0x10000
  if k = 0x28 then q.length + 2 ^ 31 * ofBool (!q.isEmpty)
  else if k = 0x2C then e.2.1 % 2 ^ 32
  else if k = 0x30 then e.2.1 / 2 ^ 32 % 65536 + 65536 * e.1
  else if k = 0x34 then e.2.2
  else w

/-- Live words of the serial ports and the rate converters (R284, R285). -/
def sportWord (s : State) (off w : Nat) : Nat :=
  let p := (off - 0x100000) / 0x800
  if off % 0x800 = 0x14 then setBits w 1 0 (spState s p)
  else if off % 0x800 = 0x20 then (match syncCfg (getSp s p).cur with
    | some c => if ctlMode c.ctl = 1 then w else 0
    | none => 0)
  else if off % 0x800 = 0x38 then (getSp s p).f % 2 ^ 32
  else w
def asrcWord' (s : State) (off w : Nat) : Nat :=
  if off = R.ASRC_STAT then (asrcUsed s).1 + 65536 * (asrcUsed s).2
  else if 0x110100 ≤ off && off < 0x110300 && off % 0x10 = 4 then
    let p := (off - 0x110100) / 0x10
    let on := (getSp s p).ok && ctlMode (spCtl s p) == 2
    (if on then trkState s p else 0) + 4 * ofBool (on && trkPort s p != p) + 8 * ofBool (on && slaved s p)
  else if off = R.ASRC_CT_BAD 0 then laneBad s 0
  else if off = R.ASRC_CT_BAD 1 then laneBad s 1
  else w

/-- Live words of PRF (R333 to R337). -/
def prfWordRead (s : State) (off w : Nat) : Nat :=
  if off < 0x151000 then prfRead s ((off - 0x150000) / 4)
  else if off = R.PRF_STAT then bits w 2 0 + 8 * ofBool s.prf.busy + 16 * ofBool s.prf.pf + 32 * min s.prf.queue.length 8
  else if 0x151100 ≤ off && off < 0x151180 then prfWearMap s ((off - 0x151100) / 4)
  else if 0x152000 ≤ off && off < 0x153000 then smapGet 0 s.prf.wear ((off - 0x152000) / 4)
  else w

/-- Live words of BOOT: stage, fuses, update (14_boot_update.md). -/
def bootWord (s : State) (off w : Nat) : Nat :=
  let f := s.boot.fuse
  if off = R.BOOT_STAT then setBits w 3 0 (bootStage s)
  else if off = R.BOOT_FUSE then f.rollback + 256 * ofBool f.unit.isSome + 512 * ofBool f.customer.isSome
  else if off = R.BOOT_UNIT_ID_LO then f.unit.getD 0 % 2 ^ 32
  else if off = R.BOOT_UNIT_ID_HI then f.unit.getD 0 / 2 ^ 32 % 2 ^ 32
  else if off = R.BOOT_UPD_STAT then setBits (setBits w 2 0 s.boot.upd.state) 10 8 s.boot.upd.kind
  else if off = R.BOOT_UPD_NEXT then s.boot.upd.next
  else w

/-- Words of the pair's and the stream's registers that follow their state. -/
def redunWord (s : State) (off w : Nat) : Nat :=
  if off = R.REDUN_MODE then setBits (redunMode s) 3 3 0 else if off = R.REDUN_STAT then redunStat s else w

/-- Words of the Floodgate's registers (R95 to R97). -/
def floodWord (s : State) (off w : Nat) : Nat :=
  if off = R.FLOOD_STATE then floodState s
  else if off = R.FLOOD_SRC then floodSrc s
  else if off = R.FLOOD_GAIN then s.flood.g
  else if off = R.FLOOD_PIN then ofBool s.flood.pin
  else w

/-- The word that a read returns where it is a function of the state. -/
def liveWord (s : State) (off : Nat) : Nat :=
  let w := (csrGet s off).toNat
  match off / 0x10000 with
  | 0x00 => if off = R.SYS_CLK_ALIVE then clkAlive s else w
  | 0x02 =>
    if off = R.RST_IRQ_STAT then irqStat s
    else if off = R.RST_WDT_LEFT then setBits w 31 31 (ofBool s.rst.wdt) else w
  | 0x03 => if off = R.SCHED_STAT then setBits w 0 0 (ofBool s.sched.running) else w
  | 0x05 => sluiceWord s off w
  | 0x06 => headraceWord s off w
  | 0x09 => macWord s 0 off w
  | 0x0A => macWord s 1 off w
  | 0x0B => macWord s 2 off w
  | 0x0C => macWord s 3 off w
  | 0x0D => macWord s 4 off w
  | 0x0F =>
    if off = R.STREAM_PHASE then phiWord s
    else if inSelWindow off then smapGet 0 s.net.cnt (selCounter s off) else w
  | 0x10 => sportWord s off w
  | 0x11 => asrcWord' s off w
  | 0x12 =>
    if off = R.PDM_STAT then setBits (setBits w 4 4 (ofBool (slaved s 32))) 5 5 (ofBool (slaved s 33))
    else if 0x121000 ≤ off && off < 0x122000 then Config.pdmCoef ((off - 0x121000) / 4) % 2 ^ 32 else w
  | 0x13 => redunWord s off w
  | 0x14 =>
    if off = R.CV_STAT then setBits (setBits w 0 0 (ofBool s.cv.ok)) 1 1 (ofBool s.cv.hi)
    else if off = R.CV_PARK then cvParkWord s else w
  | 0x15 => prfWordRead s off w
  | 0x16 => bootWord s off w
  | 0x17 => if off = R.TEST_STAT then setBits w 6 0 (testActive s) else w
  | 0x18 => floodWord s off w
  | 0x19 =>
    let c := (off - 0x190000) / 0x400
    if off % 0x400 = 4 then mintalStat s c else if off % 0x400 = 0x38 then sweepWord s c else w
  | _ => w

/-- Fields that measure elapsed time or analog quantities: their bits are free values, in the register's field (R191, R225, R243,
R297, R315, R364, BOOT_TIME). -/
def measured (s : State) (off : Nat) : Option (Nat × Nat) :=
  if off = R.REDUN_LEASE && s.redun.leaseHeld then some (15, 0)
  else if off = R.REDUN_SIRLOS_STAT && (s.redun.lane0 || s.redun.lane1) then some (31, 16)
  else if off = R.BOOT_TIME && (s.rst.stage == .running || s.rst.stage == .restart) then some (15, 0)
  else if off = R.SYS_BCLK_ALIVE then some (31, 0)
  else none

/-- A read of the CSR word at an offset (RST_WDT_LEFT: some count not above the one that the latest kick left, R364; RCU_FOFF: some offset within ±1,000 ppm while the loop
is closed, R225): the word, and the state with the captures it makes (R5, R53, R261, R265, R292).
`cyc` is the time of the read in CK_FAB cycles since the latest tick. -/
def csrReadAt (s : State) (off cyc : Nat) : Nat × State :=
  if (regAt off).isNone then (0, s)
  else if off = R.TALLY_SEC_LO then tallyCapture s cyc
  else if off = R.PDM_CAPT_IDX 0 then pdmCapture s 0
  else if off = R.PDM_CAPT_IDX 1 then pdmCapture s 1
  else if off = R.PDM_CAPT_IDX 2 then pdmCapture s 2
  else if 0x90000 ≤ off && off < 0xE0000 && off % 0x10000 = 0x34 then
    (liveWord s off, tsqPop s ((off - 0x90000) / 0x10000))
  else
    match wideOf s off with
    | some x => (x % 2 ^ 32, captureHi s off x)
    | none =>
      if off = R.RST_WDT_LEFT && s.rst.wdt then
        let f := freshFree s
        (setBits (liveWord s off) 19 0 (Config.freeNat f.1 % (getF s R.F_RST_WDT_LEFT_LEFT + 1)), f.2)
      else if off = R.RCU_FOFF && loopClosed (dpll s) then
        let f := freshFree s
        (lowBits 32 ((Config.freeNat f.1 % 2000001 : Nat) - 1000000), f.2)
      else match measured s off with
      | some (hi, lo) =>
        let f := freshFree s
        (setBits (liveWord s off) hi lo (Config.freeNat f.1), f.2)
      | none => (liveWord s off, s)

/-- A read of the CSR word at an offset (R3). -/
def csrRead (s : State) (off cyc : Nat) : Nat × State := csrReadAt s (wordOff off) cyc

/-- COUNT consecutive words (R143). -/
def csrReads (cyc : Nat) : Nat → Nat → State → List Nat × State
  | 0, _, s => ([], s)
  | n + 1, off, s =>
    let r := csrRead s off cyc
    let q := csrReads cyc n (off + 4) r.2
    (r.1 :: q.1, q.2)

end Sys2Proof.Machine
end

