-- ==== Sys2Proof/Machine/Boot.lean ====
section
/-! DEFINITION. Cage (14_boot_update.md, R338 to R355): flash map, slots, image headers and their checks, the loading of a DSP
body, the CFG records, the choice of the slot, and the start of the engine. Flash records are little-endian. -/
namespace Sys2Proof.Machine

/-! Flash map and slots (R339, R340). -/

/-- Crossbar address of an offset of a chip select. -/
def flashAddr (cs off : Nat) : Nat := 0x0400000000 + cs * 0x10000000 + off

/-- A 64-byte record with its magic, and a CRC-32 of bytes 0 to 59. -/
def rec64Ok (s : State) (a magic : Nat) : Bool :=
  readWord s a 4 == magic && readWord s (a + 60) 4 == crc32 (readBytes s a 60)

/-- Of two records, the one that checks and whose sequence number is higher. -/
def pickRec (s : State) (magic a b : Nat) : Option Nat :=
  match rec64Ok s a magic, rec64Ok s b magic with
  | true, true => some (if readWord s (a + 4) 4 < readWord s (b + 4) 4 then b else a)
  | true, false => some a
  | false, true => some b
  | false, false => none

/-- A region entry: chip select, start, size. -/
def regionAt (s : State) (a k : Nat) : Nat × Nat × Nat :=
  (readByte s (a + 8 + 8 * k), 65536 * readWord s (a + 12 + 8 * k) 2, 65536 * readWord s (a + 14 + 8 * k) 2)

def regionsMeet (x y : Nat × Nat × Nat) : Bool :=
  x.1 == y.1 && decide (x.2.1 < y.2.1 + y.2.2) && decide (y.2.1 < x.2.1 + x.2.2)

def anyMeet : List (Nat × Nat × Nat) → Bool
  | [] => false
  | x :: r => r.any (regionsMeet x) || anyMeet r

/-- The valid flash map, if there is one (R339); `chip` gives the size of a chip select. -/
def flashMap (s : State) (chip : Nat → Nat) : Option FlashMap :=
  match pickRec s 0x5A464D50 (flashAddr 0 0) (flashAddr 0 0x10000) with
  | none => none
  | some a =>
    let r := fun k => regionAt s a k
    let size := fun k => (r k).2.2
    let used := (tabulate 5 r).filter (fun x => x.2.2 != 0)
    let inside := used.all (fun x => decide (x.1 ≤ 1) && decide (x.2.1 + x.2.2 ≤ chip x.1))
    let ok := size 0 == 0x2000000 && size 1 == 0x2000000 && decide (0x10000 ≤ size 2) && (size 3 == 0 || size 3 == size 2) &&
      decide (0x400000 ≤ size 4) && !anyMeet ((0, 0, 0x20000) :: used) && inside
    let g := fun k => (⟨flashAddr (r k).1 (r k).2.1, (r k).2.2⟩ : Region)
    if ok then some ⟨g 0, g 1, g 2, g 3, g 4⟩ else none

/-- Base of a slot: 0 A, 1 B. -/
def slotBase (m : FlashMap) (slot : Nat) : Nat := if slot = 0 then m.slotA.base else m.slotB.base

/-- Offset and largest size of an image kind. -/
def imageOff (k : Nat) : Nat :=
  match k with
  | 1 => 0x10000
  | 2 => 0x810000
  | 3 => 0x1410000
  | _ => 0x1810000
def imageMax (k : Nat) : Nat :=
  match k with
  | 1 => 0x800000
  | 2 => 0xC00000
  | 3 => 0x400000
  | _ => 8126464

def kinds : List Nat := [1, 2, 3, 4]

/-- Address of the manifest in use in a slot. -/
def manifestAt (s : State) (base : Nat) : Option Nat := pickRec s 0x5A534C54 base (base + 0x1000)

/-- Length of image kind k in the manifest in use; 0 when there is none. -/
def manifestLen (s : State) (base k : Nat) : Nat :=
  match manifestAt s base with
  | some a => readWord s (a + 4 + 4 * k) 4
  | none => 0

/-- Write the other copy of the manifest, its sequence number one higher, with a new length of one kind (R340). -/
def manifestSet (s : State) (base k len : Nat) : State :=
  let cur := manifestAt s base
  let dst := if cur = some base then base + 0x1000 else base
  let seq := match cur with
    | some a => (readWord s (a + 4) 4 + 1) % 2 ^ 32
    | none => 1
  let lens := kinds.map (fun j => if j = k then len else manifestLen s base j)
  let b := leBytes 4 0x5A534C54 ++ leBytes 4 seq ++ lens.flatMap (leBytes 4) ++ List.replicate 36 0
  writeBytes s dst (b ++ leBytes 4 (crc32 b))

def slotComplete (s : State) (base : Nat) : Bool := kinds.all (fun k => manifestLen s base k != 0)

/-! Image headers and their checks (R341, R345). -/

def hdr (s : State) (a off n : Nat) : Nat := readWord s (a + off) n

/-- Code 3: MAGIC, KIND, HDR_VER, lengths. -/
def chkHeader (s : State) (a k len : Nat) : Bool :=
  hdr s a 0 4 == 0x5A494D47 && hdr s a 4 1 == k && hdr s a 5 1 == 1 && hdr s a 32 4 + 512 == len && decide (len ≤ imageMax k)
/-- Code 4: VENDOR, MEMBER, MIN_STEP. -/
def chkType (s : State) (a : Nat) : Bool :=
  hdr s a 8 2 == 0x5A54 && hdr s a 10 2 == getF s R.F_SYS_DEVID_PART && decide (hdr s a 12 1 ≤ (csrGet s R.SYS_STEP).toNat % 256)
/-- Code 5: the unit. -/
def chkUnit (s : State) (a : Nat) : Bool := !(hdr s a 6 2).testBit 0 || hdr s a 16 8 == s.boot.fuse.unit.getD 0
/-- Code 6: rollback. -/
def chkRollback (s : State) (a : Nat) : Bool := decide (s.boot.fuse.rollback ≤ hdr s a 28 4)
/-- Code 7: the Quefel key. -/
def chkKey (s : State) (a : Nat) : Bool := sha384 (readBytes s (a + 128) 96) == s.boot.fuse.quefel
/-- Code 8: the Quefel signature. -/
def chkSig (s : State) (a : Nat) : Bool :=
  ecdsaOk (sha384 (readBytes s a 224)) (hdr s a 128 48) (hdr s a 176 48) (hdr s a 224 48) (hdr s a 272 48)
/-- Code 9: CFG, when a customer key hash is fused. -/
def chkCust (s : State) (a k : Nat) : Bool :=
  match s.boot.fuse.customer with
  | none => true
  | some c => k != 4 || ((hdr s a 6 2).testBit 1 && sha384 (readBytes s (a + 320) 96) == c &&
      ecdsaOk (sha384 (readBytes s a 416)) (hdr s a 320 48) (hdr s a 368 48) (hdr s a 416 48) (hdr s a 464 48))

/-- The header check with a code from 3 to 9 on one image of manifest length `len`. -/
def hdrCheck (s : State) (a k len code : Nat) : Bool :=
  match code with
  | 3 => chkHeader s a k len
  | 4 => chkType s a
  | 5 => chkUnit s a
  | 6 => chkRollback s a
  | 7 => chkKey s a
  | 8 => chkSig s a
  | _ => chkCust s a k

def hdrCodes : List Nat := [3, 4, 5, 6, 7, 8, 9]

/-- Code 10: the body's hash. -/
def chkHash (s : State) (a : Nat) : Bool :=
  sha384 (readBytes s (a + 512) (hdr s a 32 4)) == ofBeBytes (readBytes s (a + 40) 48)

/-- R348: IF_REV of one kind within the range of the CTL header at `c`. -/
def revFits (s : State) (c a k : Nat) : Bool :=
  let o := 88 + 4 * (k - 2)
  decide (hdr s c o 2 ≤ hdr s a 24 2) && decide (hdr s a 24 2 ≤ hdr s c (o + 2) 2)

/-- R348 over the images that a manifest lists, one of them taken with another length. -/
def compatible (s : State) (base k len : Nat) : Bool :=
  let has := fun j => if j = k then len != 0 else manifestLen s base j != 0
  !has 1 || [2, 3, 4].all (fun j => !has j || revFits s (base + imageOff 1) (base + imageOff j) j)

/-- Digest of each header of a slot. -/
def slotDigests (s : State) (base : Nat) : List Nat := kinds.map (fun k => sha384 (readBytes s (base + imageOff k) 512))

/-- BOOT_IMG of a slot. -/
def showImages (s : State) (base slot : Nat) : State :=
  kinds.foldl (fun s k =>
    let a := base + imageOff k
    let len := manifestLen s base k
    let i := 4 * slot + (k - 1)
    if len = 0 then s
    else
      let s := setF s (R.F_BOOT_IMG_IF_REV i) (hdr s a 24 2)
      let s := setF s (R.F_BOOT_IMG_SEC_VER i) (min (hdr s a 28 4) 255)
      setF s (R.F_BOOT_IMG_VALID i) (ofBool (hdrCodes.all (hdrCheck s a k len)))) s

/-! DSP bodies (R342). -/

/-- A CSR word that a DSP section may load. -/
def dspReg (off : Nat) : Bool :=
  (0x30100 ≤ off && off < 0x30200) || (0x30200 ≤ off && off < 0x30364) || off == R.STRIP_FMT || off == R.CONFL_CFG ||
    (0x190000 ≤ off && off < 0x1A0000 && (off % 0x400 == 0x14 || off % 0x400 == 0x18 || off % 0x400 == 0x1C || off % 0x400 == 0x3C))

/-- The bytes from a to a + n - 1 may be loaded by a DSP section. -/
def dspTarget (s : State) (a n : Nat) : Bool :=
  if 0x0180000000 ≤ a then
    a + n ≤ 0x0180200000 || (0x0300000000 ≤ a && a % 4 == 0 && n % 4 == 0 &&
      (List.range (n / 4)).all (fun k => dspReg (a - 0x0300000000 + 4 * k)))
  else if 0x0100000000 ≤ a then a + n ≤ 0x0101000000
  else a + n ≤ 0x05000000 && (List.range 160).all (fun b =>
    !(decide (a < (b + 1) * 0x80000) && decide (b * 0x80000 < a + n)) || ownerOf s b == 3)

/-- Cage writes a field that other masters may only read. -/
def cageWord (s : State) (off v : Nat) : State :=
  csrPut s off (BitVec.ofNat 32 v &&& BitVec.ofNat 32 (fieldsMask (regFields off)))

/-- Load one section. -/
def dspLoad (s : State) (dest : Nat) (d : List Nat) : State :=
  if 0x0300000000 ≤ dest then
    (List.range (d.length / 4)).foldl (fun s k =>
      cageWord s (dest - 0x0300000000 + 4 * k) (ofLeBytes ((d.drop (4 * k)).take 4))) s
  else writeBytes s dest d

/-- The sections of a DSP body from offset `o` to its length; the FX table as (W, CONV_LEN) by slot; none for a section outside
R342. -/
def dspSections (a len : Nat) : Nat → Nat → State → List (Nat × Nat) → Option (State × List (Nat × Nat))
  | 0, _, _, _ => none
  | f + 1, o, s, tbl =>
    if o = len then some (s, tbl)
    else if len < o + 16 then none
    else
      let dest := hdr s (a + o) 0 8 % 2 ^ 40
      let n := hdr s (a + o) 8 4
      let ty := hdr s (a + o) 12 2
      let skip := if ty = 1 then 16 else 16 + (n + 7) / 8 * 8
      if len < o + skip || 2 < ty then none
      else if ty = 2 then
        (if n = 768 then dspSections a len f (o + skip) s
          (tabulate 48 (fun k => (hdr s (a + o + 16) (16 * k + 4) 4, hdr s (a + o + 16) (16 * k + 8) 4)))
         else none)
      else if !dspTarget s dest n then none
      else
        dspSections a len f (o + skip) (dspLoad s dest (if ty = 1 then List.replicate n 0 else readBytes s (a + o + 16) n)) tbl

/-- The FX pair of one core breaks the limit of a lone engine at a rate (R192, code 12). -/
def fxPairBad (s : State) (rate : Nat) (tbl : List (Nat × Nat)) : Bool :=
  (List.range 64).any (fun c =>
    let base := getF s (R.F_SCHED_CORE_BASE c)
    let ws := (List.range 48).filter (fun k =>
      getF s (R.F_SCHED_CORE_KIND c) == 4 && decide (base ≤ k) && decide (k < base + getF s (R.F_SCHED_CORE_COUNT c)))
    ws.length == 2 && decide (dspPerTs rate < ws.foldl (fun a k => a + (nth (0, 0) tbl k).1) 0 + 2048))

/-- Load a DSP body: the checks of code 12. -/
def loadDsp (s : State) (a rate : Nat) : Option State :=
  let body := a + 512
  match dspSections body (hdr s a 32 4) (hdr s a 32 4 + 1) 0 s [] with
  | none => none
  | some (s, tbl) =>
    if hdr s a 90 2 = 0 || fxPairBad s rate tbl then none
    else
      let e := setF s R.F_REDUN_EPOCH_LOCAL (hdr s a 88 2)
      some { e with redun := { e.redun with
        myDsp := ofBeBytes (readBytes s (a + 96) 32), convLen := tbl.foldl (fun m x => max m x.2) 0 } }

/-! CFG records (R343, R344). -/

/-- A CFG record: TYPE, FLAGS, ADDR, data words. -/
structure CfgRec where
  ty : Nat
  flags : Nat
  addr : Nat
  ws : List Nat
deriving DecidableEq, Repr

/-- The records of a CFG body, if it ends with END exactly at its length. -/
def cfgRecords (s : State) (a len : Nat) : Nat → Nat → List CfgRec → Option (List CfgRec)
  | 0, _, _ => none
  | f + 1, o, acc =>
    if len < o + 8 then none
    else
      let n := hdr s (a + o) 2 2
      let r : CfgRec := ⟨hdr s (a + o) 0 1, hdr s (a + o) 1 1, hdr s (a + o) 4 4,
        tabulate n (fun k => hdr s (a + o + 8) (4 * k) 4)⟩
      if r.ty = 7 then (if n = 0 && o + 8 = len then some acc else none)
      else if len < o + 8 + 4 * n then none
      else cfgRecords s a len f (o + 8 + 4 * n) (acc ++ [r])

/-- A REG record's target block is barred. -/
def barred (off : Nat) : Bool :=
  let b := off / 0x10000
  b == 0x02 || b == 0x15 || b == 0x16 || b == 0x17 || b == 0x19

/-- A record fits R343 by itself. -/
def cfgRecOk (r : CfgRec) : Bool :=
  let n := r.ws.length
  let d := fun k => nth 0 r.ws k
  match r.ty with
  | 1 => r.addr % 4 == 0 && decide (r.addr < 0x200000) && decide (r.addr + 4 * n ≤ 0x200000) &&
      !(List.range n).any (fun k => barred (r.addr + 4 * k)) && !barred r.addr
  | 2 => decide (r.addr + n ≤ 2 ^ 19)
  | 3 => n == 2 && decide (r.addr + d 0 ≤ 2 ^ 19)
  | 4 => n == 2 && decide (d 0 ≤ 1) && decide (d 1 ≤ 3) && rateFamily (d 1) == d 0
  | 5 => n == 1 && (decide (d 0 < 1024) || d 0 == 0xFFFFFFFF)
  | 6 => n == 1 && decide (1 ≤ d 0) && decide (d 0 ≤ 60000)
  | _ => false

def cfgOnce (ty : Nat) (rs : List CfgRec) : Bool := (rs.filter (fun r => r.ty == ty)).length ≤ 1

/-- The records are accepted (R343). -/
def cfgOk (rs : List CfgRec) : Bool := rs.all cfgRecOk && cfgOnce 4 rs && cfgOnce 5 rs && cfgOnce 6 rs

/-- Family and rate: those of the RATE record, else 96 kHz in the 48 kHz family. -/
def cfgRate (rs : List CfgRec) : Nat × Nat :=
  match rs.find? (fun r => r.ty == 4) with
  | some r => (nth 0 r.ws 0, nth 0 r.ws 1)
  | none => (0, 3)

/-- Apply RATE while the tick is stopped; a change of family relocks, and Cage waits for it (R227, R344). -/
def applyRate (s : State) (fr : Nat × Nat) : State :=
  let s := rcuCtl s (BitVec.ofNat 32 (setBits (csrGet s R.RCU_CTL).toNat 0 0 fr.1))
  let s := if isSet s R.F_RCU_STAT_RELOCKING then
      let f := freshFree s
      relocked f.2 (Config.freeNat f.1)
    else s
  rateWrite s fr.2

/-- The cold-reset values of the engine-global words (R93, R122, R161), in both halves. -/
def writeGlobals (s : State) : State :=
  let s := (List.range 16).foldl (fun s c => pwriteBoth (pwriteBoth s (0x3C000 + c) 0x80003800) (0x3C010 + c) 0x80004800) s
  let s := pwriteBoth (pwriteBoth s pidRouteXf 0x40) pidSendXfMin 0x40
  pwriteBoth s pidMeterCtl 1

/-- A CFG write of one register; none when it is a handover refused under R205. A handover completes before the next record. -/
def cfgReg (s : State) (off v : Nat) : Option State :=
  if wordOff off = R.RSV_HANDOVER then
    let before := (csrGet s R.RSV_STAT).toNat
    let t := handoverWrite (setF s R.F_RSV_STAT_HANDOVER_REJ_S 0) v
    if isSet t R.F_RSV_STAT_HANDOVER_REJ_S then none
    else
      let t := handoverComplete t
      some (csrPut t R.RSV_STAT (csrGet t R.RSV_STAT ||| BitVec.ofNat 32 before))
  else some (regWriteAs .cage s off v)

/-- The words of a REG record. -/
def cfgRegs : Nat → List Nat → State → Option State
  | _, [], s => some s
  | off, v :: r, s =>
    match cfgReg s off v with
    | some s => cfgRegs (off + 4) r s
    | none => none

/-- Apply the records in stream order: REG records that `reg` selects; PSTORE and FILL records when `ps`. -/
def cfgApply (reg : CfgRec → Bool) (ps : Bool) : List CfgRec → State → Option State
  | [], s => some s
  | r :: rs, s =>
    let t := match r.ty with
      | 1 => if reg r then cfgRegs r.addr r.ws s else some s
      | 2 => some (if ps then (List.range r.ws.length).foldl (fun s k => pwriteBoth s (r.addr + k) (nth 0 r.ws k)) s else s)
      | 3 => some (if ps then (List.range (nth 0 r.ws 0)).foldl (fun s k => pwriteBoth s (r.addr + k) (nth 0 r.ws 1)) s else s)
      | _ => some s
    match t with
    | some s => cfgApply reg ps rs s
    | none => none

/-- The recall of the last scene into PSTORE (R344, R124). -/
def cfgScene (s : State) (rs : List CfgRec) : State :=
  match rs.find? (fun r => r.ty == 5) with
  | none => s
  | some r =>
    let scene := nth 0 r.ws 0
    if 1024 ≤ scene then s
    else
      let x := loadScene s scene
      let s := x.2
      if x.1 && recFormatOk s bufAddr then
        let scope := recScope s bufAddr
        let safe := safeMask s
        let units := (maskUnits scope).filter (fun u => !maskBit safe u)
        (units.flatMap (recWords s bufAddr scope)).foldl (fun s w => pwriteBoth s w.1 w.2) s
      else stick s R.F_BOOT_HIST_SCENE_FAIL_S

/-- Both halves of every cell and every cell state are cleared (R351). -/
def clearPstore (s : State) : State :=
  { s with
    mem := s.mem.filter (fun e => !(decide (0x04000000 ≤ e.1) && decide (e.1 < 0x04400000)))
    slu := { s.slu with cells := [] } }

/-- PSTORE as at a cold boot (R344, R351): the global words, the records, the scene. -/
def buildPstore (s : State) (rs : List CfgRec) : State :=
  let s := writeGlobals (clearPstore s)
  cfgScene ((cfgApply (fun _ => false) true rs s).getD s) rs

/-- Code 14: a failed memory that the set uses. -/
def badMemory (s : State) : Bool :=
  (List.range 160).any (fun b => bankFailed s b && ownerOf s b != 0 && ownerOf s b != 8) ||
    (List.range 64).any (fun c => getF s (R.F_SCHED_CORE_KIND c) != 0 && coreFailed s c)

/-! Loading a set (R345, R351). -/

/-- The set is the one that ran before the reset and the restart check passes. -/
def keepsJournal (s : State) (ds : List Nat) : Bool := ds == s.rst.lastSet && restartCheck s s.boot.march

/-- The rate of a set loaded at a warm boot that rebuilds PSTORE: where it differs from the rate in effect, Cage clears RUN,
applies it and sets RUN (R351). -/
def warmRate (s : State) (fr : Nat × Nat) : State :=
  if fr.2 = rateCode s then s
  else setF (applyRate (stopTick (setF s R.F_SCHED_CTL_RUN 0)) fr) R.F_SCHED_CTL_RUN 1

/-- The CFG records take effect: at a cold boot all of them, at a warm boot the REG records without COLD_ONLY, and with a lost
journal the parameters too (R344, R351). -/
def applyCfg (s : State) (rs : List CfgRec) (ds : List Nat) : Option State :=
  let wait := (rs.find? (fun r => r.ty == 6)).map (fun r => nth 0 r.ws 0)
  let s := { s with boot := { s.boot with waitRef := if s.rst.warm then none else wait } }
  if !s.rst.warm then
    (cfgApply (fun _ => true) true rs (applyRate (writeGlobals s) (cfgRate rs))).map (fun s => cfgScene s rs)
  else
    let ok := keepsJournal s ds
    let s := { s with boot := { s.boot with restartOk := ok } }
    let s := if !ok && ds != s.rst.lastSet then warmRate s (cfgRate rs) else s
    (cfgApply (fun r => !r.flags.testBit 0) false rs s).map (fun s => if ok then s else buildPstore s rs)

/-- Load the set of a slot, or the code of R345 that refuses it. -/
def loadSet (s : State) (slot : Nat) : Except Nat State :=
  match s.boot.map with
  | none => .error 1
  | some m =>
    let base := slotBase m slot
    let at_ := fun k => base + imageOff k
    if !slotComplete s base then .error 2
    else
      match hdrCodes.find? (fun c => !kinds.all (fun k => hdrCheck s (at_ k) k (manifestLen s base k) c)) with
      | some c => .error c
      | none =>
        if !kinds.all (fun k => chkHash s (at_ k)) then .error 10
        else if !compatible s base 0 0 then .error 11
        else
          let recs := cfgRecords s (at_ 4 + 512) (hdr s (at_ 4) 32 4) (hdr s (at_ 4) 32 4 + 1) 0 []
          match loadDsp s (at_ 2) (match recs with | some rs => (cfgRate rs).2 | none => 3) with
          | none => .error 12
          | some t =>
            match recs with
            | none => .error 13
            | some rs =>
              if !cfgOk rs then .error 13
              else
                match applyCfg t rs (slotDigests s base) with
                | none => .error 13
                | some u =>
                  if badMemory u then .error 14
                  else
                    .ok { u with
                      redun := { u.redun with myAudio := ofBeBytes (readBytes s (at_ 4 + 88) 32) }
                      boot := { u.boot with snap := some ⟨s.csr, s.mem, s.slu.cells⟩, digests := slotDigests s base } }

/-! The choice of the slot (R352 to R354). -/

def b0Conf (w : Nat) : Nat := bits w 0 0
def b0Trial (w : Nat) : Bool := w.testBit 1
def b0Left (w : Nat) : Nat := bits w 19 16

/-- Record the refusal of a slot. -/
def noteCause (s : State) (slot code : Nat) : State :=
  setF s (if slot = 0 then R.F_BOOT_STAT_CAUSE_A else R.F_BOOT_STAT_CAUSE_B) code

/-- A fall-back: FB_CAUSE, REFUSE_CAUSE, FELLBACK, FB_CNT, and TRIAL cleared. -/
def fallBack (s : State) (cause refuse : Nat) : State :=
  let w := prfRead s 0x30
  let c := prfRead s 0x31
  let s := prfWrite s false 0x30 (setBits (setBits w 2 2 1) 1 1 0)
  let s := prfWrite s false 0x31 (setBits (setBits (setBits c 23 16 refuse) 15 8 cause) 7 0 (min (bits c 7 0 + 1) 255))
  stick s R.F_BOOT_HIST_FALLBACK_S

/-- Both slots are refused (R352): the engine fails, its cores held. -/
def bootFailed (s : State) : State :=
  (List.range 64).foldl holdCore { s with rst := { s.rst with stage := .failed } }

/-- The CTL firmware of a loaded set is released: the watchdog runs (R350, R364). -/
def release (s : State) (slot : Nat) (trial : Bool) : State :=
  let s := wdtReload (setF (setF s R.F_BOOT_STAT_SLOT slot) R.F_BOOT_STAT_TRIAL (ofBool trial))
  { s with
    rst := { s.rst with stage := .fw, wdt := true, slot := slot }
    boot := { s.boot with trial := trial } }

/-- Boot a slot; `other` handles its refusal. -/
def bootSlot (s : State) (slot : Nat) (trial : Bool) (other : State → Nat → State) : State :=
  match loadSet s slot with
  | .ok t => release t slot trial
  | .error c => other (noteCause s slot c) c

/-- Boot the last slot left to try. -/
def bootLast (s : State) (slot : Nat) : State :=
  bootSlot { s with boot := { s.boot with triedBoth := true } } slot false (fun s _ => bootFailed s)

/-- Boot the other slot as a rescue. -/
def bootRescue (s : State) (slot : Nat) : State := bootLast (setF s R.F_BOOT_STAT_RESCUE 1) slot

/-- R354. -/
def chooseSlot (s : State) : State :=
  let w := prfRead s 0x30
  let conf := b0Conf w
  if b0Trial w && b0Left w != 0 then
    let s := prfWrite s false 0x30 (setBits w 19 16 (b0Left w - 1))
    bootSlot s (1 - conf) true (fun s c => bootLast (fallBack s 2 c) conf)
  else
    let s := if b0Trial w then fallBack s 1 0 else s
    bootSlot s conf false (fun s _ => bootRescue s (1 - conf))

/-- The memories that a boot's test finds failed: those given, and those whose faults need more spares than they have (R222). -/
def bootBad (s : State) (i : BootIn) : List Nat :=
  i.bad ++ (i.repairs.filter (fun r => sparesExceeded s r.1 r.2.1 r.2.2)).map (fun r => r.1)

/-- A bank has a word whose error ECC cannot correct. -/
def bankDouble (s : State) (b : Nat) : Bool := s.bus.ecc.any (fun e => decide (e.1 / 0x80000 = b) && e.2 % 256 == 3)

/-- The banks that a warm boot's transparent march leaves without their contents (R223). -/
def marchLost (s : State) (i : BootIn) : List Nat :=
  if s.rst.warm then (List.range 160).filter (fun b => bankRetained s b &&
    (i.lost.contains b || (bootBad s i).contains (512 + b) || bankDouble s b))
  else []

/-- The transparent march of the RETAIN banks at a warm boot (R207, R220, R223): single errors are corrected; a bank with a word that
cannot be corrected receives March C−. -/
def bootMarch (s : State) (i : BootIn) : State :=
  let lost := marchLost s i
  let s := if s.rst.warm then (List.range 160).foldl (fun s b =>
      if bankRetained s b then clearSingles s (b * 0x80000) 0x80000 else s) s
    else s
  lost.foldl (fun s b => clearRange s (b * 0x80000) 0x80000) s

/-- MBIST at boot (R221 to R223): faults within the spares are repaired; the memories found failed are marked; a failed bank and a failed
memory hold nothing. The extra round over repaired banks leaves what the marches left. -/
def bootMbist (s : State) (i : BootIn) : State :=
  let bad := bootBad s i
  let s := bootMarch s i
  let s := (i.repairs.filter (fun r => r.1 < 672 && !bad.contains r.1)).foldl (fun s r => softRepair s r.1 r.2.1 r.2.2) s
  bad.foldl (fun s b =>
    if b < 512 then (if s.bus.failed.contains b then s else { s with bus := { s.bus with failed := s.bus.failed ++ [b] } })
    else if b < 672 then clearRange (markFailed s ⟨0, 0, 0, b - 512⟩ true) ((b - 512) * 0x80000) 0x80000
    else s) s

/-- The reset ends and Cage boots (R349, R354, R360). -/
def bootRun (s : State) (i : BootIn) : State :=
  let bad := bootBad s i
  let march := (marchLost s i).isEmpty
  let s := bootMbist s i
  let s := setF (setF s R.F_BOOT_STAT_WARM (ofBool s.rst.warm)) R.F_BOOT_STAT_SLOW_FLASH (ofBool i.slow)
  let m := flashMap s (fun c => if c = 0 then i.chip0 else i.chip1)
  let s := { s with boot := { s.boot with map := m, march := march, bad := bad, triedBoth := false } }
  match m with
  | none => chooseSlot s
  | some m =>
    let s := { s with slu := { s.slu with buf := { s.slu.buf with showBase := m.showR.base, showSize := m.showR.size } } }
    let s := { s with slu := { s.slu with buf := { s.slu.buf with dir := dirSelect s } } }
    chooseSlot (showImages (showImages s m.slotA.base 0) m.slotB.base 1)

/-- Cage clears the set it had loaded (R346): what a set can write goes back to what stood there before the load. -/
def unloadSet (s : State) : State :=
  match s.boot.snap with
  | none => s
  | some x =>
    let setFields := fun (off : Nat) => if dspReg off then 0xFFFFFFFF
      else if off / 0x10000 = 2 || off / 0x10000 = 0x15 || off / 0x10000 = 0x16 || off / 0x10000 = 0x17 then 0
      else fieldsOf (fun f => f.ty == .rw) (regFields off)
    let old := fun (off : Nat) => match smapFind x.csr off with
      | some v => v
      | none => csrReset off
    let back := fun (s : State) (off : Nat) =>
      let k := BitVec.ofNat 32 (setFields off)
      csrPut s off ((csrGet s off &&& ~~~k) ||| (old off &&& k))
    let s := (s.csr.map (fun e => e.1) ++ x.csr.map (fun e => e.1)).foldl back s
    { s with
      mem := x.mem
      slu := { s.slu with cells := x.cells, buf := { s.slu.buf with valid := false } }
      boot := { s.boot with snap := none, digests := [], restartOk := false, settings := none } }

/-! Starting (R350, R351). -/

/-- The CTL firmware has not reported ready in time: the set is refused with cause FIRMWARE and the next slot of R354 is tried. -/
def firmwareTimeout (s : State) : State :=
  if s.rst.stage != .fw then s
  else
    let slot := s.rst.slot
    let trial := s.boot.trial
    let s := noteCause (unloadSet { s with rst := { s.rst with wdt := false } }) slot 15
    if s.boot.triedBoth then bootFailed s
    else if trial then bootLast (fallBack s 2 15) (1 - slot)
    else bootRescue s (1 - slot)

/-- A settings area whose header and CRC-32 check: its FORMAT and sequence number (R356). -/
def settingsArea (s : State) (r : Region) : Option (Nat × Nat) :=
  let n := readWord s (r.base + 16) 4
  if r.size ≠ 0 ∧ readWord s r.base 4 = 0x5A534554 ∧ 20 + n ≤ r.size ∧
      readWord s (r.base + 12) 4 = crc32 (readBytes s (r.base + 16) (4 + n)) then
    some (readWord s (r.base + 4) 2, readWord s (r.base + 8) 4)
  else none

/-- SETTINGS_FMT of the running CTL image (R341). -/
def settingsFmt (s : State) : Nat := match s.boot.map with
  | some m => hdr s (slotBase m s.rst.slot + imageOff 1) 100 2
  | none => 0

/-- The sequence number of an area that the running firmware can use. -/
def settingsSeq (s : State) (r : Region) : Option Nat := match settingsArea s r with
  | some a => if a.1 = settingsFmt s then some a.2 else none
  | none => none

/-- The area that the firmware uses at its start: of its own FORMAT, the higher sequence number (R356). -/
def settingsPick (s : State) : Option Nat := match s.boot.map with
  | none => none
  | some m =>
    match settingsSeq s m.s1, settingsSeq s m.s2 with
    | some a, some b => some (if a < b then 2 else 1)
    | some _, none => some 1
    | none, some _ => some 2
    | none, none => none

/-- The CTL firmware reports ready: a cold boot waits to start; a warm boot restages and replays, or has lost its journal. -/
def firmwareReady (s : State) : State :=
  if s.rst.stage != .fw then s
  else
    let same := s.boot.digests == s.rst.lastSet
    let s := { s with
      rst := { s.rst with lastSlot := some s.rst.slot, lastSet := s.boot.digests }
      boot := { s.boot with snap := none, settings := settingsPick s } }
    if s.rst.warm then
      let s := setF s R.F_BOOT_STAT_SET_CHANGED (ofBool (!same))
      let s := if s.boot.restartOk then restageReplay ap s else restageAll (restoreDirty (journalLost s))
      { s with rst := { s.rst with stage := .restart } }
    else { restageAll s with rst := { s.rst with stage := .wait } }

/-- WAIT_REF's time has passed. -/
def waitRefOver (s : State) : State :=
  if s.rst.stage = .wait then { s with boot := { s.boot with waitRef := none } } else s

/-- Cage sets RUN once the wait for a reference is over (R349, R350); a paired engine enters STANDBY (R294). -/
def engineStart (s : State) : State :=
  if s.rst.stage != .wait || !(s.boot.waitRef.isNone || dpll s == 1 || dpll s == 2) then s
  else
    let s := runWrite (freeCores { s with rst := { s.rst with stage := .running, coresHeld := false } }) true
    if s.redun.paired && s.redun.role = 5 then setRole s 1 else s

end Sys2Proof.Machine
end

