-- ==== Sys2Proof/Machine/FxShell.lean ====
section
/-! DEFINITION. The FX shell (R73, R187 to R190, R196): what it reads and prepares for each slot at the start of a Ts, and the
returns it forms when the core has met its window. -/
namespace Sys2Proof.Machine

/-- The FX cores that are not held. -/
def fxCores (s : State) : List Nat := (List.range 64).filter (fun c => coreKind s c == 4 && !coreIsHeld s c)

/-- The identifier of the object loaded in position j of core c. -/
def fxObj (s : State) (c j : Nat) : Nat := if j = 0 then getF s (R.F_MINTAL_OBJ_ID_A c) else getF s (R.F_MINTAL_OBJ_ID_B c)

/-- Addresses of the parameter block and of the I/O block of position j (R187). -/
def fxParam (c j : Nat) : Nat := scratch c (0x10000 + 0x8000 * j)
def fxIo (c j : Nat) : Nat := scratch c (0x7FC0 + 0x8000 * j)

/-- A gained FX word: saturated to Q1.31 (R189). -/
def fxGain (x : Int) (g : Nat) : Int := sat32 (satQ (mulQ x ((lin g : Nat) : Int)))

/-- Steps 1 to 4 of R189 for one slot and sample n. The I/O words are bus writes that dirty their line (R194); the parameter block
belongs to no item. -/
def shellRead (n c : Nat) (s : State) (q : Nat × Nat) : State :=
  let slot := q.1
  let j := q.2
  let id := bits (plive s (pidFx slot 4)) 15 0
  let g := fun w => codeAt s n (pidFx slot w)
  let p := xfAt s n (xkFx slot)
  let inp := fun w => fxGain (sext 32 (readWord s (mailbox c j n w) 4)) (g 1)
  let h : FxHold := ⟨p.1, p.2, inp 0, inp 1, g 2, g 3, id == 0 || id == fxObj s c j⟩
  let words := (List.range 496).flatMap (fun i => leBytes 4 (codeAt s n (pidFx slot (16 + i))))
  let s := writeBytes s (fxParam c j) (words ++ zeros 64)
  let s := touchAddr (writeBytes s (fxIo c j) (leBytes 4 (lowBits 32 h.in0) ++ leBytes 4 (lowBits 32 h.in1))) c (0x7FC0 + 0x8000 * j)
  { s with dsp := { s.dsp with fxHold := smapPut s.dsp.fxHold slot h } }

/-- The shell's work before the objects run, for sample n. -/
def shellReadAll (s : State) (n : Nat) : State :=
  (fxCores s).foldl (fun s c => (fxSlots s c).foldl (shellRead n c) s) { s with dsp := { s.dsp with fxHold := [] } }

/-- What one side returns under an FX_SW setting, before its return gain (R73, R189). -/
def returnUnder (h : FxHold) (inp obj : Int) (set : Nat) : Int :=
  if set % 2 = 0 || !h.idOk then 0 else if set / 2 % 2 = 1 then inp else obj

/-- Step 6 of R189 for one slot: the returns of sample n go to the mailbox. A crossfade of FX_SW mixes the two paths before the
return gain (R65; DEDUCED, in the log). -/
def shellReturn (n c : Nat) (s : State) (q : Nat × Nat) : State :=
  match smapFind s.dsp.fxHold q.1 with
  | none => s
  | some h =>
    let io := fun w => sext 32 (readWord s (fxIo c q.2 + 4 * w) 4)
    let mute := s.redun.muted.contains q.1
    let ret := fun (inp obj : Int) (g : Nat) => if mute then 0 else fxGain (xfMix (h.now, h.old) (returnUnder h inp obj)) g
    let s1 := if h.idOk then s else stick s R.F_STRIP_STAT_FX_MISMATCH_S
    writeBytes s1 (mailbox c q.2 n 2)
      (leBytes 4 (lowBits 32 (ret h.in0 (io 0) h.gl)) ++ leBytes 4 (lowBits 32 (ret h.in1 (io 1) h.gr)))

def shellReturns (n : Nat) (s : State) (c : Nat) : State := (fxSlots s c).foldl (shellReturn n c) s

end Sys2Proof.Machine
end

