-- ==== Sys2Proof/Machine/Outflow.lean ====
section
/-! DEFINITION. Outflow, phase E of Ts n: output delay lines (R59), conversion and dither (R74, R75), the Floodgate (R98), FX
inputs (R188), packets (R42), and the hashes of Canary (R311). -/
namespace Sys2Proof.Machine

/-- The value of a tap for the running sample (tap pool; R58). -/
def tapVal (s : State) (id : Nat) : Int :=
  if id < 0xD00 then srcVal s id
  else if id < 0xE90 then smapGet 0 s.dsp.out id
  else if id < 0x1000 then 0
  else if id < 0x1400 then smapGet 0 s.dsp.dir (id - 0x1000)
  else if id < 0x1600 then smapGet 0 s.dsp.odlyOut id
  else 0

/-! Output delay lines (R59, R60). -/

/-- The tap that a delay-line setting writes: zero for a delay line or a reserved tap. -/
def lineTap (s : State) (set : Nat) : Int := let id := bits set 28 16; if id < 0x1400 then tapVal s id else 0

def lineOn (set : Nat) : Bool := set.testBit 31
def lineKey (d n : Nat) : Nat := 8192 * d + n % 8192

/-- What enters the line: the taps of two enabled settings are mixed as they are written; a setting with EN = 0 writes nothing. -/
def lineWrite (s : State) (x : Nat × Option (Nat × Int)) : Option Int :=
  match x.2 with
  | some (o, w) =>
    if lineOn o && lineOn x.1 then some (xmix (lineTap s o) (lineTap s x.1) w)
    else if lineOn o then some (lineTap s o)
    else if lineOn x.1 then some (lineTap s x.1)
    else none
  | none => if lineOn x.1 then some (lineTap s x.1) else none

/-- The bank of position k of line d, which the outflow DMA, master 7, reaches (R202). -/
def lineBank (d k : Nat) : Nat := 64 + Config.delayBank d (k % 8192) % 32

/-- The settings of a line that read it. -/
def linesRead (x : Nat × Option (Nat × Int)) : List Nat :=
  (match x.2 with
    | some (o, _) => [x.1, o]
    | none => [x.1]).filter lineOn

/-- The refusals that line d meets in sample n (R203). -/
def lineRefused (s : State) (d n : Nat) (sets : List Nat) : State :=
  let at' := fun set => lineBank d (n + 8192 - bits set 12 0)
  let s := if bankAdmits s (lineBank d n) 7 true then s else ownRefuse s (lineBank d n) 7 false true
  (sets.filter (fun q => !bankAdmits s (at' q) 7 false)).foldl (fun s q => ownRefuse s (at' q) 7 false false) s

/-- Line d for sample n: the clipped tap is written, and the line is read at n − LENGTH. -/
def runLine (n : Nat) (s : State) (d : Nat) : State :=
  let x := xfAt s n (xkPatch (3072 + d))
  match lineWrite s x with
  | none => s
  | some v =>
    let l := if bankAdmits s (lineBank d n) 7 true then smapSet 0 s.dsp.odly (lineKey d n) (sat32 v) else s.dsp.odly
    let read := fun k => if bankAdmits s (lineBank d k) 7 false then smapGet 0 l (lineKey d k) else 0
    let out := xfMix x (fun set => if lineOn set then read (n + 8192 - bits set 12 0) else 0)
    let s := lineRefused (countClip s v) d n (linesRead x)
    { s with dsp := { s.dsp with odly := l, odlyOut := smapSet 0 s.dsp.odlyOut (0x1400 + d) out } }

/-! Which entries are converted (R61, R74). -/

/-- Word lengths of the configured serial entries: entry, wbits. -/
def serialEntries (s : State) : List (Nat × Nat) :=
  (List.range 32).foldl (fun m p =>
    if (getSp s p).ok then
      let c := spCfg s p
      (List.range (kOut c)).foldl (fun m j => smapPut m (2048 + c.outBase + j) (ctlDlen c.ctl)) m
    else m) []

/-- Word lengths of the configured network entries: of contexts that share a slot, the highest-numbered one decides (DESIGN
CHOICE, in the log). -/
def netEntries (s : State) : List (Nat × Nat) :=
  (List.range 256).foldl (fun m c =>
    if ctxTxOn s c then
      (List.range (getF s (R.F_STREAM_TX_POOL_CHANNELS c))).foldl (fun m k =>
        smapPut m (getF s (R.F_STREAM_TX_POOL_BASE c) + k) (if isSet s (R.F_STREAM_TX_CTL_ENC c) then 16 else 24)) m
    else m) []

/-- The configured entries in ascending order: entry, wbits (R61). -/
def entryList (s : State) : List (Nat × Nat) :=
  let ser := serialEntries s
  netEntries s ++ (if 2 ≤ rateCode s then ser.filter (fun e => decide (e.1 < 2560)) else ser) ++
    (List.range 96).map (fun k => (3584 + k, 32))

def entryOn (x : Nat × Option (Nat × Int)) : Bool :=
  x.1.testBit 15 || (match x.2 with
    | some (o, _) => o.testBit 15
    | none => false)

/-- The value that a setting of a patch entry sends: zero with ON = 0. -/
def entryVal (s : State) (set : Nat) : Int :=
  if set.testBit 15 then (let v := tapVal s (bits set 12 0); if set.testBit 13 then satQ (-v) else v) else 0

/-- Clear the low 32 − w bits. -/
def truncTo (w : Nat) (x : Int) : Int := shrInt x (32 - w) * ((2 ^ (32 - w) : Nat) : Int)

/-- TPDF dither to w bits: two steps of the register (R74). -/
def ditherTo (w r : Nat) (q : Int) : Int × Nat :=
  let r1 := prngStep r
  let r2 := prngStep r1
  let d : Int := ((r1 / 2 ^ w + r2 / 2 ^ w : Nat) : Int) - (((2 ^ (32 - w) : Nat) : Int) - 1)
  (truncTo w (sat32 (q + d)), r2)

/-- Convert one entry: clip, dither, Floodgate (R74, R75, R98). FX inputs pass the Floodgate unchanged (R99). -/
def convertEntry (n : Nat) (s : State) (e : Nat × Nat) : State :=
  let x := xfAt s n (xkPatch e.1)
  if !entryOn x then s
  else
    let v := xfMix x (entryVal s)
    let s := countClip s v
    let q := sat32 v
    let dith := (plive s pidDitherCtl).testBit 0 && !(plive s (pidPatch e.1)).testBit 14 && decide (e.2 < 32)
    let r := if dith then ditherTo e.2 s.dsp.prng q else (q, s.dsp.prng)
    let y := if e.1 < 3072 then truncTo e.2 (r.1 * (s.flood.g : Int) / 2147483648) else r.1
    { s with dsp := { s.dsp with
        prng := r.2, steps := s.dsp.steps + (if dith then 2 else 0),
        conv := smapPut s.dsp.conv e.1 r.1, handoff := smapSet 0 s.dsp.handoff e.1 y } }

/-- Hand the FX inputs of sample n to the mailboxes (R188). -/
def handFx (n : Nat) (s : State) (k : Nat) : State :=
  match fxCoreOf s (k / 2) with
  | some (c, j) => writeWord s (mailbox c j n (k % 2)) 4 (lowBits 32 (smapGet 0 s.dsp.handoff (3584 + k)))
  | none => s

/-! Canary (R311). -/

def frame4 (v : Int) : List Nat := leBytes 4 (lowBits 32 v)
def frame8 (v : Int) : List Nat := leBytes 8 (lowBits 64 v)

/-- The bytes of an item. -/
def canaryBytes (s : State) (k : Nat) : List Nat :=
  if k < 64 then
    (List.range 16).flatMap (fun i =>
      let u := 16 * k + i
      frame4 (smapGet 0 s.dsp.post u) ++ frame4 (smapGet 0 s.dsp.pre u) ++ frame8 (smapGet 0 s.dsp.dir u))
  else if k < 89 then
    let base := if k < 80 then 1024 + 16 * (k - 64) else if k = 80 then 1280 else 1296 + 16 * (k - 81)
    (List.range 16).flatMap (fun i => frame8 (smapGet 0 s.dsp.out (outId (base + i))) ++ frame8 (smapGet 0 s.dsp.dir (base + i)))
  else if k < 113 then (List.range 4).flatMap (fun i => frame4 (srcVal s (0xC80 + 4 * (k - 89) + i)))
  else s.dsp.conv.flatMap (fun e => frame4 e.2) ++ leBytes 4 s.dsp.prng

def canaryItems (s : State) : List Nat := tabulate 114 (fun k => crc32 (canaryBytes s k))

/-- One byte of the CRC-64 (most significant bit first). -/
def crc64Bit : Nat → Nat → Nat
  | 0, c => c
  | k + 1, c => crc64Bit k (if c.testBit 63 then (2 * c % 2 ^ 64) ^^^ 0x42F0E1EBA9EA3693 else 2 * c)
def crc64 (bs : List Nat) : Nat := bs.foldl (fun c b => crc64Bit 8 (c ^^^ (b % 256) * 2 ^ 56)) 0

/-- The engine hash: SMP_IDX, then the item CRCs. -/
def engineHash (n : Nat) (items : List Nat) : Nat := crc64 (leBytes 8 n ++ items.flatMap (leBytes 4))

/-- Canary of sample n; an engine with PAIR = 0 computes none. -/
def canary (s : State) (n : Nat) : State :=
  if s.redun.paired then (let it := canaryItems s; canaryOwn s n (engineHash n it) it) else s

/-- Outflow of Ts n. -/
def outflow (s : State) (n : Nat) : State :=
  let d := { s.dsp with steps := 0, conv := [], handoff := [], odlyOut := [] }
  let s := (List.range 512).foldl (runLine n) { s with dsp := d }
  let s := (entryList s).foldl (convertEntry n) s
  let s := (List.range 96).foldl (handFx n) s
  let s := setF (setF s R.F_STRIP_DITHER_STATE_STATE s.dsp.prng) R.F_STRIP_DITHER_STEPS_STEPS s.dsp.steps
  canary (packAll s) n

end Sys2Proof.Machine
end

