-- ==== Sys2Proof/Machine/Windows.lean ====
section
/-! DEFINITION. The phase windows of a Ts: the release of the cores that carry work in a window (R29, R31, R38), and its end,
with the overruns (R30, R31) and the outputs of the standard graph. -/
namespace Sys2Proof.Machine

/-- Phase codes (SCHED_OVR_LAST). -/
def winCode : Window → Nat
  | .a => 0
  | .b => 1
  | .c => 2
  | .db => 3
  | .dm => 4
  | .dx => 5
  | .e => 6
  | .fx => 7

/-- The tiles that core c carries in the window of a phase code (SCHED_TILE). -/
def coreTiles (s : State) (code c : Nat) : List Nat :=
  (List.range 89).filter (fun t => getF s (R.F_SCHED_TILE_PHASE t) == code && tileCore s t == c)

/-- The row groups of 64 input strips that mix core c carries (SCHED_CORE). -/
def rowGroups (s : State) (c : Nat) : List Nat :=
  tabulate (getF s (R.F_SCHED_CORE_COUNT c)) (fun k => getF s (R.F_SCHED_CORE_BASE c) + k)

/-- Whether core c carries work in a window; a core held in reset carries none. -/
def hasWork (s : State) (w : Window) (c : Nat) : Bool :=
  !coreIsHeld s c && (match w with
    | .a => false
    | .b => !(coreTiles s 1 c).isEmpty
    | .c => coreKind s c == 2
    | .db => !(coreTiles s 3 c).isEmpty
    | .dm => !(coreTiles s 4 c).isEmpty
    | .dx => !(coreTiles s 5 c).isEmpty
    | .e => false
    | .fx => coreKind s c == 4)

def workCores (s : State) (w : Window) : List Nat := (List.range 64).filter (hasWork s w)

/-- Every tile of strip core c is dormant (R38). -/
def allDormant (s : State) (c : Nat) : Bool :=
  (coreTiles s 1 c).all (fun t => bits s.sched.dormant (16 * t + 15) (16 * t) == 65535)

/-- SCHED releases a core that has issued WAIT. -/
def wake (s : State) (c : Nat) : State :=
  putCore s c { getCore s c with waiting := false, cyc := 0, inWindow := true }

/-- What the start of a window does to the cores `cs` that carry work in it: those released, and those late from before. -/
def releaseCores (s : State) (w : Window) (cs : List Nat) : State × List Nat × List Nat :=
  cs.foldl (fun (r : State × List Nat × List Nat) c =>
    let waits := (getCore r.1 c).waiting
    let gated := w == .b && allDormant r.1 c
    let s := if gated then count r.1 R.F_SCHED_GATE_CNT_GATE_CNT 1 else r.1
    if !waits then (s, r.2.1, r.2.2 ++ [c])
    else if gated then (s, r.2.1, r.2.2)
    else (wake s c, r.2.1 ++ [c], r.2.2)) (s, [], [])

/-- The FX cores are released at the tick, and the shell makes its first call on each (R189). -/
def openFx (s : State) : State :=
  let r := releaseCores s .fx (workCores s .fx)
  let s := r.2.1.foldl (fun s c => callFirst s c (fxSlots s c)) r.1
  { s with sched := { s.sched with fxOpen := true, fxReleased := r.2.1, fxLate := r.2.2 } }

/-- A window other than A and FX begins: Confluence and the exchange run at their boundaries, and the cores are released. -/
def openWindow (s : State) (w : Window) : State :=
  let s := match w with
    | .a => s
    | .b => s
    | .c => s
    | .db => confluence s
    | .dm => exchange s (List.range 256)
    | .dx => exchange s ((List.range 16).map (fun m => 256 + m))
    | .e => s
    | .fx => s
  let r := releaseCores s w (workCores s w)
  { r.1 with sched := { r.1.sched with window := some w, released := r.2.1, late := r.2.2 } }

/-- An overrun event of core c (R30, R31); one that occurs in a handler does not enter it again (R185). The fatal fault is raised
where the count equals STUCK_LIMIT; a limit lowered to or below a running count acts from the next run on (DESIGN CHOICE, in the
log: R31 speaks of the count that reaches the limit and not of a limit that moves). -/
def overrun (code : Nat) (s : State) (c : Nat) : State :=
  let f := if c < 32 then R.F_SCHED_OVR_CORE_LO_CORE_S else R.F_SCHED_OVR_CORE_HI_CORE_S
  let s := setF s f (getF s f ||| 2 ^ (c % 32))
  let s := stick (count s R.F_SCHED_OVR_CNT_OVR_CNT 1) R.F_SCHED_STAT_OVERRUN_S
  let s := sendEvent s 1 [c, code, 0, 0]
  let s := putCore s c { getCore s c with ovr := (getCore s c).ovr || !stHnd (getCore s c), inWindow := false }
  let k := smapGet 0 s.sched.ovrRun c + 1
  let s := { s with sched := { s.sched with ovrRun := smapPut s.sched.ovrRun c k } }
  let lim := getF s R.F_SCHED_CTL_STUCK_LIMIT
  if lim != 0 && k == lim then fatalFault (stick s R.F_SCHED_STAT_STUCK_S) R.F_RST_FATAL_STUCK_S else s

/-- SCHED_OVR_LAST: the lowest core of the window. -/
def noteLast (s : State) (n code : Nat) : List Nat → State
  | [] => s
  | c :: _ => setF (setF (setF s R.F_SCHED_OVR_LAST_IDX n) R.F_SCHED_OVR_LAST_PHASE code) R.F_SCHED_OVR_LAST_CORE c

/-- A window that a core meets ends its run of overruns (R31). -/
def metWindow (s : State) (c : Nat) : State := { s with sched := { s.sched with ovrRun := smapDel s.sched.ovrRun c } }

/-- The outputs of a core that met a window. -/
def coreDone (n : Nat) (w : Window) (s : State) (c : Nat) : State :=
  let graph := fun (f : State → Nat → State) (l : List Nat) => if stdGraph s then l.foldl f s else s
  match w with
  | .a => s
  | .b => graph (fun s t => runInputTile s n t) (coreTiles s 1 c)
  | .c => graph (fun s m => mixCore s n m) (rowGroups s c)
  | .db => graph (fun s t => putTile (runMixTile s n t) c t) (coreTiles s 3 c)
  | .dm => graph (fun s t => putTile (runMixTile s n t) c t) (coreTiles s 4 c)
  | .dx => graph (fun s t => putTile (runMixTile s n t) c t) (coreTiles s 5 c)
  | .e => s
  | .fx => shellReturns (idxPrev n) s c

/-- An input tile's outputs read as zero (R30). -/
def zeroInputTile (s : State) (t : Nat) : State := (List.range 16).foldl (fun s i => zeroInput s (16 * t + i)) s

/-- A core that overran: the tiles that completed within the window have advanced their state, and every output reads as zero
(R30). -/
def coreFails (n : Nat) (done : List Nat) (w : Window) (s : State) (c : Nat) : State :=
  let ran := fun (t : Nat) => stdGraph s && done.contains t
  match w with
  | .a => s
  | .b => (coreTiles s 1 c).foldl (fun s t => zeroInputTile (if ran t then runInputTile s n t else s) t) s
  | .c => (rowGroups s c).foldl zeroLeaves s
  | .db => (coreTiles s 3 c).foldl (fun s t => putTile (zeroMixTile (if ran t then runMixTile s n t else s) t) c t) s
  | .dm => (coreTiles s 4 c).foldl (fun s t => putTile (zeroMixTile (if ran t then runMixTile s n t else s) t) c t) s
  | .dx => (coreTiles s 5 c).foldl (fun s t => putTile (zeroMixTile (if ran t then runMixTile s n t else s) t) c t) s
  | .e => s
  | .fx => { s with dsp := { s.dsp with fxOver := s.dsp.fxOver ++ [c] } }

/-- The cores of a window that ends: those released that have issued WAIT, and those that overran, lowest first (R29, R31). -/
def metCores (s : State) (rel : List Nat) : List Nat := rel.filter (fun c => (getCore s c).waiting)
def overCores (s : State) (rel late : List Nat) : List Nat :=
  (List.range 64).filter (fun c => !coreIsHeld s c && (late.contains c || (rel.contains c && !(getCore s c).waiting)))

/-- The end of a window for its cores. -/
def judgeWindow (s : State) (n : Nat) (w : Window) (done rel late : List Nat) : State :=
  let met := metCores s rel
  let overs := overCores s rel late
  let gated := (workCores s w).filter (fun c => !rel.contains c && !late.contains c)
  let s := met.foldl (coreDone n w) s
  let s := overs.foldl (coreFails n done w) s
  let s := gated.foldl (fun s c => if w == .b && stdGraph s then (coreTiles s 1 c).foldl (fun s t => runInputTile s n t) s else s) s
  let s := (met ++ gated).foldl metWindow s
  noteLast (overs.foldl (overrun (winCode w)) s) n (winCode w) overs

/-- The end of window w in Ts n; `done` lists the tiles that cores which overran had completed. -/
def closeWindow (s : State) (w : Window) (done : List Nat) : State :=
  let n := nowIdx s
  match w with
  | .fx =>
    let s := { s with dsp := { s.dsp with fxOver := [] } }
    let s := judgeWindow s n .fx done s.sched.fxReleased s.sched.fxLate
    { s with sched := { s.sched with fxOpen := false, fxReleased := [], fxLate := [] } }
  | w =>
    let s := match w with
      | .a => intake s n
      | .e => outflow s n
      | _ => judgeWindow s n w done s.sched.released s.sched.late
    { s with sched := { s.sched with window := none, released := [], late := [] } }

/-- WINDOW_RELEASE: while the tick runs and no window is in progress. Windows A and FX begin with the tick itself. -/
def execWindowRelease (w : Window) (s : State) : Out := .next <|
  if s.sched.running && s.sched.window.isNone && w != .a && w != .fx then openWindow s w else s

/-- WINDOW_END of the window in progress. -/
def execWindowEnd (w : Window) (tiles : List Nat) (s : State) : Out := .next <|
  if w = .fx then (if s.sched.fxOpen then closeWindow s .fx tiles else s)
  else if s.sched.window = some w then closeWindow s w tiles else s

/-- CONFL_LATE_PARTIAL (R85). -/
def execConflLatePartial (s : State) : Out := .next <| latePartial s

end Sys2Proof.Machine
end

