-- ==== Sys2Proof/Machine/Sweep.lean ====
section
/-! DEFINITION. The state sweep of a resync (R193 to R196, R317, R320, R321). -/
namespace Sys2Proof.Machine

/-! What an item carries. -/

/-- Entries of a map with keys from `a` to `b` - 1. -/
def between {α : Type} (m : List (Nat × α)) (a b : Nat) : List (Nat × α) :=
  m.filter (fun e => decide (a ≤ e.1) && decide (e.1 < b))
/-- The map with the keys from `a` to `b` - 1 replaced. -/
def replaceRange {α : Type} (m : List (Nat × α)) (a b : Nat) (new : List (Nat × α)) : List (Nat × α) :=
  m.filter (fun e => decide (e.1 < a)) ++ between new a b ++ m.filter (fun e => decide (b ≤ e.1))

def optNat : Option Nat → List Nat
  | none => []
  | some x => [x]
def xfToList (x : Xf) : List Nat := [x.start, x.len, x.old, x.new] ++ optNat x.queued
def xfOfList (l : List Nat) : Xf := ⟨nth 0 l 0, nth 0 l 1, nth 0 l 2, nth 0 l 3, l[4]?⟩
def mixXfToList (x : MixXf) : List Nat := [x.start, x.len] ++ optNat x.pend
def mixXfOfList (l : List Nat) : MixXf := ⟨nth 0 l 0, nth 0 l 1, l[2]?⟩
def rampToList (x : Ramp) : List Nat := [x.start, x.n, x.a, x.b]
def rampOfList (l : List Nat) : Ramp := ⟨nth 0 l 0, nth 0 l 1, nth 0 l 2, nth 0 l 3⟩
def mapVals {α β : Type} (f : α → β) (m : List (Nat × α)) : List (Nat × β) := m.map (fun e => (e.1, f e.2))

/-- Sweep regions of an FX slot's memory: base and length (R193). -/
def fxRegions (s : State) (slot : Nat) : List (Nat × Nat) :=
  match fxCoreOf s slot with
  | none => []
  | some (c, j) =>
    let sw := min (getF s (R.F_MINTAL_XSWEPT_SWEPT c) * 32) (min (xLen s c) 0x100000)
    [(scratch c (0x8000 * j), 0x8000), (scratch c (0x10800 + 0x8000 * j), 0x7800), (scratch c (0x3F000 + 0x400 * j), 0x400),
      (xBase s c, sw)]

def inRegions (rs : List (Nat × Nat)) (a : Nat) : Bool := rs.any (fun r => decide (r.1 ≤ a) && decide (a < r.1 + r.2))

/-- The matrix columns that a tile carries: tiles 81 to 88. -/
def tileCols (t : Nat) : Nat × Nat := if 81 ≤ t then (16 * (t - 81), 16 * (t - 81) + 16) else (0, 0)
def colsOf (p : List (Nat × Nat)) (c : Nat × Nat) : List (Nat × Nat) :=
  p.filter (fun e => decide (c.1 ≤ e.1 % 128) && decide (e.1 % 128 < c.2))
def colsPut (p : List (Nat × Nat)) (c : Nat × Nat) (new : List (Nat × Nat)) : List (Nat × Nat) :=
  (colsOf new c).foldl (fun p e => smapPut p e.1 e.2)
    (p.filter (fun e => !(decide (c.1 ≤ e.1 % 128) && decide (e.1 % 128 < c.2))))

/-- Rows of mix core m: sources 64 m to 64 m + 63. -/
def rowsOf (p : List (Nat × Nat)) (m : Nat) : List (Nat × Nat) := between p (16384 * m) (16384 * m + 16384)
def rowsPut (p : List (Nat × Nat)) (m : Nat) (new : List (Nat × Nat)) : List (Nat × Nat) :=
  replaceRange p (16384 * m) (16384 * m + 16384) new

/-- The words of a tile's strips, as PIDs. -/
def tilePids (t : Nat) : Nat × Nat := (unitPid (16 * t), unitPid (16 * t) + 2048)

/-- The words of an FX slot, as PIDs, and its crossfade point. -/
def fxPids (slot : Nat) : Nat × Nat := (pidFx slot 0, pidFx slot 0 + 512)

/-- A PID's ramp belongs to no tile and no FX slot: generators and engine-global words. -/
def pidElse (pid : Nat) : Bool := decide (pidPatch 0 ≤ pid)
/-- A crossfade point of the patch, or of a generator. -/
def keyElse (key : Nat) : Bool := decide (64 * 1424 ≤ key) && decide (key < 64 * 1424 + 4096 + 64)

/-- The ASYNC ports at work. -/
def asyncPorts (s : State) : List Nat := (List.range 32).filter (fun p => (getSp s p).ok && ctlMode (spCtl s p) == 2)

/-- The ENGINE item at the tick that starts the running Ts (R320). -/
def engineItem (s : State) : SweepData :=
  .engine s.dsp.prng s.dsp.genPhi s.dsp.genReg s.sched.hold
    ((asyncPorts s).map (fun p => (p, (getSp s p).f, (getSp s p).conv)))
    s.ser.pdm.ratios
    s.ser.pdm.chans
    (mapVals rampToList (s.slu.ramps.filter (fun e => pidElse e.1)))
    (mapVals xfToList (s.dsp.xf.filter (fun e => keyElse e.1)))

/-- What the active engine sends of an item (R320, R321). -/
def itemData (s : State) (item : Nat) : SweepData :=
  if item = 0 then engineItem s
  else if item < 90 then
    let t := item - 1
    let c := tileCols t
    .tile (between s.dsp.blk (8192 * t) (8192 * t + 8192)) (mapVals xfToList (between s.dsp.xf (1024 * t) (1024 * t + 1024)))
      (mapVals rampToList (between s.slu.ramps (tilePids t).1 (tilePids t).2))
      (mapVals mixXfToList (between s.mix.xf (256 + c.1) (256 + c.2))) (colsOf s.mix.mprev c) (colsOf s.mix.mpend c)
  else if item < 106 then
    let m := item - 90
    .mix (mapVals mixXfToList (between s.mix.xf 0 256)) (rowsOf s.mix.prev m) (rowsOf s.mix.pend m)
      (between s.mix.queued (0x40000 + 16384 * m) (0x40000 + 16384 * m + 16384))
  else
    let rs := fxRegions s (item - 106)
    .fx ((s.mem.filter (fun e => inRegions rs e.1)).map (fun e => (e.1, viewByte s 34 e.1)))
      (mapVals rampToList (between s.slu.ramps (fxPids (item - 106)).1 (fxPids (item - 106)).2))
      (mapVals xfToList (between s.dsp.xf (xkFx (item - 106)) (xkFx (item - 106) + 1)))

/-- Byte address of a line of an FX slot's item (R187, R194). -/
def lineAddr (s : State) (slot line : Nat) : Option Nat :=
  (fxCoreOf s slot).map (fun q =>
    if line < 128 then scratch q.1 (0x8000 * q.2 + 256 * line)
    else if line < 256 then scratch q.1 (0x10000 + 0x8000 * q.2 + 256 * (line - 128))
    else if line < 260 then scratch q.1 (0x3F000 + 0x400 * q.2 + 256 * (line - 256))
    else xBase s q.1 + 256 * (line - 260))

/-- The dirty lines of a slot as the sweep engine, port B path 2, reads them (R200). -/
def dirtyLines (s : State) (slot : Nat) : List (Nat × List Nat) :=
  (smapGet [] s.redun.dirty slot).filterMap (fun l => (lineAddr s slot l).map (fun a => (l, viewBytes s 34 a 256)))

/-- What the reads of an FX item report: of its dirty lines, or of all of it. -/
def scanSlot (s : State) (slot : Nat) (all : Bool) : State :=
  if all then (fxRegions s slot).foldl (fun s r => scanRange s 34 r.1 r.2) s
  else ((smapGet [] s.redun.dirty slot).filterMap (lineAddr s slot)).foldl (fun s a => scanRange s 34 a 256) s

/-- Install lines of a slot. -/
def installLines (s : State) (slot : Nat) (ls : List (Nat × List Nat)) : State :=
  ls.foldl (fun s l => match lineAddr s slot l.1 with
    | some a => engineWrite s 34 a (l.2.take 256)
    | none => s) s

/-- The lines of an item are clean as the engine reads them. -/
def clearLines (s : State) (item : Nat) : State :=
  if 106 ≤ item then
    { s with redun := { s.redun with dirty := s.redun.dirty.map (fun e => if e.1 = item - 106 then (e.1, []) else e) } }
  else s

/-! The active engine. -/

/-- An FX item is ready for its final pass: at most 16 lines remain dirty, and the core has issued WAIT at least 4,096 CK_DSP cycles
before the next tick (R195). -/
def fxQuiet (s : State) (slot : Nat) : Bool :=
  decide ((smapGet [] s.redun.dirty slot).length ≤ 16) && (match fxCoreOf s slot with
    | some q => (getCore s q.1).waiting && decide ((getCore s q.1).cyc + 4096 ≤ 2 * cTs s)
    | none => true)

/-- Position of a window in Ts. -/
def winPos : Window → Nat
  | .a => 0
  | .b => 1
  | .c => 2
  | .db => 3
  | .dm => 4
  | .dx => 5
  | .e => 6
  | .fx => 0

/-- The window that an item's state belongs to: the tile's, C for a mix core, the whole Ts for an FX slot. -/
def itemWindow (s : State) (item : Nat) : Nat :=
  if 1 ≤ item && item < 90 then getF s (R.F_SCHED_TILE_PHASE (item - 1)) else if item < 106 then 2 else 0

/-- The window of a TILE or MIX item has ended in the running Ts, so its core has issued WAIT (R321). -/
def itemIdle (s : State) (item : Nat) : Bool :=
  item = 0 || 106 ≤ item || (match s.sched.window with
    | some w => decide (itemWindow s item < winPos w)
    | none => true)

/-- The active engine takes an item's final pass (R195, R321); the ENGINE item is taken at a tick (R320). An FX item that is not ready
for it gets a further pass over its dirty lines (R194). -/
def sweepFinal (s : State) (item : Nat) : State :=
  let d := s.redun
  if d.sync != 3 || d.unit || d.phase != 3 || 154 ≤ item || !d.items.testBit item || d.passes.any (fun p => p.1 == item) ||
      (item = 0 && s.sched.window != some .a) || !itemIdle s item then s
  else if 106 ≤ item && !fxQuiet s (item - 106) then
    clearLines (linkSend (scanSlot s (item - 106) false) (.sweep item (nowIdx s) (.lines (dirtyLines s (item - 106))))) item
  else
    let x := itemData s item
    let s := if 106 ≤ item then scanSlot s (item - 106) true else s
    let s := clearLines (linkSend s (.sweep item (nowIdx s) x)) item
    { s with redun := { s.redun with passes := s.redun.passes ++ [(item, nowIdx s)] } }

def dropPass (s : State) (item : Nat) : State :=
  { s with redun := { s.redun with passes := s.redun.passes.filter (fun p => p.1 != item) } }

/-- An item is installed. -/
def itemDone (s : State) (item : Nat) : State :=
  let s := setItems s (s.redun.items - (s.redun.items &&& 2 ^ item))
  if 106 ≤ item then
    { s with redun := { s.redun with
      dirty := smapDel s.redun.dirty (item - 106), muted := s.redun.muted.filter (fun k => k != item - 106) } }
  else s

/-- The unit's answer to a final pass (R317, R321). -/
def swackRx (s : State) (item : Nat) (ok : Bool) : State :=
  if s.redun.sync != 3 || s.redun.unit || s.redun.phase != 3 || 154 ≤ item then s
  else
    let s := dropPass s item
    if ok then itemDone s item else s

/-- The pass was not installed in time: the item fails and the sweep continues (R195, R321). -/
def sweepDeadline (s : State) (item : Nat) : State := if s.redun.sync = 3 then dropPass s item else s

/-- An item is still not installed 500 ms after its first pass (R317). -/
def itemTimeout (s : State) : State := if s.redun.sync = 3 && s.redun.phase = 3 && s.redun.items != 0 then resyncFail s else s

/-! The unit. -/

/-- The pass of index n_s comes before the unit releases the item's window in Ts n_s + 1. -/
def inTime (s : State) (item ns : Nat) : Bool :=
  nowIdx s == ns || (nowIdx s == idxAdd ns 1 && (match s.sched.window with
    | some w => decide (winPos w < itemWindow s item)
    | none => false))

/-- Install a TILE, MIX or FX item. -/
def installItem (s : State) (item : Nat) (x : SweepData) : State :=
  match x with
  | .engine _ _ _ _ _ _ _ _ _ => s
  | .lines ls => installLines s (item - 106) ls
  | .tile blk xf ramps mx prev pend =>
    let t := item - 1
    let c := tileCols t
    { s with
      dsp := { s.dsp with
        blk := replaceRange s.dsp.blk (8192 * t) (8192 * t + 8192) blk
        xf := replaceRange s.dsp.xf (1024 * t) (1024 * t + 1024) (mapVals xfOfList xf) }
      slu := { s.slu with ramps := replaceRange s.slu.ramps (tilePids t).1 (tilePids t).2 (mapVals rampOfList ramps) }
      mix := { s.mix with
        xf := replaceRange s.mix.xf (256 + c.1) (256 + c.2) (mapVals mixXfOfList mx)
        mprev := colsPut s.mix.mprev c prev, mpend := colsPut s.mix.mpend c pend } }
  | .mix mx prev pend queued =>
    let m := item - 90
    { s with mix := { s.mix with
      xf := replaceRange s.mix.xf 0 256 (mapVals mixXfOfList mx)
      prev := rowsPut s.mix.prev m prev, pend := rowsPut s.mix.pend m pend
      queued := replaceRange s.mix.queued (0x40000 + 16384 * m) (0x40000 + 16384 * m + 16384) queued } }
  | .fx bytes ramps xf =>
    let slot := item - 106
    let rs := fxRegions s slot
    let s := rs.foldl (fun s r => (burstsOf r.1 r.2).foldl (fun s b =>
      if mayReach s 34 b.1 true then clearRange s b.1 b.2 else refuseAt s 34 b.1 true) s) s
    let s := { s with
      slu := { s.slu with ramps := replaceRange s.slu.ramps (fxPids slot).1 (fxPids slot).2 (mapVals rampOfList ramps) }
      dsp := { s.dsp with xf := replaceRange s.dsp.xf (xkFx slot) (xkFx slot + 1) (mapVals xfOfList xf) } }
    (bytes.filter (fun e => inRegions rs e.1 && mayReach s 34 e.1 true)).foldl (fun s e => writeByte s e.1 e.2) s

/-- An item belongs to the kind that its data has. -/
def itemFits (item : Nat) : SweepData → Bool
  | .engine _ _ _ _ _ _ _ _ _ => item == 0
  | .tile _ _ _ _ _ _ => 1 ≤ item && item < 90
  | .mix _ _ _ _ => 90 ≤ item && item < 106
  | .fx _ _ _ => 106 ≤ item && item < 154
  | .lines _ => 106 ≤ item && item < 154

/-- Lines that are copied while a slot runs. -/
def isLines : SweepData → Bool
  | .lines _ => true
  | .engine _ _ _ _ _ _ _ _ _ => false
  | .tile _ _ _ _ _ _ => false
  | .mix _ _ _ _ => false
  | .fx _ _ _ => false

/-- The unit receives lines of a slot, which go into its memory at once (R196), or an item's final pass (R320, R321): ENGINE waits
for the tick n_s + 16. -/
def sweepRx (s : State) (item ns : Nat) (x : SweepData) : State :=
  let d := s.redun
  if d.sync != 3 || !d.unit || d.phase != 3 || !itemFits item x then s
  else if isLines x then installItem s item x
  else if item = 0 then
    (if idxAge (nowIdx s) ns < 16 then { s with redun := { d with engine := some (ns, x) } } else linkSend s (.swack 0 false))
  else if inTime s item ns then linkSend (itemDone (installItem s item x) item) (.swack item true)
  else linkSend s (.swack item false)

/-! The ENGINE item (R320). -/

def iter {α : Type} (f : α → α) : Nat → α → α
  | 0, x => x
  | n + 1, x => iter f n (f x)

/-- The ratio of a port for sample n: the ratio word that the unit holds, else the one in use. -/
def sweptRatio (s : State) (n p : Nat) : Nat :=
  ((smapFind s.redun.ratios n).bind (fun ws => smapFind ws (trkPort s p))).getD (getF s (R.F_ASRC_TRK_RATIO_RATIO p))

/-- A port's converter 16 samples on: what it read and was given in them the unit has itself, and its frames take the active engine's
count. -/
def advancePort (ns n : Nat) (s : State) (q : Nat × (Nat × Conv)) : State :=
  let p := q.1 % 32
  let x := getSp s p
  let v := q.2.2
  let sum := (List.range 16).foldl (fun a k => a + sweptRatio s (idxAdd ns (1 + k)) p) 0
  let k := (v.posIn + sum) / 2 ^ 28 - v.posIn / 2 ^ 28
  let f := (q.2.1 + k) % 2 ^ 32
  putSp s p { x with
    f := f, inQ := x.inQ.map (fun e => ((e.1 + frameAge f x.f) % 2 ^ 32, e.2)),
    conv := { v with
      posIn := (v.posIn + sum) % 2 ^ 60, posOut := (v.posOut + sum) % 2 ^ 28,
      inHist := (x.conv.inHist.take k ++ v.inHist).take 288, outHist := (x.conv.outHist.take 16 ++ v.outHist).take 64,
      ratios := v.ratios.filter (fun e => !idxDue n e.1) } }

/-- The ratio of a channel's clock for sample n (R291). -/
def chanRatio (s : State) (n c : Nat) : Nat :=
  match getF s (R.F_PDM_GRP_SRC (c / 8)) with
  | 0 => 2 ^ 28
  | src => ((smapFind s.redun.ratios n).bind (fun ws => smapFind ws (31 + src))).getD (2 ^ 28)

/-- A modulator channel 16 samples on: the bits and words of them are the unit's own. -/
def advanceChan (ns : Nat) (s : State) (q : Nat × PdmChan) : State :=
  let x := getChan s q.1
  let v := q.2
  let sum := (List.range 16).foldl (fun a k => a + chanRatio s (idxAdd ns (1 + k)) q.1) 0
  let k := sum * midsPerTs s / 2 ^ 28
  putChan s q.1 { x with
    mid := (x.mid.take k ++ v.mid).take 512, tot := (v.tot + k) % 8,
    pos := v.pos.map (fun a => a + sum - ((k * (2 ^ 28 / midsPerTs s) : Nat) : Int)) }

/-- A silence hold counter: the active engine's value plus 16, unless the unit's detector reset it since (R320). -/
def advanceHold (own : List (Nat × Nat)) (theirs : List (Nat × Nat)) (u : Nat) : Nat :=
  let mine := smapGet 0 own u
  if mine < 16 then mine else min (smapGet 0 theirs u + 16) 16777215

/-- The ramps that the ENGINE item carries, as of sample n_s, take the place of the unit's, but for those that a later commit has
started at the unit. -/
def elseRamps (ns : Nat) (own : List (Nat × Ramp)) (theirs : List (Nat × List Nat)) : List (Nat × Ramp) :=
  own.filter (fun e => !pidElse e.1) ++
    (own.filter (fun e => pidElse e.1 && !idxDue ns e.2.start)).foldl (fun m e => smapPut m e.1 e.2)
      (mapVals rampOfList (theirs.filter (fun e => pidElse e.1)))

/-- The same of the crossfade records. -/
def elseXf (ns : Nat) (own : List (Nat × Xf)) (theirs : List (Nat × List Nat)) : List (Nat × Xf) :=
  own.filter (fun e => decide (e.1 < 64 * 1424)) ++
    (own.filter (fun e => keyElse e.1 && !idxDue ns e.2.start)).foldl (fun m e => smapPut m e.1 e.2)
      (mapVals xfOfList (theirs.filter (fun e => keyElse e.1))) ++
    own.filter (fun e => decide (64 * 1424 + 4096 + 64 ≤ e.1))

/-- At the tick n_s + 16 the ENGINE item, advanced through 16 samples, is installed. -/
def installEngine (s : State) (n : Nat) : State :=
  match s.redun.engine with
  | some (ns, .engine prng phi reg hold ports ratios chans ramps xf) =>
    if idxAge n ns < 16 then s
    else
      let src := s.dsp.src
      let hold' := (List.range 1024).foldl (fun m u => smapSet 0 m u (advanceHold s.sched.hold hold u)) []
      let s := { s with
        redun := { s.redun with engine := none }
        dsp := { s.dsp with prng := iter prngStep (16 * s.dsp.steps) prng, genPhi := phi, genReg := reg }
        sched := { s.sched with hold := hold' }
        slu := { s.slu with ramps := elseRamps ns s.slu.ramps ramps }
        ser := { s.ser with pdm := { s.ser.pdm with ratios := ratios.filter (fun (e : Nat × List (Nat × Nat)) => !idxDue n e.1) } } }
      let s := { s with dsp := { s.dsp with xf := elseXf ns s.dsp.xf xf } }
      let s := (List.range 16).foldl (fun s k => (List.range 32).foldl (runGen (ns + 1 + k)) s) s
      let s := chans.foldl (advanceChan ns) (ports.foldl (advancePort ns n) { s with dsp := { s.dsp with src := src } })
      linkSend (itemDone s 0) (.swack 0 true)
  | some _ => { s with redun := { s.redun with engine := none } }
  | none => s

end Sys2Proof.Machine
end

