-- ==== Sys2Proof/Machine/Tick.lean ====
section
/-! DEFINITION. The sample tick (R20): everything that is due at the boundary of a sample, in order (R14, R27, R53, R54, R96,
R97, R105, R112, R117, R148, R151, R268, R273, R276, R285, R292, R300, R305, R309). -/
namespace Sys2Proof.Machine

/-! Session expiry (R148). -/

/-- Close an expired session: a close entry of class 1 with the ENGINE flag is journaled and mirrored. -/
def expireNow (s : State) (k : Nat) : State :=
  let jpos := s.hr.jhead + 1
  let s := journalCmd s 1 k 0x71 0 (nextTick s) (entryFlags false false (isSynced s) true) []
  let s := applyClose (mirrorCmd s jpos 1) k
  stick (markApplied s (fun c => c.jpos == jpos)) R.F_HEADRACE_STAT_SESS_EXPIRED_S

/-- A session has received no valid message for SESS_TMO × 10 s (R148): it is closed, at once or when a journal position is free. -/
def sessionExpiry (s : State) (k : Nat) : State :=
  if 64 ≤ k || !(getSession s k).isOpen || getF s R.F_HEADRACE_CFG_SESS_TMO = 0 || (s.redun.paired && !isActive s) ||
      s.hr.expiring.contains k then s
  else if journalFree s = 0 then { s with hr := { s.hr with expiring := s.hr.expiring ++ [k] } }
  else expireNow s k

/-- Expired sessions that waited for a journal position. -/
def serviceExpiring (s : State) : State :=
  s.hr.expiring.foldl (fun s k =>
    if journalFree s = 0 then s
    else expireNow { s with hr := { s.hr with expiring := s.hr.expiring.filter (fun j => j != k) } } k) s

/-! The sample that ends. -/

/-- Sample n is the first one after RUN was set: generators, dither, the media clock and the converters' positions start afresh (R74,
R77, R268). -/
def freshStart (s : State) : State :=
  let s := asrcRestart (resetGens (reloadPrng s))
  { s with tally := { s.tally with realign := true } }

/-- What the tick takes of the sample before n: the parameters that the FX shell reads (R189), and meters, which a stop of the
tick has taken already (R54). -/
def tickEnd (s : State) (n : Nat) (fresh : Bool) : State :=
  let s := shellReadAll s (idxPrev n)
  if fresh then freshStart s else meterTake s (idxPrev n)

/-- Ts n begins: Tally, index, signal-graph values of the sample before, role and output enable (R20, R53, R293, R300, R369). -/
def tickStart (s : State) (n : Nat) (fresh : Bool) (i : TickIn) : State :=
  let cyc := if fresh then i.first else cTs s + 32 * s.sched.extra
  let s := tallyTick s cyc
  let s := { s with rcu := { s.rcu with tickT := s.rcu.tickT + (4 * cyc : Nat) } }
  let s := setF s R.F_TEST_TICK_GO 0
  let d := { s.dsp with
    outPrev := s.dsp.out, out := [], preLast := s.dsp.pre, pre := [], post := [], dir := [], meter := [], srcMoved := [], src := [] }
  let s := { s with
    dsp := d
    mix := { s.mix with leaf := [], sum := [] }
    sched := { s.sched with
      running := true, idx := BitVec.ofNat 64 n, extra := 0, tickSec := s.tally.sec, tickNs := s.tally.ns }
    slu := { s.slu with
      owed := s.slu.owed - cTs s, ramps := s.slu.ramps.filter (fun r => decide (idxAge n r.2.start < r.2.n)) } }
  let s := if fresh then wckMeasure s 8 s.rcu.tickT else s
  let s := loneRole s
  { s with redun := { s.redun with enPrev := s.redun.en, en := !s.redun.paired || s.redun.roleAct } }

/-! The first CK_FAB cycle of Ts n: the journaled register writes, and after them what the hardware does in that cycle, so that
a sticky bit stays set and an event stays counted (R6, R7, R151). -/

/-- A setting of a serial port or of a lane, which governs the frames after the one that begins at the tick (R283, R391). -/
def frameSetting (off : Nat) : Bool :=
  decide (0x100000 ≤ off) && decide (off < 0x120000) && (regFields off).all (fun f => f.ty != .w1c && f.ty != .cnt)

/-- The serial frames and lanes that begin with the tick (R283, R391). -/
def tickPorts (s : State) : State :=
  let s := { s with ser := { s.ser with gPrev := s.flood.g, lanesPrev := s.ser.lanes, lanes := laneRegs s } }
  let s := (List.range 32).foldl spTick s
  s.ser.lanes.foldl laneTake s

/-- The register writes of commit index n (R151), none while the cores are held (R134), and the frames that begin at the tick. -/
def tickRegs (s : State) (n : Nat) : State :=
  if s.rst.coresHeld then tickPorts s
  else
    let r := dueRegs s n
    let write := fun (s : State) (w : Nat × Nat × Nat) => ap s w.2.1 w.2.2
    let s := tickPorts ((r.1.filter (fun w => !frameSetting w.2.1)).foldl write r.2)
    (r.1.filter (fun w => frameSetting w.2.1)).foldl write s

/-- The inputs of sample n from the network, the rate converters and the modulators, and the ratios sent to the standby. -/
def tickInputs (s : State) (n : Nat) (i : TickIn) : State :=
  let s := domSilence s
  let s := presentAll s n s.tally.tmc
  let s := asrcTick s n
  let s := pdmTick s n i
  sendRatios (domSilence s) n

/-- The media clock at the tick, and the stamps of the packets in assembly (R268, R273). -/
def tickMedia (s : State) : State :=
  if domHeld s 6 then tmcTick s else stampAll (tmcTick s)

/-- The TICK record of an active engine (R305, R309, R319). -/
def tickRecord (s : State) (n : Nat) : State :=
  if s.redun.paired && isActive s && 2 ≤ s.redun.sync then
    linkSend s (.tick n s.tally.tmc (phiWord s) s.sched.tickSec s.sched.tickNs true)
  else s

/-! What takes effect at the tick. -/

/-- The cells that the head group flips at tick n. -/
def flippingCells (s : State) (n : Nat) : List Nat :=
  match s.slu.groups with
  | [] => []
  | g :: _ => if g.st = .ready && idxDue n g.idx then (writtenCells (lastWrites g.staged)).map (fun e => e.1) else []

/-- The flip, the crossfades that end and start at the tick, and late marks (R66, R87, R105, R112); nothing while the cores are
held (R134). -/
def tickCommits (s : State) (n : Nat) : State :=
  if s.rst.coresHeld then s
  else
    let cells := flippingCells s n
    copyChanged (markLate (endDue (flipHead s n)) n) cells

/-- Register snapshots of the crossfades at the tick. -/
def bitmap32 (p : Nat → Bool) (k : Nat) : Word :=
  BitVec.ofNat 32 ((List.range 32).foldl (fun m i => if p (32 * k + i) then m + 2 ^ i else m) 0)
def tickShow (s : State) (n : Nat) : State :=
  let on := colRuns s n
  let qd := fun (c : Nat) => match smapFind s.mix.xf c with
    | some x => x.pend.isSome
    | none => false
  let s' := (List.range 8).foldl (fun s k =>
    csrPut (csrPut s (R.CONFL_XF_RUN k) (bitmap32 on k)) (R.CONFL_XF_QUEUE k) (bitmap32 qd k)) s
  let s' := (List.range 4).foldl (fun s k =>
    csrPut (csrPut s (R.CONFL_MXF_RUN k) (bitmap32 (fun x => on (256 + x)) k)) (R.CONFL_MXF_QUEUE k)
      (bitmap32 (fun x => qd (256 + x)) k)) s'
  let run := (s.dsp.xf.filter (fun e => decide (idxAge n e.2.start < e.2.len))).length
  let que := (s.dsp.xf.filter (fun e => e.2.queued.isSome)).length
  csrPut s' R.STRIP_XF_ACTIVE (BitVec.ofNat 32 (min run 65535 + 65536 * min que 65535))

/-- FLOOD_RAMP of the sample whose group has flipped is kept for a store (R127). -/
def tickCapture (s : State) (n : Nat) : State :=
  if s.slu.lastFlip = n then { s with slu := { s.slu with capRamp := plive s pidFloodRamp } } else s

/-- Window A begins, and the FX cores are released (R23, R29). -/
def tickOpen (s : State) : State :=
  openFx { s with sched := { s.sched with window := some .a, released := [], late := [] } }

/-- The tick (R20, R54). With RUN clear it stops a running tick. `i` is what pins and clocks give at the tick. -/
def tick (s : State) (i : TickIn) : State :=
  if !isSet s R.F_SCHED_CTL_RUN then (if s.sched.running then stopTick s else s)
  else
    let fresh := !s.sched.running
    let n := idxAdd (nowIdx s) 1
    let s := tickRegs (tickStart (tickEnd s n fresh) n fresh i) n
    let s := tickInputs s n i
    let s := syncTick (tickRecord (tickMedia s) n)
    let s := installEngine s n
    let s := tickCommits s n
    let s := tickCapture (applyDueUrgent s n) n
    let s := winCheck s n
    let s := floodTick s n
    serviceExpiring (tickOpen (tickShow s n))

end Sys2Proof.Machine
end

