-- ==== Sys2Proof/Machine/CmdPair.lean ====
section
/-! DEFINITION. The commands of the pair, the lease and Sirlos (12_paired_engines.md). A Sirlos frame takes effect when its CRC is
right and it is the next of its lane (R314, R315). -/
namespace Sys2Proof.Machine

/-- The effect `f` of a received frame, once the link has accepted it. -/
def onFrame (s : State) (h : LinkHdr) (f : State → State) : State :=
  let r := linkAccept s h
  if r.1 then f r.2 else r.2

/-- An open BULK transfer is abandoned when this engine's ROLE_ACT changes (R357). -/
def bulkRole (s t : State) : State :=
  if s.redun.roleAct = t.redun.roleAct then t
  else { t with boot := { t.boot with upd := if t.boot.upd.state = 2 then { t.boot.upd with state := 0, held := 0 } else t.boot.upd } }

/-- LEASE_RENEW (R296): inputs bit 0 A, bit 1 B. -/
def execLeaseRenew (src : Nat) (s : State) : Out := .next <| bulkRole s (leaseRenew ap s src)
/-- LEASE_EXPIRY (R297). -/
def execLeaseExpiry (s : State) : Out := .next <| bulkRole s (leaseExpiry s)
/-- LEASE_HB_TOGGLE (R297). -/
def execLeaseHbToggle (s : State) : Out := .next <| hbToggle s
/-- REDUN_MODE_WRITE (R293). -/
def execRedunModeWrite (v : Word) (s : State) : Out := .next <| redunModeWrite s v.toNat
/-- REDUN_YIELD (R304). -/
def execRedunYield (s : State) : Out := .next <| redunYield s
/-- REVERT_YIELD (R304). -/
def execRevertYield (s : State) : Out := .next <| revertYield s
/-- REDUN_RESYNC_REQ (R317). -/
def execRedunResyncReq (s : State) : Out := .next <| resyncStart s
/-- REDUN_RESYNC_ABORT (R317). -/
def execRedunResyncAbort (s : State) : Out := .next <| resyncFail s
/-- AUTO_RESYNC_START (R317). -/
def execAutoResyncStart (s : State) : Out := .next <| autoResync s
/-- SIRLOS_STATUS_RX (R314). -/
def execSirlosStatusRx (h : LinkHdr) (role sync : Nat) (home test : Bool) (ack0 ack1 : Nat) (s : State) : Out := .next <|
  onFrame s h (fun s => statusRx s role sync home test ack0 ack1)
/-- SIRLOS_HELLO_RX (R313). -/
def execSirlosHelloRx (h : LinkHdr) (x : Hello) (s : State) : Out := .next <| onFrame s h (fun s => helloRx s x)
/-- HELLO_SEND (R313): every 100 ms. -/
def execHelloSend (s : State) : Out := .next <| helloSend s
/-- STATUS_SEND (R314): every 1 µs. -/
def execStatusSend (s : State) : Out := .next <| statusSend s
/-- SIRLOS_TICK_RX (R229, R309): `skew` is the peer edge's offset from this engine's tick, `t` its time in root cycles. -/
def execSirlosTickRx (h : LinkHdr) (idx tmc : Nat) (phi : Int) (e : PeerEdge) (s : State) : Out := .next <|
  onFrame s h (fun s => tickRx s idx tmc phi e)
/-- SIRLOS_CANARY_RX (R312). -/
def execSirlosCanaryRx (h : LinkHdr) (n hash : Nat) (items : List Nat) (s : State) : Out := .next <|
  onFrame s h (fun s => canaryRx s n hash items)
/-- CANARY_MISSING (R312). -/
def execCanaryMissing (n : Nat) (s : State) : Out := .next <| canaryMissing s n
/-- SIRLOS_MIRROR_RX (R152): the bytes of the entries of one command from JPOS on. -/
def execSirlosMirrorRx (h : LinkHdr) (jpos : Nat) (entries : List Nat) (s : State) : Out := .next <|
  onFrame s h (fun s => mirrorRx ap s jpos entries)
/-- SIRLOS_RATIO_RX (R305). -/
def execSirlosRatioRx (h : LinkHdr) (n : Nat) (words lost : List (Nat × Nat)) (s : State) : Out := .next <|
  onFrame s h (fun s => ratioRx s n words lost)
/-- SIRLOS_FWD_RX (R308). -/
def execSirlosFwdRx (h : LinkHdr) (slot ts value : Nat) (s : State) : Out := .next <| onFrame s h (fun s => fwdRx s slot ts value)
/-- SIRLOS_CLOSE_RX (R308). -/
def execSirlosCloseRx (h : LinkHdr) (n : Nat) (present : List Nat) (s : State) : Out := .next <|
  onFrame s h (fun s => closeRx s n present)
/-- FWD_RECORD_LATE (R309). -/
def execFwdRecordLate (s : State) : Out := .next <| fwdLate s
/-- SIRLOS_RESEND (R315). -/
def execSirlosResend (lane : Nat) (s : State) : Out := .next <| linkResend s lane
/-- PEER_LOST (R316). -/
def execPeerLost (s : State) : Out := .next <| peerLost s
/-- SIRLOS_COPY_RX (R318). -/
def execSirlosCopyRx (h : LinkHdr) (x : CopyItem) (s : State) : Out := .next <| onFrame s h (fun s => copyRx ap s x)
/-- COPY_COMPLETE (R318). -/
def execCopyComplete (s : State) : Out := .next <| copyComplete s
/-- ALIGN_COMPLETE (R319). -/
def execAlignComplete (s : State) : Out := .next <| alignComplete s
/-- RESYNC_CORE_RELEASE (R319). -/
def execResyncCoreRelease (s : State) : Out := .next <| resyncRelease ap s
/-- SWEEP_FINAL_PASS (R321). -/
def execSweepFinalPass (item : Nat) (s : State) : Out := .next <| sweepFinal s item
/-- SIRLOS_SWEEP_RX (R320). -/
def execSirlosSweepRx (h : LinkHdr) (item ns : Nat) (x : SweepData) (s : State) : Out := .next <|
  onFrame s h (fun s => sweepRx s item ns x)
/-- SIRLOS_SWACK_RX (R317). -/
def execSirlosSwackRx (h : LinkHdr) (item : Nat) (ok : Bool) (s : State) : Out := .next <| onFrame s h (fun s => swackRx s item ok)
/-- SWEEP_ITEM_DEADLINE (R321). -/
def execSweepItemDeadline (item : Nat) (s : State) : Out := .next <| sweepDeadline s item
/-- RESYNC_ITEM_TIMEOUT (R317). -/
def execResyncItemTimeout (s : State) : Out := .next <| itemTimeout s
/-- VERIFY_START (R322). -/
def execVerifyStart (s : State) : Out := .next <| verifyStart s
/-- RESYNC_SYNCED (R322): `ms` is the duration of the resync. -/
def execResyncSynced (ms : Nat) (s : State) : Out := .next <| resyncSynced s ms
/-- SIRLOS_LANE_UP (R313). -/
def execSirlosLaneUp (lane : Nat) (s : State) : Out := .next <| if domHeld s 5 || 2 ≤ lane then s else laneUp s lane
/-- SIRLOS_LANE_DOWN (R314). -/
def execSirlosLaneDown (lane : Nat) (s : State) : Out := .next <| if 2 ≤ lane then s else laneDown s lane

end Sys2Proof.Machine
end

