-- ==== Sys2Proof/Machine/Headrace.lean ====
section
/-! DEFINITION. Headrace (06_headrace.md): the arrival of a message, its checks in order, sessions and sequence numbers,
acceptance and the journal, REG_READ, and the surface port. -/
namespace Sys2Proof.Machine

/-! Arrival (R135 to R140). -/

/-- The transport is enabled (HEADRACE_CTL). -/
def viaOn (s : State) : Via → Bool
  | .mac p => decide (p < 4) && (getF s R.F_HEADRACE_CTL_MAC_EN).testBit p
  | .mgmt => isSet s R.F_HEADRACE_CTL_MGMT_EN
  | .surface => isSet s R.F_HEADRACE_CTL_SURF_EN

/-- Take the message to be served from the buffer of its transport, where one waits; a message of a disabled transport that is
not buffered is no Headrace message. -/
def takeRx (s : State) (v : Via) : Option State :=
  match s.hr.rxQ.find? (fun m => m.via = v) with
  | some m => some { s with hr := { s.hr with rxQ := s.hr.rxQ.erase m } }
  | none => if viaOn s v then some s else none

/-- No message of the transport waits: one that comes then meets its class queue as it arrives (R140). -/
def unbuffered (s : State) (v : Via) : Bool := s.hr.rxQ.all (fun m => m.via != v)

/-- Classes allowed for the opcode. -/
def classAllowed (op cls : Nat) : Bool :=
  if op = 0x10 || op = 0x11 || op = 0x12 then cls ≤ 1
  else if op = 0x30 then cls == 1 || cls == 2
  else if op = 0x80 then cls == 2
  else cls == 1

/-- A valid message updates its open session's reply address and restarts its expiry time (R145, R148). -/
def noteValid (s : State) (h : Hdr) : State :=
  let k := h.session.toNat
  let x := getSession s k
  if x.isOpen then
    let s := putSession s k { x with reply := h.src }
    { s with hr := { s.hr with expiring := s.hr.expiring.filter (fun j => j != k) } }
  else s

/-- The checks from CLASS to LENGTH, and the class queue of a message that has not waited (R139, R140); `serve` handles what
passes. -/
def arrive (s : State) (h : Hdr) (op : Nat) (b : List Nat) (serve : State → State) : State :=
  if !answers s then s
  else
    let fresh := unbuffered s h.src.via
    match takeRx s h.src.via with
    | none => s
    | some s =>
      let cls := h.cls.toNat
      let okC := classAllowed op cls
      let okL := h.len = b.length && lenAllowed op h.len b
      let s := if okC && okL then noteValid s h else s
      if fresh && queueFull s cls then nakBusy s h
      else if !okC then nak s h 0x0008 0
      else if !okL then nak s h 0x0003 0
      else serve s

/-! Acceptance (R149). -/

/-- A journaled command's acceptance. -/
structure Accept where
  op : Nat
  nC : Nat
  r : Nat
  urgent : Bool
deriving DecidableEq, Repr

/-- Journal positions for a body of `len` bytes. -/
def needs (len : Nat) : Nat := 1 + ncont len

def journalFull (s : State) (h : Hdr) : State := nak (stick s R.F_HEADRACE_STAT_JOURNAL_FULL_S) h 0x0012 0

/-- The ACK of an accepted command: at once, or, where its entries are mirrored to a standby or a resyncing unit, when the peer has
acknowledged them (R149, R152, R317). -/
def ackOrWait (s : State) (h : Hdr) (last : Nat) (a : AckRec) : State :=
  let k := h.session.toNat
  let cls := h.cls.toNat
  if mirrors s then
    { s with hr := { s.hr with waitAck := s.hr.waitAck ++ [⟨last, h.src, k, cls, a, []⟩] } }
  else sendAck (count s R.F_HEADRACE_ACCEPT_CNT_ACCEPT_CNT 1) h.src k cls a false

/-- Journal a command at the next position, give it its effect there, mirror it, and answer it: steps 2 to 4 of R149. -/
def accept (s : State) (h : Hdr) (x : Accept) (b : List Nat) (effect : State → Nat → State) : State :=
  let jpos := s.hr.jhead + 1
  let moved := x.r != 0 && x.r < x.nC && !x.urgent
  let sync := isSynced s
  let a : AckRec := ⟨h.seq.toNat, jpos, x.nC, x.r, moved, x.urgent, !sync, []⟩
  let s := journalCmd s h.cls.toNat h.session.toNat x.op h.seq.toNat x.nC (entryFlags x.urgent moved sync false) b
  let s := recordAck s h.session.toNat h.cls.toNat a
  let s := mirrorCmd s jpos (needs b.length)
  let s := if moved then stick (count s R.F_SLUICE_MOVED_CNT_MOVED_CNT 1) R.F_SLUICE_STAT_MOVED_S else s
  ackOrWait (effect s jpos) h (jpos + needs b.length - 1) a

/-- A refusal by the Sluice (R107, R116, R127 to R130). -/
def sluiceNak (s : State) (h : Hdr) (code detail : Nat) : State :=
  nak (stick (count s R.F_SLUICE_REFUSE_SUMP_CNT_REFUSE_SUMP_CNT 1) R.F_SLUICE_STAT_REFUSED_S) h code detail

/-- The effect of a class-0 command at its journaling point: its writes wait for their index (R116). -/
def enterUrgent (s : State) (jpos nC : Nat) (ws : List (Nat × Nat)) : State :=
  let us := ws.map (fun w => (⟨nC, jpos, w.1, w.2, false, nC⟩ : UrgentW))
  let s := stick { s with slu := { s.slu with urgent := s.slu.urgent ++ us } } R.F_SLUICE_STAT_URGENT_S
  if mirrors s then s else urgentInTime s jpos

/-- A class-0 parameter command (R116, R140). -/
def serveUrgent (s : State) (h : Hdr) (op : Nat) (b : List Nat) : State :=
  let ws := urgentWords op b
  match ws.find? (fun w => w.1 != pidFloodCmd && w.1 != pidFloodRamp) with
  | some w => sluiceNak s h 0x0008 w.1
  | none =>
    if journalFree s < needs b.length then journalFull s h
    else
      let n := urgentIdx s h.cyc
      accept s h ⟨op, n, op8 b 0 8, true⟩ b (fun s j => enterUrgent s j n ws)

/-- The commit index of a group command with the members `ms`, or the Sluice's refusal. A command of register writes alone that
comes while the tick is stopped takes SMP_IDX + 1 (R28). -/
def groupIdx (s : State) (cyc r : Nat) (ms : List Member) : Except Nat Nat :=
  if !s.sched.running && !ms.any notReg then .ok (nextTick s)
  else
    match evaluate s cyc r (if s.sched.running then ms else ms.filter notReg) with
    | .refuse c => .error c
    | .join i => .ok i
    | .form i => .ok i

/-- A class-1 parameter, scene or register command, or a COMMIT_AT (R107, R127, R128, R141). -/
def serveGroup (s : State) (h : Hdr) (op : Nat) (b : List Nat) : State :=
  let r := op8 b 0 8
  match partsOf op b with
  | .error e => nak s h e.1 e.2
  | .ok ps =>
    match fieldsRefuse op ps with
    | some e => nak s h e.1 e.2
    | none =>
      if tooFar s r then sluiceNak s h 0x000C 0
      else
        match membersOf s (s.hr.jhead + 1) op ps [] with
        | .error e => sluiceNak s h e.1 e.2
        | .ok ms =>
          match groupIdx s h.cyc r ms with
          | .error c => sluiceNak s h c 0
          | .ok n =>
            if journalFree s < needs b.length then journalFull s h
            else accept s h ⟨op, n, r, false⟩ b (fun s j => enterGroup ap s j n ms false)

/-- Whether a meter subscription command is refused (R161): its code. -/
def meterRefuse (s : State) (k : Nat) (b : List Nat) : Option Nat :=
  if 1 < op8 b 0 1 then some 0x000B
  else if op8 b 0 1 = 1 then none
  else
    let first := op8 b 4 2
    let n := op8 b 6 2
    if 3 < op8 b 1 1 || n = 0 || 5696 < first + n then some 0x000B
    else if op8 b 2 2 != 0 && (smapFind (getSession s k).subs (op8 b 1 1)).isNone && 16 ≤ meterSubs s then some 0x0015
    else none

/-- A METER_SUB or SESSION_CLOSE: the session table changes at the journaling point (R151). -/
def serveTable (s : State) (h : Hdr) (op : Nat) (b : List Nat) (change : State → State) : State :=
  if journalFree s < needs b.length then journalFull s h
  else accept s h ⟨op, nextTick s, 0, false⟩ b (fun s j => markApplied (change s) (fun c => c.jpos == j))

/-- A new sequenced command, whose number is the expected one (R139: body fields, Sluice, journal space). -/
def serveNew (s : State) (h : Hdr) (op : Nat) (b : List Nat) : State :=
  let k := h.session.toNat
  if op = 0x40 then
    match meterRefuse s k b with
    | some c => nak s h c 0
    | none => serveTable s h op b (fun s => applyMeterSub s k (nextTick s) b)
  else if op = 0x71 then serveTable s h op b (fun s => applyClose s k)
  else if h.cls = 0 then
    match fieldsRefuse op [(0, op, b)] with
    | some e => nak s h e.1 e.2
    | none => serveUrgent s h op b
  else serveGroup s h op b

/-! Sessions and sequence numbers (R145, R146). -/

/-- A retransmission within the window: held while the first copy is in service, else its ACK again. -/
def serveAgain (s : State) (h : Hdr) : State :=
  let k := h.session.toNat
  let cls := h.cls.toNat
  let q := h.seq.toNat
  let mine := fun (w : WaitAck) => w.session == k && w.cls == cls && w.ack.seq == q
  if s.hr.waitAck.any mine then
    { s with hr := { s.hr with waitAck := s.hr.waitAck.map (fun w => if mine w then { w with copies := w.copies ++ [h.src] } else w) } }
  else
    match (spaceOf (getSession s k) cls).acks.find? (fun a => a.seq == q) with
    | some a => sendAck s h.src k cls a true
    | none => nak s h 0x0007 0

/-- The window of a class: 8 urgent, 32 normal. -/
def windowOf (cls : Nat) : Nat := if cls = 0 then 8 else 32

/-- The handling of a sequenced message (R146, R157, R304; opcode table, "Standby"). -/
def serveSequenced (s : State) (h : Hdr) (op : Nat) (b : List Nat) : State :=
  let x := getSession s h.session.toNat
  let e := expectedOf s h
  let q := h.seq.toNat
  if s.redun.paired && !isActive s then nak s h 0x0013 0
  else if !x.isOpen then nak s h 0x0004 0
  else if 1 ≤ q && q < e && e ≤ q + windowOf h.cls.toNat then serveAgain s h
  else if s.rst.stage = .restart then nak s h 0x0016 0
  else if 1 ≤ q && q < e then nak s h 0x0007 0
  else if q = e && q = 2 ^ 48 - 1 then sendNak s h 0x0006 0 0
  else if q != e || q = 0 then nak s h 0x0006 0
  else if s.redun.paired && s.redun.role = 3 then nak s h 0x0013 0
  else serveNew s h op b

/-- The result data of a SESSION_OPEN (R145). -/
def openData (s : State) (k : Nat) (resumed : Bool) : List Nat :=
  let x := getSession s k
  beBytes 6 x.norm.exp ++ beBytes 6 x.urg.exp ++
    beBytes 2 (getF s R.F_HEADRACE_STAT_JOURNAL_LOST_S + 2 * ofBool resumed + 4 * roleReport s) ++ beBytes 2 32

/-- SESSION_OPEN (R145). -/
def serveOpen (s : State) (h : Hdr) (b : List Nat) : State :=
  let k := h.session.toNat
  let x := getSession s k
  let client := op8 b 0 8
  if s.redun.paired && !isActive s then nak s h 0x0013 0
  else if h.seq != 0 then sendNak s h 0x0006 0 0
  else if client = 0 then nak s h 0x000B 0
  else if x.isOpen && x.client != client then nak s h 0x0005 0
  else if journalFree s < needs b.length then journalFull s h
  else
    let jpos := s.hr.jhead + 1
    let sync := isSynced s
    let n := nextTick s
    let s := journalCmd s h.cls.toNat k 0x70 0 n (entryFlags false false sync false) b
    let s := mirrorCmd s jpos (needs b.length)
    let s := markApplied (applyOpen s k h.src b) (fun c => c.jpos == jpos)
    let data := openData s k (x.isOpen && (op8 b 8 2).testBit 0)
    ackOrWait s h (jpos + needs b.length - 1) ⟨0, jpos, n, 0, false, false, !sync, data⟩

/-! REG_READ (R143). -/

/-- Every ACK carries UNMIRRORED while no peer is synced (R153). -/
def plainAck (s : State) (h : Hdr) (nC : Nat) (data : List Nat) : State :=
  sendAck s h.src h.session.toNat h.cls.toNat ⟨h.seq.toNat, noJpos, nC, 0, false, false, !isSynced s, data⟩ false

def serveRead (s : State) (h : Hdr) (b : List Nat) : State :=
  let off := op8 b 0 4
  let n := op8 b 4 2
  if 0x10000 ≤ off && !(getSession s h.session.toNat).isOpen then nak s h 0x0004 0
  else if n = 0 || 64 < n then nak s h 0x000B 0
  else if 0x200000 ≤ off + 4 * (n - 1) then nak s h 0x000A off
  else
    let r := csrReads h.cyc n off s
    plainAck r.2 h (nowIdx s) (r.1.flatMap (beBytes 4))

/-! Bodies of the typed commands (06_headrace.md, "Bodies"). -/

def wordBytes (w : Word) : List Nat := beBytes 4 w.toNat
def paramBody (r : BitVec 64) (pid value : Word) : List Nat := beBytes 8 r.toNat ++ wordBytes pid ++ wordBytes value
def blockBody (r : BitVec 64) (pid : Word) (count : BitVec 16) (ws : List Word) : List Nat :=
  beBytes 8 r.toNat ++ wordBytes pid ++ beBytes 2 count.toNat ++ [0, 0] ++ ws.flatMap wordBytes
def rampBody (r : BitVec 64) (pid value ramp : Word) : List Nat :=
  paramBody r pid value ++ wordBytes ramp ++ [0, 0, 0, 0]
def sceneBody (r : BitVec 64) (scene flags : BitVec 16) (ramps mask : List Word) : List Nat :=
  beBytes 8 r.toNat ++ beBytes 2 scene.toNat ++ beBytes 2 flags.toNat ++ [0, 0, 0, 0] ++ ramps.flatMap wordBytes ++
    mask.flatMap wordBytes
def commitBody (r : BitVec 64) (k : BitVec 16) (inner : List Nat) : List Nat :=
  beBytes 8 r.toNat ++ beBytes 2 k.toNat ++ [0, 0, 0, 0, 0, 0] ++ inner.map (fun b => b % 256)
def readBody (off : Word) (count : BitVec 16) : List Nat := wordBytes off ++ beBytes 2 count.toNat ++ [0, 0]
def meterBody (kind sub : BitVec 8) (period first count : BitVec 16) : List Nat :=
  [kind.toNat, sub.toNat] ++ beBytes 2 period.toNat ++ beBytes 2 first.toNat ++ beBytes 2 count.toNat
def maskBody (mask : Word) : List Nat := [1, 0, 0, 0] ++ wordBytes mask
def openBody (client : BitVec 64) (flags : BitVec 16) (mask : Word) : List Nat :=
  beBytes 8 client.toNat ++ beBytes 2 flags.toNat ++ [0, 0] ++ wordBytes mask

def urgentOp : UrgentBody → Nat
  | .param _ _ => 0x10
  | .block _ _ _ => 0x11
  | .ramp _ _ _ => 0x12
def urgentBytes (r : BitVec 64) : UrgentBody → List Nat
  | .param p v => paramBody r p v
  | .block p n ws => blockBody r p (BitVec.ofNat 16 n) ws
  | .ramp p v w => rampBody r p v w

/-! Messages that fail the first checks (R139), and the surface port (R137, R138). -/

/-- OPCODE is host-to-engine. -/
def hostOpcode (op : Nat) : Bool :=
  op == 0x10 || op == 0x11 || op == 0x12 || op == 0x20 || op == 0x21 || op == 0x22 || op == 0x30 || op == 0x31 || op == 0x40 ||
    op == 0x70 || op == 0x71 || op == 0x80

/-- The checks of R135 and R139 from MAGIC to OPCODE on a raw message. -/
def badMessage (s : State) (src : Endpoint) (m : List Nat) : State :=
  if !answers s then s
  else
    match takeRx s src.via with
    | none => s
    | some s' =>
      if m.length < 16 || m.length != 16 + op8 m 6 2 then rxSump s'
      else if op8 m 0 2 != 0x5A48 || 0x80 ≤ op8 m 4 1 then rxSump s'
      else if !checkOk src.via m then rxSump s'
      else if op8 m 2 1 != 1 then nak s' (rawHdr src m) 0x0001 0
      else if !hostOpcode (op8 m 5 1) then nak s' (rawHdr src m) 0x0002 0
      else s

/-- Buffered surface messages; RX_READY (R137). -/
def surfHeld (s : State) : Nat := (s.hr.rxQ.filter (fun m => m.via = .surface)).length
def rxReady (s : State) : Bool := surfHeld s < 4

/-- WRITE_MSG (R138). -/
def surfWrite (s : State) (m : List Nat) : State :=
  if !answers s || !viaOn s .surface then s
  else if !rxReady s || m.length < 16 || m.length != 16 + op8 m 6 2 || (if op8 m 5 1 = 0x80 then 8208 else 1472) < m.length then
    rxSump s
  else queueRx { s with hr := { s.hr with surfOut := [] } } ⟨.surface, 0, 0, 0, 0, 0⟩ (m.map (fun b => b % 256))

/-- STATUS: two bytes. -/
def surfStatus (s : State) : State :=
  if !viaOn s .surface then s
  else
    let n := match takeOut s .surface with
      | some m => m.1.bytes.length
      | none => 0
    { s with hr := { s.hr with
        surfOut := beBytes 2 (2 ^ 15 * ofBool (answers s && rxReady s) + 2 ^ 14 * ofBool (n != 0) + n % 2 ^ 14) } }

/-- READ_MSG: the host clocks `n` bytes; a short read loses the rest of the message. -/
def surfRead (s : State) (n : Nat) : State :=
  if !viaOn s .surface then s
  else
    match takeOut s .surface with
    | some m => { m.2 with hr := { m.2.hr with surfOut := (m.1.bytes ++ List.replicate (n - m.1.bytes.length) 0).take n } }
    | none => { s with hr := { s.hr with surfOut := List.replicate n 0 } }

/-! The mirror (R152, R153). -/

/-- A MACK frame arrives at the active engine. -/
def mirrorAck (s : State) (jpos : Nat) : State := if feeds s then ackUpTo s (min jpos s.hr.jhead) else s

/-- No acknowledgement within MIRROR_TMO: the peer is lost. -/
def mirrorTimeout (s : State) : State :=
  if feeds s && s.hr.mack < s.hr.jhead then stick (peerLost s) R.F_HEADRACE_STAT_MIRROR_TMO_S else s

end Sys2Proof.Machine
end

