-- ==== Sys2Proof/Machine/CmdHost.lean ====
section
/-! DEFINITION. The commands that a host sends over Headrace, the surface port, and the mirror (06_headrace.md). BULK stands in
Bulk.lean. -/
namespace Sys2Proof.Machine

/-- A sequenced command with its opcode and body. -/
def command (s : State) (h : Hdr) (op : Nat) (b : List Nat) : State := arrive s h op b (fun s => serveSequenced s h op b)

/-- SET_PARAM (R107). -/
def execSetParam (h : Hdr) (r : BitVec 64) (pid value : Word) (s : State) : Out := .next <| command s h 0x10 (paramBody r pid value)
/-- SET_BLOCK (R142). -/
def execSetBlock (h : Hdr) (r : BitVec 64) (pid : Word) (count : BitVec 16) (words : List Word) (s : State) : Out := .next <|
  command s h 0x11 (blockBody r pid count words)
/-- RAMP_PARAM (R122). -/
def execRampParam (h : Hdr) (r : BitVec 64) (pid value ramp : Word) (s : State) : Out := .next <|
  command s h 0x12 (rampBody r pid value ramp)
/-- URGENT_COMMAND (R116): a class-0 parameter command. -/
def execUrgentCommand (h : Hdr) (r : BitVec 64) (body : UrgentBody) (s : State) : Out := .next <|
  command s { h with cls := 0 } (urgentOp body) (urgentBytes r body)
/-- RECALL_SCENE (R128). -/
def execRecallScene (h : Hdr) (r : BitVec 64) (scene flags : BitVec 16) (mask : List Word) (s : State) : Out := .next <|
  command s h 0x20 (sceneBody r scene flags [] mask)
/-- STORE_SCENE (R127). -/
def execStoreScene (h : Hdr) (r : BitVec 64) (scene flags : BitVec 16) (ramps mask : List Word) (s : State) : Out := .next <|
  command s h 0x21 (sceneBody r scene flags ramps mask)
/-- COMMIT_AT (R141): K and the bytes of the embedded commands. -/
def execCommitAt (h : Hdr) (r : BitVec 64) (k : BitVec 16) (inner : List Nat) (s : State) : Out := .next <|
  command s h 0x22 (commitBody r k inner)
/-- REG_READ (R143): without an answer while an access to a stopped clock holds the CSR target (R250). -/
def execRegRead (h : Hdr) (off : Word) (count : BitVec 16) (s : State) : Out := .next <|
  arrive s h 0x30 (readBody off count) (fun s => if s.bus.csrHung then s else serveRead s h (readBody off count))
/-- REG_WRITE (R151). -/
def execRegWrite (h : Hdr) (r : BitVec 64) (off value : Word) (s : State) : Out := .next <| command s h 0x31 (paramBody r off value)
/-- METER_SUB (R161). -/
def execMeterSub (h : Hdr) (kind sub : BitVec 8) (period first count : BitVec 16) (s : State) : Out := .next <|
  command s h 0x40 (meterBody kind sub period first count)
/-- METER_SUB_EVENT_MASK (R160). -/
def execMeterSubEventMask (h : Hdr) (mask : Word) (s : State) : Out := .next <| command s h 0x40 (maskBody mask)
/-- SESSION_OPEN (R145). -/
def execSessionOpen (h : Hdr) (client : BitVec 64) (flags : BitVec 16) (mask : Word) (s : State) : Out := .next <|
  arrive s h 0x70 (openBody client flags mask) (fun s => serveOpen s h (openBody client flags mask))
/-- SESSION_CLOSE (R148). -/
def execSessionClose (h : Hdr) (s : State) : Out := .next <| command s h 0x71 []
/-- HEADRACE_BAD_MESSAGE (R139): the bytes of a message that fails one of the first checks. -/
def execHeadraceBadMessage (src : Endpoint) (bytes : List Nat) (s : State) : Out := .next <| badMessage s src bytes
/-- SURF_WRITE_MSG (R138). -/
def execSurfWriteMsg (bytes : List Nat) (s : State) : Out := .next <| surfWrite s bytes
/-- SURF_STATUS (R137). -/
def execSurfStatus (s : State) : Out := .next <| surfStatus s
/-- SURF_READ_MSG (R137): the bytes that the host clocks. -/
def execSurfReadMsg (n : Nat) (s : State) : Out := .next <| surfRead s n
/-- MIRROR_ACK (R152): a MACK frame. -/
def execMirrorAck (h : LinkHdr) (jpos : Nat) (s : State) : Out := .next <| onFrame s h (fun s => mirrorAck s jpos)
/-- MIRROR_TIMEOUT (R153). -/
def execMirrorTimeout (s : State) : Out := .next <| mirrorTimeout s
/-- SESSION_EXPIRY (R148). -/
def execSessionExpiry (k : Nat) (s : State) : Out := .next <| sessionExpiry s k

end Sys2Proof.Machine
end

