-- ==== Sys2Proof/Machine/Xbar.lean ====
section
/-! DEFINITION. Crossbar bursts on every target (R16 to R19, R200, R203, R211, R215 to R219): CSR space among them. -/
namespace Sys2Proof.Machine

/-- Who a crossbar master writes CSR space as (R214): Dexmos cores, Cage, or the path of a host's command. -/
def originOf (m : Nat) : Origin := if m ≤ 3 then .firmware else if m = 4 then .cage else .host

/-- A CSR word read through the crossbar; a read of TALLY_SEC_LO falls at a free time. -/
def csrWord (s : State) (off : Nat) : Nat × State :=
  if wordOff off = R.TALLY_SEC_LO then
    let f := freshFree s
    csrRead f.2 off (Config.freeNat f.1)
  else csrRead s off 0

/-- `n` consecutive CSR words, as bytes. -/
def csrBytes : Nat → Nat → State → List Nat × State
  | 0, _, s => ([], s)
  | n + 1, off, s =>
    let r := csrWord s off
    let q := csrBytes n (off + 4) r.2
    (leBytes 4 r.1 ++ q.1, q.2)

/-- A burst on CSR space (R5). -/
def csrDo (s : State) (r : BusReq) : Access :=
  let off := r.addr - 0x0300000000
  match r.data with
  | some d => ⟨[], false, (List.range (d.length / 4)).foldl (fun s k =>
      regWriteAs (originOf r.master) s (off + 4 * k) (ofLeBytes ((d.drop (4 * k)).take 4))) s⟩
  | none => let x := csrBytes ((r.len + 3) / 4) off s; ⟨x.1.take r.len, false, x.2⟩

/-- A granted burst on any target. -/
def busAccess (s : State) (r : BusReq) : Access :=
  if xbarTarget r.addr = 10 && xbarAdmits 10 r.master then csrDo s r else memAccess s r

/-- A granted burst of any length on any target. -/
def busBurst (s : State) (r : BusReq) : Access := atBoundary busAccess s r

/-- The registers whose clocks can stop: those of the MACs, the Sirlos lanes and the serial ports (R250: domains 6, 7 and 9). -/
def clockStops (off : Nat) : Bool :=
  let b := off / 0x10000
  (0x09 ≤ b && b ≤ 0x0D) || b == 0x10 || (R.REDUN_SIRLOS_STAT ≤ off && off < R.REDUN_SIRLOS_CRC_SUMP_CNT + 4)

/-- The access meets a register whose clock has stopped (R250). -/
def hangs (r : BusReq) : Bool :=
  r.dead && xbarTarget r.addr == 10 && xbarAdmits 10 r.master && clockStops (r.addr - 0x0300000000)

/-- A granted request is served. One that meets a stopped clock does not complete, and holds the CSR target for every master until
a reset (R250). -/
def serveAny (s : State) (w : BusWait) : State :=
  if hangs w.req then
    { granted s 10 w.req.master with bus := { (granted s 10 w.req.master).bus with csrHung := true } }
  else serveBurst busBurst s w

/-- The targets of a list of requests, CSR space first: what its writes clear, an event of the same cycle sets again (R6, R7). -/
def targetsOf (ws : List BusWait) : List Nat :=
  let ts := (ws.map (fun w => xbarTarget w.req.addr)).eraseDups
  ts.filter (fun t => t == 10) ++ ts.filter (fun t => t != 10)

/-- The request that each target grants first, and the requests left (R216). -/
def firstGrants (s : State) (ws : List BusWait) : List BusWait × List BusWait :=
  (targetsOf ws).foldl (fun a t =>
    match nextGrant s (ws.filter (fun w => xbarTarget w.req.addr == t)) with
    | none => a
    | some (w, _) => (a.1 ++ [w], a.2.erase w)) ([], ws)

/-- Requests are granted one after the other (R216); one on a locked target or on a bank under handover waits. -/
def grantAll : Nat → State → List BusWait → State
  | 0, s, _ => s
  | n + 1, s, ws =>
    match nextGrant s ws with
    | none => s
    | some (w, rest) => grantAll n (if mustWait s w.req then enqueueWait s w else serveAny s w) rest

/-- The words that the first beat of a burst reaches. -/
def firstBeat (r : BusReq) : List Nat := wordsOf r.addr (min (burstLen r) (32 - r.addr % 32))

/-- The first beat of a port A access reaches, in its bank, a word that port B access `b` reaches (R211). A refused access reaches no
word. -/
def meets (s : State) (b : BusReq) (w : BusWait) : Bool :=
  decide (w.req.addr < 0x05000000) && bankAdmits s (w.req.addr / 0x80000) w.req.master (isWrite w.req) &&
    bankAdmits s (b.addr / 0x80000) b.master (isWrite b) &&
    (firstBeat w.req).any (fun x => (wordsOf b.addr (burstLen b)).contains x)

/-- A port B write that port A's first grants `ws` meet: after a write it is retried in the next cycle (R211). -/
def portBLate (s0 : State) (ws : List BusWait) (s : State) (b : BusWait) : State :=
  serveOrWait (if ws.any (fun w => isWrite w.req && meets s0 b.req w) then collide s else s) b

/-- A cycle's requests on both ports. Port B reads, and port A's first grants, see the values from before the cycle's writes; a port B
write to a word of a first grant lands after it, any other before; port A's later grants, a held write among them, land last (R211). -/
def xbarCycle (s : State) (rs : List BusReq) : State :=
  let s := { s with bus := { s.bus with rdata := [] } }
  let ws := rs.map (fun r => BusWait.mk r false false)
  let onB := ws.filter (fun w => decide (32 ≤ w.req.master))
  let onA := ws.filter (fun w => !decide (32 ≤ w.req.master))
  let s := (onA.filter (fun w => mustWait s w.req)).foldl enqueueWait s
  let g := firstGrants s (onA.filter (fun w => !mustWait s w.req))
  let late := fun (b : BusWait) => g.1.any (meets s b.req)
  let s1 := (onB.filter (fun b => !isWrite b.req)).foldl serveOrWait s
  let s2 := (onB.filter (fun b => isWrite b.req && !late b)).foldl serveOrWait s1
  let s3 := g.1.foldl serveAny s2
  let s4 := (onB.filter (fun b => isWrite b.req && late b)).foldl (portBLate s g.1) s3
  grantAll g.2.length s4 g.2

/-! The commands of memories and crossbar. -/

/-- PSTORE_WINDOW_WRITE (R18): master `m` writes one word at a crossbar address. -/
def execPstoreWindowWrite (m addr : Nat) (v : Word) (s : State) : Out := .next <|
  if xbarTarget addr = 11 then xbarCycle s [⟨m, addr, 4, some (leBytes 4 v.toNat), false⟩] else s
/-- XBAR_ACCESS (R216). -/
def execXbarAccess (reqs : List BusReq) (s : State) : Out := .next <| xbarCycle s reqs
/-- XBAR_LOCKED_READ (R218). -/
def execXbarLockedRead (m a n : Nat) (s : State) : Out := .next <| lockedRead s m a n
/-- XBAR_UNLOCK_WRITE (R218). -/
def execXbarUnlockWrite (m a : Nat) (data : List Nat) (s : State) : Out := .next <| unlockWrite s m a data
/-- RSV_ECC_WRITEBACK (R208). -/
def execRsvEccWriteback (addr : Nat) (s : State) : Out := .next <| if addr < 0x05000000 then eccWriteback s (eccWord addr) else s
/-- SCRATCH_ECC_WRITEBACK (R167). -/
def execScratchEccWriteback (addr : Nat) (s : State) : Out := .next <|
  if 0x0100000000 ≤ addr && addr < 0x0101000000 then eccWriteback s (eccWord addr) else s
/-- SCRUB_READ (R210). -/
def execScrubRead (busy : List Nat) (s : State) : Out := .next <| scrubRead s busy
/-- RSV_HANDOVER_WRITE (R204, R205). -/
def execRsvHandoverWrite (v : Word) (s : State) : Out := .next <| handoverWrite s v.toNat
/-- HANDOVER_COMPLETE (R204). -/
def execHandoverComplete (s : State) : Out := .next <| handoverComplete s
/-- RSV_MBIST_GO (R224): the GO bit of the written word is set. -/
def execRsvMbistGo (v : Word) (s : State) : Out := .next <| mbistWrite s v.toNat
/-- MBIST_COMPLETE (R224): repairs used and whether the memory is left failed. -/
def execMbistComplete (rows cols : Nat) (bad : Bool) (s : State) : Out := .next <| mbistComplete s rows cols bad

end Sys2Proof.Machine
end

