-- ==== Sys2Proof/Machine/Bulk.lean ====
section
/-! DEFINITION. Field update over BULK (14_boot_update.md, R355 to R358), and the commands of resets and boot
(15_resets_faults_test.md, R349 to R352, R360, R362, R364, R366). -/
namespace Sys2Proof.Machine

/-! BULK (R357, R358). -/

/-- Base address of the inactive slot, and of the running one. -/
def idleBase (s : State) : Nat := match s.boot.map with
  | some m => slotBase m (1 - s.rst.slot)
  | none => 0
def liveBase (s : State) : Nat := match s.boot.map with
  | some m => slotBase m s.rst.slot
  | none => 0

/-- Erase flash. -/
def flashErase (s : State) (a n : Nat) : State :=
  { s with mem := s.mem.filter (fun e => !(decide (a ≤ e.1) && decide (e.1 < a + n))) }

def putUpd (s : State) (u : Upd) : State := { s with boot := { s.boot with upd := u } }

/-- BOOT_UPD_STAT as a word. -/
def updStat (s : State) : Nat := liveWord s R.BOOT_UPD_STAT

/-- The ACK of a BULK command: next expected offset, BOOT_UPD_STAT. -/
def bulkAck (s : State) (h : Hdr) : State := plainAck s h 0 (beBytes 4 s.boot.upd.next ++ beBytes 4 (updStat s))
/-- A refusal: reason in [31:24], next expected offset in [23:0]. -/
def bulkNak (s : State) (h : Hdr) (reason : Nat) : State := nak s h 0x000B (reason * 2 ^ 24 + s.boot.upd.next % 2 ^ 24)

/-- Apply `f` and acknowledge, where no reason refuses. -/
def bulkDo (s : State) (h : Hdr) (refuse : Option Nat) (f : State → State) : State :=
  match refuse with
  | some r => bulkNak s h r
  | none => bulkAck (f s) h

/-- No transfer is open and no background work runs. -/
def updIdle (s : State) : Bool := s.boot.upd.state == 0
/-- A transfer is open, under this XFER_ID. -/
def xferRefuse (s : State) (x : BulkHdr) : Option Nat :=
  if s.boot.upd.state != 2 then some 1 else if x.xfer.toNat != s.boot.upd.xfer then some 7 else none

def bulkClone (s : State) (h : Hdr) : State :=
  bulkDo s h (if !updIdle s || s.boot.trial then some 1 else none) (fun s => putUpd s { s.boot.upd with state := 1 })

def bulkBegin (s : State) (h : Hdr) (x : BulkHdr) : State :=
  let k := x.kind.toNat
  let n := x.total.toNat
  bulkDo s h (if !updIdle s then some 1 else if k = 0 || 4 < k then some 2 else if n = 0 || imageMax k < n then some 3 else none)
    (fun s =>
      let s := flashErase (manifestSet s (idleBase s) k 0) (idleBase s + imageOff k) (imageMax k)
      putUpd s ⟨2, k, x.xfer.toNat, n, 0, 0⟩)

def dataRefuse (s : State) (x : BulkHdr) (d : List Nat) (drained : Nat) : Option Nat :=
  let u := s.boot.upd
  match xferRefuse s x with
  | some r => some r
  | none =>
    if u.next < x.off.toNat then some 4
    else if u.total < x.off.toNat + d.length then some 3
    else if 262144 < (u.held - drained) + (d.length - (u.next - x.off.toNat)) then some 5
    else none

/-- DATA: `drained` bytes have left the write buffer for flash since the latest BULK message. -/
def bulkData (s : State) (h : Hdr) (x : BulkHdr) (d : List Nat) (drained : Nat) : State :=
  bulkDo s h (dataRefuse s x d drained) (fun s =>
    let u := s.boot.upd
    let new := d.drop (u.next - x.off.toNat)
    let s := writeBytes s (idleBase s + imageOff u.kind + u.next) new
    putUpd s { u with next := u.next + new.length, held := (u.held - drained) + new.length })

def bulkEnd (s : State) (h : Hdr) (x : BulkHdr) : State :=
  bulkDo s h (xferRefuse s x) (fun s => putUpd s { s.boot.upd with state := 3 })

def bulkAbort (s : State) (h : Hdr) (x : BulkHdr) : State :=
  bulkDo s h (xferRefuse s x) (fun s => putUpd s { s.boot.upd with state := 0, held := 0 })

def bulkArm (s : State) (h : Hdr) (tries : Nat) : State :=
  let b := idleBase s
  bulkDo s h (if !updIdle s then some 1 else if !slotComplete s b || !compatible s b 0 0 then some 6 else none) (fun s =>
    let t := max 1 (tries % 16)
    prfWrite s false 0x30 (setBits (setBits (setBits (prfRead s 0x30) 23 20 t) 19 16 t) 1 1 1))

/-- CONFIRM (R355). -/
def bulkConfirm (s : State) (h : Hdr) : State :=
  bulkDo s h (if !s.boot.trial then some 1 else none) (fun s =>
    let s := prfWrite s false 0x30 (setBits (setBits (prfRead s 0x30) 2 1 0) 0 0 s.rst.slot)
    setF { s with boot := { s.boot with trial := false } } R.F_BOOT_STAT_TRIAL 0)

/-- The smallest SEC_VER of the running set. -/
def minSec (s : State) : Nat :=
  [2, 3, 4].foldl (fun m k => min m (hdr s (liveBase s + imageOff k) 28 4)) (hdr s (liveBase s + imageOff 1) 28 4)

/-- ROLLBACK (R347). -/
def bulkRollback (s : State) (h : Hdr) : State :=
  bulkDo s h (if !updIdle s || s.boot.trial then some 1 else none) (fun s =>
    let f := min 64 (minSec s)
    if s.boot.fuse.rollback < f then
      stick { s with boot := { s.boot with fuse := { s.boot.fuse with rollback := f } } } R.F_BOOT_HIST_ROLLBACK_S
    else s)

def bulkRestart (s : State) (h : Hdr) : State :=
  bulkDo s h none (fun s => { s with rst := { s.rst with restartDue := true } })

/-- One image of the running set copied into the inactive slot. -/
def cloneImage (s : State) (k : Nat) : State :=
  let n := manifestLen s (liveBase s) k
  let s := flashErase (manifestSet s (idleBase s) k 0) (idleBase s + imageOff k) (imageMax k)
  let s := writeBytes s (idleBase s + imageOff k) (readBytes s (liveBase s + imageOff k) n)
  manifestSet s (idleBase s) k n

/-- The check of END (R357): codes 3 to 10 on the image, then R348 on the slot. -/
def endCode (s : State) : Nat :=
  let u := s.boot.upd
  let a := idleBase s + imageOff u.kind
  match hdrCodes.find? (fun c => !hdrCheck s a u.kind u.total c) with
  | some c => c
  | none => if !chkHash s a then 10 else if !compatible s (idleBase s) u.kind u.total then 11 else 0

/-- The work in the background completes; `ok`: the flash took it. -/
def workDone (s : State) (ok : Bool) : State :=
  let u := s.boot.upd
  let fail := fun (s : State) => stick (putUpd s { s.boot.upd with state := 0, held := 0 }) R.F_BOOT_HIST_UPD_FAIL_S
  let done := fun (s : State) => stick (putUpd s { s.boot.upd with state := 0, held := 0 }) R.F_BOOT_HIST_UPD_DONE_S
  if u.state = 1 then (if ok then done (kinds.foldl cloneImage s) else fail s)
  else if u.state = 3 then
    let c := endCode s
    let s := setF s R.F_BOOT_UPD_STAT_RESULT c
    if c = 0 then putUpd s { u with state := 4 } else fail s
  else if u.state = 4 then (if ok then done (manifestSet s (idleBase s) u.kind u.total) else fail s)
  else s

/-- The body of a BULK message. -/
def bulkBody (op : Nat) (x : BulkHdr) (rest : List Nat) : List Nat :=
  [op, x.kind.toNat, 0, 0] ++ wordBytes x.xfer ++ wordBytes x.off ++ wordBytes x.total ++ rest.map (fun b => b % 256)

/-- A BULK message: the checks of R139, an open session (R143), then `f`. -/
def bulk (s : State) (h : Hdr) (body : List Nat) (f : State → State) : State :=
  arrive s h 0x80 body (fun s => if (getSession s h.session.toNat).isOpen then f s else nak s h 0x0004 0)

/-- BULK_CLONE (R357). -/
def execBulkClone (h : Hdr) (x : BulkHdr) (s : State) : Out := .next <| bulk s h (bulkBody 1 x []) (fun s => bulkClone s h)
/-- BULK_BEGIN (R357). -/
def execBulkBegin (h : Hdr) (x : BulkHdr) (s : State) : Out := .next <| bulk s h (bulkBody 2 x []) (fun s => bulkBegin s h x)
/-- BULK_DATA (R357). -/
def execBulkData (h : Hdr) (x : BulkHdr) (data : List Nat) (drained : Nat) (s : State) : Out := .next <|
  bulk s h (bulkBody 3 x data) (fun s => bulkData s h x (data.map (fun b => b % 256)) drained)
/-- BULK_END (R357). -/
def execBulkEnd (h : Hdr) (x : BulkHdr) (s : State) : Out := .next <| bulk s h (bulkBody 4 x []) (fun s => bulkEnd s h x)
/-- BULK_ABORT (R357). -/
def execBulkAbort (h : Hdr) (x : BulkHdr) (s : State) : Out := .next <| bulk s h (bulkBody 5 x []) (fun s => bulkAbort s h x)
/-- BULK_ARM (R357): byte 16 of the body. -/
def execBulkArm (h : Hdr) (x : BulkHdr) (tries : Nat) (s : State) : Out := .next <|
  bulk s h (bulkBody 6 x [tries]) (fun s => bulkArm s h tries)
/-- BULK_CONFIRM (R355). -/
def execBulkConfirm (h : Hdr) (x : BulkHdr) (s : State) : Out := .next <| bulk s h (bulkBody 7 x []) (fun s => bulkConfirm s h)
/-- BULK_ROLLBACK (R347). -/
def execBulkRollback (h : Hdr) (x : BulkHdr) (s : State) : Out := .next <| bulk s h (bulkBody 8 x []) (fun s => bulkRollback s h)
/-- BULK_RESTART (R357). -/
def execBulkRestart (h : Hdr) (x : BulkHdr) (s : State) : Out := .next <| bulk s h (bulkBody 9 x []) (fun s => bulkRestart s h)
/-- BULK_WORK_DONE (R357). -/
def execBulkWorkDone (ok : Bool) (s : State) : Out := .next <| workDone s ok

/-! Resets and boot. -/

/-- Every crossbar master but the flash paths is reset in mid-burst (R219): beats that CSR space has accepted are written there too. -/
def cutAll (s : State) (cut : List CutBurst) : State :=
  let onCsr := cut.filter (fun b => xbarTarget b.addr == 10 && xbarAdmits 10 b.master)
  masterReset (onCsr.foldl (fun s b => (csrDo s ⟨b.master, b.addr, b.data.length, some b.data, false⟩).st) s) (List.range 18) cut

/-- A warm reset from source `cause`, unless a cold reset or boot runs (R360). -/
def warmBy (s : State) (cut : List CutBurst) (cause : Nat) : State := if coldRuns s then s else warmReset (cutAll s cut) cause

/-- POWER_ON (R360): what VDD_CV gives, and whether VDD_IO33 stands. -/
def execPowerOn (cv : CvSupply) (io33 : Bool) (s : State) : Out := .next <| powerOn s cv.ok cv.hi io33
/-- PORST_N_ASSERT (R360). -/
def execPorstNAssert (s : State) : Out := .next <| coldReset s 1
/-- SUPPLY_LOSS (R360). Which supply is lost the command does not say: whether it is VDD_IO33, whose pins then lose their drive
(R379), is a free value. -/
def execSupplyLoss (s : State) : Out := .next <|
  let f := freshFree s
  coldReset { f.2 with rst := { s.rst with io33 := s.rst.io33 && (Config.freeNat f.1).testBit 0 } } 2
/-- RESET_N_ASSERT (R360): `cut` are the write bursts in progress (R219). -/
def execResetNAssert (cut : List CutBurst) (s : State) : Out := .next <| warmBy s cut 3
/-- RESET_RELEASE (R360): the reset ends and Cage boots (R349). The supply monitor has held a cold reset until every supply but VDD_CV
stood (R376). -/
def execResetRelease (i : BootIn) (s : State) : Out := .next <|
  if s.rst.stage = .asserted then bootRun { s with rst := { s.rst with io33 := true } } i else s
/-- FIRMWARE_READY (R350). -/
def execFirmwareReady (s : State) : Out := .next <| firmwareReady s
/-- FIRMWARE_READY_TIMEOUT (R350). -/
def execFirmwareReadyTimeout (s : State) : Out := .next <| firmwareTimeout s
/-- WAIT_REF_TIMEOUT (R350). -/
def execWaitRefTimeout (s : State) : Out := .next <| waitRefOver s
/-- ENGINE_START (R349). -/
def execEngineStart (s : State) : Out := .next <| engineStart s
/-- CORES_RESTART (R134). While CK_XO makes no edge its fault is raised again (R228). -/
def execCoresRestart (s : State) : Out := .next <|
  let t := coresRestart ap s
  if !t.rst.xo && s.rst.stage = .restart && t.rst.stage = .running then fatalFault t R.F_RST_FATAL_XO_S else t
/-- FATAL_RESET_DELAY (R366). -/
def execFatalResetDelay (cut : List CutBurst) (s : State) : Out := .next <|
  if s.flood.fault && isSet s R.F_RST_CFG_FATAL_RST then warmBy s cut 7 else s
/-- BULK_RESTART_RESET (R357, R360). -/
def execBulkRestartReset (cut : List CutBurst) (s : State) : Out := .next <|
  if s.rst.restartDue then warmBy s cut 5 else s
/-- RST_CTL_WARM (R360): a write of RST_CTL whose WARM is set; a host's is ignored (R363). -/
def execRstCtlWarm (o : Origin) (v : Word) (cut : List CutBurst) (s : State) : Out := .next <|
  if o = .host then rstWrite o s R.RST_CTL (setBits v.toNat 0 0 1) else warmBy s cut 4
/-- RST_DOM_WRITE (R362): a firmware write. -/
def execRstDomWrite (v : Word) (cut : List CutBurst) (s : State) : Out := .next <| domWrite s v.toNat cut
/-- WDT_KICK (R364): crossbar master `m` writes RST_WDT_KICK. -/
def execWdtKick (m : Nat) (v : Word) (s : State) : Out := .next <| if m ≤ 3 then wdtKick s v.toNat else s
/-- WATCHDOG_EXPIRY (R364). -/
def execWatchdogExpiry (cut : List CutBurst) (s : State) : Out := .next <|
  if s.rst.wdt then stick (warmBy s cut 6) R.F_RST_STAT_WDT_S else s

end Sys2Proof.Machine
end

