-- ==== Sys2Proof/Machine/CmdClock.lean ====
section
/-! DEFINITION. The commands of references and clocks, Tally and the register reads that capture (09_references_clocks.md,
10_network_tally.md, R53, R261, R265, R292). -/
namespace Sys2Proof.Machine

/-- RCU_FAMILY_WRITE (R227): the written RCU_CTL word. -/
def execRcuFamilyWrite (v : Word) (s : State) : Out := .next <| rcuCtl s v
/-- RCU_HOLD_WRITE (R235): the written RCU_CTL word. -/
def execRcuHoldWrite (v : Word) (s : State) : Out := .next <| rcuCtl s v
/-- RELOCK_DONE (R227): the relock has taken `xo` CK_XO cycles, and the domains have returned to the root `cyc` CK_FAB cycles ago. -/
def execRelockDone (cyc xo : Nat) (s : State) : Out := .next <|
  if isSet s R.F_RCU_STAT_RELOCKING then tallyTick (relocked s xo) cyc else s
/-- RCU_PTP_ERR_WRITE (R229): a firmware write at root-cycle time `t`. -/
def execRcuPtpErrWrite (t : Int) (v : Word) (s : State) : Out := .next <| ptpEdge s t v.toNat
/-- RCU_IN_CFG_WRITE (R231). -/
def execRcuInCfgWrite (k : Nat) (v : Word) (s : State) : Out := .next <| if k < 8 then inCfgWrite s k v else s
/-- RCU_WCK_WRITE (R245): which 0 the configuration, 1 the offset. -/
def execRcuWckWrite (k which : Nat) (v : Word) (s : State) : Out := .next <| wckWrite s k which v
/-- XO_LOSS (R228): the VCO holds and a fatal fault is raised. -/
def execXoLoss (s : State) : Out := .next <|
  if s.rst.xo then fatalFault (stick { s with rst := { s.rst with xo := false } } R.F_RCU_HIST_XO_LOSS_S) R.F_RST_FATAL_XO_S else s
/-- REF_EDGE (R233): an edge of input `k` at root-cycle time `t`, its phase error, and whether its pulse is bad. -/
def execRefEdge (k : Nat) (t err : Int) (bad : Bool) (s : State) : Out := .next <| if k < 8 then refEdgePin s k t err bad else s
/-- REF_LOSS (R232). -/
def execRefLoss (k : Nat) (s : State) : Out := .next <| refLoss s k
/-- MEAS_INTERVAL_END (R231): the measured offset in 10⁻⁹. -/
def execMeasIntervalEnd (k : Nat) (foff : Int) (s : State) : Out := .next <| measEnd s k foff
/-- LOCK_TIMER_EXPIRY (R239). -/
def execLockTimerExpiry (s : State) : Out := .next <| lockExpiry s
/-- SWITCH_BUSY_TIMEOUT (R237). -/
def execSwitchBusyTimeout (s : State) : Out := .next <| if isSet s R.F_RCU_STAT_SWITCH_BUSY then switchTimeout s else s
/-- REVERT_WTR_EXPIRY (R237). -/
def execRevertWtrExpiry (k : Nat) (s : State) : Out := .next <| revertExpiry s k
/-- HOLDOVER_SAMPLE (R242). -/
def execHoldoverSample (foff : Int) (s : State) : Out := .next <| holdSample s foff

/-- TALLY_ADDEND_FRAC_WRITE (R262). -/
def execTallyAddendFracWrite (v : Word) (s : State) : Out := .next <| tallyFracWrite s v.toNat
/-- TALLY_ADDEND_INT_WRITE (R262): `cyc` CK_FAB cycles after the latest tick. -/
def execTallyAddendIntWrite (cyc : Nat) (v : Word) (s : State) : Out := .next <| tallyIntWrite s cyc v.toNat
/-- TALLY_STEP (R263). -/
def execTallyStep (s : State) : Out := .next <| tallyStep s
/-- TALLY_EPOCH_RESET (R263). -/
def execTallyEpochReset (s : State) : Out := .next <| tallyEpoch s

/-- A host's read of a register, returned as four bytes; `cyc` is its time after the latest tick. -/
def readReg (s : State) (off cyc : Nat) : State :=
  let r := csrRead s off cyc
  { r.2 with bus := { r.2.bus with rdata := [(16, leBytes 4 r.1, false)] } }

/-- SCHED_IDX_LO_READ (R53). -/
def execSchedIdxLoRead (s : State) : Out := .next <| readReg s R.SCHED_IDX_LO 0
/-- FLOOD_CLOSE_IDX_LO_READ (R53). -/
def execFloodCloseIdxLoRead (s : State) : Out := .next <| readReg s R.FLOOD_CLOSE_IDX_LO 0
/-- SLUICE_HEAD_IDX_LO_READ (R53). -/
def execSluiceHeadIdxLoRead (s : State) : Out := .next <| readReg s R.SLUICE_HEAD_IDX_LO 0
/-- SLUICE_TAIL_IDX_LO_READ (R53). -/
def execSluiceTailIdxLoRead (s : State) : Out := .next <| readReg s R.SLUICE_TAIL_IDX_LO 0
/-- SLUICE_LAST_FLIP_LO_READ (R53). -/
def execSluiceLastFlipLoRead (s : State) : Out := .next <| readReg s R.SLUICE_LAST_FLIP_LO 0
/-- HEADRACE_JHEAD_LO_READ (R53). -/
def execHeadraceJheadLoRead (s : State) : Out := .next <| readReg s R.HEADRACE_JHEAD_LO 0
/-- HEADRACE_JAPPLIED_LO_READ (R53). -/
def execHeadraceJappliedLoRead (s : State) : Out := .next <| readReg s R.HEADRACE_JAPPLIED_LO 0
/-- RCU_SWITCH_IDX_LO_READ (R53). -/
def execRcuSwitchIdxLoRead (s : State) : Out := .next <| readReg s R.RCU_SWITCH_IDX_LO 0
/-- STREAM_TMC_LO_READ (R53). -/
def execStreamTmcLoRead (s : State) : Out := .next <| readReg s R.STREAM_TMC_LO 0
/-- REDUN_DIV_IDX_LO_READ (R53). -/
def execRedunDivIdxLoRead (s : State) : Out := .next <| readReg s R.REDUN_DIV_IDX_LO 0
/-- REDUN_HASH_LO_READ (R53). -/
def execRedunHashLoRead (s : State) : Out := .next <| readReg s R.REDUN_HASH_LO 0
/-- TALLY_SEC_LO_READ (R261). -/
def execTallySecLoRead (cyc : Nat) (s : State) : Out := .next <| readReg s R.TALLY_SEC_LO cyc
/-- PDM_CAPT_IDX_READ (R292). -/
def execPdmCaptIdxRead (k : Nat) (s : State) : Out := .next <| if k < 3 then readReg s (R.PDM_CAPT_IDX k) 0 else s
/-- MAC_TSQ_NS_READ (R265). -/
def execMacTsqNsRead (p : Nat) (s : State) : Out := .next <| if p < 5 then readReg s (R.MAC_TSQ_NS p) 0 else s
/-- REGISTER_WRITE (R4 to R7): a write of the word at a CSR offset by a host, by firmware or by Cage. -/
def execRegisterWrite (o : Origin) (off : Nat) (v : Word) (s : State) : Out := .next <| regWriteAs o s off v.toNat

end Sys2Proof.Machine
end

