-- ==== Sys2Proof/Machine/CmdCv.lean ====
section
/-! DEFINITION. The commands of the CV outputs and the persistent register file (13_cv_persistent.md), and of the TEST block
(R368 to R370). -/
namespace Sys2Proof.Machine

/-- CV_OUT_WRITE (R326). -/
def execCvOutWrite (k : Nat) (v : Word) (s : State) : Out := .next <| if k < 16 then cvOutWrite s k v.toNat else s
/-- CV_TICK_LATCH (R326). -/
def execCvTickLatch (s : State) : Out := .next <| cvTickLatch s
/-- CV_CTL_WRITE (R325). -/
def execCvCtlWrite (v : Word) (s : State) : Out := .next <| cvCtlWrite s v.toNat
/-- CV_PARK_END (R329). -/
def execCvParkEnd (k : Nat) (s : State) : Out := .next <| if k < 16 then cvParkEnd s k else s
/-- VDD_CV_LOSS (R328). -/
def execVddCvLoss (s : State) : Out := .next <| cvLoss s
/-- VDD_CV_RESTORE (R328): `hi` tells whether VDD_CV lies above V_CVH. -/
def execVddCvRestore (hi : Bool) (s : State) : Out := .next <| cvRestore s hi
/-- VDD_CV_HI_FALL (R325). -/
def execVddCvHiFall (s : State) : Out := .next <| cvHiFall s
/-- PRF_WORD_WRITE (R334): a write of PRF word `w` by a host, or by firmware. -/
def execPrfWordWrite (host : Bool) (w : Nat) (v : Word) (s : State) : Out := .next <| prfWrite s host w v.toNat
/-- PRF_WRITE_DONE (R334). -/
def execPrfWriteDone (s : State) : Out := .next <| prfDone s
/-- PRF_POWER_FAIL (R336). -/
def execPrfPowerFail (s : State) : Out := .next <| prfFail s

/-- TEST_UNLOCK_WRITE (R368). -/
def execTestUnlockWrite (v : Word) (s : State) : Out := .next <| testWrite s R.TEST_UNLOCK v.toNat
/-- TEST_CFG_LOCK (R368): the LOCK bit of the written word is set. -/
def execTestCfgLock (v : Word) (s : State) : Out := .next <|
  testWrite s R.TEST_CFG (setBits v.toNat R.F_TEST_CFG_LOCK.hi R.F_TEST_CFG_LOCK.lo 1)
/-- TEST_AUTO_LOCK (R368). -/
def execTestAutoLock (s : State) : Out := .next <| testAutoLock s
/-- TEST_XBAR_DLY_WRITE (R369). -/
def execTestXbarDlyWrite (v : Word) (s : State) : Out := .next <| testWrite s R.TEST_XBAR_DLY v.toNat
/-- TEST_MAC_BP_WRITE (R369). -/
def execTestMacBpWrite (v : Word) (s : State) : Out := .next <| testWrite s R.TEST_MAC_BP v.toNat
/-- TEST_ASRC_JIT_WRITE (R369): which 0 the amplitude register, 1 the port list. -/
def execTestAsrcJitWrite (which : Nat) (v : Word) (s : State) : Out := .next <|
  testWrite s (if which = 0 then R.TEST_ASRC_JIT else R.TEST_ASRC_MASK) v.toNat
/-- TEST_TICK_GO (R369): the GO bit of the written word is set. -/
def execTestTickGo (v : Word) (s : State) : Out := .next <|
  testWrite s R.TEST_TICK (setBits v.toNat R.F_TEST_TICK_GO.hi R.F_TEST_TICK_GO.lo 1)
/-- TEST_CDC_WRITE (R369). -/
def execTestCdcWrite (v : Word) (s : State) : Out := .next <| testWrite s R.TEST_CDC v.toNat
/-- TEST_ECC_GO (R369): the GO bit of the written word is set. -/
def execTestEccGo (v : Word) (s : State) : Out := .next <|
  testWrite s R.TEST_ECC_CTL (setBits v.toNat R.F_TEST_ECC_CTL_GO.hi R.F_TEST_ECC_CTL_GO.lo 1)
/-- TEST_LEASE_WRITE (R369). -/
def execTestLeaseWrite (v : Word) (s : State) : Out := .next <| testWrite s R.TEST_LEASE v.toNat
/-- TEST_SIRLOS_GO (R369): the GO bit of the written word is set. -/
def execTestSirlosGo (v : Word) (s : State) : Out := .next <|
  testWrite s R.TEST_SIRLOS (setBits v.toNat R.F_TEST_SIRLOS_GO.hi R.F_TEST_SIRLOS_GO.lo 1)
/-- TEST_SIRLOS_END (R369). -/
def execTestSirlosEnd (s : State) : Out := .next <| testSirlosEnd s

end Sys2Proof.Machine
end

