-- ==== Sys2Proof/Machine/CmdNet.lean ====
section
/-! DEFINITION. The commands of the network ports and stream contexts (10_network_tally.md) and of the serial ports, converters
and modulators (11_serial_pdm.md). A block held in domain reset neither links nor takes frames (R362). -/
namespace Sys2Proof.Machine

/-- MAC_CTL_WRITE (R252). -/
def execMacCtlWrite (p : Nat) (v : Word) (s : State) : Out := .next <| macCtlWrite s p v.toNat
/-- MAC_LINK_UP (R252). -/
def execMacLinkUp (p speed : Nat) (s : State) : Out := .next <| if domHeld s p then s else linkUp s p speed
/-- MAC_LINK_DOWN (R252). -/
def execMacLinkDown (p : Nat) (s : State) : Out := .next <| if p < 5 then linkDown s p else s
/-- MAC_RX_FRAME (R256): the frame with its FCS, the CK_FAB cycles from the latest tick to its start and to its last byte, how many
frames firmware has taken since the latest frame, and whether its group address is one that firmware has listed. -/
def execMacRxFrame (p : Nat) (bytes : List Nat) (sfd fin taken : Nat) (group : Bool) (s : State) : Out := .next <|
  if domHeld s p then s else macRx s p bytes sfd fin taken group
/-- MAC_TX_FRAME (R258): the frames firmware has posted since the latest, the time of the start, whether the cut-through buffer
runs dry, and how many received frames firmware has taken. -/
def execMacTxFrame (d : PortDrain) (posted : List TxPost) (cyc : Nat) (dry : Bool) (s : State) : Out := .next <|
  if domHeld s d.port then s else macTx s d.port posted cyc dry d.taken
/-- SEG_DESCRIPTOR (R260). -/
def execSegDescriptor (p : Nat) (tmpl payload : List Nat) (s : State) : Out := .next <| segSend s p tmpl payload
/-- MAC_PAUSE_EXPIRY (R254), and how many received frames firmware has taken. -/
def execMacPauseExpiry (d : PortDrain) (s : State) : Out := .next <| pauseExpiry s d.port d.taken

/-- STREAM_CTX_WRITE (R267): a word of the STREAM block. -/
def execStreamCtxWrite (off : Nat) (v : Word) (s : State) : Out := .next <|
  if off / 0x10000 = 0xF then regWriteAs .host s off v.toNat else s
/-- STREAM_RX_ENABLE (R267): the written STREAM_RX_CTL word, its EN set. -/
def execStreamRxEnable (c : Nat) (v : Word) (s : State) : Out := .next <|
  if c < 256 then rxCtlWrite s c (setBits v.toNat 31 31 1) else s
/-- STREAM_TX_ENABLE (R267): the written STREAM_TX_CTL word, its EN set. -/
def execStreamTxEnable (c : Nat) (v : Word) (s : State) : Out := .next <|
  if c < 256 then txCtlWrite s c (setBits v.toNat 21 21 1) else s
/-- STREAM_RX_INACTIVE (R271). -/
def execStreamRxInactive (c : Nat) (s : State) : Out := .next <| if c < 256 then setReceiving s c false else s

/-- SPORT_WRITE (R277): a word of the SPORT block. -/
def execSportWrite (off : Nat) (v : Word) (s : State) : Out := .next <|
  if off / 0x10000 = 0x10 then regWriteAs .host s off v.toNat else s
/-- SPORT_FRAME_HANDOFF (R276): the frame of port p, the time of its start after the tick in CK_FAB cycles, the BCLK cycles of the
frame, and its words. -/
def execSportFrameHandoff (p : Nat) (delta : Int) (bclks : Nat) (words : List Int) (s : State) : Out := .next <|
  if p < 32 then frameHandoff s p delta bclks words else s
/-- SPORT_FRAME_MISSING (R279). -/
def execSportFrameMissing (p : Nat) (s : State) : Out := .next <| if p < 32 then frameMissing s p else s
/-- SPORT_FS_EDGE (R280): the ratio that the tracker now measures. -/
def execSportFsEdge (p ratio : Nat) (s : State) : Out := .next <| if p < 32 then fsEdge s p ratio else s
/-- SPORT_ASYNC_FRAME_DONE (R280). -/
def execSportAsyncFrameDone (p : Nat) (words : List Int) (s : State) : Out := .next <| if p < 32 then asyncDone s p words else s
/-- ASRC_CT_ROUTE_WRITE (R283): which 0 the route, 1 the gain of lane l; the lanes read their registers at the next frame. -/
def execAsrcCtRouteWrite (l which : Nat) (v : Word) (s : State) : Out := .next <|
  if l < 64 && which < 2 then csrWrite s (if which = 0 then R.ASRC_CT_ROUTE l else R.ASRC_CT_GAIN l) v else s
/-- ASRC_TRACKER_UNLOCK (R284). -/
def execAsrcTrackerUnlock (p : Nat) (s : State) : Out := .next <| if p < 32 then trackerUnlock s p else s
/-- ASRC_TRACKER_ACQUIRE (R284). -/
def execAsrcTrackerAcquire (p : Nat) (s : State) : Out := .next <| if p < 32 && !domHeld s 8 then trackerAcquire s p else s
/-- ASRC_TRACKER_LOCK (R284). -/
def execAsrcTrackerLock (p : Nat) (s : State) : Out := .next <| if p < 32 then trackerLock s p else s
/-- PDM_CH_WRITE (R290). -/
def execPdmChWrite (c : Nat) (v : Word) (s : State) : Out := .next <| if c < 128 then csrWrite s (R.PDM_CH c) v else s
/-- PDM_CLKIN_UNLOCK (R291). -/
def execPdmClkinUnlock (k : Nat) (s : State) : Out := .next <| clkinUnlock s k
/-- PDM_CLKIN_LOCK (R291). -/
def execPdmClkinLock (k : Nat) (s : State) : Out := .next <| if domHeld s 9 then s else clkinLock s k

end Sys2Proof.Machine
end

