-- ==== Sys2Proof/Machine/CmdSample.lean ====
section
/-! DEFINITION. The commands of the sample period, of crossfades and meters, and of the Sluice's work (02_sample_period.md to
05_sluice_scenes.md). The release and the end of a window stand in Windows.lean. -/
namespace Sys2Proof.Machine

/-- TICK (R20). -/
def execTick (i : TickIn) (s : State) : Out := .next <| tick s i
/-- CROSSFADE_END (R66): the crossfade of the route point `key`. -/
def execCrossfadeEnd (key : Nat) (s : State) : Out := .next <| endPoint s key
/-- SEND_XFADE_END (R87): the crossfade of a bus, or of a matrix strip (256 on), and of its pair. -/
def execSendXfadeEnd (col : Nat) (s : State) : Out := .next <| endColPair s col
/-- METER_REPORT (R161). -/
def execMeterReport (k sub : Nat) (s : State) : Out := .next <| meterReport s k sub
/-- GROUP_STAGED (R105). -/
def execGroupStaged (s : State) : Out := .next <| groupStaged s
/-- GROUP_SETTLE_DONE (R105). -/
def execGroupSettleDone (s : State) : Out := .next <| groupSettleDone s
/-- SCENE_STORE_DONE (R127): whether the flash work succeeded. -/
def execSceneStoreDone (ok : Bool) (s : State) : Out := .next <| storeDone s ok
/-- PRELOAD_DONE (R130). -/
def execPreloadDone (s : State) : Out := .next <| preloadDone s
/-- SLUICE_PRELOAD_LOAD (R130): the written word, its LOAD set. -/
def execSluicePreloadLoad (v : Word) (s : State) : Out := .next <|
  preloadWrite s (setBits v.toNat R.F_SLUICE_PRELOAD_LOAD.hi R.F_SLUICE_PRELOAD_LOAD.lo 1)

/-- SCHED_RATE_WRITE (R54): the written SCHED_CTL word. -/
def execSchedRateWrite (v : Word) (s : State) : Out := .next <| schedCtlWrite s v.toNat
/-- SCHED_RUN_SET (R54): the written SCHED_CTL word, its RUN set. -/
def execSchedRunSet (v : Word) (s : State) : Out := .next <| schedCtlWrite s (setBits v.toNat 0 0 1)
/-- SCHED_RUN_CLEAR (R54): the written SCHED_CTL word, its RUN clear. -/
def execSchedRunClear (v : Word) (s : State) : Out := .next <| schedCtlWrite s (setBits v.toNat 0 0 0)
/-- SCHED_WIN_ARM (R26): the written SCHED_CTL word, its WIN_ARM set. -/
def execSchedWinArm (v : Word) (s : State) : Out := .next <| schedCtlWrite s (setBits v.toNat 1 1 1)

/-- FLOOD_PIN_LATCH_WRITE (R95): the written FLOOD_CTL word. -/
def execFloodPinLatchWrite (v : Word) (s : State) : Out := .next <| floodCtlWrite s v.toNat
/-- FLOOD_PIN_REL (R95): PIN_REL is written with PIN_LATCH as it stands. -/
def execFloodPinRel (s : State) : Out := .next <| floodCtlWrite s (2 + getF s R.F_FLOOD_CTL_PIN_LATCH)
/-- MUTE_N_CHANGE (R96). -/
def execMuteNChange (high : Bool) (s : State) : Out := .next <| muteChange s high

end Sys2Proof.Machine
end

