-- ==== Sys2Proof/Machine/MintalArith.lean ====
section
/-! DEFINITION. The arithmetic instructions of the Mintal core (R176, R178): one meaning per instruction, over the shared issue
of Mintal.lean. -/
namespace Sys2Proof.Machine

/-- NOP: no operation apart from its moves. -/
def execNop (c : Nat) (x : Arith) (s : State) : Out := .next <| issueArith s c x (fun k _ => k)
/-- MOV: Vd ← Va. -/
def execMov (c : Nat) (x : Arith) (s : State) : Out := .next <| issueArith s c x (fun k x => putExact k x (srcA k x))
/-- ADD: Vd ← Va + Vb. -/
def execAdd (c : Nat) (x : Arith) (s : State) : Out := .next <|
  issueArith s c x (fun k x => putV 2 k x (fun i => srcA k x i + srcB k x i))
/-- SUB: Vd ← Va − Vb. -/
def execSub (c : Nat) (x : Arith) (s : State) : Out := .next <|
  issueArith s c x (fun k x => putV 2 k x (fun i => srcA k x i - srcB k x i))
/-- NEG: Vd ← −Va. -/
def execNeg (c : Nat) (x : Arith) (s : State) : Out := .next <| issueArith s c x (fun k x => putV 2 k x (fun i => -srcA k x i))
/-- ABS: Vd ← |Va|. -/
def execAbs (c : Nat) (x : Arith) (s : State) : Out := .next <|
  issueArith s c x (fun k x => putV 2 k x (fun i => ((srcA k x i).natAbs : Int)))
/-- MIN: Vd ← min(Va, Vb). -/
def execMin (c : Nat) (x : Arith) (s : State) : Out := .next <|
  issueArith s c x (fun k x => putExact k x (fun i => if srcA k x i ≤ srcB k x i then srcA k x i else srcB k x i))
/-- MAX: Vd ← max(Va, Vb). -/
def execMax (c : Nat) (x : Arith) (s : State) : Out := .next <|
  issueArith s c x (fun k x => putExact k x (fun i => if srcA k x i ≤ srcB k x i then srcB k x i else srcA k x i))
/-- The shift count of SHL and SHR: E, at most 39. -/
def shiftCount (x : Arith) : Nat := min x.e.toNat 39
/-- SHL: Vd ← Va × 2^E. -/
def execShl (c : Nat) (x : Arith) (s : State) : Out := .next <|
  issueArith s c x (fun k x => putV 2 k x (fun i => srcA k x i * ((2 ^ shiftCount x : Nat) : Int)))
/-- SHR: Vd ← floor(Va / 2^E). -/
def execShr (c : Nat) (x : Arith) (s : State) : Out := .next <|
  issueArith s c x (fun k x => putExact k x (fun i => shrInt (srcA k x i) (shiftCount x)))
/-- AND: Vd ← Va AND Vb, 40-bit bitwise. -/
def execAnd (c : Nat) (x : Arith) (s : State) : Out := .next <|
  issueArith s c x (fun k x => putExact k x (fun i => bitOp (fun a b => a &&& b) (srcA k x i) (srcB k x i)))
/-- OR: Vd ← Va OR Vb. -/
def execOr (c : Nat) (x : Arith) (s : State) : Out := .next <|
  issueArith s c x (fun k x => putExact k x (fun i => bitOp (fun a b => a ||| b) (srcA k x i) (srcB k x i)))
/-- XOR: Vd ← Va XOR Vb. -/
def execXor (c : Nat) (x : Arith) (s : State) : Out := .next <|
  issueArith s c x (fun k x => putExact k x (fun i => bitOp (fun a b => a ^^^ b) (srcA k x i) (srcB k x i)))
/-- CMPGE: Vd ← all ones where Va ≥ Vb, else 0. -/
def execCmpge (c : Nat) (x : Arith) (s : State) : Out := .next <|
  issueArith s c x (fun k x => putExact k x (fun i => if srcB k x i ≤ srcA k x i then -1 else 0))
/-- ROT: Vd[i] ← Va[(i + E[2:0]) mod 8]. -/
def execRot (c : Nat) (x : Arith) (s : State) : Out := .next <|
  issueArith s c x (fun k x => putExact k x (fun i => srcA k x ((i + x.e.toNat % 8) % 8)))
/-- BCAST: Vd[i] ← Va[E[2:0]]. -/
def execBcast (c : Nat) (x : Arith) (s : State) : Out := .next <|
  issueArith s c x (fun k x => putExact k x (fun _ => srcA k x (x.e.toNat % 8)))
/-- MPY: ACC ← Va × Vb. -/
def execMpy (c : Nat) (x : Arith) (s : State) : Out := .next <|
  issueArith s c x (fun k x => putAcc 4 k (accSel x) false (fun i => srcA k x i * srcB k x i))
/-- MAC: ACC ← ACC + Va × Vb, through the forwarding chain (R169). -/
def execMac (c : Nat) (x : Arith) (s : State) : Out := .next <|
  issueArith s c x (fun k x => putAcc 4 k (accSel x) true (fun i => chainLane k (accSel x) i + srcA k x i * srcB k x i))
/-- MSU: ACC ← ACC − Va × Vb, through the forwarding chain (R169). -/
def execMsu (c : Nat) (x : Arith) (s : State) : Out := .next <|
  issueArith s c x (fun k x => putAcc 4 k (accSel x) true (fun i => chainLane k (accSel x) i - srcA k x i * srcB k x i))
/-- MPYL: Vd ← floor(Va × Vb / 2³¹). -/
def execMpyl (c : Nat) (x : Arith) (s : State) : Out := .next <|
  issueArith s c x (fun k x => putV 4 k x (fun i => mulQ (srcA k x i) (srcB k x i)))
/-- EXT: Vd ← floor(ACC / 2^(31 + sh)), sh = E[5:2]. -/
def execExt (c : Nat) (x : Arith) (s : State) : Out := .next <|
  issueArith s c x (fun k x => putV 2 k x (fun i => shrInt (accLane k (accSel x) i) (31 + x.e.toNat / 4)))
/-- ACLR: ACC ← 0. -/
def execAclr (c : Nat) (x : Arith) (s : State) : Out := .next <|
  issueArith s c x (fun k x => putAcc 2 k (accSel x) false (fun _ => 0))
/-- ALOAD: ACC ← Va × 2³¹. -/
def execAload (c : Nat) (x : Arith) (s : State) : Out := .next <|
  issueArith s c x (fun k x => putAcc 2 k (accSel x) false (fun i => srcA k x i * unity))
/-- The sum of the eight lanes of an accumulator. -/
def accSum (k : Core) (a : Nat) : Int := (List.range 8).foldl (fun t i => t + accLane k a i) 0
/-- AHSUM: lane 0 ← sum of the 8 lanes, modulo 2⁸⁰; lanes 1 to 7 ← 0. -/
def execAhsum (c : Nat) (x : Arith) (s : State) : Out := .next <|
  issueArith s c x (fun k x =>
    let t := accSum k (accSel x)
    setFlag (fly k 4 (.sum (accSel x)) (lanes8 (fun i => if i = 0 then wrapInt 80 t else 0))) 2 (satHits 80 t))

end Sys2Proof.Machine
end

