-- ==== Sys2Proof/Machine/MintalCtl.lean ====
section
/-! DEFINITION. The control instructions of the Mintal core (R163, R171 to R175, R179 to R184), its events, and the writes of
its registers that have a row of their own (R197, R198). -/
namespace Sys2Proof.Machine

/-- LOOP (R172). -/
def execLoop (c : Nat) (count : BitVec 16) (csrc : Bool) (nsel : BitVec 4) (soff : BitVec 3) (e : BitVec 12) (s : State) : Out := .next <|
  issueLoop s c count.toNat csrc nsel.toNat soff.toNat e.toNat

/-- BR (R171, R175, R179): codes 5 to 15 are illegal, and so is a taken branch that leaves the innermost body. -/
def execBr (c : Nat) (cond vr : BitVec 4) (target : BitVec 12) (s : State) : Out := .next <|
  issueCtl s c (fun k =>
    match condHolds cond.toNat (vLane k vr.toNat 0) with
    | none => illegal s c k
    | some false => advance s c k 0 none
    | some true => if branchOk k target.toNat then advance s c k 0 (some target.toNat) else illegal s c k)

/-- CALL (R171): RA ← delay-slot address + 1; branch. -/
def execCall (c : Nat) (target : BitVec 12) (s : State) : Out := .next <|
  issueCtl s c (fun k =>
    if branchOk k target.toNat then advance s c (setReg k 53 (k.pc + 2)) 0 (some target.toNat) else illegal s c k)

/-- RET (R171, R175): not inside an active innermost body. The RET of an FX object goes back to the shell (R190). -/
def execRet (c : Nat) (s : State) : Out := .next <|
  issueCtl s c (fun k => if inBody k k.pc then illegal s c k else advance s c (markReturn k) 0 (some (regVal k 53)))

/-- WAIT (R180). -/
def execWait (c : Nat) (s : State) : Out := .next <| issueWait s c
/-- WAITX (R179). -/
def execWaitx (c : Nat) (s : State) : Out := .next <| issueWaitx s c
/-- XLD (R181). -/
def execXld (c : Nat) (v : BitVec 4) (ck md : BitVec 2) (fmt : BitVec 3) (s : State) : Out := .next <|
  issueX s c true v.toNat ck.toNat md.toNat fmt.toNat
/-- XST (R181). -/
def execXst (c : Nat) (v : BitVec 4) (ck md : BitVec 2) (fmt : BitVec 3) (s : State) : Out := .next <|
  issueX s c false v.toNat ck.toNat md.toNat fmt.toNat

/-- LDI: register ← IMM, visible after 2 slots. -/
def execLdi (c : Nat) (r : BitVec 6) (imm : BitVec 32) (s : State) : Out := .next <|
  issueCtl s c (fun k =>
    if regOk true r.toNat then advance s c (fly k 2 (.reg r.toNat) [(imm.toNat : Int)]) 0 none else illegal s c k)
/-- MOVR: register ← register. -/
def execMovr (c : Nat) (dst src : BitVec 6) (s : State) : Out := .next <|
  issueCtl s c (fun k =>
    if regOk true dst.toNat && regOk false src.toNat then
      advance s c (fly k 2 (.reg dst.toNat) [regRead s k src.toNat]) 0 none
    else illegal s c k)
/-- MOVCV: lane 0 of Vd ← register; lanes 1 to 7 ← 0. -/
def execMovcv (c : Nat) (v : BitVec 4) (src : BitVec 6) (s : State) : Out := .next <|
  issueCtl s c (fun k =>
    if regOk false src.toNat then
      advance s c (fly k 2 (.v v.toNat 0) (lanes8 (fun i => if i = 0 then regRead s k src.toNat else 0))) 0 none
    else illegal s c k)
/-- MOVVC: register ← low bits of lane 0 of V. -/
def execMovvc (c : Nat) (dst : BitVec 6) (v : BitVec 4) (s : State) : Out := .next <|
  issueCtl s c (fun k =>
    if regOk true dst.toNat then advance s c (fly k 2 (.reg dst.toNat) [vLane k v.toNat 0]) 0 none else illegal s c k)
/-- VLDI: every lane ← IMM sign-extended. -/
def execVldi (c : Nat) (v : BitVec 4) (imm : BitVec 32) (s : State) : Out := .next <|
  issueCtl s c (fun k => advance s c (fly k 2 (.v v.toNat 0) (List.replicate 8 (sext 32 imm.toNat))) 0 none)
/-- RTI (R184): pc ← EPC, IE set, HND cleared; no delay slot. -/
def execRti (c : Nat) (s : State) : Out := .next <|
  issueCtl s c (fun k =>
    let t := regVal k 54
    let s := advance s c (setSt (setSt k 0 0 1) 7 7 0) 0 none
    putCore s c { getCore s c with pc := t })
/-- BRK: the debug interrupt, cause 7. -/
def execBrk (c : Nat) (s : State) : Out := .next <|
  issueCtl s c (fun k =>
    let s := advance s c k 0 none
    let r := raiseDebug s c (getCore s c) 7
    putCore r.1 c r.2)

/-- The instruction at the core's pc is illegal, or its word has a parity error; it does not issue (R178, R184). -/
def execIllegalInstruction (c : Nat) (parity : Bool) (s : State) : Out := .next <|
  match begin? s c with
  | none => s
  | some k => (let r := raiseFault s c k (if parity then 4 else 2); putCore r.1 c r.2)

/-- LOOP_BACK (R173): the innermost end instruction has issued. -/
def execLoopBack (c : Nat) (s : State) : Out := .next <|
  if 64 ≤ c then s else (let k := getCore s c; if k.loopDue then putCore s c (loopBack k) else s)
/-- INTERRUPT_ENTRY (R184). -/
def execInterruptEntry (c : Nat) (s : State) : Out := .next <| interruptEntry s c
/-- XLD_COMPLETE (R181). -/
def execXldComplete (c lat : Nat) (s : State) : Out := .next <| completeX s c true lat
/-- XST_COMPLETE (R181). -/
def execXstComplete (c lat : Nat) (s : State) : Out := .next <| completeX s c false lat
/-- CORE_RELEASE (R163): at a tick. -/
def execCoreRelease (c : Nat) (s : State) : Out := .next <| if mayRelease s c then releaseCore s c else s
/-- A write of MINTAL_CTL whose RESET bit holds or releases the core (R197, R219). -/
def execMintalResetWrite (c : Nat) (v : Word) (cut : List CutBurst) (s : State) : Out := .next <|
  let s := if v.toNat.testBit 0 && !(getCore s c).held then (cut.filter (fun b => b.master == 17)).foldl cutBurst s else s
  mintalCtlWrite s c v.toNat
/-- A write of MINTAL_CTL whose HALT_REQ bit halts or resumes the core (R198). -/
def execMintalHaltReq (c : Nat) (v : Word) (s : State) : Out := .next <| mintalCtlWrite s c v.toNat
/-- A write of MINTAL_CTL with STEP = 1 (R198). -/
def execMintalStep (c : Nat) (v : Word) (s : State) : Out := .next <| mintalCtlWrite s c (setBits v.toNat 3 3 1)
/-- A write of MINTAL_CTL with CLR_STATS = 1 (R197). -/
def execMintalClrStats (c : Nat) (v : Word) (s : State) : Out := .next <| mintalCtlWrite s c (setBits v.toNat 4 4 1)
/-- The offset of XBASE, XLEN and XSWEPT (`which` 0, 1, 2). -/
def xWindowOff (c which : Nat) : Nat :=
  if which = 0 then R.MINTAL_XBASE c else if which = 1 then R.MINTAL_XLEN c else R.MINTAL_XSWEPT c
/-- A write of XBASE, XLEN or XSWEPT (R197). -/
def execMintalXwindowWrite (c which : Nat) (v : Word) (s : State) : Out := .next <| mintalXWrite s c (xWindowOff c which) v

end Sys2Proof.Machine
end

