-- ==== Sys2Proof/Machine/Dispatch.lean ====
section
/-! DEFINITION. The effect of each command: one arm per constructor, each one call of its meaning. -/
namespace Sys2Proof.Machine

def exec (i : Instr) (s : State) : Host.Outcome State Fault Refusal :=
  match i with
  | .powerOn cv io33 => Sys2Proof.Machine.execPowerOn cv io33 s
  | .porstNAssert => Sys2Proof.Machine.execPorstNAssert s
  | .supplyLoss => Sys2Proof.Machine.execSupplyLoss s
  | .resetNAssert cut => Sys2Proof.Machine.execResetNAssert cut s
  | .resetRelease b => Sys2Proof.Machine.execResetRelease b s
  | .firmwareReady => Sys2Proof.Machine.execFirmwareReady s
  | .firmwareReadyTimeout => Sys2Proof.Machine.execFirmwareReadyTimeout s
  | .waitRefTimeout => Sys2Proof.Machine.execWaitRefTimeout s
  | .engineStart => Sys2Proof.Machine.execEngineStart s
  | .coresRestart => Sys2Proof.Machine.execCoresRestart s
  | .tick x => Sys2Proof.Machine.execTick x s
  | .windowRelease w => Sys2Proof.Machine.execWindowRelease w s
  | .conflLatePartial => Sys2Proof.Machine.execConflLatePartial s
  | .windowEnd w tiles => Sys2Proof.Machine.execWindowEnd w tiles s
  | .fatalResetDelay cut => Sys2Proof.Machine.execFatalResetDelay cut s
  | .crossfadeEnd key => Sys2Proof.Machine.execCrossfadeEnd key s
  | .sendXfadeEnd col => Sys2Proof.Machine.execSendXfadeEnd col s
  | .meterReport k sub => Sys2Proof.Machine.execMeterReport k sub s
  | .groupStaged => Sys2Proof.Machine.execGroupStaged s
  | .groupSettleDone => Sys2Proof.Machine.execGroupSettleDone s
  | .sceneStoreDone ok => Sys2Proof.Machine.execSceneStoreDone ok s
  | .preloadDone => Sys2Proof.Machine.execPreloadDone s
  | .setParam h r pid value => Sys2Proof.Machine.execSetParam h r pid value s
  | .setBlock h r pid count words => Sys2Proof.Machine.execSetBlock h r pid count words s
  | .rampParam h r pid value ramp => Sys2Proof.Machine.execRampParam h r pid value ramp s
  | .urgentCommand h r body => Sys2Proof.Machine.execUrgentCommand h r body s
  | .recallScene h r scene flags mask => Sys2Proof.Machine.execRecallScene h r scene flags mask s
  | .storeScene h r scene flags ramps mask => Sys2Proof.Machine.execStoreScene h r scene flags ramps mask s
  | .commitAt h r k inner => Sys2Proof.Machine.execCommitAt h r k inner s
  | .regRead h off count => Sys2Proof.Machine.execRegRead h off count s
  | .regWrite h r off value => Sys2Proof.Machine.execRegWrite h r off value s
  | .meterSub h kind sub period first count => Sys2Proof.Machine.execMeterSub h kind sub period first count s
  | .meterSubEventMask h mask => Sys2Proof.Machine.execMeterSubEventMask h mask s
  | .sessionOpen h client flags mask => Sys2Proof.Machine.execSessionOpen h client flags mask s
  | .sessionClose h => Sys2Proof.Machine.execSessionClose h s
  | .headraceBadMessage src bytes => Sys2Proof.Machine.execHeadraceBadMessage src bytes s
  | .bulkClone h x => Sys2Proof.Machine.execBulkClone h x s
  | .bulkBegin h x => Sys2Proof.Machine.execBulkBegin h x s
  | .bulkData h x data drained => Sys2Proof.Machine.execBulkData h x data drained s
  | .bulkEnd h x => Sys2Proof.Machine.execBulkEnd h x s
  | .bulkAbort h x => Sys2Proof.Machine.execBulkAbort h x s
  | .bulkArm h x tries => Sys2Proof.Machine.execBulkArm h x tries s
  | .bulkConfirm h x => Sys2Proof.Machine.execBulkConfirm h x s
  | .bulkRollback h x => Sys2Proof.Machine.execBulkRollback h x s
  | .bulkRestart h x => Sys2Proof.Machine.execBulkRestart h x s
  | .bulkRestartReset cut => Sys2Proof.Machine.execBulkRestartReset cut s
  | .bulkWorkDone ok => Sys2Proof.Machine.execBulkWorkDone ok s
  | .surfWriteMsg bytes => Sys2Proof.Machine.execSurfWriteMsg bytes s
  | .surfStatus => Sys2Proof.Machine.execSurfStatus s
  | .surfReadMsg n => Sys2Proof.Machine.execSurfReadMsg n s
  | .mirrorAck h jpos => Sys2Proof.Machine.execMirrorAck h jpos s
  | .mirrorTimeout => Sys2Proof.Machine.execMirrorTimeout s
  | .sessionExpiry k => Sys2Proof.Machine.execSessionExpiry k s
  | .schedRateWrite v => Sys2Proof.Machine.execSchedRateWrite v s
  | .schedRunSet v => Sys2Proof.Machine.execSchedRunSet v s
  | .schedRunClear v => Sys2Proof.Machine.execSchedRunClear v s
  | .schedWinArm v => Sys2Proof.Machine.execSchedWinArm v s
  | .schedIdxLoRead => Sys2Proof.Machine.execSchedIdxLoRead s
  | .floodCloseIdxLoRead => Sys2Proof.Machine.execFloodCloseIdxLoRead s
  | .sluiceHeadIdxLoRead => Sys2Proof.Machine.execSluiceHeadIdxLoRead s
  | .sluiceTailIdxLoRead => Sys2Proof.Machine.execSluiceTailIdxLoRead s
  | .sluiceLastFlipLoRead => Sys2Proof.Machine.execSluiceLastFlipLoRead s
  | .headraceJheadLoRead => Sys2Proof.Machine.execHeadraceJheadLoRead s
  | .headraceJappliedLoRead => Sys2Proof.Machine.execHeadraceJappliedLoRead s
  | .rcuSwitchIdxLoRead => Sys2Proof.Machine.execRcuSwitchIdxLoRead s
  | .streamTmcLoRead => Sys2Proof.Machine.execStreamTmcLoRead s
  | .redunDivIdxLoRead => Sys2Proof.Machine.execRedunDivIdxLoRead s
  | .redunHashLoRead => Sys2Proof.Machine.execRedunHashLoRead s
  | .tallySecLoRead cyc => Sys2Proof.Machine.execTallySecLoRead cyc s
  | .pdmCaptIdxRead k => Sys2Proof.Machine.execPdmCaptIdxRead k s
  | .macTsqNsRead p => Sys2Proof.Machine.execMacTsqNsRead p s
  | .registerWrite o off v => Sys2Proof.Machine.execRegisterWrite o off v s
  | .floodPinLatchWrite v => Sys2Proof.Machine.execFloodPinLatchWrite v s
  | .floodPinRel => Sys2Proof.Machine.execFloodPinRel s
  | .muteNChange high => Sys2Proof.Machine.execMuteNChange high s
  | .sluicePreloadLoad v => Sys2Proof.Machine.execSluicePreloadLoad v s
  | .pstoreWindowWrite m addr v => Sys2Proof.Machine.execPstoreWindowWrite m addr v s
  | .xbarAccess reqs => Sys2Proof.Machine.execXbarAccess reqs s
  | .xbarLockedRead m a n => Sys2Proof.Machine.execXbarLockedRead m a n s
  | .xbarUnlockWrite m a data => Sys2Proof.Machine.execXbarUnlockWrite m a data s
  | .rsvEccWriteback addr => Sys2Proof.Machine.execRsvEccWriteback addr s
  | .scratchEccWriteback addr => Sys2Proof.Machine.execScratchEccWriteback addr s
  | .scrubRead busy => Sys2Proof.Machine.execScrubRead busy s
  | .rsvHandoverWrite v => Sys2Proof.Machine.execRsvHandoverWrite v s
  | .handoverComplete => Sys2Proof.Machine.execHandoverComplete s
  | .rsvMbistGo v => Sys2Proof.Machine.execRsvMbistGo v s
  | .mbistComplete rows cols bad => Sys2Proof.Machine.execMbistComplete rows cols bad s
  | .rcuFamilyWrite v => Sys2Proof.Machine.execRcuFamilyWrite v s
  | .relockDone cyc xo => Sys2Proof.Machine.execRelockDone cyc xo s
  | .rcuHoldWrite v => Sys2Proof.Machine.execRcuHoldWrite v s
  | .rcuPtpErrWrite t v => Sys2Proof.Machine.execRcuPtpErrWrite t v s
  | .rcuInCfgWrite k v => Sys2Proof.Machine.execRcuInCfgWrite k v s
  | .rcuWckWrite k which v => Sys2Proof.Machine.execRcuWckWrite k which v s
  | .xoLoss => Sys2Proof.Machine.execXoLoss s
  | .refEdge k t err bad => Sys2Proof.Machine.execRefEdge k t err bad s
  | .refLoss k => Sys2Proof.Machine.execRefLoss k s
  | .measIntervalEnd k foff => Sys2Proof.Machine.execMeasIntervalEnd k foff s
  | .lockTimerExpiry => Sys2Proof.Machine.execLockTimerExpiry s
  | .switchBusyTimeout => Sys2Proof.Machine.execSwitchBusyTimeout s
  | .revertWtrExpiry k => Sys2Proof.Machine.execRevertWtrExpiry k s
  | .holdoverSample foff => Sys2Proof.Machine.execHoldoverSample foff s
  | .tallyAddendFracWrite v => Sys2Proof.Machine.execTallyAddendFracWrite v s
  | .tallyAddendIntWrite cyc v => Sys2Proof.Machine.execTallyAddendIntWrite cyc v s
  | .tallyStep => Sys2Proof.Machine.execTallyStep s
  | .tallyEpochReset => Sys2Proof.Machine.execTallyEpochReset s
  | .macCtlWrite p v => Sys2Proof.Machine.execMacCtlWrite p v s
  | .macLinkUp p speed => Sys2Proof.Machine.execMacLinkUp p speed s
  | .macLinkDown p => Sys2Proof.Machine.execMacLinkDown p s
  | .macRxFrame p bytes sfd fin taken group => Sys2Proof.Machine.execMacRxFrame p bytes sfd fin taken group s
  | .macTxFrame d posted cyc dry => Sys2Proof.Machine.execMacTxFrame d posted cyc dry s
  | .segDescriptor p tmpl payload => Sys2Proof.Machine.execSegDescriptor p tmpl payload s
  | .streamCtxWrite off v => Sys2Proof.Machine.execStreamCtxWrite off v s
  | .streamRxEnable c v => Sys2Proof.Machine.execStreamRxEnable c v s
  | .streamTxEnable c v => Sys2Proof.Machine.execStreamTxEnable c v s
  | .streamRxInactive c => Sys2Proof.Machine.execStreamRxInactive c s
  | .sportWrite off v => Sys2Proof.Machine.execSportWrite off v s
  | .sportFrameHandoff p delta bclks words => Sys2Proof.Machine.execSportFrameHandoff p delta bclks words s
  | .sportFrameMissing p => Sys2Proof.Machine.execSportFrameMissing p s
  | .sportFsEdge p ratio => Sys2Proof.Machine.execSportFsEdge p ratio s
  | .sportAsyncFrameDone p words => Sys2Proof.Machine.execSportAsyncFrameDone p words s
  | .asrcCtRouteWrite l which v => Sys2Proof.Machine.execAsrcCtRouteWrite l which v s
  | .asrcTrackerUnlock p => Sys2Proof.Machine.execAsrcTrackerUnlock p s
  | .asrcTrackerAcquire p => Sys2Proof.Machine.execAsrcTrackerAcquire p s
  | .asrcTrackerLock p => Sys2Proof.Machine.execAsrcTrackerLock p s
  | .pdmChWrite c v => Sys2Proof.Machine.execPdmChWrite c v s
  | .pdmClkinUnlock k => Sys2Proof.Machine.execPdmClkinUnlock k s
  | .pdmClkinLock k => Sys2Proof.Machine.execPdmClkinLock k s
  | .leaseRenew src => Sys2Proof.Machine.execLeaseRenew src s
  | .leaseExpiry => Sys2Proof.Machine.execLeaseExpiry s
  | .leaseHbToggle => Sys2Proof.Machine.execLeaseHbToggle s
  | .redunModeWrite v => Sys2Proof.Machine.execRedunModeWrite v s
  | .redunYield => Sys2Proof.Machine.execRedunYield s
  | .revertYield => Sys2Proof.Machine.execRevertYield s
  | .redunResyncReq => Sys2Proof.Machine.execRedunResyncReq s
  | .redunResyncAbort => Sys2Proof.Machine.execRedunResyncAbort s
  | .autoResyncStart => Sys2Proof.Machine.execAutoResyncStart s
  | .sirlosStatusRx h role sync home test ack0 ack1 => Sys2Proof.Machine.execSirlosStatusRx h role sync home test ack0 ack1 s
  | .sirlosHelloRx h x => Sys2Proof.Machine.execSirlosHelloRx h x s
  | .helloSend => Sys2Proof.Machine.execHelloSend s
  | .statusSend => Sys2Proof.Machine.execStatusSend s
  | .sirlosTickRx h idx tmc phi e => Sys2Proof.Machine.execSirlosTickRx h idx tmc phi e s
  | .sirlosCanaryRx h n hash items => Sys2Proof.Machine.execSirlosCanaryRx h n hash items s
  | .canaryMissing n => Sys2Proof.Machine.execCanaryMissing n s
  | .sirlosMirrorRx h jpos entries => Sys2Proof.Machine.execSirlosMirrorRx h jpos entries s
  | .sirlosRatioRx h n words lost => Sys2Proof.Machine.execSirlosRatioRx h n words lost s
  | .sirlosFwdRx h slot ts value => Sys2Proof.Machine.execSirlosFwdRx h slot ts value s
  | .sirlosCloseRx h n present => Sys2Proof.Machine.execSirlosCloseRx h n present s
  | .fwdRecordLate => Sys2Proof.Machine.execFwdRecordLate s
  | .sirlosResend lane => Sys2Proof.Machine.execSirlosResend lane s
  | .peerLost => Sys2Proof.Machine.execPeerLost s
  | .sirlosCopyRx h x => Sys2Proof.Machine.execSirlosCopyRx h x s
  | .copyComplete => Sys2Proof.Machine.execCopyComplete s
  | .alignComplete => Sys2Proof.Machine.execAlignComplete s
  | .resyncCoreRelease => Sys2Proof.Machine.execResyncCoreRelease s
  | .sweepFinalPass item => Sys2Proof.Machine.execSweepFinalPass item s
  | .sirlosSweepRx h item ns x => Sys2Proof.Machine.execSirlosSweepRx h item ns x s
  | .sirlosSwackRx h item ok => Sys2Proof.Machine.execSirlosSwackRx h item ok s
  | .sweepItemDeadline item => Sys2Proof.Machine.execSweepItemDeadline item s
  | .resyncItemTimeout => Sys2Proof.Machine.execResyncItemTimeout s
  | .verifyStart => Sys2Proof.Machine.execVerifyStart s
  | .resyncSynced ms => Sys2Proof.Machine.execResyncSynced ms s
  | .cvOutWrite k v => Sys2Proof.Machine.execCvOutWrite k v s
  | .cvTickLatch => Sys2Proof.Machine.execCvTickLatch s
  | .cvCtlWrite v => Sys2Proof.Machine.execCvCtlWrite v s
  | .cvParkEnd k => Sys2Proof.Machine.execCvParkEnd k s
  | .vddCvLoss => Sys2Proof.Machine.execVddCvLoss s
  | .vddCvRestore hi => Sys2Proof.Machine.execVddCvRestore hi s
  | .vddCvHiFall => Sys2Proof.Machine.execVddCvHiFall s
  | .prfWordWrite host w v => Sys2Proof.Machine.execPrfWordWrite host w v s
  | .prfWriteDone => Sys2Proof.Machine.execPrfWriteDone s
  | .prfPowerFail => Sys2Proof.Machine.execPrfPowerFail s
  | .rstCtlWarm o v cut => Sys2Proof.Machine.execRstCtlWarm o v cut s
  | .rstDomWrite v cut => Sys2Proof.Machine.execRstDomWrite v cut s
  | .wdtKick m v => Sys2Proof.Machine.execWdtKick m v s
  | .watchdogExpiry cut => Sys2Proof.Machine.execWatchdogExpiry cut s
  | .testUnlockWrite v => Sys2Proof.Machine.execTestUnlockWrite v s
  | .testCfgLock v => Sys2Proof.Machine.execTestCfgLock v s
  | .testAutoLock => Sys2Proof.Machine.execTestAutoLock s
  | .testXbarDlyWrite v => Sys2Proof.Machine.execTestXbarDlyWrite v s
  | .testMacBpWrite v => Sys2Proof.Machine.execTestMacBpWrite v s
  | .testAsrcJitWrite which v => Sys2Proof.Machine.execTestAsrcJitWrite which v s
  | .testTickGo v => Sys2Proof.Machine.execTestTickGo v s
  | .testCdcWrite v => Sys2Proof.Machine.execTestCdcWrite v s
  | .testEccGo v => Sys2Proof.Machine.execTestEccGo v s
  | .testLeaseWrite v => Sys2Proof.Machine.execTestLeaseWrite v s
  | .testSirlosGo v => Sys2Proof.Machine.execTestSirlosGo v s
  | .testSirlosEnd => Sys2Proof.Machine.execTestSirlosEnd s
  | .mintalResetWrite c v cut => Sys2Proof.Machine.execMintalResetWrite c v cut s
  | .coreRelease c => Sys2Proof.Machine.execCoreRelease c s
  | .mintalHaltReq c v => Sys2Proof.Machine.execMintalHaltReq c v s
  | .mintalStep c v => Sys2Proof.Machine.execMintalStep c v s
  | .mintalClrStats c v => Sys2Proof.Machine.execMintalClrStats c v s
  | .mintalXwindowWrite c which v => Sys2Proof.Machine.execMintalXwindowWrite c which v s
  | .interruptEntry c => Sys2Proof.Machine.execInterruptEntry c s
  | .loopBack c => Sys2Proof.Machine.execLoopBack c s
  | .xldComplete c lat => Sys2Proof.Machine.execXldComplete c lat s
  | .nop c x => Sys2Proof.Machine.execNop c x s
  | .mov c x => Sys2Proof.Machine.execMov c x s
  | .add c x => Sys2Proof.Machine.execAdd c x s
  | .sub c x => Sys2Proof.Machine.execSub c x s
  | .neg c x => Sys2Proof.Machine.execNeg c x s
  | .abs c x => Sys2Proof.Machine.execAbs c x s
  | .min c x => Sys2Proof.Machine.execMin c x s
  | .max c x => Sys2Proof.Machine.execMax c x s
  | .shl c x => Sys2Proof.Machine.execShl c x s
  | .shr c x => Sys2Proof.Machine.execShr c x s
  | .and c x => Sys2Proof.Machine.execAnd c x s
  | .or c x => Sys2Proof.Machine.execOr c x s
  | .xor c x => Sys2Proof.Machine.execXor c x s
  | .cmpge c x => Sys2Proof.Machine.execCmpge c x s
  | .rot c x => Sys2Proof.Machine.execRot c x s
  | .bcast c x => Sys2Proof.Machine.execBcast c x s
  | .mpy c x => Sys2Proof.Machine.execMpy c x s
  | .mac c x => Sys2Proof.Machine.execMac c x s
  | .msu c x => Sys2Proof.Machine.execMsu c x s
  | .mpyl c x => Sys2Proof.Machine.execMpyl c x s
  | .ext c x => Sys2Proof.Machine.execExt c x s
  | .aclr c x => Sys2Proof.Machine.execAclr c x s
  | .aload c x => Sys2Proof.Machine.execAload c x s
  | .ahsum c x => Sys2Proof.Machine.execAhsum c x s
  | .loop c count csrc nsel soff e => Sys2Proof.Machine.execLoop c count csrc nsel soff e s
  | .br c cond vr target => Sys2Proof.Machine.execBr c cond vr target s
  | .call c target => Sys2Proof.Machine.execCall c target s
  | .ret c => Sys2Proof.Machine.execRet c s
  | .wait c => Sys2Proof.Machine.execWait c s
  | .waitx c => Sys2Proof.Machine.execWaitx c s
  | .xld c v ck md fmt => Sys2Proof.Machine.execXld c v ck md fmt s
  | .xst c v ck md fmt => Sys2Proof.Machine.execXst c v ck md fmt s
  | .ldi c r imm => Sys2Proof.Machine.execLdi c r imm s
  | .movr c dst src => Sys2Proof.Machine.execMovr c dst src s
  | .movcv c v src => Sys2Proof.Machine.execMovcv c v src s
  | .movvc c dst v => Sys2Proof.Machine.execMovvc c dst v s
  | .vldi c v imm => Sys2Proof.Machine.execVldi c v imm s
  | .rti c => Sys2Proof.Machine.execRti c s
  | .brk c => Sys2Proof.Machine.execBrk c s
  | .illegalInstruction c parity => Sys2Proof.Machine.execIllegalInstruction c parity s
  | .xstComplete c lat => Sys2Proof.Machine.execXstComplete c lat s
  | .sirlosLaneUp lane => Sys2Proof.Machine.execSirlosLaneUp lane s
  | .sirlosLaneDown lane => Sys2Proof.Machine.execSirlosLaneDown lane s
  | .macPauseExpiry d => Sys2Proof.Machine.execMacPauseExpiry d s

end Sys2Proof.Machine
end

