-- ==== Sys2Proof/Machine/Pins.lean ====
section
/-! DEFINITION. The levels of the output pins as the state gives them (16_pins_electrical.md, R378, R379; R293 to R300, R137, R244,
R288, R367). -/
namespace Sys2Proof.Machine

/-- What an output pin does: high impedance, high impedance with its internal pull-down, driven low, driven high, released (open
drain), or carrying a clock or data. -/
inductive PinLevel where
  | hiZ
  | pulledDown
  | low
  | high
  | released
  | active
deriving DecidableEq, Repr

/-- A pin of the VDD_IO33 bank that is driven to a level: with its bank unpowered it is at high impedance, its pull-down inactive
(R379). -/
def io33Pin (s : State) (level : Bool) : PinLevel := if !s.rst.io33 then .hiZ else if level then .high else .low

/-- LEASE_HB (R294, R297). -/
def leaseHbPin (s : State) : PinLevel := io33Pin s s.redun.hb
/-- ROLE_ACT (R293, R294). -/
def roleActPin (s : State) : PinLevel := io33Pin s s.redun.roleAct
/-- SYNC_OK: high exactly while SYNCED (R295). -/
def syncOkPin (s : State) : PinLevel := io33Pin s (s.redun.sync == 4)

/-- An open-drain pin. -/
def openDrain (s : State) (low : Bool) : PinLevel := if s.rst.io33 && low then .low else .released

/-- IRQ_N (R352, R367). -/
def irqPin (s : State) : PinLevel := openDrain s (irqLow s)
/-- SURF_IRQ_N: low while messages to the host wait for the surface port (R137); released in reset. -/
def surfIrqPin (s : State) : PinLevel :=
  openDrain s (s.rst.stage != .asserted && viaOn s .surface && (takeOut s .surface).isSome)

/-- PDM_CLK_k in the Ts in progress (R288, R300): `CLK_EN` clear drives it low. -/
def pdmClkPin (s : State) (k : Nat) : PinLevel :=
  if !isSet s R.F_PDM_CTL_EN || domHeld s 9 then .pulledDown
  else if !s.redun.enPrev then .hiZ
  else if (getF s R.F_PDM_CTL_CLK_EN).testBit k then .active else .low

/-- SPORT_p_DOUT in the frame in progress (R278, R300, R391): it carries the frame's slots, or is released. -/
def doutPin (s : State) (p : Nat) : PinLevel :=
  let x := getSp s p
  if x.out != [] then .active else if x.cur.isSome then .hiZ else .pulledDown

/-- SPORT_p_BCLK and SPORT_p_FS as outputs: those of a SYNC_MASTER port, in the Ts of a sample that the engine drives (R275, R300). -/
def bclkPin (s : State) (p : Nat) : PinLevel :=
  match syncCfg (getSp s p).cur with
  | some c => if ctlMode c.ctl != 0 then .pulledDown else if s.redun.enPrev then .active else .hiZ
  | none => .pulledDown

/-- WCK_OUT_k at time `t` in root cycles (R244, R378). -/
def wckPin (s : State) (k : Nat) (t : Int) : PinLevel :=
  if !isSet s (R.F_RCU_WCK_CFG_EN k) then io33Pin s false else io33Pin s (wckLevel s k t)

end Sys2Proof.Machine
end

