-- ==== Sys2Proof/Safety.lean ====
section
/-! DEFINITION. The terms that claims use: which part of the engine a command may change, which CSR words, and the invariant
that every step keeps. -/
namespace Sys2Proof.Machine

/-- The parts of the state, one per field of `State`. -/
inductive Part where
  | pending | csr | mem | freeCtr | sched | dsp | mix | flood | slu | hr | prf | cv | bus | cores | rcu | redun | rst | tally
  | net | ser | boot | tst
deriving DecidableEq, Repr

/-- A part is the same in two states. -/
def Part.same (p : Part) (s t : State) : Prop :=
  match p with
  | .pending => t.pending = s.pending
  | .csr => t.csr = s.csr
  | .mem => t.mem = s.mem
  | .freeCtr => t.freeCtr = s.freeCtr
  | .sched => t.sched = s.sched
  | .dsp => t.dsp = s.dsp
  | .mix => t.mix = s.mix
  | .flood => t.flood = s.flood
  | .slu => t.slu = s.slu
  | .hr => t.hr = s.hr
  | .prf => t.prf = s.prf
  | .cv => t.cv = s.cv
  | .bus => t.bus = s.bus
  | .cores => t.cores = s.cores
  | .rcu => t.rcu = s.rcu
  | .redun => t.redun = s.redun
  | .rst => t.rst = s.rst
  | .tally => t.tally = s.tally
  | .net => t.net = s.net
  | .ser => t.ser = s.ser
  | .boot => t.boot = s.boot
  | .tst => t.tst = s.tst

/-- `t` differs from `s` at most in the parts listed. -/
def Only (ps : List Part) (s t : State) : Prop := ∀ p : Part, p ∉ ps → p.same s t

/-- `t` differs from `s` at most in the CSR words at the listed offsets. -/
def csrOnly (offs : List Nat) (s t : State) : Prop := ∀ o : Nat, o ∉ offs → csrGet t o = csrGet s o

/-- The memory that Cage has saved for a set that may still be refused (R350) is canonical. -/
def Snap.wf (b : Boot) : Prop :=
  match b.snap with
  | some x => Memory.wf x.mem = true
  | none => True

/-- The invariant: the memory is in its canonical form, and so is the one that Cage has saved. -/
def State.Inv (s : State) : Prop := Memory.wf s.mem = true ∧ Snap.wf s.boot

/-- The instruction issues in the delay slot of an FX object's RET: after it the shell goes on (R189, R190). -/
def shellNext (k : Core) : Bool :=
  match k.obj with
  | some (_, _, back) => back
  | none => false

/-! Messages (06_headrace.md). -/

/-- A message of opcode `op` with body `b` arrives that passes the checks from CLASS to LENGTH, with nothing else waiting. -/
def Served (s : State) (h : Hdr) (op : Nat) (b : List Nat) : Prop :=
  answers s = true ∧ s.hr.rxQ = [] ∧ s.hr.waitAck = [] ∧ viaOn s h.src.via = true ∧ classAllowed op h.cls.toNat = true ∧
    h.len = b.length ∧ lenAllowed op h.len b = true

/-- The message carries the expected number of an open session, at an engine that takes new commands. -/
def Current (s : State) (h : Hdr) : Prop :=
  (getSession s h.session.toNat).isOpen = true ∧ h.seq.toNat = expectedOf s h ∧ 0 < h.seq.toNat ∧ h.seq.toNat < 2 ^ 48 - 1 ∧
    s.rst.stage ≠ .restart ∧ (s.redun.paired = true → s.redun.roleAct = true ∧ s.redun.role ≠ 3)

/-- `t` is `s` with the message refused by a NAK of an open session (R144): it is sent, counted and recorded; no number and no
journal position is consumed. -/
def Refused (s t : State) (h : Hdr) (code detail : Nat) : Prop :=
  t.hr.txQ = s.hr.txQ ++ [⟨h.src, message h.session.toNat h.cls.toNat 0x61 h.seq.toNat
    (beBytes 2 code ++ beBytes 2 0 ++ beBytes 4 detail ++ beBytes 6 (expectedOf s h) ++ beBytes 2 0 ++ beBytes 8 (nowIdx s))⟩] ∧
  getF t R.F_HEADRACE_NAK_CNT_NAK_CNT = min (getF s R.F_HEADRACE_NAK_CNT_NAK_CNT + 1) 0xFFFFFFFF ∧
  isSet t R.F_HEADRACE_STAT_NAK_S = true ∧ getF t R.F_HEADRACE_LAST_NAK_CODE = code ∧
  getF t R.F_HEADRACE_LAST_NAK_SESSION = h.session.toNat ∧ t.hr.jhead = s.hr.jhead ∧ t.hr.waitAck = s.hr.waitAck ∧
  ∀ k : Nat, (getSession t k).norm = (getSession s k).norm ∧ (getSession t k).urg = (getSession s k).urg

/-- `t` is `s` with a command accepted at index `n` for a requested `r` (R149): its entries stand in the journal at the next
positions and no byte outside the journal changes; its ACK is sent, or waits for the peer where the entries are mirrored. -/
def Accepted (s t : State) (h : Hdr) (op n r : Nat) (urgent : Bool) (b : List Nat) : Prop :=
  let j := s.hr.jhead + 1
  let moved := r != 0 && decide (r < n) && !urgent
  let a : AckRec := ⟨h.seq.toNat, j, n, r, moved, urgent, !isSynced s, []⟩
  let es := entriesOf h.cls.toNat h.session.toNat op h.seq.toNat b.length n j (entryFlags urgent moved (isSynced s) false) b
  t.hr.jhead = s.hr.jhead + es.length ∧
  (∀ k < es.length, readBytes t (journalAddr (j + k)) 32 = es.getD k []) ∧
  (∀ x : Nat, x < 0x4400000 ∨ 0x4600000 ≤ x → readByte t x = readByte s x) ∧
  (mirrors s = false → t.hr.waitAck = s.hr.waitAck ∧
    t.hr.txQ = s.hr.txQ ++ [⟨h.src, message h.session.toNat h.cls.toNat 0x60 h.seq.toNat (ackBody a false)⟩]) ∧
  (mirrors s = true → t.hr.txQ = s.hr.txQ ∧
    t.hr.waitAck = s.hr.waitAck ++ [⟨j + es.length - 1, h.src, h.session.toNat, h.cls.toNat, a, []⟩])

/-- Master `m` may read and write the Reservoir banks from `lo` to below `hi` (R202), and no stored word of the engine holds an
error. -/
def BanksOpen (s : State) (lo hi m : Nat) : Prop :=
  s.bus.ecc = [] ∧ ∀ b : Nat, lo ≤ b → b < hi → bankAdmits s b m true = true ∧ bankAdmits s b m false = true

/-- The journal's banks, 136 to 139, take Headrace's accesses. -/
def JournalOpen (s : State) : Prop := BanksOpen s 136 140 16

/-- The PSTORE banks, 128 to 135, and the scene buffer's, 140 to 143, take the Sluice's accesses. -/
def PstoreOpen (s : State) : Prop := BanksOpen s 128 136 5
def SceneBufOpen (s : State) : Prop := BanksOpen s 140 144 5

/-- The command's number is consumed in its space, which keeps its record first. -/
def Advanced (s t : State) (h : Hdr) : Prop :=
  (spaceOf (getSession t h.session.toNat) h.cls.toNat).exp = expectedOf s h + 1 ∧
  (∃ a l, (spaceOf (getSession t h.session.toNat) h.cls.toNat).acks = a :: l ∧ a.seq = h.seq.toNat ∧ a.jpos = s.hr.jhead + 1) ∧
  ∀ k : Nat, k ≠ h.session.toNat → getSession t k = getSession s k

end Sys2Proof.Machine
end

