-- ==== Sys2Proof/Certificates/Slice0/Obligations.lean ====
section
/-! DEFINITION. The statements for the provers. Each is about one step of the engine, or about one operation; each command's
statement says which state it answers: what it writes, and that nothing else changes. -/
open Sys2Proof Sys2Proof.Machine

/-- A step takes the oldest waiting command and runs it on the engine with the rest of the queue. With nothing waiting it
idles, which is the model's choice (log entry 1). -/
def Obligations.StepRunsTheFrontCommand : Prop :=
  (∀ (c : Instr) (rest : List Instr) (s : State), s.pending = c :: rest → step s = exec c { s with pending := rest }) ∧
  (∀ s : State, s.pending = [] → step s = .next s)

/-- What the reset state holds. That the machine starts with the reset asserted is the model's choice (log entry 2). -/
def Obligations.ResetState : Prop :=
  State.reset.pending = [] ∧ State.reset.sched.idx = 0 ∧ State.reset.sched.running = false ∧ State.reset.flood.g = 0 ∧
  State.reset.flood.closed = false ∧ State.reset.rst.stage = .asserted ∧ State.reset.rst.coresHeld = true ∧
  State.reset.slu.groups = [] ∧ (∀ a : Nat, a < 0x0400000000 → readByte State.reset a = 0) ∧
  (∀ o : Nat, csrGet State.reset o = csrReset o) ∧ (∀ k : Nat, (getSession State.reset k).isOpen = false) ∧
  (∀ c : Nat, (getCore State.reset c).held = true)

/-- The invariant of `Safety.lean` holds right after reset. -/
def Obligations.ResetMeetsInvariant : Prop := State.reset.Inv

/-- From any state whose memory is canonical, whatever waits in the queue, a step ends in a next state whose memory is canonical. -/
def Obligations.StepKeepsInvariant : Prop := ∀ s : State, s.Inv → ∃ t : State, step s = .next t ∧ t.Inv

/-- No command faults or is refused, and none touches the queue. -/
def Obligations.ExecCompletesAndKeepsQueue : Prop :=
  ∀ (c : Instr) (s : State), ∃ t : State, exec c s = .next t ∧ t.pending = s.pending

/-- R5 and R3. -/
def Obligations.UnassignedRegisters : Prop :=
  (∀ (o : Origin) (off : Nat) (v : Word) (cyc : Nat) (s : State), regAt (off - off % 4) = none →
    exec (.registerWrite o off v) s = .next s ∧ csrRead s off cyc = (0, s)) ∧
  (∀ off : Nat, 0x1B0000 ≤ off → off ≤ 0x1FFFFF → regAt (off - off % 4) = none) ∧
  (∀ (o : Origin) (off : Nat) (v : Word) (cyc : Nat) (s : State),
    exec (.registerWrite o off v) s = exec (.registerWrite o (off - off % 4) v) s ∧
    csrRead s off cyc = csrRead s (off - off % 4) cyc)

/-- The register types of 00_scope.md and R4, for the blocks all of whose registers follow them. -/
def Obligations.WriteByFieldType : Prop :=
  ∀ (o : Origin) (off : Nat) (v : Word) (d : RegDef) (s : State), off % 4 = 0 → regAt off = some d → s.bus.csrHung = false →
    off / 0x10000 ∈ [0x00, 0x04, 0x06, 0x07, 0x11, 0x12, 0x16, 0x1A] →
    ∃ t : State, exec (.registerWrite o off v) s = .next t ∧ Only [.csr] s t ∧ csrOnly [off] s t ∧
      (∀ f ∈ d.fields,
        let x := bits v.toNat f.hi f.lo
        let old := bits (csrGet s off).toNat f.hi f.lo
        bits (csrGet t off).toNat f.hi f.lo =
          match f.ty with
          | .ro => old
          | .rw => x
          | .rwp => x
          | .w1c => old - (old &&& x)
          | .w1s => old ||| x
          | .wo => 0
          | .cnt => 0) ∧
      (∀ i : Nat, (∀ f ∈ d.fields, i < f.lo ∨ f.hi < i) → (csrGet t off).getLsbD i = false)

/-- R53. -/
def Obligations.LowWordReadsCapture : Prop :=
  (∀ q ∈ [(Instr.floodCloseIdxLoRead, R.FLOOD_CLOSE_IDX_LO, fun s : State => s.flood.closeIdx),
      (.sluiceHeadIdxLoRead, R.SLUICE_HEAD_IDX_LO, headIdx),
      (.sluiceTailIdxLoRead, R.SLUICE_TAIL_IDX_LO, tailIdx),
      (.sluiceLastFlipLoRead, R.SLUICE_LAST_FLIP_LO, fun s => s.slu.lastFlip),
      (.headraceJheadLoRead, R.HEADRACE_JHEAD_LO, fun s => s.hr.jhead),
      (.headraceJappliedLoRead, R.HEADRACE_JAPPLIED_LO, fun s => s.hr.jappl),
      (.rcuSwitchIdxLoRead, R.RCU_SWITCH_IDX_LO, fun s => s.rcu.switchIdx),
      (.streamTmcLoRead, R.STREAM_TMC_LO, fun s => s.tally.tmc),
      (.redunDivIdxLoRead, R.REDUN_DIV_IDX_LO, fun s => s.redun.divIdx),
      (.redunHashLoRead, R.REDUN_HASH_LO, fun s => s.redun.hash)], ∀ s : State,
    ∃ t : State, exec q.1 s = .next t ∧ Only [.csr, .bus] s t ∧ csrOnly [q.2.1 + 4] s t ∧
      t.bus.rdata = [(16, leBytes 4 (q.2.2 s % 2 ^ 32), false)] ∧
      csrGet t (q.2.1 + 4) = BitVec.ofNat 32 (q.2.2 s / 2 ^ 32)) ∧
  (∀ s : State, ∃ t : State, exec .schedIdxLoRead s = .next t ∧ Only [.csr, .bus] s t ∧
      csrOnly [R.SCHED_IDX_HI, R.SCHED_TICK_SEC_LO, R.SCHED_TICK_SEC_HI, R.SCHED_TICK_NS] s t ∧
      t.bus.rdata = [(16, leBytes 4 (s.sched.idx.toNat % 2 ^ 32), false)] ∧
      csrGet t R.SCHED_IDX_HI = BitVec.ofNat 32 (s.sched.idx.toNat / 2 ^ 32) ∧
      csrGet t R.SCHED_TICK_SEC_LO = BitVec.ofNat 32 s.sched.tickSec ∧
      csrGet t R.SCHED_TICK_SEC_HI = BitVec.ofNat 32 (s.sched.tickSec / 2 ^ 32 % 65536) ∧
      csrGet t R.SCHED_TICK_NS = BitVec.ofNat 32 s.sched.tickNs)

/-- R261, R292 and R265. -/
def Obligations.CapturingReads : Prop :=
  (∀ (cyc : Nat) (s : State), ∃ t : State, exec (.tallySecLoRead cyc) s = .next t ∧ Only [.csr, .bus] s t ∧
      csrOnly [R.TALLY_SEC_HI, R.TALLY_NS, R.TALLY_FRAC] s t ∧
      t.bus.rdata = [(16, leBytes 4 ((tallyAt s cyc).sec % 2 ^ 32), false)] ∧
      csrGet t R.TALLY_SEC_HI = BitVec.ofNat 32 ((tallyAt s cyc).sec / 2 ^ 32 % 65536) ∧
      csrGet t R.TALLY_NS = BitVec.ofNat 32 (tallyAt s cyc).ns ∧
      csrGet t R.TALLY_FRAC = BitVec.ofNat 32 (tallyAt s cyc).frac) ∧
  (∀ (k : Nat) (s : State), k < 3 → ∃ t : State, exec (.pdmCaptIdxRead k) s = .next t ∧ Only [.csr, .bus] s t ∧
      csrOnly [R.PDM_CAPT_SEC_LO k, R.PDM_CAPT_SEC_HI k, R.PDM_CAPT_NS k] s t ∧
      let c := smapGet (0, 0, 0, 0) s.ser.pdm.capt k
      t.bus.rdata = [(16, leBytes 4 (c.1 % 2 ^ 32), false)] ∧
      csrGet t (R.PDM_CAPT_SEC_LO k) = BitVec.ofNat 32 c.2.1 ∧
      csrGet t (R.PDM_CAPT_SEC_HI k) = BitVec.ofNat 32 (c.2.1 / 2 ^ 32 % 65536 + 65536 * c.2.2.1) ∧
      csrGet t (R.PDM_CAPT_NS k) = BitVec.ofNat 32 c.2.2.2) ∧
  (∀ (p : Nat) (e : Nat × Nat × Nat) (q : List (Nat × Nat × Nat)) (s : State), p < 5 → (getPort s p).tsq = e :: q →
    ∃ t : State, exec (.macTsqNsRead p) s = .next t ∧ Only [.net, .bus] s t ∧
      t.bus.rdata = [(16, leBytes 4 e.2.2, false)] ∧ (getPort t p).tsq = q ∧ (∀ p' : Nat, p' ≠ p → getPort t p' = getPort s p'))

/-- R54 and R23. -/
def Obligations.SchedControlWrites : Prop :=
  (∀ (v : Word) (s : State), isSet s R.F_SCHED_CTL_RUN = false → bits v.toNat 5 4 ≠ rateCode s → v.toNat % 4 = 0 →
    ∃ t : State, exec (.schedRateWrite v) s = .next t ∧ Only [.csr, .ser] s t ∧ rateCode t = bits v.toNat 5 4 ∧
      getF t R.F_SCHED_CTL_STUCK_LIMIT = bits v.toNat 23 16 ∧ getF t R.F_SCHED_CTL_RUN = 0 ∧
      (∀ x ∈ winRegs.zip (winDefault (bits v.toNat 5 4)), csrGet t x.1 = BitVec.ofNat 32 (x.2 * 65536 + x.2)) ∧
      (∀ o : Nat, o / 0x10000 ∉ [0x03, 0x10, 0x11] → (∀ k < 4, o ≠ R.RCU_WCK_STAT k) → csrGet t o = csrGet s o)) ∧
  (∀ (v : Word) (s : State), isSet s R.F_SCHED_CTL_RUN = true → bits v.toNat 5 4 ≠ rateCode s → v.toNat % 4 = 1 →
    ∃ t : State, exec (.schedRateWrite v) s = .next t ∧ Only [.csr] s t ∧ csrOnly [R.SCHED_CTL, R.SCHED_STAT] s t ∧
      rateCode t = rateCode s ∧ isSet t R.F_SCHED_STAT_RATE_REJ_S = true ∧
      getF t R.F_SCHED_CTL_STUCK_LIMIT = bits v.toNat 23 16 ∧ isSet t R.F_SCHED_CTL_RUN = true) ∧
  (∀ (v : Word) (s : State), isSet s R.F_SCHED_CTL_RUN = false → bits v.toNat 5 4 = rateCode s → v.toNat.testBit 1 = false →
    ∃ t : State, exec (.schedRunSet v) s = .next t ∧ Only [.csr] s t ∧ csrOnly [R.SCHED_CTL, R.SCHED_STAT] s t ∧
      getF t R.F_SCHED_CTL_STUCK_LIMIT = bits v.toNat 23 16 ∧ rateCode t = rateCode s ∧
      if rateFamily (rateCode s) = getF s R.F_RCU_STAT_FAMILY then
        isSet t R.F_SCHED_CTL_RUN = true ∧ csrGet t R.SCHED_STAT = csrGet s R.SCHED_STAT
      else isSet t R.F_SCHED_CTL_RUN = false ∧ isSet t R.F_SCHED_STAT_FAMILY_MISMATCH_S = true) ∧
  (∀ (v : Word) (s : State), s.redun.paired = false → isSet s R.F_SCHED_CTL_RUN = true → bits v.toNat 5 4 = rateCode s →
    v.toNat.testBit 1 = false →
    ∃ t : State, exec (.schedRunClear v) s = .next t ∧ Only [.csr] s t ∧ csrOnly [R.SCHED_CTL] s t ∧
      isSet t R.F_SCHED_CTL_RUN = false ∧ rateCode t = rateCode s ∧ getF t R.F_SCHED_CTL_STUCK_LIMIT = bits v.toNat 23 16)

/-- R26 and R27. -/
def Obligations.WindowArm : Prop :=
  (∀ (v : Word) (s : State), isSet s R.F_SCHED_CTL_RUN = true → bits v.toNat 5 4 = rateCode s → v.toNat.testBit 0 = true →
    ∃ t : State, exec (.schedWinArm v) s = .next t ∧ Only [.csr, .sched] s t ∧ csrOnly [R.SCHED_CTL, R.SCHED_STAT] s t ∧
      isSet t R.F_SCHED_CTL_WIN_ARM = true ∧ isSet t R.F_SCHED_CTL_RUN = true ∧
      if s.sched.idx.toNat < winIdx s then
        t.sched = { s.sched with arm := some (winIdx s) } ∧ csrGet t R.SCHED_STAT = csrGet s R.SCHED_STAT
      else t.sched = { s.sched with arm := some ((s.sched.idx.toNat + 1) % 2 ^ 64) } ∧ isSet t R.F_SCHED_STAT_WIN_LATE_S = true) ∧
  (∀ (v : Word) (s : State), isSet s R.F_SCHED_CTL_RUN = false → bits v.toNat 5 4 = rateCode s → v.toNat.testBit 0 = false →
    ∃ t : State, exec (.schedWinArm v) s = .next t ∧ Only [.csr] s t ∧ csrOnly [R.SCHED_CTL, R.SCHED_STAT] s t ∧
      isSet t R.F_SCHED_STAT_WIN_CANCEL_S = true ∧ getF t R.F_SCHED_CTL_WIN_ARM = getF s R.F_SCHED_CTL_WIN_ARM ∧
      isSet t R.F_SCHED_CTL_RUN = false)

/-- R95 and R96: `pinActive` is the PIN source, `seen` its activity since the latest tick. -/
def Obligations.MutePin : Prop :=
  (∀ (high : Bool) (s : State), ∃ t : State, exec (.muteNChange high) s = .next t ∧ Only [.csr, .flood] s t ∧
      csrOnly [R.FLOOD_HIST] s t ∧ t.flood.pin = high ∧
      t.flood.latch = (s.flood.latch || (!high && isSet s R.F_FLOOD_CTL_PIN_LATCH)) ∧
      t.flood.seen = (s.flood.seen || pinActive t || pinActive s) ∧ t.flood.g = s.flood.g ∧ t.flood.closed = s.flood.closed ∧
      t.flood.fault = s.flood.fault ∧ t.flood.closeIdx = s.flood.closeIdx ∧
      (pinActive t = true → pinActive s = false → isSet t R.F_FLOOD_HIST_PIN_S = true)) ∧
  (∀ (v : Word) (s : State), ∃ t : State, exec (.floodPinLatchWrite v) s = .next t ∧ Only [.csr, .flood] s t ∧
      csrOnly [R.FLOOD_CTL, R.FLOOD_HIST] s t ∧ isSet t R.F_FLOOD_CTL_PIN_LATCH = v.toNat.testBit 0 ∧ t.flood.pin = s.flood.pin ∧
      t.flood.latch = (v.toNat.testBit 0 && (!s.flood.pin || (s.flood.latch && !v.toNat.testBit 1))) ∧
      t.flood.seen = (s.flood.seen || pinActive t || pinActive s) ∧ t.flood.g = s.flood.g ∧ t.flood.closed = s.flood.closed ∧
      (pinActive t = true → pinActive s = false → isSet t R.F_FLOOD_HIST_PIN_S = true)) ∧
  (∀ s : State, ∃ t : State, exec .floodPinRel s = .next t ∧ Only [.csr, .flood] s t ∧ csrOnly [R.FLOOD_CTL, R.FLOOD_HIST] s t ∧
      getF t R.F_FLOOD_CTL_PIN_LATCH = getF s R.F_FLOOD_CTL_PIN_LATCH ∧ t.flood.pin = s.flood.pin ∧
      t.flood.latch = (!s.flood.pin && isSet s R.F_FLOOD_CTL_PIN_LATCH) ∧ t.flood.g = s.flood.g ∧ t.flood.closed = s.flood.closed)

/-- R168, R176 and R178. `k` is the core as it issues, with the results due in its slot. -/
def Obligations.MintalVectorResults : Prop :=
  ∀ q ∈ ([(Instr.mov, 2, false, fun k x i => vLane k x.a.toNat i),
      (.add, 2, true, fun k x i => vLane k x.a.toNat i + vLane k x.b.toNat i),
      (.sub, 2, true, fun k x i => vLane k x.a.toNat i - vLane k x.b.toNat i),
      (.neg, 2, true, fun k x i => -vLane k x.a.toNat i),
      (.abs, 2, true, fun k x i => ((vLane k x.a.toNat i).natAbs : Int)),
      (.min, 2, false, fun k x i => if vLane k x.a.toNat i ≤ vLane k x.b.toNat i then vLane k x.a.toNat i else vLane k x.b.toNat i),
      (.max, 2, false, fun k x i => if vLane k x.a.toNat i ≤ vLane k x.b.toNat i then vLane k x.b.toNat i else vLane k x.a.toNat i),
      (.shl, 2, true, fun k x i => vLane k x.a.toNat i * ((2 ^ (if 39 < x.e.toNat then 39 else x.e.toNat) : Nat) : Int)),
      (.shr, 2, false, fun k x i => vLane k x.a.toNat i / ((2 ^ (if 39 < x.e.toNat then 39 else x.e.toNat) : Nat) : Int)),
      (.and, 2, false, fun k x i => sext 40 (lowBits 40 (vLane k x.a.toNat i) &&& lowBits 40 (vLane k x.b.toNat i))),
      (.or, 2, false, fun k x i => sext 40 (lowBits 40 (vLane k x.a.toNat i) ||| lowBits 40 (vLane k x.b.toNat i))),
      (.xor, 2, false, fun k x i => sext 40 (lowBits 40 (vLane k x.a.toNat i) ^^^ lowBits 40 (vLane k x.b.toNat i))),
      (.cmpge, 2, false, fun k x i => if vLane k x.b.toNat i ≤ vLane k x.a.toNat i then -1 else 0),
      (.rot, 2, false, fun k x i => vLane k x.a.toNat ((i + x.e.toNat % 8) % 8)),
      (.bcast, 2, false, fun k x _ => vLane k x.a.toNat (x.e.toNat % 8)),
      (.mpyl, 4, true, fun k x i => vLane k x.a.toNat i * vLane k x.b.toNat i / ((2 ^ 31 : Nat) : Int)),
      (.ext, 2, true, fun k x i => accLane k (x.e.toNat % 4) i / ((2 ^ (31 + x.e.toNat / 4) : Nat) : Int))] :
      List ((Nat → Arith → Instr) × Nat × Bool × (Core → Arith → Nat → Int))),
    ∀ (c : Nat) (x : Arith) (s : State) (k : Core), begin? s c = some k → badMoves x = false → shellNext k = false →
      ∃ t : State, exec (q.1 c x) s = .next t ∧ Only [.csr, .mem, .bus, .cores, .redun] s t ∧
        (∀ c' : Nat, c' ≠ c → getCore t c' = getCore s c') ∧
        ⟨k.slot + q.2.1, .v x.d.toNat 0, tabulate 8 (fun i =>
          if q.2.2.1 then (if x.s then satInt 40 (q.2.2.2 k x i) else wrapInt 40 (q.2.2.2 k x i)) else q.2.2.2 k x i)⟩
          ∈ (getCore t c).flight ∧
        (q.2.2.1 = true → x.s = true → (∃ i < 8, satInt 40 (q.2.2.2 k x i) ≠ q.2.2.2 k x i) → stBits (getCore t c) 1 1 = 1) ∧
        (getCore t c).slot = k.slot + 1 ∧ (getCore t c).branch = none ∧
        (k.skip = none → (getCore t c).pc = k.branch.getD ((k.pc + 1) % 4096)) ∧
        (getCore t c).v = k.v ∧ (getCore t c).acc = k.acc ∧ (∀ r : Nat, r ≠ 52 → regVal (getCore t c) r = regVal k r)

/-- R168, R169, R176 and R178. -/
def Obligations.MintalAccumulatorResults : Prop :=
  (∀ q ∈ ([(Instr.mpy, 4, false, fun k x i => vLane k x.a.toNat i * vLane k x.b.toNat i),
      (.mac, 4, true, fun k x i => chainLane k (x.e.toNat % 4) i + vLane k x.a.toNat i * vLane k x.b.toNat i),
      (.msu, 4, true, fun k x i => chainLane k (x.e.toNat % 4) i - vLane k x.a.toNat i * vLane k x.b.toNat i),
      (.aclr, 2, false, fun _ _ _ => 0),
      (.aload, 2, false, fun k x i => vLane k x.a.toNat i * 2147483648)] :
      List ((Nat → Arith → Instr) × Nat × Bool × (Core → Arith → Nat → Int))),
    ∀ (c : Nat) (x : Arith) (s : State) (k : Core), begin? s c = some k → badMoves x = false → shellNext k = false →
      ∃ t : State, exec (q.1 c x) s = .next t ∧ Only [.csr, .mem, .bus, .cores, .redun] s t ∧
        (∀ c' : Nat, c' ≠ c → getCore t c' = getCore s c') ∧
        ⟨k.slot + q.2.1, .acc (x.e.toNat % 4), tabulate 8 (fun i => wrapInt 80 (q.2.2.2 k x i))⟩ ∈ (getCore t c).flight ∧
        (∀ i < 8, chainLane (getCore t c) (x.e.toNat % 4) i = wrapInt 80 (q.2.2.2 k x i)) ∧
        (∀ a i : Nat, a ≠ x.e.toNat % 4 → i < 8 → chainLane (getCore t c) a i = chainLane k a i) ∧
        (q.2.2.1 = true → (∃ i < 8, satInt 80 (q.2.2.2 k x i) ≠ q.2.2.2 k x i) → stBits (getCore t c) 2 2 = 1) ∧
        (getCore t c).v = k.v ∧ (getCore t c).acc = k.acc ∧ (getCore t c).slot = k.slot + 1) ∧
  (∀ (c : Nat) (x : Arith) (s : State) (k : Core), begin? s c = some k → badMoves x = false → shellNext k = false →
      ∃ t : State, exec (.ahsum c x) s = .next t ∧ Only [.csr, .mem, .bus, .cores, .redun] s t ∧
        (∀ c' : Nat, c' ≠ c → getCore t c' = getCore s c') ∧
        ⟨k.slot + 4, .sum (x.e.toNat % 4), tabulate 8 (fun i => if i = 0 then
          wrapInt 80 ((List.range 8).foldl (fun y j => y + accLane k (x.e.toNat % 4) j) 0) else 0)⟩ ∈ (getCore t c).flight ∧
        (getCore t c).v = k.v ∧ (getCore t c).acc = k.acc ∧ (getCore t c).chain = k.chain ∧ (getCore t c).slot = k.slot + 1)

/-- R164, R165 and R168. `A` is the address a move accesses. -/
def Obligations.MintalMoves : Prop :=
  (∀ q ∈ ([Instr.nop, .mov, .add, .sub, .neg, .abs, .min, .max, .shl, .shr, .and, .or, .xor, .cmpge, .rot, .bcast, .mpy, .mac, .msu,
      .mpyl, .ext, .aclr, .aload, .ahsum] : List (Nat → Arith → Instr)),
    ∀ (c : Nat) (x : Arith) (s : State) (k : Core), begin? s c = some k → badMoves x = false →
      ∃ t : State, exec (q c x) s = .next t ∧
        ∀ a : Nat, (∀ m ∈ [(0, x.mx), (1, x.my), (2, x.mc)], moveKind m.2 = 2 →
            let sp := fmtSpan m.2.fmt.toNat (regVal k (moveReg m.1 m.2))
            a < spAddr c sp.1 ∨ spAddr c sp.1 + sp.2 ≤ a) → readByte t a = readByte s a) ∧
  (∀ (c : Nat) (x : Arith) (s : State) (k : Core), begin? s c = some k → moveKind x.my = 0 → moveKind x.mc = 0 →
      moveKind x.mx ≠ 3 → shellNext k = false →
      ∃ t : State, exec (.nop c x) s = .next t ∧ Only [.csr, .mem, .bus, .cores, .redun] s t ∧
        (∀ c' : Nat, c' ≠ c → getCore t c' = getCore s c') ∧ (getCore t c).v = k.v ∧ (getCore t c).acc = k.acc ∧
        let f := x.mx.fmt.toNat
        let sp := fmtSpan f (regVal k x.mx.ar.toNat)
        (moveKind x.mx = 0 → t.mem = s.mem ∧ (getCore t c).flight = k.flight) ∧
        (moveKind x.mx = 2 → readBytes t (spAddr c sp.1) sp.2 = (storeBytes f (vLane k x.mx.v.toNat)).1) ∧
        (moveKind x.mx = 1 → t.mem = s.mem ∧ (s.bus.ecc = [] →
          ⟨k.slot + 3, .v x.mx.v.toNat (loadLanes f (readBytes s (spAddr c sp.1) sp.2)).1,
            (loadLanes f (readBytes s (spAddr c sp.1) sp.2)).2⟩ ∈ (getCore t c).flight)) ∧
        (moveKind x.mx ≠ 0 → x.mx.md ≠ 0 →
          ⟨k.slot + 1, .reg x.mx.ar.toNat, [(postMod k x.mx.ar.toNat x.mx.md.toNat 4 32 : Nat)]⟩ ∈ (getCore t c).flight))

/-- R168 and R170, of `landed`, the operation that every issue applies first. -/
def Obligations.ResultsLand : Prop :=
  (∀ (k : Core) (n r lane : Nat) (vals : List Int), k.flight = [⟨n, .v r lane, vals⟩] →
    (n ≤ k.slot → (landed k).flight = [] ∧ (∀ i < vals.length, vLane (landed k) r (lane + i) = vals.getD i 0) ∧
      (∀ j : Nat, (j < 8 * r + lane ∨ 8 * r + lane + vals.length ≤ j) → smapGet 0 (landed k).v j = smapGet 0 k.v j)) ∧
    (k.slot < n → landed k = k)) ∧
  (∀ (k : Core) (n r : Nat) (x y : Int), k.flight = [⟨n, .reg r, [x]⟩, ⟨n, .reg r, [y]⟩] → n ≤ k.slot →
    regVal (landed k) r = regFit r (lowBits 32 y))

/-- R163 and R179. -/
def Obligations.MintalRegisterMoves : Prop :=
  ∀ (c : Nat) (s : State) (k : Core), begin? s c = some k → atLoopEnd k k.pc = false → shellNext k = false →
    let Good := fun (i : Instr) (f : Flight) => ∃ t : State, exec i s = .next t ∧ Only [.csr, .cores] s t ∧
      csrOnly [R.MINTAL_PC c, R.MINTAL_CTL c, R.MINTAL_STAT c] s t ∧ (∀ c' : Nat, c' ≠ c → getCore t c' = getCore s c') ∧
      (getCore t c).flight = k.flight ++ [f] ∧ (getCore t c).v = k.v ∧ (getCore t c).acc = k.acc ∧ (getCore t c).regs = k.regs ∧
      (getCore t c).slot = k.slot + 1 ∧ (k.skip = none → (getCore t c).pc = k.branch.getD ((k.pc + 1) % 4096))
    let Bad := fun (i : Instr) => ∃ t : State, exec i s = .next t ∧ Only [.csr, .cores] s t ∧
      isSet t (R.F_MINTAL_STAT_ILL_S c) = true ∧
      (stHnd k = false → getCore t c = { k with fault := some 2 })
    (∀ (r : BitVec 6) (imm : BitVec 32), if r.toNat ≤ 55 then Good (.ldi c r imm) ⟨k.slot + 2, .reg r.toNat, [(imm.toNat : Int)]⟩
      else Bad (.ldi c r imm)) ∧
    (∀ dst src : BitVec 6, if dst.toNat ≤ 55 ∧ src.toNat ≤ 56 then
      Good (.movr c dst src) ⟨k.slot + 2, .reg dst.toNat, [regRead s k src.toNat]⟩ else Bad (.movr c dst src)) ∧
    (∀ (v : BitVec 4) (src : BitVec 6), if src.toNat ≤ 56 then
      Good (.movcv c v src) ⟨k.slot + 2, .v v.toNat 0, [regRead s k src.toNat, 0, 0, 0, 0, 0, 0, 0]⟩ else Bad (.movcv c v src)) ∧
    (∀ (dst : BitVec 6) (v : BitVec 4), if dst.toNat ≤ 55 then
      Good (.movvc c dst v) ⟨k.slot + 2, .reg dst.toNat, [vLane k v.toNat 0]⟩ else Bad (.movvc c dst v)) ∧
    (∀ (v : BitVec 4) (imm : BitVec 32),
      Good (.vldi c v imm) ⟨k.slot + 2, .v v.toNat 0, List.replicate 8 (sext 32 imm.toNat)⟩) ∧
    regRead s k 56 = ((s.sched.idx.toNat % 2 ^ 32 : Nat) : Int)

/-- R171 to R173, R175 and R190. The last clause is the delay slot of an object's RET: the shell calls the object in the core's next
position, and the values of the registers that R190 does not name are free. -/
def Obligations.MintalControlFlow : Prop :=
  (∀ (c : Nat) (s : State) (k : Core), begin? s c = some k → atLoopEnd k k.pc = false → k.skip = none → shellNext k = false →
    let Goes := fun (i : Instr) (br : Option Nat) => ∃ t : State, exec i s = .next t ∧ Only [.csr, .cores] s t ∧
      csrOnly [R.MINTAL_PC c, R.MINTAL_CTL c, R.MINTAL_STAT c] s t ∧ (∀ c' : Nat, c' ≠ c → getCore t c' = getCore s c') ∧
      (getCore t c).branch = br ∧ (getCore t c).pc = k.branch.getD ((k.pc + 1) % 4096) ∧ (getCore t c).flight = k.flight ∧
      (getCore t c).v = k.v ∧ (getCore t c).acc = k.acc ∧ (∀ r : Nat, r ≠ 53 → regVal (getCore t c) r = regVal k r)
    (∀ (cond vr : BitVec 4) (a : BitVec 12),
      (condHolds cond.toNat (vLane k vr.toNat 0) = some false → Goes (.br c cond vr a) none) ∧
      (condHolds cond.toNat (vLane k vr.toNat 0) = some true → branchOk k a.toNat = true → Goes (.br c cond vr a) (some a.toNat)) ∧
      (5 ≤ cond.toNat → ∃ t : State, exec (.br c cond vr a) s = .next t ∧ isSet t (R.F_MINTAL_STAT_ILL_S c) = true)) ∧
    (∀ a : BitVec 12, branchOk k a.toNat = true → Goes (.call c a) (some a.toNat) ∧
      ∃ t : State, exec (.call c a) s = .next t ∧ regVal (getCore t c) 53 = (k.pc + 2) % 4096) ∧
    (inBody k k.pc = false → Goes (.ret c) (some (regVal k 53)))) ∧
  (∀ (c : Nat) (count : BitVec 16) (csrc : Bool) (nsel : BitVec 4) (soff : BitVec 3) (e : BitVec 12) (s : State) (k : Core),
    begin? s c = some k → atLoopEnd k k.pc = false → shellNext k = false →
    let n := if csrc then regVal k (12 + nsel.toNat) % 65536 else count.toNat
    let legal := k.pc + 1 + soff.toNat ≤ e.toNat ∧ (stLvl k = 1 → e.toNat < loopEnd k 0) ∧ (csrc = true → nsel.toNat < 12)
    ∃ t : State, exec (.loop c count csrc nsel soff e) s = .next t ∧ Only [.csr, .cores] s t ∧
      (∀ c' : Nat, c' ≠ c → getCore t c' = getCore s c') ∧ (getCore t c).v = k.v ∧ (getCore t c).acc = k.acc ∧
      (stLvl k < 2 → legal → 0 < n → stLvl (getCore t c) = stLvl k + 1 ∧ stBits (getCore t c) 6 6 = 0 ∧
        loopStart (getCore t c) (stLvl k) = k.pc + 1 + soff.toNat ∧ loopEnd (getCore t c) (stLvl k) = e.toNat ∧
        loopCnt (getCore t c) (stLvl k) = n) ∧
      (stLvl k < 2 → legal → n = 0 → stLvl (getCore t c) = stLvl k ∧ stBits (getCore t c) 6 6 = 0 ∧
        loopStart (getCore t c) (stLvl k) = k.pc + 1 + soff.toNat ∧ loopEnd (getCore t c) (stLvl k) = e.toNat ∧
        loopCnt (getCore t c) (stLvl k) = 0 ∧
        (if soff.toNat = 0 then (getCore t c).pc = (e.toNat + 1) % 4096
         else (getCore t c).skip = some (k.pc + soff.toNat, (e.toNat + 1) % 4096))) ∧
      (stLvl k = 2 → stHnd k = false → (getCore t c).fault = some 3 ∧ isSet t (R.F_MINTAL_STAT_NEST_S c) = true) ∧
      (stLvl k < 2 → ¬ legal → isSet t (R.F_MINTAL_STAT_ILL_S c) = true ∧ (getCore t c).pc = k.pc)) ∧
  (∀ (c l : Nat) (s : State), c < 64 → (getCore s c).loopDue = true → innermost (getCore s c) = some l → l < 2 →
    let k := getCore s c
    loopCnt k l < 65536 →
    ∃ t : State, exec (.loopBack c) s = .next t ∧ Only [.cores] s t ∧ (∀ c' : Nat, c' ≠ c → getCore t c' = getCore s c') ∧
      (getCore t c).loopDue = false ∧ (getCore t c).v = k.v ∧ (getCore t c).acc = k.acc ∧
      (1 < loopCnt k l → regVal (getCore t c) (48 + l) = loopCnt k l - 1 ∧ stLvl (getCore t c) = stLvl k ∧
        (k.pc = (loopEnd k l + 1) % 4096 → (getCore t c).pc = loopStart k l)) ∧
      (loopCnt k l ≤ 1 → regVal (getCore t c) (48 + l) = 0 ∧ stLvl (getCore t c) = l ∧
        (k.pc = (loopEnd k l + 1) % 4096 → (getCore t c).pc = (loopEnd k l + 1) % 4096))) ∧
  (∀ (c j ra : Nat) (v : BitVec 4) (imm : BitVec 32) (s : State) (k : Core), begin? s c = some k → k.obj = some (j, ra, true) →
    atLoopEnd k k.pc = false →
    ∃ t : State, exec (.vldi c v imm) s = .next t ∧ Only [.csr, .cores, .freeCtr] s t ∧
      (∀ c' : Nat, c' ≠ c → getCore t c' = getCore s c') ∧
      match (fxSlots s c).find? (fun q => decide (j < q.2) && callsObject s q.1) with
      | none => (getCore t c).obj = none ∧ (getCore t c).slot = k.slot + 1
      | some q => (getCore t c).obj = some (q.2, regVal (getCore t c) 53, false) ∧ regVal (getCore t c) 11 = 0x7FC0 + 0x8000 * q.2 ∧
          regVal (getCore t c) 10 = 0x10000 + 0x8000 * q.2 ∧ (∀ i < 12, regVal (getCore t c) (36 + i) = 0) ∧
          stLvl (getCore t c) = 0 ∧ stIe (getCore t c) = true ∧ (getCore t c).loopDue = false ∧ (getCore t c).branch = none)

/-- R180, R184, R185 and R198; `k` is the core as it issues. -/
def Obligations.MintalStops : Prop :=
  (∀ (c : Nat) (s : State) (k : Core), begin? s c = some k → shellNext k = false → ∃ t : State, exec (.wait c) s = .next t ∧ Only [.csr, .cores] s t ∧
      (∀ c' : Nat, c' ≠ c → getCore t c' = getCore s c') ∧ stHnd (getCore t c) = false ∧ stIe (getCore t c) = true ∧
      stLvl (getCore t c) = 0 ∧ stBits (getCore t c) 6 6 = 0 ∧ (getCore t c).loopDue = false ∧ (getCore t c).v = k.v ∧
      (k.xq = [] → (getCore t c).waiting = true ∧ (getCore t c).waitPend = false ∧
        (k.inWindow = true → getF t (R.F_MINTAL_CYC_LAST_CYCLES c) = min (k.cyc + 1) 0xFFFF)) ∧
      (k.xq ≠ [] → (getCore t c).waitPend = true ∧ (getCore t c).waiting = k.waiting)) ∧
  (∀ (c : Nat) (s : State) (k : Core), begin? s c = some k → atLoopEnd k k.pc = false → shellNext k = false →
    (∃ t : State, exec (.waitx c) s = .next t ∧ Only [.csr, .cores] s t ∧ (∀ c' : Nat, c' ≠ c → getCore t c' = getCore s c') ∧
      (getCore t c).slot = k.slot + 1 ∧ (getCore t c).regs = k.regs ∧ (getCore t c).xstall = (k.xstall || !k.xq.isEmpty)) ∧
    (∃ t : State, exec (.rti c) s = .next t ∧ Only [.csr, .cores] s t ∧ (∀ c' : Nat, c' ≠ c → getCore t c' = getCore s c') ∧
      (getCore t c).pc = regVal k 54 ∧ stIe (getCore t c) = true ∧ stHnd (getCore t c) = false ∧
      (∀ r : Nat, r ≠ 52 → regVal (getCore t c) r = regVal k r)) ∧
    (∃ t : State, exec (.brk c) s = .next t ∧ Only [.csr, .cores] s t ∧ (∀ c' : Nat, c' ≠ c → getCore t c' = getCore s c') ∧
      (getCore t c).regs = k.regs ∧ (getCore t c).slot = k.slot + 1 ∧
      (isSet s (R.F_MINTAL_CTL_DBG_HALT c) = true → (getCore t c).halted = true ∧ isSet t (R.F_MINTAL_STAT_DEBUG_S c) = true) ∧
      (isSet s (R.F_MINTAL_CTL_DBG_HALT c) = false → k.step = false → isSet s (R.F_MINTAL_BKPT_EN c) = false →
        (getCore t c).debug = some ((k.debug).getD 7)))) ∧
  (∀ (c : Nat) (parity : Bool) (s : State) (k : Core), begin? s c = some k →
    ∃ t : State, exec (.illegalInstruction c parity) s = .next t ∧ Only [.csr, .cores] s t ∧ csrOnly [R.MINTAL_STAT c] s t ∧
      (∀ c' : Nat, c' ≠ c → getCore t c' = getCore s c') ∧
      isSet t (if parity then R.F_MINTAL_STAT_IPAR_S c else R.F_MINTAL_STAT_ILL_S c) = true ∧
      (if stHnd k then getCore t c = { k with stopped := true } ∧ isSet t (R.F_MINTAL_STAT_DFAULT_S c) = true
       else getCore t c = { k with fault := some (if parity then 4 else 2) })) ∧
  (∀ (c cause : Nat) (s : State), c < 64 → dueCause (getCore s c) = some cause →
    (let k := getCore s c
     k.held = false ∧ k.waiting = false ∧ k.waitPend = false ∧ k.xstall = false ∧ k.ninth = none ∧ k.stopped = false ∧
       k.halted = false ∧ (k.branch = none ∨ k.fault ≠ none)) →
    (7 ≤ cause → isSet s (R.F_MINTAL_CTL_DBG_HALT c) = true →
      ∃ t : State, exec (.interruptEntry c) s = .next t ∧ Only [.csr, .cores] s t ∧ csrOnly [R.MINTAL_STAT c] s t ∧
        (∀ c' : Nat, c' ≠ c → getCore t c' = getCore s c') ∧ isSet t (R.F_MINTAL_STAT_DEBUG_S c) = true ∧
        getCore t c = { getCore s c with debug := none, halted := true }) ∧
    (cause < 7 ∨ isSet s (R.F_MINTAL_CTL_DBG_HALT c) = false →
    let k := landed (loopBack (getCore s c))
    ∃ t : State, exec (.interruptEntry c) s = .next t ∧ Only [.csr, .cores] s t ∧ csrOnly [R.MINTAL_STAT c, R.MINTAL_CAUSE c] s t ∧
      (∀ c' : Nat, c' ≠ c → getCore t c' = getCore s c') ∧ regVal (getCore t c) 54 = k.pc % 4096 ∧
      regVal (getCore t c) 55 = cause % 16 ∧ stIe (getCore t c) = false ∧ stHnd (getCore t c) = true ∧
      (getCore t c).pc = (if cause = 1 then 4 else if cause ≤ 6 then 8 else 12) ∧ (getCore t c).fault = none ∧
      (getCore t c).branch = none ∧ (getCore t c).slot = k.slot + 4 ∧
      getF t (R.F_MINTAL_CAUSE_EPC c) = k.pc % 4096 ∧ getF t (R.F_MINTAL_CAUSE_ECAUSE c) = cause % 16))

/-- R181. `k` is the core as it issues, or with the results due landed. -/
def Obligations.MintalCrossbarPort : Prop :=
  (∀ (c : Nat) (v : BitVec 4) (ck md : BitVec 2) (fmt : BitVec 3) (s : State) (k : Core), begin? s c = some k →
      atLoopEnd k k.pc = false → shellNext k = false →
    ∀ q ∈ [(true, Instr.xld c v ck md fmt), (false, Instr.xst c v ck md fmt)],
    let off := 32 * regVal k (8 + ck.toNat)
    let x : XAcc := ⟨q.1, v.toNat, fmt.toNat, off, if q.1 then [] else (storeBytes fmt.toNat (vLane k v.toNat)).1, k.cyc⟩
    ∃ t : State, exec q.2 s = .next t ∧ Only [.csr, .cores] s t ∧ (∀ c' : Nat, c' ≠ c → getCore t c' = getCore s c') ∧
      (6 ≤ fmt.toNat → isSet t (R.F_MINTAL_STAT_ILL_S c) = true ∧ (getCore t c).pc = k.pc) ∧
      (fmt.toNat < 6 → (getCore t c).slot = k.slot + 1 ∧
        (md ≠ 0 → ⟨k.slot + 1, .reg (8 + ck.toNat), [(postMod k (8 + ck.toNat) md.toNat 1 1 : Nat)]⟩ ∈ (getCore t c).flight) ∧
        (k.xq.length < 8 → off < xLen s c → (getCore t c).xq = k.xq ++ [x] ∧ (getCore t c).v = k.v ∧
          getF t (R.F_MINTAL_XLAT_OUTSTANDING c) = k.xq.length + 1) ∧
        (k.xq.length = 8 → (getCore t c).ninth = some x ∧ (getCore t c).xq = k.xq ∧ (getCore t c).v = k.v) ∧
        (k.xq.length < 8 → xLen s c ≤ off → (getCore t c).xq = k.xq ∧ isSet t (R.F_MINTAL_STAT_XWIN_S c) = true ∧
          getF t (R.F_MINTAL_XWIN_SUMP_CNT_XWIN_SUMP_CNT c) =
            min (getF s (R.F_MINTAL_XWIN_SUMP_CNT_XWIN_SUMP_CNT c) + 1) 0xFFFFFFFF ∧
          (stHnd k = false → (getCore t c).fault = some 6) ∧
          (q.1 = false → (getCore t c).v = k.v) ∧
          (q.1 = true → ∀ i < 8, vLane (getCore t c) v.toNat i = 0)))) ∧
  (∀ (c lat : Nat) (s : State) (x : XAcc) (q : List XAcc), c < 64 → (getCore s c).xq = x :: q → q.length < 16 →
      (getCore s c).ninth = none → (getCore s c).waitPend = false →
      mustWait s ⟨17, xBase s c + x.off, 32, none, false⟩ = false →
    let k := landed (loopBack (getCore s c))
    let a := xBase s c + x.off
    ∃ t : State, exec (if x.load then .xldComplete c lat else .xstComplete c lat) s = .next t ∧
      (∀ c' : Nat, c' ≠ c → getCore t c' = getCore s c') ∧ (getCore t c).xq = q ∧
      (q = [] → (getCore t c).xstall = false) ∧ getF t (R.F_MINTAL_XLAT_OUTSTANDING c) = q.length ∧
      getF t (R.F_MINTAL_XLAT_MAX c) = max (getF s (R.F_MINTAL_XLAT_MAX c)) (min lat 0xFFFF) ∧
      (∀ r i : Nat, r ≠ x.v → i < 8 → vLane (getCore t c) r i = vLane k r i) ∧
      (x.load = true → t.mem = s.mem ∧ (s.bus.ecc = [] → a < 0x05000000 → ownerOf s (a / 0x80000) = 3 → x.fmt < 6 →
        ∀ i < (loadLanes x.fmt (readBytes s a 32)).2.length,
          vLane (getCore t c) x.v ((loadLanes x.fmt (readBytes s a 32)).1 + i) =
            (loadLanes x.fmt (readBytes s a 32)).2.getD i 0)) ∧
      (x.load = false → (getCore t c).v = k.v ∧ (∀ j : Nat, (j < a ∨ a + x.data.length ≤ j) → readByte t j = readByte s j) ∧
        (s.bus.ecc = [] → a < 0x05000000 → a + x.data.length ≤ 0x05000000 → ownerOf s (a / 0x80000) = 3 →
          ∀ i < x.data.length, readByte t (a + i) = x.data.getD i 0 % 256)))

/-- R163, R197 and R198. -/
def Obligations.MintalControlRegister : Prop :=
  (∀ (c : Nat) (v : Word) (cut : List CutBurst) (s : State), c < 64 →
    ∃ t : State, exec (.mintalResetWrite c v cut) s = .next t ∧
      isSet t (R.F_MINTAL_CTL_RESET c) = v.toNat.testBit 0 ∧
      (v.toNat.testBit 0 = true → getCore t c = coreInit ∧ getF t (R.F_MINTAL_XLAT_OUTSTANDING c) = 0) ∧
      (v.toNat.testBit 0 = false → (getCore t c).held = (getCore s c).held) ∧
      (∀ c' : Nat, c' ≠ c → getCore t c' = getCore s c') ∧ (cut = [] → Only [.csr, .cores] s t ∧ csrOnly [R.MINTAL_CTL c, R.MINTAL_CYC_MAX c, R.MINTAL_XLAT c] s t) ∧
      (v.toNat.testBit 0 = true → (getCore s c).held = false → getF t R.F_XBAR_ABORT_CNT_ABORT_CNT =
        min (getF s R.F_XBAR_ABORT_CNT_ABORT_CNT + (cut.filter (fun b => b.master == 17 && decide (b.addr < 0x05000000) &&
          ownerOf s (b.addr / 0x80000) == 3)).length) 0xFFFFFFFF)) ∧
  (∀ (c : Nat) (s : State), ∃ t : State, exec (.coreRelease c) s = .next t ∧ Only [.csr, .cores] s t ∧
      csrOnly [R.MINTAL_CYC_MAX c] s t ∧ (∀ c' : Nat, c' ≠ c → getCore t c' = getCore s c') ∧
      (mayRelease s c = false → t = s) ∧
      (mayRelease s c = true → getCore t c = { coreInit with held := false, regs := [(52, 1)], halted := isSet s (R.F_MINTAL_CTL_HALT_REQ c) } ∧
        getF t (R.F_MINTAL_CYC_MAX_CYCLES c) = 0)) ∧
  (∀ (c : Nat) (v : Word) (s : State), c < 64 → v.toNat.testBit 0 = false →
    (∃ t : State, exec (.mintalHaltReq c v) s = .next t ∧ Only [.csr, .cores] s t ∧ (∀ c' : Nat, c' ≠ c → getCore t c' = getCore s c') ∧
      isSet t (R.F_MINTAL_CTL_HALT_REQ c) = v.toNat.testBit 1 ∧ isSet t (R.F_MINTAL_CTL_DBG_HALT c) = v.toNat.testBit 2 ∧
      (v.toNat.testBit 1 = true → (getCore t c).halted = !(getCore s c).held) ∧
      (v.toNat.testBit 1 = false → v.toNat.testBit 3 = false → (getCore s c).halted = true → (getCore t c).halted = false)) ∧
    (v.toNat.testBit 1 = false → isSet s (R.F_MINTAL_CTL_HALT_REQ c) = false → (getCore s c).halted = true →
      ∃ t : State, exec (.mintalStep c v) s = .next t ∧ Only [.csr, .cores] s t ∧
        (∀ c' : Nat, c' ≠ c → getCore t c' = getCore s c') ∧ isSet t (R.F_MINTAL_CTL_STEP c) = true ∧
        getCore t c = { getCore s c with step := true }) ∧
    (v.toNat.testBit 1 = true → (getCore s c).held = false →
      ∃ t : State, exec (.mintalStep c v) s = .next t ∧ Only [.csr, .cores] s t ∧
        (∀ c' : Nat, c' ≠ c → getCore t c' = getCore s c') ∧ isSet t (R.F_MINTAL_CTL_STEP c) = true ∧
        getCore t c = { getCore s c with halted := true, step := true }) ∧
    (∃ t : State, exec (.mintalClrStats c v) s = .next t ∧ Only [.csr, .cores] s t ∧
      (∀ c' : Nat, c' ≠ c → getCore t c' = getCore s c') ∧ getF t (R.F_MINTAL_CYC_MAX_CYCLES c) = 0 ∧
      getF t (R.F_MINTAL_XLAT_MAX c) = 0)) ∧
  (∀ (c : Nat) (v : Word) (s : State), c < 64 →
    ∀ q ∈ [(0, R.F_MINTAL_XBASE_BASE c), (1, R.F_MINTAL_XLEN_LEN c), (2, R.F_MINTAL_XSWEPT_SWEPT c)],
    (isSet s (R.F_MINTAL_CTL_RESET c) = false → exec (.mintalXwindowWrite c q.1 v) s = .next s) ∧
    (isSet s (R.F_MINTAL_CTL_RESET c) = true →
      ∃ t : State, exec (.mintalXwindowWrite c q.1 v) s = .next t ∧ Only [.csr] s t ∧ csrOnly [q.2.off] s t ∧
        getF t q.2 = bits v.toNat q.2.hi q.2.lo))

/-- R16, R18, R203, R214 and R216. -/
def Obligations.CrossbarBursts : Prop :=
  (∀ (m addr : Nat) (v : Word) (s : State), m ≤ 5 → 0x0200000000 ≤ addr → addr < 0x0200200000 → addr % 4 = 0 →
    mustWait s ⟨m, addr, 4, some (leBytes 4 v.toNat), false⟩ = false →
    let p := (addr - 0x0200000000) / 4
    let bank := pstoreAddr (1 - cellBsel s (p / 16)) p / 0x80000
    (bankAdmits s bank 5 true = false →
      ∃ t : State, exec (.pstoreWindowWrite m addr v) s = .next t ∧ Only [.csr, .bus] s t ∧
        csrOnly [R.RSV_OWN_SUMP_CNT, R.RSV_STAT, R.RSV_OWN_LAST] s t ∧ isSet t R.F_RSV_STAT_OWN_S = true ∧
        getF t R.F_RSV_OWN_LAST_MASTER = 5 ∧ getF t R.F_RSV_OWN_LAST_BANK = bank) ∧
    (bankAdmits s bank 5 true = true → s.bus.ecc = [] →
    ∃ t : State, exec (.pstoreWindowWrite m addr v) s = .next t ∧ Only [.mem, .bus, .slu] s t ∧
      pshadow t p = v.toNat ∧ cellDirty t (p / 16) = true ∧ cellBsel t (p / 16) = cellBsel s (p / 16) ∧
      (∀ c : Nat, c ≠ p / 16 → cellDirty t c = cellDirty s c ∧ cellBsel t c = cellBsel s c) ∧
      (∀ p' : Nat, p' < 0x80000 → plive t p' = plive s p') ∧ (∀ p' : Nat, p' < 0x80000 → p' ≠ p → pshadow t p' = pshadow s p'))) ∧
  (∀ (r : BusReq) (s : State), r.master < 18 → mustWait s r = false → r.addr < 0x05000000 →
    (r.master ≤ 3 → r.addr % 256 + burstLen r ≤ 256) →
    (portA (ownerOf s (r.addr / 0x80000)) r.master r.data.isSome = true → s.bus.ecc = [] →
      ∃ t : State, exec (.xbarAccess [r]) s = .next t ∧ Only [.mem, .bus] s t ∧
        match r.data with
        | none => t.mem = s.mem ∧ t.bus.rdata = [(r.master, readBytes s r.addr r.len, false)]
        | some d => t.bus.rdata = [(r.master, [], false)] ∧
            (∀ a : Nat, (a < r.addr ∨ r.addr + d.length ≤ a) → readByte t a = readByte s a) ∧
            (∀ i < d.length, readByte t (r.addr + i) = d.getD i 0 % 256)) ∧
    (portA (ownerOf s (r.addr / 0x80000)) r.master r.data.isSome = false →
      ∃ t : State, exec (.xbarAccess [r]) s = .next t ∧ Only [.csr, .bus] s t ∧ csrOnly [R.RSV_OWN_SUMP_CNT, R.RSV_STAT, R.RSV_OWN_LAST] s t ∧
        t.bus.rdata = [(r.master, if r.data.isSome then [] else List.replicate r.len 0, false)] ∧
        isSet t R.F_RSV_STAT_OWN_S = true ∧ getF t R.F_RSV_OWN_SUMP_CNT_OWN_SUMP_CNT =
          min (getF s R.F_RSV_OWN_SUMP_CNT_OWN_SUMP_CNT + 1) 0xFFFFFFFF)) ∧
  (∀ (r : BusReq) (s : State), r.master ≤ 3 → mustWait s r = false → r.addr < 0x05000000 →
    portA (ownerOf s (r.addr / 0x80000)) r.master r.data.isSome = true → s.bus.ecc = [] →
    let room := 256 - r.addr % 256
    room < burstLen r → ∃ t : State, exec (.xbarAccess [r]) s = .next t ∧ Only [.csr, .mem, .bus] s t ∧
      csrOnly [R.XBAR_REFUSE_SUMP_CNT, R.XBAR_STAT, R.XBAR_REFUSE_LAST] s t ∧ isSet t R.F_XBAR_STAT_REFUSE_S = true ∧
      getF t R.F_XBAR_REFUSE_LAST_MASTER = r.master ∧ getF t R.F_XBAR_REFUSE_LAST_TARGET = r.addr / 0x800000 ∧
      match r.data with
      | none => t.mem = s.mem ∧
          t.bus.rdata = [(r.master, readBytes s r.addr room ++ List.replicate (r.len - room) 0, false)]
      | some d => (∀ a : Nat, (a < r.addr ∨ r.addr + room ≤ a) → readByte t a = readByte s a) ∧
          (∀ i < room, readByte t (r.addr + i) = d.getD i 0 % 256)) ∧
  (∀ (r : BusReq) (s : State), r.master < 18 → xbarTarget r.addr = 0xFF → mustWait s r = false →
    (r.master ≤ 3 → r.addr % 256 + burstLen r ≤ 256) →
    ∃ t : State, exec (.xbarAccess [r]) s = .next t ∧ Only [.csr, .bus] s t ∧
      csrOnly [R.XBAR_REFUSE_SUMP_CNT, R.XBAR_STAT, R.XBAR_REFUSE_LAST] s t ∧
      t.bus.rdata = [(r.master, if r.data.isSome then [] else List.replicate r.len 0, false)] ∧
      isSet t R.F_XBAR_STAT_REFUSE_S = true ∧ getF t R.F_XBAR_REFUSE_LAST_MASTER = r.master ∧
      getF t R.F_XBAR_REFUSE_SUMP_CNT_REFUSE_SUMP_CNT = min (getF s R.F_XBAR_REFUSE_SUMP_CNT_REFUSE_SUMP_CNT + 1) 0xFFFFFFFF)

/-- R218 and R250. -/
def Obligations.CrossbarLocks : Prop :=
  (∀ (m a n : Nat) (s : State), (m ≤ 3 ∨ m = 16) → a < 0x05000000 → s.bus.locks = [] → s.bus.handover = none →
    ∃ t : State, exec (.xbarLockedRead m a n) s = .next t ∧ t.mem = s.mem ∧ t.pending = s.pending ∧
      t.bus.locks = [(a / 0x800000, m)] ∧ t.bus.waits = s.bus.waits ∧ (∃ d b, t.bus.rdata = [(m, d, b)] ∧ d.length = n)) ∧
  (∀ (m a n t0 : Nat) (s : State), (m ≤ 3 ∨ m = 16) → a < 0x05000000 → s.bus.locks = [(t0, m)] → t0 ≠ a / 0x800000 →
    ∃ t : State, exec (.xbarLockedRead m a n) s = .next t ∧ Only [.csr, .bus] s t ∧ t.bus.locks = s.bus.locks ∧
      isSet t R.F_XBAR_STAT_LOCK_REFUSE_S = true ∧ t.bus.rdata = [(m, List.replicate n 0, false)]) ∧
  (∀ (m a : Nat) (d : List Nat) (s : State), (m ≤ 3 ∨ m = 16) → a < 0x05000000 → s.bus.locks = [(a / 0x800000, m)] → s.bus.handover = none →
    s.bus.waits = [] →
    ∃ t : State, exec (.xbarUnlockWrite m a d) s = .next t ∧ t.bus.locks = [] ∧ t.bus.waits = [] ∧
      (∀ b : Nat, (b < a ∨ a + d.length ≤ b) → readByte t b = readByte s b)) ∧
  (∀ (m : Nat) (r : BusReq) (s : State), r.master < 18 → lockOf s (xbarTarget r.addr) = some m → m ≠ r.master →
    ∃ t : State, exec (.xbarAccess [r]) s = .next t ∧ Only [.bus] s t ∧ t.bus.waits = s.bus.waits ++ [⟨r, false, false⟩] ∧
      t.bus.rdata = [] ∧ t.bus.locks = s.bus.locks) ∧
  (∀ (r : BusReq) (s : State), r.master < 18 → hangs r = true → s.bus.locks = [] → s.bus.csrHung = false →
    ∃ t : State, exec (.xbarAccess [r]) s = .next t ∧ Only [.bus] s t ∧ t.bus.csrHung = true ∧ t.bus.rdata = [] ∧
      t.bus.waits = s.bus.waits ∧
      ∀ (r' : BusReq), r'.master < 18 → xbarTarget r'.addr = 10 →
        ∃ u : State, exec (.xbarAccess [r']) t = .next u ∧ Only [.bus] t u ∧ u.bus.waits = t.bus.waits ++ [⟨r', false, false⟩] ∧
          u.bus.rdata = [])

/-- R167, R208 and R210. -/
def Obligations.EccWritebackAndScrub : Prop :=
  (∀ (a m : Nat) (s : State), smapFind s.bus.ecc (eccWord a) = some m →
    ∀ q ∈ [(Instr.rsvEccWriteback a, 0, 0x05000000), (Instr.scratchEccWriteback a, 0x0100000000, 0x0101000000)],
    q.2.1 ≤ a → a < q.2.2 →
    ∃ t : State, exec q.1 s = .next t ∧ Only [.bus] s t ∧ t.bus.rdata = s.bus.rdata ∧ t.bus.locks = s.bus.locks ∧
      (if 256 ≤ m ∧ m % 256 ≠ 3 then smapFind t.bus.ecc (eccWord a) = none ∧
          (∀ w : Nat, w ≠ eccWord a → smapFind t.bus.ecc w = smapFind s.bus.ecc w)
       else t = s)) ∧
  (∀ (busy : List Nat) (s : State), isSet s R.F_RSV_SCRUB_CTL_EN = false → exec (.scrubRead busy) s = .next s) ∧
  (∀ (busy : List Nat) (s : State), isSet s R.F_RSV_SCRUB_CTL_EN = true → s.bus.ecc = [] →
    ∃ t : State, exec (.scrubRead busy) s = .next t ∧ Only [.csr, .bus] s t ∧ csrOnly [R.RSV_SCRUB_SUMP_CNT] s t ∧
      t.bus = { s.bus with scrub := (s.bus.scrub + 1) % 65536 } ∧
      getF t R.F_RSV_SCRUB_SUMP_CNT_SCRUB_SUMP_CNT = min (getF s R.F_RSV_SCRUB_SUMP_CNT_SCRUB_SUMP_CNT +
        ((List.range 160).filter (fun b => ownerOf s b != 8 && busy.contains b)).length) 0xFFFFFFFF)

/-- R204 and R205. -/
def Obligations.BankHandover : Prop :=
  (∀ (v : Word) (s : State),
    let bank := bits v.toNat 7 0
    let o := bits v.toNat 11 8
    let bad := s.bus.handover ≠ none ∨ 160 ≤ bank ∨ 10 ≤ o ∨ (bankFailed s bank = true ∧ o ≠ 0 ∧ o ≠ 8) ∨
      (128 ≤ bank ∧ bank ≤ 139 ∧ isSet s R.F_SCHED_CTL_RUN = true ∧ o ≠ ownerOf s bank)
    ∃ t : State, exec (.rsvHandoverWrite v) s = .next t ∧ Only [.csr, .bus] s t ∧ csrOnly [R.RSV_HANDOVER, R.RSV_STAT] s t ∧
      (bad → t.bus = s.bus ∧ isSet t R.F_RSV_STAT_HANDOVER_REJ_S = true ∧ csrGet t R.RSV_HANDOVER = csrGet s R.RSV_HANDOVER) ∧
      (¬ bad → getF t R.F_RSV_HANDOVER_BANK = bank ∧ getF t R.F_RSV_HANDOVER_OWNER = o ∧
        (o = ownerOf s bank → t.bus = s.bus ∧ isSet t R.F_RSV_STAT_HANDOVER_DONE_S = true) ∧
        (o ≠ ownerOf s bank → t.bus = { s.bus with handover := some ⟨bank, o⟩ } ∧ isSet t R.F_RSV_HANDOVER_BUSY = true))) ∧
  (∀ (h : Handover) (s : State), s.bus.handover = some h → h.bank < 160 → h.owner < 16 → lockOf s (h.bank / 16) = none →
    s.bus.waits = [] →
    ∃ t : State, exec .handoverComplete s = .next t ∧ Only [.csr, .bus] s t ∧ t.bus.handover = none ∧
      ownerOf t h.bank = h.owner ∧ (∀ b : Nat, b < 160 → b ≠ h.bank → ownerOf t b = ownerOf s b) ∧
      isSet t R.F_RSV_HANDOVER_BUSY = false ∧ isSet t R.F_RSV_STAT_HANDOVER_DONE_S = true)

/-- R224, R220 and R222. -/
def Obligations.MemoryTest : Prop :=
  (∀ (v : Word) (s : State), v.toNat.testBit 31 = true → bits v.toNat 29 28 = 0 →
    let bank := bits v.toNat 7 0
    ∃ t : State, exec (.rsvMbistGo v) s = .next t ∧ Only [.csr, .bus] s t ∧
      csrOnly [R.RSV_MBIST_CTL, R.RSV_MBIST_STAT, R.RSV_STAT] s t ∧
      (s.bus.mbist = none → bank < 160 → ownerOf s bank = 8 → s.bus.handover = none →
        t.bus = { s.bus with mbist := some ⟨0, bits v.toNat 24 24, bits v.toNat 13 8, bank⟩ } ∧
        isSet t R.F_RSV_MBIST_CTL_GO = true ∧ isSet t R.F_RSV_MBIST_STAT_BUSY = true) ∧
      (s.bus.mbist ≠ none ∨ 160 ≤ bank ∨ ownerOf s bank ≠ 8 → t.bus = s.bus ∧ getF t R.F_RSV_MBIST_STAT_RESULT = 3 ∧
        isSet t R.F_RSV_STAT_MBIST_REJ_S = true)) ∧
  (∀ (m : Mbist) (rows cols : Nat) (bad : Bool) (s : State), s.bus.mbist = some m → m.target ≤ 2 → m.bank < 160 → m.core < 64 →
    (m.target = 1 → m.bank < 4) →
    let r := mbistRange m
    let u := smapGet (0, 0) s.bus.spares (mbistKey m)
    let left := bad || sparesExceeded s (mbistKey m) rows cols
    ∃ t : State, exec (.mbistComplete rows cols bad) s = .next t ∧ Only [.csr, .mem, .bus] s t ∧ t.bus.mbist = none ∧
      isSet t R.F_RSV_MBIST_STAT_BUSY = false ∧ isSet t R.F_RSV_MBIST_CTL_GO = false ∧ isSet t R.F_RSV_STAT_MBIST_DONE_S = true ∧
      getF t R.F_RSV_MBIST_STAT_RESULT = (if left then 2 else if rows + cols = 0 then 0 else 1) ∧
      (left = false → smapGet (0, 0) t.bus.spares (mbistKey m) = (u.1 + rows, u.2 + cols)) ∧
      (∀ a : Nat, (a < r.1 ∨ r.1 + r.2 ≤ a) → readByte t a = readByte s a) ∧
      (m.alg = 0 ∨ left = true → ∀ a : Nat, r.1 ≤ a → a < r.1 + r.2 → readByte t a = 0) ∧
      (m.alg ≠ 0 → left = false → t.mem = s.mem) ∧
      (m.target = 0 → bankFailed t m.bank = left ∧ (left = true → ownerOf t m.bank = 0)) ∧
      (m.target ≠ 0 → left = true → coreFailed t m.core = true))

/-- R325, R326, R329 and R331; spans 1 and 3 are the high ones, 2 and 3 the bipolar ones. -/
def Obligations.CvOutputs : Prop :=
  let latch := fun (o p : CvOut) (sp cd : Nat) => p.span = sp ∧ p.code = cd ∧ p.pend = none ∧
    p.ph = match o.ph with
      | .hiz => .hiz
      | .park => .park
      | .held => if o.span = sp then .driven else .park
      | .driven => if o.span = sp then .driven else .park
  (∀ (k : Nat) (v : Word) (s : State), k < 16 →
    let sp := bits v.toNat 17 16
    let cd := bits v.toNat 15 0
    let high := sp = 1 ∨ sp = 3
    ∃ t : State, exec (.cvOutWrite k v) s = .next t ∧ Only [.csr, .cv] s t ∧
      (s.flood.fault = true → t.cv = s.cv ∧ csrOnly [R.CV_STAT] s t ∧ isSet t R.F_CV_STAT_FAULT_REJ_S = true) ∧
      (s.flood.fault = false → high → s.cv.hi = false →
        t.cv = s.cv ∧ csrOnly [R.CV_STAT] s t ∧ isSet t R.F_CV_STAT_SPAN_REJ_S = true) ∧
      (s.flood.fault = false → (high → s.cv.hi = true) → csrOnly [R.CV_OUT k] s t ∧ getF t (R.F_CV_OUT_SPAN k) = sp ∧
        getF t (R.F_CV_OUT_CODE k) = cd ∧ (∀ j : Nat, j ≠ k → getCv t j = getCv s j) ∧
        t.cv.ok = s.cv.ok ∧ t.cv.hi = s.cv.hi ∧ t.cv.mid = s.cv.mid ∧
        (bits v.toNat 31 31 = 1 → latch (getCv s k) (getCv t k) sp cd) ∧
        (bits v.toNat 31 31 = 0 → (getCv t k).pend = some (sp, cd) ∧ (getCv t k).ph = (getCv s k).ph ∧
          (getCv t k).span = (getCv s k).span ∧ (getCv t k).code = (getCv s k).code))) ∧
  (∀ s : State, ∃ t : State, exec .cvTickLatch s = .next t ∧ Only [.cv] s t ∧ t.cv.ok = s.cv.ok ∧ t.cv.hi = s.cv.hi ∧
      t.cv.mid = s.cv.mid ∧ (∀ k : Nat, 16 ≤ k → getCv t k = getCv s k) ∧
      ∀ k < 16, match (getCv s k).pend with
        | none => getCv t k = getCv s k
        | some (sp, cd) => latch (getCv s k) (getCv t k) sp cd) ∧
  (∀ (v : Word) (s : State), ∃ t : State, exec (.cvCtlWrite v) s = .next t ∧ Only [.csr, .cv] s t ∧
      (s.flood.fault = true → t.cv = s.cv ∧ csrOnly [R.CV_STAT] s t ∧ isSet t R.F_CV_STAT_FAULT_REJ_S = true) ∧
      (s.flood.fault = false → v.toNat.testBit 0 = true → s.cv.hi = false →
        t.cv = s.cv ∧ csrOnly [R.CV_STAT] s t ∧ isSet t R.F_CV_STAT_SPAN_REJ_S = true) ∧
      (s.flood.fault = false → (v.toNat.testBit 0 = true → s.cv.hi = true) → csrOnly [R.CV_CTL] s t ∧
        isSet t R.F_CV_CTL_MID_HI = v.toNat.testBit 0 ∧
        (s.cv.ok = false ∨ s.cv.mid = v.toNat.testBit 0 → t.cv = s.cv) ∧
        (s.cv.ok = true → t.cv.mid = v.toNat.testBit 0) ∧
        (s.cv.ok = true → s.cv.mid ≠ v.toNat.testBit 0 → ∀ k < 16, getCv t k =
          if ((getCv s k).span = 2 ∨ (getCv s k).span = 3) ∧ (getCv s k).ph = .driven then { getCv s k with ph := .park }
          else getCv s k))) ∧
  (∀ (k : Nat) (s : State), k < 16 → ∃ t : State, exec (.cvParkEnd k) s = .next t ∧ Only [.cv] s t ∧
      (∀ j : Nat, j ≠ k → getCv t j = getCv s j) ∧
      getCv t k = if (getCv s k).ph = .park then { getCv s k with ph := .driven } else getCv s k)

/-- R325, R327 and R328. -/
def Obligations.CvSupply : Prop :=
  (∀ s : State, s.cv.ok = false → exec .vddCvLoss s = .next s) ∧
  (∀ s : State, s.cv.ok = true → ∃ t : State, exec .vddCvLoss s = .next t ∧ Only [.csr, .cv] s t ∧
      csrOnly [R.CV_STAT, R.CV_CTL] s t ∧ t.cv.ok = false ∧ t.cv.hi = false ∧ isSet t R.F_CV_STAT_VDDCV_LOSS_S = true ∧
      ∀ k < 16, (getCv t k).ph = .hiz ∧ (getCv t k).span = (getCv s k).span ∧ (getCv t k).code = (getCv s k).code ∧
        ((getCv t k).pend = none ∨ (getCv t k).pend = (getCv s k).pend) ∧
        (s.cv.hi = false → (getCv t k).pend = (getCv s k).pend) ∧
        (s.cv.hi = true → ((getCv s k).span = 1 ∨ (getCv s k).span = 3) → (getCv s k).ph ≠ .hiz → (getCv t k).wasHeld = true)) ∧
  (∀ (hi : Bool) (s : State), s.cv.ok = false → ∃ t : State, exec (.vddCvRestore hi) s = .next t ∧ Only [.csr, .cv] s t ∧
      csrOnly [R.CV_STAT, R.CV_CTL] s t ∧ t.cv.ok = true ∧ t.cv.hi = hi ∧ t.cv.mid = (isSet s R.F_CV_CTL_MID_HI && hi) ∧
      isSet t R.F_CV_CTL_MID_HI = (isSet s R.F_CV_CTL_MID_HI && hi) ∧
      (isSet s R.F_CV_CTL_MID_HI = true → hi = false → isSet t R.F_CV_STAT_SPAN_REJ_S = true) ∧
      (∀ k < 16,
        let sp := getF s (R.F_CV_OUT_SPAN k)
        let weak := (sp = 1 ∨ sp = 3) ∧ hi = false
        (getCv t k).span = sp ∧ (getCv t k).code = getF s (R.F_CV_OUT_CODE k) ∧ (getCv t k).pend = none ∧
        (weak → isSet t R.F_CV_STAT_SPAN_REJ_S = true) ∧
        ((getCv t k).ph = if weak ∨ (getCv s k).wasHeld = true then .held else .park))) ∧
  (∀ (hi : Bool) (s : State), s.cv.ok = true → ∃ t : State, exec (.vddCvRestore hi) s = .next t ∧
      t = { s with cv := { s.cv with hi := s.cv.hi || hi } }) ∧
  (∀ s : State, ∃ t : State, exec .vddCvHiFall s = .next t ∧ Only [.csr, .cv] s t ∧ csrOnly [R.CV_STAT, R.CV_CTL] s t ∧
      t.cv.hi = false ∧ t.cv.ok = s.cv.ok ∧
      let high := fun k => ((getCv s k).span = 1 ∨ (getCv s k).span = 3) ∧ (getCv s k).ph ≠ .hiz
      let used := isSet s R.F_CV_CTL_MID_HI = true ∨ ∃ k < 16, high k
      (¬ used → csrOnly [] s t ∧ t.cv.mid = s.cv.mid ∧ ∀ k < 16, getCv t k =
        if (getCv s k).pend.any (fun p => p.1 == 1 || p.1 == 3) then { getCv s k with pend := none } else getCv s k) ∧
      (used → isSet t R.F_CV_STAT_VDDCV_LOW_S = true ∧ isSet t R.F_CV_CTL_MID_HI = false ∧
        (∀ k < 16, (high k → (getCv t k).ph = .held ∧ (getCv t k).wasHeld = true ∧ (getCv t k).pend = none) ∧ (getCv t k).span = (getCv s k).span ∧
          (getCv t k).code = (getCv s k).code)))

/-- R333 to R337. -/
def Obligations.PersistentFile : Prop :=
  (∀ (host : Bool) (w : Nat) (v : Word) (s : State),
    let deny := (0x11 ≤ w ∧ w ≤ 0x1F) ∨ (0x21 ≤ w ∧ w ≤ 0x2F) ∨ (0x50 ≤ w ∧ w ≤ 0xFF) ∨ 0x400 ≤ w ∨
      (host = true ∧ 0x30 ≤ w ∧ w ≤ 0x3F)
    ∃ t : State, exec (.prfWordWrite host w v) s = .next t ∧ Only [.csr, .prf] s t ∧
      (deny → t.prf = s.prf ∧ csrOnly [R.PRF_STAT2] s t ∧ isSet t R.F_PRF_STAT2_DENY_S = true) ∧
      (¬ deny → 8 ≤ s.prf.queue.length → t.prf = s.prf ∧ csrOnly [R.PRF_STAT, R.PRF_QUEUE_SUMP_CNT] s t ∧
        isSet t R.F_PRF_STAT_QUEUE_REJ_S = true ∧ getF t R.F_PRF_QUEUE_SUMP_CNT_QUEUE_SUMP_CNT =
          min (getF s R.F_PRF_QUEUE_SUMP_CNT_QUEUE_SUMP_CNT + 1) 0xFFFFFFFF) ∧
      (¬ deny → s.prf.queue.length < 8 → s.prf.pf = true → t = s) ∧
      (¬ deny → s.prf.queue.length < 8 → s.prf.pf = false → csrOnly [] s t ∧
        t.prf = { s.prf with queue := s.prf.queue ++ [(w, v.toNat)], busy := true } ∧ prfRead t w = v.toNat ∧
        (∀ w' : Nat, w' ≠ w → prfRead t w' = prfRead s w'))) ∧
  (∀ (w v : Nat) (q : List (Nat × Nat)) (s : State), s.prf.queue = (w, v) :: q → s.prf.busy = true →
    ∃ t : State, exec .prfWriteDone s = .next t ∧ Only [.csr, .prf] s t ∧ t.prf.queue = q ∧ t.prf.busy = !q.isEmpty ∧
      prfLoaded t w = v ∧ (∀ w' : Nat, w' ≠ w → prfLoaded t w' = prfLoaded s w') ∧
      smapGet 0 t.prf.wear w = min (smapGet 0 s.prf.wear w + 1) 0xFFFFFF ∧
      (∀ w' : Nat, w' ≠ w → smapGet 0 t.prf.wear w' = smapGet 0 s.prf.wear w') ∧
      (smapGet 0 s.prf.wear w = 200000 → isSet t R.F_PRF_STAT_WEAR_LIMIT_S = true)) ∧
  (∀ s : State, ∃ t : State, exec .prfPowerFail s = .next t ∧ Only [.prf] s t ∧ t.prf.pf = true ∧
      t.prf.queue = (if s.prf.busy then s.prf.queue.take 1 else []) ∧ t.prf.words = s.prf.words ∧ t.prf.wear = s.prf.wear ∧
      t.prf.busy = s.prf.busy)

/-- R334: the PRF write queue holds at most 8 writes, and the first is in progress. -/
def Obligations.PrfQueueBounded : Prop :=
  ∀ s : State, s.prf.queue.length ≤ 8 ∧ s.prf.busy = !s.prf.queue.isEmpty →
    ∃ t : State, step s = .next t ∧ t.prf.queue.length ≤ 8 ∧ t.prf.busy = !t.prf.queue.isEmpty

/-- R368 and R370. -/
def Obligations.TestUnlock : Prop :=
  (∀ (v : Word) (s : State), ∃ t : State, exec (.testUnlockWrite v) s = .next t ∧ Only [.csr, .tst] s t ∧
      csrOnly [R.TEST_STAT, R.TEST_HIST] s t ∧
      (s.tst.first = false → t.tst.first = decide (v = 0x5A547E57) ∧ csrOnly [] s t) ∧
      (s.tst.first = true → v = 0xA5AB81A8 → t.tst.first = false ∧ testOpen t = true ∧
        (testOpen s = false → isSet t R.F_TEST_HIST_OPENED_S = true)) ∧
      (s.tst.first = true → v ≠ 0xA5AB81A8 → t.tst.first = false ∧ testOpen t = testOpen s ∧
        isSet t R.F_TEST_HIST_UNLOCK_REJ_S = true)) ∧
  (∀ (v : Word) (s : State), ∃ t : State, exec (.testCfgLock v) s = .next t ∧ Only [.csr, .tst, .sched] s t ∧
      t.tst.first = false ∧ testOpen t = false ∧ csrOnly (R.TEST_STAT :: R.TEST_HIST :: testRegs) s t ∧
      (s.tst.first = true → isSet t R.F_TEST_HIST_UNLOCK_REJ_S = true) ∧
      (testOpen s = true → isSet t R.F_TEST_HIST_CLOSED_S = true ∧ t.sched = { s.sched with extra := 0 } ∧
        (∀ o ∈ testRegs, csrGet t o = csrReset o)) ∧
      (testOpen s = false → t.sched = s.sched ∧ getF t R.F_TEST_CFG_AUTO_LOCK = bits v.toNat 15 0 ∧
        (∀ o ∈ testRegs, o ≠ R.TEST_CFG → csrGet t o = csrGet s o))) ∧
  (∀ s : State, getF s R.F_TEST_CFG_AUTO_LOCK = 0 ∨ testOpen s = false → exec .testAutoLock s = .next s) ∧
  (∀ s : State, getF s R.F_TEST_CFG_AUTO_LOCK ≠ 0 → testOpen s = true →
    ∃ t : State, exec .testAutoLock s = .next t ∧ Only [.csr, .sched] s t ∧ csrOnly (R.TEST_STAT :: R.TEST_HIST :: testRegs) s t ∧
      testOpen t = false ∧ isSet t R.F_TEST_HIST_CLOSED_S = true ∧ t.sched = { s.sched with extra := 0 } ∧
      (∀ o ∈ testRegs, csrGet t o = csrReset o))

/-- R369. -/
def Obligations.TestPerturbations : Prop :=
  (∀ (w : Nat) (v : Word) (s : State), testOpen s = false →
    ∀ c ∈ [Instr.testXbarDlyWrite v, .testMacBpWrite v, .testAsrcJitWrite w v, .testTickGo v, .testCdcWrite v, .testEccGo v,
      .testLeaseWrite v, .testSirlosGo v],
    ∃ t : State, exec c s = .next t ∧ Only [.csr, .tst] s t ∧ csrOnly [R.TEST_HIST] s t ∧ t.tst.first = false ∧
      isSet t R.F_TEST_HIST_LOCKED_WR_S = true) ∧
  (∀ (v : Word) (s : State), testOpen s = true →
    ∀ q ∈ [(Instr.testXbarDlyWrite v, [R.F_TEST_XBAR_DLY_MASTERS, R.F_TEST_XBAR_DLY_DELAY]),
      (.testMacBpWrite v, [R.F_TEST_MAC_BP_PORTS, R.F_TEST_MAC_BP_QUEUE, R.F_TEST_MAC_BP_DUTY]),
      (.testAsrcJitWrite 0 v, [R.F_TEST_ASRC_JIT_PERIOD, R.F_TEST_ASRC_JIT_AMP]),
      (.testAsrcJitWrite 1 v, [R.F_TEST_ASRC_MASK_PORTS]), (.testCdcWrite v, [R.F_TEST_CDC_PIN3]),
      (.testLeaseWrite v, [R.F_TEST_LEASE_SUPP_B, R.F_TEST_LEASE_SUPP_A]),
      (.testSirlosGo v, [R.F_TEST_SIRLOS_LANES, R.F_TEST_SIRLOS_DUR])],
    ∃ t : State, exec q.1 s = .next t ∧ Only [.csr, .tst] s t ∧ csrOnly (R.TEST_HIST :: q.2.map Fld.off) s t ∧
      (∀ f ∈ q.2, getF t f = bits v.toNat f.hi f.lo) ∧ testOpen t = true ∧
      (q.1 = .testSirlosGo v → isSet t R.F_TEST_SIRLOS_GO = true)) ∧
  (∀ (v : Word) (s : State), testOpen s = true → ∃ t : State, exec (.testTickGo v) s = .next t ∧ Only [.csr, .tst, .sched] s t ∧
      csrOnly [R.TEST_HIST, R.TEST_TICK] s t ∧ t.sched = { s.sched with extra := bits v.toNat 7 0 } ∧
      isSet t R.F_TEST_TICK_GO = true ∧ getF t R.F_TEST_TICK_DLY = bits v.toNat 7 0) ∧
  (∀ (v : Word) (s : State), testOpen s = true → bits v.toNat 29 28 = 0 → getF s R.F_TEST_ECC_ADDR_ADDR < 0x05000000 →
    let w := getF s R.F_TEST_ECC_ADDR_ADDR - getF s R.F_TEST_ECC_ADDR_ADDR % 8
    ∃ t : State, exec (.testEccGo v) s = .next t ∧ Only [.csr, .tst, .bus] s t ∧ csrOnly [R.TEST_HIST, R.TEST_ECC_CTL] s t ∧
      isSet t R.F_TEST_ECC_CTL_GO = false ∧
      eccBits t w = eccBits s w ^^^ (if v.toNat.testBit 24 then 3 else 1) ∧ (∀ x : Nat, x ≠ w → eccBits t x = eccBits s x)) ∧
  (∀ s : State, ∃ t : State, exec .testSirlosEnd s = .next t ∧ Only [.csr] s t ∧ csrOnly [R.TEST_SIRLOS] s t ∧
      isSet t R.F_TEST_SIRLOS_GO = false ∧ getF t R.F_TEST_SIRLOS_LANES = getF s R.F_TEST_SIRLOS_LANES)

/-- R227, R235, R242 and R261. -/
def Obligations.RcuControlWrites : Prop :=
  (∀ (v : Word) (s : State), ∀ c ∈ [Instr.rcuFamilyWrite v, .rcuHoldWrite v],
    let fam := bits v.toNat 0 0
    (fam ≠ getF s R.F_RCU_CTL_FAMILY → isSet s R.F_SCHED_CTL_RUN = true →
      ∃ t : State, exec c s = .next t ∧ Only [.csr] s t ∧ csrOnly [R.RCU_HIST] s t ∧
        isSet t R.F_RCU_HIST_FAMILY_REJ_S = true) ∧
    (fam = getF s R.F_RCU_CTL_FAMILY ∨ isSet s R.F_SCHED_CTL_RUN = false →
      ∃ t : State, exec c s = .next t ∧ Only [.csr, .freeCtr, .hr, .rcu, .redun, .tally] s t ∧
        (fam = getF s R.F_RCU_CTL_FAMILY → Only [.csr, .hr, .rcu, .redun] s t) ∧
        (∀ f ∈ [R.F_RCU_CTL_CONCORD, R.F_RCU_CTL_NARROW_BW, R.F_RCU_CTL_HOLD, R.F_RCU_CTL_REVERT, R.F_RCU_CTL_FAMILY],
          getF t f = bits v.toNat f.hi f.lo) ∧
        (fam ≠ getF s R.F_RCU_CTL_FAMILY → isSet t R.F_RCU_STAT_RELOCKING = true ∧
          ∀ p < 5, isSet t (R.F_MAC_STAT_LINK p) = false) ∧
        (fam = getF s R.F_RCU_CTL_FAMILY → v.toNat.testBit 2 = true → t.redun = s.redun ∧ selIn t = 15 ∧
          (dpll s = 0 ∨ dpll s = 3 → dpll t = dpll s) ∧
          (dpll s ≠ 0 → dpll s ≠ 3 → isSet s R.F_RCU_STAT_HOLD_READY = true → dpll t = 3 ∧
            getF t R.F_RCU_HOLD_FOFF_FOFF = lowBits 32 (holdMean s.rcu.hist)) ∧
          (dpll s ≠ 0 → dpll s ≠ 3 → isSet s R.F_RCU_STAT_HOLD_READY = false → dpll t = 0)))) ∧
  (∀ (cyc xo : Nat) (s : State), isSet s R.F_RCU_STAT_RELOCKING = false → exec (.relockDone cyc xo) s = .next s) ∧
  (∀ (cyc xo : Nat) (s : State), isSet s R.F_RCU_STAT_RELOCKING = true →
    ∃ t : State, exec (.relockDone cyc xo) s = .next t ∧ Only [.csr, .hr, .rcu, .tally] s t ∧
      getF t R.F_RCU_STAT_FAMILY = getF s R.F_RCU_CTL_FAMILY ∧ isSet t R.F_RCU_STAT_RELOCKING = false ∧
      isSet t R.F_RCU_HIST_RELOCK_DONE_S = true ∧ t.rcu.hist = [] ∧ isSet t R.F_RCU_STAT_HOLD_READY = false ∧
      (∀ i < 8, inState t i = 0 ∧ getF t (R.F_RCU_IN_STAT_LAST_DISQ i) = 2) ∧ selIn t = 15 ∧ dpll t = 0 ∧
      tallyAddend t = tallyNominal (rootFamily t) ∧ t.tally.at_ = 0)

/-- R229 to R233. -/
def Obligations.ReferenceInputs : Prop :=
  (∀ (i : Nat) (v : Word) (s : State), i < 8 → ∃ t : State, exec (.rcuInCfgWrite i v) s = .next t ∧ Only [.csr, .freeCtr, .hr, .rcu] s t ∧
      (∀ f ∈ [R.F_RCU_IN_CFG_EN i, R.F_RCU_IN_CFG_EDGE i, R.F_RCU_IN_CFG_PRIO i, R.F_RCU_IN_CFG_NOM_HZ i],
        getF t f = bits v.toNat f.hi f.lo) ∧
      isSet t (R.F_RCU_IN_STAT_NOM_BAD i) = !nomOk t i ∧
      (v.toNat.testBit 31 = false ∨ nomOk t i = false → inState t i = 0) ∧
      (v.toNat.testBit 31 = true → nomOk t i = true → inState t i = inState s i) ∧
      (v.toNat.testBit 31 = false → inState s i ≠ 0 → getF t (R.F_RCU_IN_STAT_LAST_DISQ i) = 1) ∧
      (∀ j < 8, j ≠ i → inState t j = inState s j)) ∧
  (∀ (i : Nat) (at_ err : Int) (bad : Bool) (s : State), i < 8 →
    ∃ t : State, exec (.refEdge i at_ err bad) s = .next t ∧ Only [.csr, .freeCtr, .hr, .rcu] s t ∧
      isSet t (R.F_RCU_IN_STAT_PRESENT i) = true ∧
      (bad = false ∨ getF s (R.F_RCU_IN_HIT_HIT_THR i) = 0 → isHit s i at_ = false → (getIn t i).last = some at_ ∧ (getIn t i).edges = (getIn s i).edges + 1 ∧
        inState t i = inState s i ∧ getF t (R.F_RCU_IN_HIT_CNT_HIT_CNT i) = getF s (R.F_RCU_IN_HIT_CNT_HIT_CNT i)) ∧
      ((bad = true ∧ getF s (R.F_RCU_IN_HIT_HIT_THR i) ≠ 0) ∨ isHit s i at_ = true → (getIn t i).last = (getIn s i).last ∧ isSet t (R.F_RCU_IN_HIST_HIT_S i) = true ∧
        getF t (R.F_RCU_IN_HIT_CNT_HIT_CNT i) = min (getF s (R.F_RCU_IN_HIT_CNT_HIT_CNT i) + 1) 0xFFFFFFFF)) ∧
  (∀ (at_ : Int) (v : Word) (s : State), ∃ t : State, exec (.rcuPtpErrWrite at_ v) s = .next t ∧ Only [.csr, .freeCtr, .hr, .rcu] s t ∧
      isSet t (R.F_RCU_IN_STAT_PRESENT 6) = true ∧
      (isHit s 6 at_ = false → (getIn t 6).last = some at_ ∧ (getIn t 6).edges = (getIn s 6).edges + 1)) ∧
  (∀ (i : Nat) (s : State), i < 8 → ∃ t : State, exec (.refLoss i) s = .next t ∧ Only [.csr, .freeCtr, .hr, .rcu] s t ∧
      isSet t (R.F_RCU_IN_STAT_PRESENT i) = false ∧ isSet t (R.F_RCU_IN_HIST_LOSS_S i) = true ∧ inState t i = 0 ∧
      getF t (R.F_RCU_IN_LOSS_CNT_LOSS_CNT i) = min (getF s (R.F_RCU_IN_LOSS_CNT_LOSS_CNT i) + 1) 0xFFFFFFFF ∧
      (getIn t i).last = none ∧ (inState s i ≠ 0 → getF t (R.F_RCU_IN_STAT_LAST_DISQ i) = 3) ∧
      (∀ j < 8, j ≠ i → inState t j = inState s j)) ∧
  (∀ (i : Nat) (foff : Int) (s : State), i < 8 →
    let win := max 10 (min 500 (getF s (R.F_RCU_IN_QUAL_WINDOW i))) * 1000
    let clean := isSet s (R.F_RCU_IN_CFG_EN i) = true ∧ nomOk s i = true ∧ (getIn s i).edges = intervalPeriods (inHz s i) ∧
      (getIn s i).hitBad = false ∧ foff.natAbs ≤ win
    ∃ t : State, exec (.measIntervalEnd i foff) s = .next t ∧ Only [.csr, .freeCtr, .hr, .rcu] s t ∧
      getF t (R.F_RCU_IN_FOFF_FOFF i) = lowBits 32 foff ∧ (getIn t i).edges = 0 ∧ (getIn t i).hitBad = false ∧
      (inState s i = 1 ∨ inState s i = 2 → win < foff.natAbs → inState t i = 0 ∧ getF t (R.F_RCU_IN_STAT_LAST_DISQ i) = 4) ∧
      (inState s i = 2 → foff.natAbs ≤ win → inState t i = 2) ∧
      (inState s i = 0 → clean → inState t i = if getF s (R.F_RCU_IN_QUAL_QTIME i) = 0 then 2 else 1) ∧
      (inState s i = 0 → ¬ clean → inState t i = 0))

/-- R228, R237, R239, R242, R244 and R245. -/
def Obligations.DpllAndWordClocks : Prop :=
  (∀ s : State, dpll s = 1 → isSet s R.F_RCU_CTL_HOLD = false → (candidates s).contains (selIn s) = true → betterWaited s = [] →
    ∃ t : State, exec .lockTimerExpiry s = .next t ∧ Only [.csr, .hr, .rcu] s t ∧ dpll t = 2 ∧ selIn t = selIn s ∧
      isSet t R.F_RCU_STAT_SWITCH_BUSY = false ∧ isSet t R.F_RCU_HIST_LOCKED_S = true ∧
      t.rcu.hist = (if s.rcu.histOld then [] else s.rcu.hist)) ∧
  (∀ s : State, dpll s ≠ 1 → exec .lockTimerExpiry s = .next s) ∧
  (∀ s : State, isSet s R.F_RCU_STAT_SWITCH_BUSY = false → exec .switchBusyTimeout s = .next s) ∧
  (∀ s : State, isSet s R.F_RCU_STAT_SWITCH_BUSY = true → isSet s R.F_RCU_CTL_HOLD = false →
    (candidates s).contains (selIn s) = true → betterWaited s = [] →
    ∃ t : State, exec .switchBusyTimeout s = .next t ∧ Only [.csr] s t ∧ isSet t R.F_RCU_STAT_SWITCH_BUSY = false ∧
      dpll t = dpll s ∧ selIn t = selIn s) ∧
  (∀ (i : Nat) (s : State), isSet s R.F_RCU_CTL_HOLD = false → (candidates s).contains (selIn s) = true →
    (candidates s).contains i = true → prio s i < prio s (selIn s) → isSet s R.F_RCU_STAT_SWITCH_BUSY = false →
    isSet s R.F_RCU_CTL_REVERT = true → betterWaited s = [] →
    ∃ t : State, exec (.revertWtrExpiry i) s = .next t ∧ Only [.csr, .hr, .rcu] s t ∧ selIn t = i ∧
      getF t R.F_RCU_SWITCH_INFO_CAUSE = 2 ∧ getF t R.F_RCU_SWITCH_INFO_FROM = selIn s ∧ getF t R.F_RCU_SWITCH_INFO_TO = i ∧
      t.rcu.switchIdx = s.sched.idx.toNat ∧ dpll t = (if dpll s = 0 then 1 else 4) ∧
      getF t R.F_RCU_SWITCH_CNT_SWITCH_CNT = min (getF s R.F_RCU_SWITCH_CNT_SWITCH_CNT + 1) 0xFFFFFFFF) ∧
  (∀ (i : Nat) (s : State), (candidates s).contains i = false → exec (.revertWtrExpiry i) s = .next s) ∧
  (∀ (i : Nat) (s : State), (candidates s).contains i = true → isSet s R.F_RCU_CTL_HOLD = false →
    (candidates s).contains (selIn s) = true → isSet s R.F_RCU_CTL_REVERT = false →
    exec (.revertWtrExpiry i) s = .next { s with rcu := { s.rcu with revert := i :: s.rcu.revert.filter (fun j => j != i) } }) ∧
  (∀ (foff : Int) (s : State), (dpll s ≠ 2 → exec (.holdoverSample foff) s = .next s) ∧
    (dpll s = 2 → ∃ t : State, exec (.holdoverSample foff) s = .next t ∧ Only [.csr, .rcu] s t ∧
      t.rcu.hist = (max (-1000000) (min 1000000 foff) :: s.rcu.hist).take 600 ∧
      getF t R.F_RCU_FOFF_FOFF = lowBits 32 (max (-1000000) (min 1000000 foff)) ∧
      (foff < -1000000 ∨ 1000000 < foff → isSet t R.F_RCU_HIST_CLAMP_S = true) ∧
      getF t R.F_RCU_HOLD_HIST_SAMPLES = t.rcu.hist.length ∧
      (10 ≤ t.rcu.hist.length → isSet t R.F_RCU_STAT_HOLD_READY = true))) ∧
  (∀ (k which : Nat) (v : Word) (s : State), k < 4 → which < 2 →
    ∃ t : State, exec (.rcuWckWrite k which v) s = .next t ∧ Only [.csr, .freeCtr, .rcu] s t ∧
      csrOnly [R.RCU_WCK_CFG k, R.RCU_WCK_OFFSET k, R.RCU_WCK_STAT k] s t ∧
      (which = 1 → csrGet t (R.RCU_WCK_OFFSET k) = v ∧ csrGet t (R.RCU_WCK_CFG k) = csrGet s (R.RCU_WCK_CFG k)) ∧
      (which = 0 → csrGet t (R.RCU_WCK_OFFSET k) = csrGet s (R.RCU_WCK_OFFSET k) ∧
        ∀ f ∈ [R.F_RCU_WCK_CFG_EN k, R.F_RCU_WCK_CFG_POL k, R.F_RCU_WCK_CFG_ALIGN k, R.F_RCU_WCK_CFG_NOM_HZ k],
          getF t f = bits v.toNat f.hi f.lo) ∧
      isSet t (R.F_RCU_WCK_STAT_NOM_BAD k) = !wckNomOk t k ∧
      isSet t (R.F_RCU_WCK_STAT_ALIGNED k) = (isSet t (R.F_RCU_WCK_CFG_EN k) && wckNomOk t k && wckSource t k) ∧
      (isSet t (R.F_RCU_WCK_CFG_EN k) = false → smapFind t.rcu.wck k = none ∧
        ∀ at_ : Int, wckLevel t k at_ = isSet t (R.F_RCU_WCK_CFG_POL k)) ∧
      (isSet t (R.F_RCU_WCK_STAT_ALIGNED k) = true → ∀ e : Int, wckEdge s k = some e → wckEdge t k = some e →
        ∃ w : Int, smapFind t.rcu.wck k = some (e + wckOffset t k, w) ∧ 3 * (wckPeriod t k : Int) ≤ 4 * w)) ∧
  (∀ s : State, (s.rst.xo = false → exec .xoLoss s = .next s) ∧
    (s.rst.xo = true → ∃ t : State, exec .xoLoss s = .next t ∧
      Only [.csr, .freeCtr, .flood, .slu, .hr, .cv, .rcu, .redun, .rst] s t ∧ t.rst = { s.rst with xo := false } ∧
      t.flood.fault = true ∧ isSet t R.F_RCU_HIST_XO_LOSS_S = true ∧ isSet t R.F_RST_FATAL_XO_S = true ∧
      isSet t R.F_RST_STAT_FATAL_S = true))

/-- R261 to R263. -/
def Obligations.TallyWrites : Prop :=
  (∀ (v : Word) (s : State), exec (.tallyAddendFracWrite v) s = .next { s with tally := { s.tally with held := some v.toNat } }) ∧
  (∀ (cyc : Nat) (v : Word) (s : State),
    let a := v.toNat % 256 * 2 ^ 32 + s.tally.held.getD (getF s R.F_TALLY_ADDEND_FRAC_FRAC)
    let nom := if getF s R.F_RCU_STAT_FAMILY = 0 then 0x145855555 else 0x1624EF2A6
    s.tally.held.getD 0 < 2 ^ 32 →
    ∃ t : State, exec (.tallyAddendIntWrite cyc v) s = .next t ∧ Only [.csr, .tally] s t ∧
      csrOnly [R.TALLY_ADDEND_INT, R.TALLY_ADDEND_FRAC, R.TALLY_STAT] s t ∧
      tallyAddend t = max (nom - nom / 1000) (min a (nom + nom / 1000)) ∧
      (a < nom - nom / 1000 ∨ nom + nom / 1000 < a → isSet t R.F_TALLY_STAT_CLAMP_S = true) ∧
      isSet t R.F_TALLY_STAT_STEER = decide (tallyAddend t ≠ nom) ∧
      t.tally.held = none ∧ t.tally.sec = (tallyAt s cyc).sec ∧ t.tally.ns = (tallyAt s cyc).ns ∧
      t.tally.frac = (tallyAt s cyc).frac ∧ t.tally.at_ = max cyc s.tally.at_ ∧ t.tally.tmc = s.tally.tmc) ∧
  (∀ s : State,
    let ns := getF s R.F_TALLY_STEP_NS_NS
    ∃ t : State, exec .tallyStep s = .next t ∧ Only [.csr, .tally] s t ∧ csrOnly [R.TALLY_STAT] s t ∧
      (isSet s R.F_TALLY_STAT_STEP_USED = true ∨ 999999999 < ns → t.tally = s.tally ∧ isSet t R.F_TALLY_STAT_STEP_REJ_S = true) ∧
      (isSet s R.F_TALLY_STAT_STEP_USED = false → ns ≤ 999999999 →
        (t.tally.sec : Int) = ((s.tally.sec : Int) + sext 32 (getF s R.F_TALLY_STEP_SEC_SEC) + ((s.tally.ns + ns) / 10 ^ 9 : Nat)) %
          2 ^ 48 ∧
        t.tally.ns = (s.tally.ns + ns) % 10 ^ 9 ∧ t.tally.frac = s.tally.frac ∧ t.tally.realign = true ∧
        isSet t R.F_TALLY_STAT_STEP_USED = true ∧ isSet t R.F_TALLY_STAT_STEP_S = true)) ∧
  (∀ s : State, ∃ t : State, exec .tallyEpochReset s = .next t ∧ Only [.csr, .tally] s t ∧
      csrOnly [R.TALLY_STAT, R.TALLY_EPOCH] s t ∧ t.tally = { s.tally with realign := true } ∧
      getF t R.F_TALLY_EPOCH_EPOCH = (getF s R.F_TALLY_EPOCH_EPOCH + 1) % 65536 ∧
      isSet t R.F_TALLY_STAT_STEP_USED = false ∧ isSet t R.F_TALLY_STAT_EPOCH_S = true)

/-- R252, R254, R259 and R260. -/
def Obligations.MacControl : Prop :=
  (∀ (p : Nat) (v : Word) (s : State), p < 5 → ∃ t : State, exec (.macCtlWrite p v) s = .next t ∧ Only [.csr, .net] s t ∧
      csrOnly [R.MAC_CTL p, R.MAC_CT_THR p, R.MAC_STAT p, R.MAC_HIST p] s t ∧
      (∀ f ∈ [R.F_MAC_CTL_ONESTEP p, R.F_MAC_CTL_PAUSE_EN p, R.F_MAC_CTL_CUT p, R.F_MAC_CTL_SPEED p, R.F_MAC_CTL_EN p],
        getF t f = bits v.toNat f.hi f.lo) ∧
      getF t (R.F_MAC_CTL_FEC p) = (if p = 4 then 0 else bits v.toNat 3 3) ∧
      getF t (R.F_MAC_CT_THR_THR p) = getF s (R.F_MAC_CT_THR_INIT p) ∧
      (v.toNat.testBit 0 = false → t.net = s.net ∧ isSet t (R.F_MAC_STAT_LINK p) = false ∧
        (isSet s (R.F_MAC_STAT_LINK p) = true → isSet t (R.F_MAC_HIST_LINK_DOWN_S p) = true)) ∧
      (v.toNat.testBit 0 = true → csrGet t (R.MAC_STAT p) = csrGet s (R.MAC_STAT p) ∧
        getPort t p = (if isSet s (R.F_MAC_CTL_EN p) then getPort s p else { getPort s p with mode := bits v.toNat 1 1 })) ∧
      (∀ q : Nat, q ≠ p → getPort t q = getPort s q)) ∧
  (∀ (p speed : Nat) (s : State), p < 5 → domHeld s p = false → isSet s (R.F_MAC_CTL_EN p) = true →
      isSet s (R.F_MAC_STAT_LINK p) = false → isSet s R.F_RCU_STAT_RELOCKING = false →
      ∃ t : State, exec (.macLinkUp p speed) s = .next t ∧ Only [.csr] s t ∧
      csrOnly [R.MAC_STAT p, R.MAC_HIST p] s t ∧ isSet t (R.F_MAC_STAT_LINK p) = true ∧
      isSet t (R.F_MAC_STAT_BLOCK_LOCK p) = true ∧ isSet t (R.F_MAC_HIST_LINK_UP_S p) = true ∧
      (p = 4 → isSet t (R.F_MAC_STAT_AN_DONE p) = true ∧
        getF t (R.F_MAC_STAT_SGMII_SPEED p) = if (getPort s p).mode = 1 then speed % 4 else 0)) ∧
  (∀ (p speed : Nat) (s : State), p < 5 → domHeld s p = true ∨ isSet s (R.F_MAC_CTL_EN p) = false ∨
      isSet s R.F_RCU_STAT_RELOCKING = true → exec (.macLinkUp p speed) s = .next s) ∧
  (∀ (p : Nat) (s : State), p < 5 → ∃ t : State, exec (.macLinkDown p) s = .next t ∧ Only [.csr] s t ∧
      csrOnly [R.MAC_STAT p, R.MAC_HIST p] s t ∧ isSet t (R.F_MAC_STAT_LINK p) = false ∧
      isSet t (R.F_MAC_STAT_BLOCK_LOCK p) = false ∧
      (isSet s (R.F_MAC_STAT_LINK p) = true → isSet t (R.F_MAC_HIST_LINK_DOWN_S p) = true) ∧
      (isSet s (R.F_MAC_STAT_LINK p) = false → csrGet t (R.MAC_HIST p) = csrGet s (R.MAC_HIST p))) ∧
  (∀ (d : PortDrain) (s : State), d.port < 5 →
    let p := d.port
    let m := { getPort s p with paused := false, rx := (getPort s p).rx.drop d.taken }
    ∃ t : State, exec (.macPauseExpiry d) s = .next t ∧ Only [.net] s t ∧ (∀ q : Nat, q ≠ p → getPort t q = getPort s q) ∧
      (isSet s (R.F_MAC_STAT_LINK p) = false ∨ isSet s (R.F_MAC_CTL_PAUSE_EN p) = false → getPort t p = m) ∧
      (isSet s (R.F_MAC_STAT_LINK p) = true → isSet s (R.F_MAC_CTL_PAUSE_EN p) = true → getPort t p =
        if m.asked = false ∧ 3 * fwShare p < 4 * rxUsed t p false then
          { m with asked := true, txP := ⟨true, 0x10000, pauseFrame s p 0xFFFF⟩ :: m.txP }
        else if m.asked = true ∧ 2 * rxUsed t p false < fwShare p then
          { m with asked := false, txP := ⟨true, 0x10000, pauseFrame s p 0⟩ :: m.txP }
        else m)) ∧
  (∀ (p : Nat) (tmpl payload : List Nat) (s : State), p < 5 →
      (payload.length = 0 ∨ 262144 < payload.length → ∃ t : State, exec (.segDescriptor p tmpl payload) s = .next t ∧
        Only [.csr] s t ∧ csrOnly [R.MAC_HIST p] s t ∧ isSet t (R.F_MAC_HIST_SEG_REJ_S p) = true) ∧
      (payload.length ≠ 0 → payload.length ≤ 262144 → ∃ t : State, exec (.segDescriptor p tmpl payload) s = .next t ∧
        Only [.net] s t ∧ (∀ q : Nat, q ≠ p → getPort t q = getPort s q) ∧
        getPort t p = { getPort s p with
          txB := (getPort s p).txB ++ (segFrames tmpl payload (maxFrame s p)).map (fun f => ⟨false, 0, f⟩) }))

/-- R253 to R257, R264 and R271. -/
def Obligations.MacReceive : Prop :=
  (∀ (p : Nat) (f : List Nat) (sfd fin taken : Nat) (group : Bool) (s : State), isSet s (R.F_MAC_STAT_LINK p) = false →
    exec (.macRxFrame p f sfd fin taken group) s = .next s) ∧
  (∀ (p : Nat) (f : List Nat) (sfd fin taken : Nat) (group : Bool) (s : State), p < 5 → domHeld s p = false →
    isSet s (R.F_MAC_STAT_LINK p) = true → isSet s (R.F_MAC_CTL_PAUSE_EN p) = true → 64 ≤ f.length → f.length ≤ maxFrame s p →
    fcsOk f = true → isPause f = true →
    ∃ t : State, exec (.macRxFrame p f sfd fin taken group) s = .next t ∧ Only [.csr, .net] s t ∧ csrOnly [R.MAC_HIST p] s t ∧
      isSet t (R.F_MAC_HIST_PAUSE_RX_S p) = true ∧ (getPort t p).paused = decide (fieldAt f 16 2 ≠ 0)) ∧
  (∀ (p : Nat) (f : List Nat) (sfd fin : Nat) (group : Bool) (s : State), p < 5 → domHeld s p = false →
    isSet s (R.F_MAC_STAT_LINK p) = true → isSet s (R.F_MAC_CTL_PAUSE_EN p) = false →
    let go := exec (.macRxFrame p f sfd fin 0 group) s
    let q := classify s p f
    let st := stampOf s sfd (sext 16 (getF s (R.F_MAC_TS_ADJ_RX p)))
    let counted := fun (t : State) (c : Fld) => getF t c = min (getF s c + 1) 0xFFFFFFFF
    let good := 64 ≤ f.length ∧ f.length ≤ maxFrame s p ∧ fcsOk f = true ∧ isPause f = false
    (f.length < 64 → ∃ t : State, go = .next t ∧ Only [.csr] s t ∧ csrOnly [R.MAC_RUNT_SUMP_CNT p, R.MAC_HIST p] s t ∧
      counted t (R.F_MAC_RUNT_SUMP_CNT_CNT p) ∧ isSet t (R.F_MAC_HIST_RUNT_S p) = true) ∧
    (64 ≤ f.length → maxFrame s p < f.length → q ≠ 3 → q ≠ 5 → ∃ t : State, go = .next t ∧ Only [.csr] s t ∧
      csrOnly [R.MAC_PRIV_SUMP_CNT p] s t ∧ counted t (R.F_MAC_PRIV_SUMP_CNT_CNT p)) ∧
    (64 ≤ f.length → maxFrame s p < f.length → q = 3 ∨ q = 5 → ∃ t : State, go = .next t ∧ Only [.csr, .hr, .net] s t ∧
      t.hr = s.hr ∧ counted t (R.F_MAC_OVERSIZE_CNT_CNT p) ∧ isSet t (R.F_MAC_HIST_OVERSIZE_S p) = true) ∧
    (64 ≤ f.length → f.length ≤ maxFrame s p → fcsOk f = false → ∃ t : State, go = .next t ∧ Only [.csr] s t ∧
      csrOnly [R.MAC_FCS_SUMP_CNT p, R.MAC_HIST p] s t ∧ counted t (R.F_MAC_FCS_SUMP_CNT_CNT p) ∧
      isSet t (R.F_MAC_HIST_FCS_S p) = true) ∧
    (64 ≤ f.length → f.length ≤ maxFrame s p → fcsOk f = true → isPause f = true ∨ (q = 5 ∧ addrOk s p group f = false) →
      ∃ t : State, go = .next t ∧ Only [.csr] s t ∧ csrOnly [R.MAC_FILTER_SUMP_CNT p] s t ∧
        counted t (R.F_MAC_FILTER_SUMP_CNT_CNT p)) ∧
    (good → q = 5 → addrOk s p group f = true → rxUsed s p false + f.length ≤ fwShare p →
      ∃ t : State, go = .next t ∧ Only [.csr, .net] s t ∧ csrOnly [R.MAC_RX_FRAMES_CNT p] s t ∧
        counted t (R.F_MAC_RX_FRAMES_CNT_CNT p) ∧ (∀ o : Nat, o ≠ p → getPort t o = getPort s o) ∧
        (getPort t p).rx = (getPort s p).rx ++ [⟨5, false, (!isIpv4 f || ipSumOk f) &&
          (match parseUdp f with | some u => u.udpOk | none => true), st.1, st.2, f⟩] ∧
        (getPort t p).txH = (getPort s p).txH ++ ((hostReply s p f).map (fun r => ⟨false, 0, r⟩)).toList) ∧
    (good → q = 1 → (∀ u : Udp, parseUdp f = some u → u.ipOk = true ∧ u.udpOk = true) → rxUsed s p true + f.length ≤ 0x20000 →
      ∃ t : State, go = .next t ∧ Only [.csr, .net] s t ∧ csrOnly [R.MAC_RX_FRAMES_CNT p] s t ∧
        counted t (R.F_MAC_RX_FRAMES_CNT_CNT p) ∧ (∀ o : Nat, o ≠ p → getPort t o = getPort s o) ∧
        getPort t p = { getPort s p with rx := (getPort s p).rx ++ [⟨1, false, true, st.1, st.2, f⟩] }) ∧
    (∀ u : Udp, good → q ≠ 5 → parseUdp f = some u → u.ipOk = false ∨ u.udpOk = false → ∃ t : State, go = .next t ∧
      Only [.csr] s t ∧ csrOnly [R.MAC_CSUM_SUMP_CNT p] s t ∧ counted t (R.F_MAC_CSUM_SUMP_CNT_CNT p)) ∧
    (∀ u : Udp, good → q = 3 ∨ q = 4 → parseUdp f = some u → u.ipOk = true → u.udpOk = true →
      rxUsed s p false + f.length ≤ fwShare p → u.lenOk = false ∨ u.frag = true ∨ sentToMany f u = true →
      ∃ t : State, go = .next t ∧ Only [.csr] s t ∧ csrOnly [R.MAC_RX_FRAMES_CNT p, R.HEADRACE_RX_SUMP_CNT, R.HEADRACE_STAT] s t ∧
        counted t R.F_HEADRACE_RX_SUMP_CNT_RX_SUMP_CNT ∧ isSet t R.F_HEADRACE_STAT_RX_DISCARD_S = true) ∧
    (∀ u : Udp, good → q = 3 ∨ q = 4 → parseUdp f = some u → u.ipOk = true → u.udpOk = true → u.lenOk = true → u.frag = false →
      sentToMany f u = false → rxUsed s p false + f.length ≤ fwShare p →
      (∀ e : Endpoint, queueFull s (rawHdr e u.payload).cls.toNat = false) →
      ∃ t : State, go = .next t ∧ Only [.csr, .hr] s t ∧ csrOnly [R.MAC_RX_FRAMES_CNT p] s t ∧
        counted t (R.F_MAC_RX_FRAMES_CNT_CNT p) ∧ t.hr = { s.hr with rxQ := s.hr.rxQ ++ [⟨viaOf p, u.payload⟩] }) ∧
    (∀ (u : Udp) (c : Nat) (leg : Bool), good → q = 2 → parseUdp f = some u → u.ipOk = true → u.udpOk = true →
      findCtx s p (parseL2 f) u = some (c, leg) →
      s.bus.ecc = [] →
      ∃ t : State, go = .next t ∧ Only [.csr, .mem, .net, .redun] s t ∧ counted t (R.F_MAC_RX_FRAMES_CNT_CNT p) ∧
        (∀ a : Nat, (a < 0x04B80000 ∨ 0x04D80000 ≤ a) → readByte t a = readByte s a) ∧
        (rtpOk s c (parseRtp u.payload) = false → t.net.ring = s.net.ring ∧ t.mem = s.mem ∧
          smapGet 0 t.net.cnt (8 * c + 2) = min (smapGet 0 s.net.cnt (8 * c + 2) + 1) 0xFFFFFFFF) ∧
        (rtpOk s c (parseRtp u.payload) = true → (getF t (R.F_STREAM_RX_ACTIVE_RECEIVING (c / 32))).testBit (c % 32) = true ∧
          smapGet 0 t.net.cnt (8 * c + if leg then 5 else 4) =
            min (smapGet 0 s.net.cnt (8 * c + if leg then 5 else 4) + 1) 0xFFFFFFFF)))

/-- R258, R259 and R264 to R266. -/
def Obligations.MacTransmit : Prop :=
  (∀ (p k cyc : Nat) (dry : Bool) (x : TxPost) (s : State), p < 5 → domHeld s p = false → isSet s (R.F_MAC_STAT_LINK p) = false →
    let m := { getPort s p with rx := (getPort s p).rx.drop k }
    let fr : TxFrame := ⟨x.oneStep, x.tag.toNat, withFcs x.bytes⟩
    ∃ t : State, exec (.macTxFrame ⟨p, k⟩ [x] cyc dry) s = .next t ∧ Only [.net] s t ∧ (∀ q : Nat, q ≠ p → getPort t q = getPort s q) ∧
      getPort t p = (if x.queue = 0 then { m with txP := m.txP ++ [fr] }
        else if x.queue = 1 then { m with txH := m.txH ++ [fr] } else { m with txB := m.txB ++ [fr] })) ∧
  (∀ (p k cyc : Nat) (dry : Bool) (s : State), p < 5 → domHeld s p = false → isSet s (R.F_MAC_STAT_LINK p) = true →
    let go := exec (.macTxFrame ⟨p, k⟩ [] cyc dry) s
    let s0 := pauseCheck (rxTaken s p k) p
    let m := getPort s0 p
    let st := stampOf s cyc (sext 16 (getF s (R.F_MAC_TS_ADJ_TX p)))
    let thr := getF s (R.F_MAC_CT_THR_THR p)
    let sentOn := fun (t : State) => go = .next t ∧ (∀ q : Nat, q ≠ p → getPort t q = getPort s q) ∧
      getF t (R.F_MAC_TX_FRAMES_CNT_CNT p) = min (getF s (R.F_MAC_TX_FRAMES_CNT_CNT p) + 1) 0xFFFFFFFF
    (∀ (x : TxFrame) (r : List TxFrame), m.txP = x :: r → x.tag = 0x10000 → ∃ t : State, sentOn t ∧ Only [.csr, .net] s t ∧
      csrOnly [R.MAC_TX_FRAMES_CNT p] s t ∧ getPort t p = { m with txP := r, sent := x.bytes }) ∧
    (∀ (x : TxFrame) (r : List TxFrame), m.txP = x :: r → x.tag ≠ 0x10000 →
      (∀ k : Nat, x.oneStep = true → isSet s (R.F_MAC_CTL_ONESTEP p) = true → syncAt x.bytes = some k →
        ∃ t : State, sentOn t ∧ Only [.csr, .net] s t ∧ csrOnly [R.MAC_TX_FRAMES_CNT p] s t ∧
          getPort t p = { m with txP := r, sent := oneStepFrame x.bytes k st }) ∧
      (x.oneStep = false ∨ isSet s (R.F_MAC_CTL_ONESTEP p) = false ∨ syncAt x.bytes = none →
        (m.tsq.length < 64 → ∃ t : State, sentOn t ∧ Only [.csr, .net] s t ∧ csrOnly [R.MAC_TX_FRAMES_CNT p] s t ∧
          getPort t p = { m with txP := r, sent := x.bytes, tsq := m.tsq ++ [(x.tag, st.1, st.2)] }) ∧
        (64 ≤ m.tsq.length → ∃ t : State, sentOn t ∧ Only [.csr, .net] s t ∧
          csrOnly [R.MAC_TX_FRAMES_CNT p, R.MAC_TSQ_SUMP_CNT p, R.MAC_HIST p] s t ∧ isSet t (R.F_MAC_HIST_TSQ_OVF_S p) = true ∧
          getF t (R.F_MAC_TSQ_SUMP_CNT_CNT p) = min (getF s (R.F_MAC_TSQ_SUMP_CNT_CNT p) + 1) 0xFFFFFFFF ∧
          getPort t p = { m with txP := r, sent := x.bytes }))) ∧
    (∀ (x : TxFrame) (r : List TxFrame), m.txP = [] → m.txM = x :: r → ∃ t : State, sentOn t ∧ Only [.csr, .net] s t ∧
      csrOnly [R.MAC_TX_FRAMES_CNT p] s t ∧ getPort t p = { m with txM := r, sent := x.bytes }) ∧
    (∀ o : OutMsg, m.txP = [] → m.txM = [] → s.hr.txQ.find? (fun q => q.dst.via = viaOf p) = some o →
      ∃ t : State, sentOn t ∧ Only [.csr, .hr, .net] s t ∧ csrOnly [R.MAC_TX_FRAMES_CNT p] s t ∧
        t.hr = { s.hr with txQ := s.hr.txQ.erase o } ∧ getPort t p = { m with sent := hrFrame s p o }) ∧
    (m.txP = [] → m.txM = [] → takeOut s0 (viaOf p) = none →
      (m.paused = true → go = .next s0) ∧
      (∀ (x : TxFrame) (r : List TxFrame), m.paused = false → (m.txH = x :: r ∨ (m.txH = [] ∧ m.txB = x :: r)) →
        (dry = false ∨ isSet s (R.F_MAC_CTL_CUT p) = false ∨ x.bytes.length ≤ thr →
          ∃ t : State, sentOn t ∧ Only [.csr, .net] s t ∧ csrOnly [R.MAC_TX_FRAMES_CNT p] s t ∧ (getPort t p).sent = x.bytes ∧
            (if m.txH = [] then (getPort t p).txB = r else (getPort t p).txH = r ∧ (getPort t p).txB = m.txB)) ∧
        (dry = true → isSet s (R.F_MAC_CTL_CUT p) = true → thr < x.bytes.length →
          ∃ t : State, sentOn t ∧ Only [.csr, .net] s t ∧ isSet t (R.F_MAC_HIST_UNDERRUN_S p) = true ∧
            getF t (R.F_MAC_CT_THR_THR p) = min (thr + 256) (maxFrame s p) ∧
            getF t (R.F_MAC_UNDERRUN_SUMP_CNT_CNT p) = min (getF s (R.F_MAC_UNDERRUN_SUMP_CNT_CNT p) + 1) 0xFFFFFFFF ∧
            (let body := x.bytes.take (min (max thr 60) (x.bytes.length - 4))
             (getPort t p).sent = body ++ (fcsBytes body).map (fun b => 255 - b))))))

/-- R267 and R271. -/
def Obligations.StreamContexts : Prop :=
  (∀ (c : Nat) (v : Word) (s : State), c < 256 → s.bus.csrHung = false →
    (∀ f ∈ [R.F_STREAM_RX_DST_IP_DST_IP c, R.F_STREAM_RX_DST_IP2_DST_IP2 c, R.F_STREAM_RX_SRC_IP_SRC_IP c, R.F_STREAM_RX_PORT_VLAN_ID c,
        R.F_STREAM_RX_PORT_UDP_PORT c, R.F_STREAM_RX_POOL_BASE c, R.F_STREAM_RX_POOL_CHANNELS c, R.F_STREAM_RX_SSRC_SSRC c],
      ∃ t : State, exec (.streamCtxWrite f.off v) s = .next t ∧ Only [.csr] s t ∧
        (ctxOn s c = false → csrOnly [f.off] s t ∧ getF t f = bits v.toNat f.hi f.lo) ∧
        (ctxOn s c = true → csrOnly [R.STREAM_STAT, R.STREAM_BAD_CTX] s t ∧ isSet t R.F_STREAM_STAT_CFG_REJ_S = true ∧
          getF t R.F_STREAM_BAD_CTX_REASON = 8 ∧ getF t R.F_STREAM_BAD_CTX_TX = 0 ∧ getF t R.F_STREAM_BAD_CTX_CTX = c)) ∧
    (∀ f ∈ [R.F_STREAM_TX_DST_IP_DST_IP c, R.F_STREAM_TX_DST_IP2_DST_IP2 c, R.F_STREAM_TX_PORTS_SRC_PORT c,
        R.F_STREAM_TX_PORTS_DST_PORT c, R.F_STREAM_TX_DMAC_DMAC c, R.F_STREAM_TX_VLAN_PCP c, R.F_STREAM_TX_VLAN_VLAN_ID c,
        R.F_STREAM_TX_POOL_BASE c, R.F_STREAM_TX_POOL_CHANNELS c, R.F_STREAM_TX_SSRC_SSRC c],
      ∃ t : State, exec (.streamCtxWrite f.off v) s = .next t ∧ Only [.csr] s t ∧
        (ctxTxOn s c = false → csrOnly [f.off] s t ∧ getF t f = bits v.toNat f.hi f.lo) ∧
        (ctxTxOn s c = true → csrOnly [R.STREAM_STAT, R.STREAM_BAD_CTX] s t ∧ isSet t R.F_STREAM_STAT_CFG_REJ_S = true ∧
          getF t R.F_STREAM_BAD_CTX_REASON = 8 ∧ getF t R.F_STREAM_BAD_CTX_TX = 1 ∧ getF t R.F_STREAM_BAD_CTX_CTX = c))) ∧
  (∀ (c : Nat) (v : Word) (s : State), c < 256 →
    let fs := [R.F_STREAM_RX_CTL_ENC c, R.F_STREAM_RX_CTL_PORT c, R.F_STREAM_RX_CTL_SEC_EN c, R.F_STREAM_RX_CTL_SEC_PORT c,
      R.F_STREAM_RX_CTL_VLAN_EN c, R.F_STREAM_RX_CTL_PTIME c, R.F_STREAM_RX_CTL_PT_CHK c, R.F_STREAM_RX_CTL_SSRC_CHK c,
      R.F_STREAM_RX_CTL_PT c, R.F_STREAM_RX_CTL_GROUP c]
    ∃ t : State, exec (.streamRxEnable c v) s = .next t ∧ Only [.csr, .net] s t ∧
      csrOnly [R.STREAM_RX_CTL c, R.STREAM_STAT, R.STREAM_BAD_CTX] s t ∧
      (ctxOn s c = false → (∀ f ∈ fs, getF t f = bits v.toNat f.hi f.lo) ∧
        (rxCheck t c = 0 → ctxOn t c = true ∧ smapFind t.net.rxSeq c = none ∧
          ∀ k : Nat, smapFind t.net.ring k =
            if 256 * rxBase s c ≤ k ∧ k < 256 * (rxBase s c + rxChannels s c) then none else smapFind s.net.ring k) ∧
        (rxCheck t c ≠ 0 → ctxOn t c = false ∧ t.net = s.net ∧ isSet t R.F_STREAM_STAT_CFG_REJ_S = true ∧
          getF t R.F_STREAM_BAD_CTX_REASON = rxCheck t c ∧ getF t R.F_STREAM_BAD_CTX_TX = 0 ∧ getF t R.F_STREAM_BAD_CTX_CTX = c)) ∧
      (ctxOn s c = true → (∃ f ∈ fs, getF s f ≠ bits v.toNat f.hi f.lo) → ctxOn t c = true ∧ (∀ f ∈ fs, getF t f = getF s f) ∧
        isSet t R.F_STREAM_STAT_CFG_REJ_S = true ∧ getF t R.F_STREAM_BAD_CTX_REASON = 8)) ∧
  (∀ (c : Nat) (v : Word) (s : State), c < 256 →
    let fs := [R.F_STREAM_TX_CTL_ENC c, R.F_STREAM_TX_CTL_PORT c, R.F_STREAM_TX_CTL_SEC_EN c, R.F_STREAM_TX_CTL_SEC_PORT c,
      R.F_STREAM_TX_CTL_VLAN_EN c, R.F_STREAM_TX_CTL_PTIME c, R.F_STREAM_TX_CTL_DSCP c]
    ∃ t : State, exec (.streamTxEnable c v) s = .next t ∧ Only [.csr, .net] s t ∧
      csrOnly [R.STREAM_TX_CTL c, R.STREAM_STAT, R.STREAM_BAD_CTX] s t ∧
      (ctxTxOn s c = false → (∀ f ∈ fs, getF t f = bits v.toNat f.hi f.lo) ∧
        (txCheck t c = 0 → ctxTxOn t c = true ∧ smapFind t.net.txCtx c = none) ∧
        (txCheck t c ≠ 0 → ctxTxOn t c = false ∧ t.net = s.net ∧ isSet t R.F_STREAM_STAT_CFG_REJ_S = true ∧
          getF t R.F_STREAM_BAD_CTX_REASON = txCheck t c ∧ getF t R.F_STREAM_BAD_CTX_TX = 1 ∧ getF t R.F_STREAM_BAD_CTX_CTX = c)) ∧
      (ctxTxOn s c = true → (∃ f ∈ fs, getF s f ≠ bits v.toNat f.hi f.lo) → ctxTxOn t c = true ∧ (∀ f ∈ fs, getF t f = getF s f) ∧
        isSet t R.F_STREAM_STAT_CFG_REJ_S = true ∧ getF t R.F_STREAM_BAD_CTX_REASON = 8)) ∧
  (∀ (c : Nat) (s : State), c < 256 → ∃ t : State, exec (.streamRxInactive c) s = .next t ∧ Only [.csr] s t ∧
      csrOnly [R.STREAM_RX_ACTIVE (c / 32)] s t ∧
      ∀ k < 32, (getF t (R.F_STREAM_RX_ACTIVE_RECEIVING (c / 32))).testBit k =
        ((getF s (R.F_STREAM_RX_ACTIVE_RECEIVING (c / 32))).testBit k && k != c % 32))

/-- R274 to R280. -/
def Obligations.SerialPorts : Prop :=
  (∀ (p : Nat) (v : Word) (s : State), p < 32 → s.bus.csrHung = false →
    ∃ t : State, exec (.sportWrite (R.SPORT_CTL p) v) s = .next t ∧
      Only [.csr, .ser] s t ∧ (∀ q : Nat, q ≠ p → getSp t q = getSp s q) ∧
      (∀ f ∈ [R.F_SPORT_CTL_GANG p, R.F_SPORT_CTL_SLOTS p, R.F_SPORT_CTL_DLEN p, R.F_SPORT_CTL_BDLY p, R.F_SPORT_CTL_BEDGE p,
          R.F_SPORT_CTL_FS_POL p, R.F_SPORT_CTL_MODE p, R.F_SPORT_CTL_FMT p, R.F_SPORT_CTL_EN p],
        getF t f = bits v.toNat f.hi f.lo) ∧
      (getSp t p).ok = (v.toNat.testBit 0 && spCheck t p == 0) ∧
      (v.toNat.testBit 0 = true → spCheck t p ≠ 0 → isSet t (R.F_SPORT_HIST_CFG_REJ_S p) = true ∧
        getF t (R.F_SPORT_STAT_REASON p) = spCheck t p) ∧
      (getSp t p).f = (getSp s p).f ∧ (getSp t p).run = (getSp s p).run ∧
      (v.toNat.testBit 0 = true → spCheck t p = 0 → (getSp s p).ok = false ∨ ctlMode (spCtl s p) ≠ ctlMode v.toNat ∨
        ctlGang (spCtl s p) ≠ ctlGang v.toNat → (getSp t p).restart = true)) ∧
  (∀ (p : Nat) (delta : Int) (bclks : Nat) (ws : List Int) (s : State) (c : SpCfg), p < 32 →
      syncCfg (getSp s p).prev = some c → (getSp s p).seen = false →
    let wrong := ctlMode c.ctl = 1 ∧ ¬ (0 ≤ delta ∧ delta ≤ 32 ∧ bclks = 32 * ctlSlots c.ctl)
    ∃ t : State, exec (.sportFrameHandoff p delta bclks ws) s = .next t ∧ Only [.csr, .dsp, .ser] s t ∧ (getSp t p).seen = true ∧
      getF t (R.F_SPORT_PHASE_DELTA p) =
        (if ctlMode c.ctl = 1 then lowBits 16 (satInt 16 delta) else getF s (R.F_SPORT_PHASE_DELTA p)) ∧
      (wrong → t.dsp = s.dsp ∧ isSet t (R.F_SPORT_HIST_FRAME_ERR_S p) = true ∧ (getSp t p).sinceLoss = 0 ∧
        getF t (R.F_SPORT_FRAME_ERR_SUMP_CNT_CNT p) = min (getF s (R.F_SPORT_FRAME_ERR_SUMP_CNT_CNT p) + 1) 0xFFFFFFFF) ∧
      (¬ wrong → (getSp s p).runPrev = false → ctlMode c.ctl = 0 → t.dsp = s.dsp) ∧
      (¬ wrong → (getSp s p).runPrev = false → ctlMode c.ctl = 1 → ctlGang (spCtl s p) = 0 → (getSp t p).run = true ∧
        (getSp t p).f = 1 ∧ isSet t (R.F_SPORT_HIST_STARTED_S p) = true) ∧
      (¬ wrong → (getSp s p).runPrev = true ∨ (ctlMode c.ctl = 1 ∧ ctlGang (spCtl s p) = 0) → ∀ k : Nat, smapGet 0 t.dsp.src k =
        if 0x800 + c.inBase ≤ k ∧ k < 0x800 + c.inBase + (inSlots c ws).length then nth 0 (inSlots c ws) (k - 0x800 - c.inBase)
        else smapGet 0 s.dsp.src k)) ∧
  (∀ (p : Nat) (s : State) (c : SpCfg), p < 32 → (getSp s p).cur = some c → ctlMode c.ctl = 1 → (getSp s p).run = true →
      (getSp s p).missed = false →
    ∃ t : State, exec (.sportFrameMissing p) s = .next t ∧ Only [.csr, .ser] s t ∧
      csrOnly [R.SPORT_IN_ZERO_CNT p, R.SPORT_OUT_DROP_SUMP_CNT p, R.SPORT_HIST p] s t ∧
      (∀ f ∈ [R.F_SPORT_IN_ZERO_CNT_CNT p, R.F_SPORT_OUT_DROP_SUMP_CNT_CNT p], getF t f = min (getF s f + 1) 0xFFFFFFFF) ∧
      isSet t (R.F_SPORT_HIST_IN_ZERO_S p) = true ∧ isSet t (R.F_SPORT_HIST_OUT_DROP_S p) = true ∧
      (getSp t p).sinceLoss = 0 ∧ (∀ w ∈ (getSp t p).out, w = 0) ∧ (∀ q : Nat, q ≠ p → getSp t q = getSp s q)) ∧
  (∀ (p ratio : Nat) (s : State) (c : SpCfg), p < 32 →
    let x := getSp s p
    let y := if s.sched.running then x else spAdopt (spAccepted s p) x
    asyncCfg y.cur = some c → y.run = true →
    ∃ t : State, exec (.sportFsEdge p ratio) s = .next t ∧ Only [.csr, .ser] s t ∧ (∀ q : Nat, q ≠ p → getSp t q = getSp s q) ∧
      (getSp t p).inFrame = some c ∧ (getSp t p).track = ratio % 2 ^ 32 ∧ (getSp t p).inQ = x.inQ ∧ (getSp t p).outPrev = x.out ∧
      (∀ (o : List Int) (r : List (List Int)), x.outQ = o :: r → (getSp t p).outQ = r ∧
        (getSp t p).out = if s.redun.en then o else []) ∧
      (x.outQ = [] → isSet t (R.F_SPORT_HIST_OUT_ZERO_S p) = true ∧ (getSp t p).sinceLoss = 0 ∧
        getF t (R.F_SPORT_OUT_ZERO_CNT_CNT p) = min (getF s (R.F_SPORT_OUT_ZERO_CNT_CNT p) + 1) 0xFFFFFFFF) ∧
      (x.inFrame = none → (getSp t p).f = x.f) ∧
      (x.inFrame ≠ none → (getSp t p).f = (x.f + 1) % 2 ^ 32 ∧ isSet t (R.F_SPORT_HIST_FRAME_ERR_S p) = true ∧
        getF t (R.F_SPORT_FRAME_ERR_SUMP_CNT_CNT p) = min (getF s (R.F_SPORT_FRAME_ERR_SUMP_CNT_CNT p) + 1) 0xFFFFFFFF)) ∧
  (∀ (p : Nat) (ws : List Int) (s : State) (c : SpCfg), p < 32 → (getSp s p).inFrame = some c → (getSp s p).run = true →
    let x := getSp s p
    let w := (x.f, tabulate (ctlSlots c.ctl) (fun t => inWord (ctlDlen c.ctl) (nth 0 ws t)))
    ∃ t : State, exec (.sportAsyncFrameDone p ws) s = .next t ∧ Only [.csr, .ser] s t ∧
      csrOnly [R.SPORT_IN_DROP_SUMP_CNT p, R.SPORT_HIST p] s t ∧ (∀ q : Nat, q ≠ p → getSp t q = getSp s q) ∧
      (getSp t p).f = (x.f + 1) % 2 ^ 32 ∧ (getSp t p).inFrame = none ∧ (getSp t p).out = x.out ∧
      (x.inQ.length < 4 → (getSp t p).inQ = x.inQ ++ [w] ∧ t.csr = s.csr) ∧
      (x.inQ.length = 4 → trkState s p = 0 → (getSp t p).inQ = x.inQ.drop 1 ++ [w] ∧ t.csr = s.csr) ∧
      (4 ≤ x.inQ.length → trkState s p ≠ 0 → (getSp t p).inQ = x.inQ ∧ isSet t (R.F_SPORT_HIST_IN_DROP_S p) = true ∧
        getF t (R.F_SPORT_IN_DROP_SUMP_CNT_CNT p) = min (getF s (R.F_SPORT_IN_DROP_SUMP_CNT_CNT p) + 1) 0xFFFFFFFF))

/-- R283, R284, R290 and R291. -/
def Obligations.ConvertersAndModulators : Prop :=
  (∀ (l : Nat) (v : Word) (s : State), l < 64 →
    (∃ t : State, exec (.asrcCtRouteWrite l 0 v) s = .next t ∧ Only [.csr] s t ∧ csrOnly [R.ASRC_CT_ROUTE l] s t ∧
      ∀ f ∈ [R.F_ASRC_CT_ROUTE_EN l, R.F_ASRC_CT_ROUTE_MUTE l, R.F_ASRC_CT_ROUTE_IN_PORT l, R.F_ASRC_CT_ROUTE_IN_SLOT l,
        R.F_ASRC_CT_ROUTE_OUT_PORT l, R.F_ASRC_CT_ROUTE_OUT_SLOT l], getF t f = bits v.toNat f.hi f.lo) ∧
    (∃ t : State, exec (.asrcCtRouteWrite l 1 v) s = .next t ∧ Only [.csr] s t ∧ csrOnly [R.ASRC_CT_GAIN l] s t ∧
      getF t (R.F_ASRC_CT_GAIN_G l) = bits v.toNat 15 0)) ∧
  (∀ (p : Nat) (s : State), trkRuns s p = true →
    (getF s (R.F_ASRC_TRK_STAT_STATE p) ≠ 0 → ∃ t : State, exec (.asrcTrackerUnlock p) s = .next t ∧ Only [.csr] s t ∧
      csrOnly [R.ASRC_TRK_STAT p, R.ASRC_TRK_UNLOCK_CNT p] s t ∧ getF t (R.F_ASRC_TRK_STAT_STATE p) = 0 ∧
      getF t (R.F_ASRC_TRK_UNLOCK_CNT_UNLOCK_CNT p) = min (getF s (R.F_ASRC_TRK_UNLOCK_CNT_UNLOCK_CNT p) + 1) 0xFFFFFFFF) ∧
    (getF s (R.F_ASRC_TRK_STAT_STATE p) = 0 → exec (.asrcTrackerUnlock p) s = .next s) ∧
    (getF s (R.F_ASRC_TRK_STAT_STATE p) ≠ 1 → domHeld s 8 = false → 2 ^ 25 ≤ (getSp s p).track → (getSp s p).track ≤ 2 ^ 31 →
      ∃ t : State, exec (.asrcTrackerAcquire p) s = .next t ∧ Only [.csr, .freeCtr, .ser] s t ∧ csrOnly [R.ASRC_TRK_STAT p] s t ∧
        getF t (R.F_ASRC_TRK_STAT_STATE p) = 1 ∧
        (getF s (R.F_ASRC_TRK_STAT_STATE p) ≠ 0 → t.ser = s.ser) ∧
        (getF s (R.F_ASRC_TRK_STAT_STATE p) = 0 →
          (∀ q ∈ gangOf s p, ∃ v : Conv, getSp t q = { getSp s q with conv := v } ∧ v.ratios = (getSp s q).conv.ratios ∧
            v.inHist = [] ∧ v.outHist = [] ∧ v.posOut < 2 ^ 28 ∧ v.lag ≤ 2 ^ 30 ∧ v.lag ≤ 16 * (getSp s q).track) ∧
          (∀ q : Nat, q ∉ gangOf s p → getSp t q = getSp s q))) ∧
    (getF s (R.F_ASRC_TRK_STAT_STATE p) = 1 → exec (.asrcTrackerAcquire p) s = .next s ∧
      ∃ t : State, exec (.asrcTrackerLock p) s = .next t ∧ Only [.csr] s t ∧ csrOnly [R.ASRC_TRK_STAT p] s t ∧
        getF t (R.F_ASRC_TRK_STAT_STATE p) = 2) ∧
    (getF s (R.F_ASRC_TRK_STAT_STATE p) ≠ 1 → exec (.asrcTrackerLock p) s = .next s)) ∧
  (∀ (c : Nat) (v : Word) (s : State), c < 128 → ∃ t : State, exec (.pdmChWrite c v) s = .next t ∧ Only [.csr] s t ∧
      csrOnly [R.PDM_CH c] s t ∧
      ∀ f ∈ [R.F_PDM_CH_EN c, R.F_PDM_CH_INV c, R.F_PDM_CH_PHASE c], getF t f = bits v.toNat f.hi f.lo) ∧
  (∀ (k : Nat) (s : State), k < 2 →
    (clkinState s k ≠ 0 → ∃ t : State, exec (.pdmClkinUnlock k) s = .next t ∧ Only [.csr] s t ∧ csrOnly [R.PDM_STAT] s t ∧
      clkinState t k = 0 ∧ clkinState t (1 - k) = clkinState s (1 - k) ∧
      isSet t (if k = 0 then R.F_PDM_STAT_CLKIN0_LOSS_S else R.F_PDM_STAT_CLKIN1_LOSS_S) = true) ∧
    (clkinState s k = 0 → exec (.pdmClkinUnlock k) s = .next s) ∧
    (domHeld s 9 = false → ∃ t : State, exec (.pdmClkinLock k) s = .next t ∧ Only [.csr] s t ∧ csrOnly [R.PDM_STAT] s t ∧
      clkinState t k = 2 ∧ clkinState t (1 - k) = clkinState s (1 - k)))

/-- R293, R294, R296, R297, R302 to R304 and R333. -/
def Obligations.Lease : Prop :=
  (∀ (src : Nat) (s : State),
    let eff := src % 4 - (src % 4 &&& (csrGet s R.TEST_LEASE).toNat % 4)
    (s.redun.paired = false ∨ eff = 0 → exec (.leaseRenew src) s = .next s) ∧
    (s.redun.paired = true → eff ≠ 0 →
      (s.redun.role = 3 ∨ s.redun.role = 4 → ∃ t : State, exec (.leaseRenew src) s = .next t ∧ Only [.csr] s t ∧
        csrOnly [R.REDUN_GRANT_SUMP_CNT, R.REDUN_HIST] s t ∧ isSet t R.F_REDUN_HIST_GRANT_REJ_S = true ∧
        getF t R.F_REDUN_GRANT_SUMP_CNT_CNT = min (getF s R.F_REDUN_GRANT_SUMP_CNT_CNT + 1) 0xFFFFFFFF) ∧
      (s.redun.role = 2 → ∃ t : State, exec (.leaseRenew src) s = .next t ∧ Only [.csr, .redun] s t ∧
        csrOnly [R.REDUN_RENEW_CNT, R.REDUN_LEASE] s t ∧ t.redun = { s.redun with leaseHeld := true } ∧
        getF t R.F_REDUN_LEASE_LAST_SRC = eff ∧
        getF t R.F_REDUN_RENEW_CNT_A = (if eff.testBit 0 then min (getF s R.F_REDUN_RENEW_CNT_A + 1) 0xFFFF
          else getF s R.F_REDUN_RENEW_CNT_A) ∧
        getF t R.F_REDUN_RENEW_CNT_B = (if eff.testBit 1 then min (getF s R.F_REDUN_RENEW_CNT_B + 1) 0xFFFF
          else getF s R.F_REDUN_RENEW_CNT_B)) ∧
      (s.redun.role = 1 → s.redun.sync = 4 → ∃ t : State, exec (.leaseRenew src) s = .next t ∧
        Only [.csr, .freeCtr, .flood, .slu, .hr, .rcu, .redun, .boot] s t ∧ t.redun.role = 2 ∧ t.redun.roleAct = true ∧
        t.redun.leaseHeld = true ∧ t.redun.closes = [] ∧ isSet t R.F_REDUN_HIST_ROLE_S = true ∧
        t.redun.sync = if s.redun.peer.role = 1 ∧ s.redun.peer.sync = 4 then 4 else 2) ∧
      (s.redun.role = 1 → s.redun.sync ≠ 4 → s.sched.running = true ∨ s.hr.jhead ≤ s.hr.jappl →
        ∃ t : State, exec (.leaseRenew src) s = .next t ∧ t.redun.role = 2 ∧ t.redun.roleAct = true ∧ t.redun.leaseHeld = true ∧
          t.rst.stage = .restart ∧ t.rst.coresHeld = true ∧ (∀ c < 64, (getCore t c).held = true) ∧
          (s.hr.jhead ≤ s.hr.jappl → t.slu.groups = []) ∧ isSet t R.F_REDUN_HIST_COLD_S = true ∧
          (s.redun.sync = 3 ∧ s.redun.unit = true ∧ s.redun.copied ≠ none → t.hr.jhead = s.hr.jhead) ∧
          (¬ (s.redun.sync = 3 ∧ s.redun.unit = true ∧ s.redun.copied ≠ none) → t.hr.jhead = 0 ∧ t.hr.jappl = 0 ∧
            t.hr.sessions = [] ∧ isSet t R.F_HEADRACE_STAT_JOURNAL_LOST_S = true) ∧
          t.redun.sync = if s.redun.sync = 3 then 2 else s.redun.sync))) ∧
  (∀ s : State, (s.redun.paired = false ∨ s.redun.leaseHeld = false → exec .leaseExpiry s = .next s) ∧
    (s.redun.paired = true → s.redun.leaseHeld = true → s.redun.role = 2 ∨ s.redun.role = 3 →
      ∃ t : State, exec .leaseExpiry s = .next t ∧ Only [.csr, .flood, .hr, .rcu, .redun, .boot] s t ∧ t.redun.role = 1 ∧
        t.redun.roleAct = false ∧ t.redun.leaseHeld = false ∧ t.redun.sync = s.redun.sync ∧
        isSet t R.F_REDUN_HIST_ROLE_S = true ∧ (s.redun.role = 2 → isSet t R.F_REDUN_HIST_LEASE_LOST_S = true))) ∧
  (∀ s : State, exec .leaseHbToggle s =
    .next (if hbRuns s then { s with redun := { s.redun with hb := !s.redun.hb } } else s)) ∧
  (∀ (v : Word) (s : State),
    (8 ≤ s.prf.queue.length → ∃ t : State, exec (.redunModeWrite v) s = .next t ∧ Only [.csr] s t ∧
      csrOnly [R.PRF_STAT, R.PRF_QUEUE_SUMP_CNT] s t ∧ isSet t R.F_PRF_STAT_QUEUE_REJ_S = true) ∧
    (s.prf.queue.length < 8 → s.prf.pf = false → ∃ t : State, exec (.redunModeWrite v) s = .next t ∧ Only [.prf] s t ∧
      t.prf = { s.prf with queue := s.prf.queue ++ [(0x20, setBits v.toNat 3 3 0)], busy := true })) ∧
  (∀ s : State,
    (s.redun.role = 2 → s.redun.sync = 4 → s.redun.peer.role = 1 →
      (∃ t : State, exec .redunYield s = .next t ∧ Only [.csr, .hr, .rcu, .redun] s t ∧ t.redun.role = 3 ∧
        t.redun.yieldCause = 4 ∧ t.redun.roleAct = s.redun.roleAct ∧ isSet t R.F_REDUN_HIST_ROLE_S = true) ∧
      (revertBit s = true → homeBit s = false → s.redun.peer.home = true →
        ∃ t : State, exec .revertYield s = .next t ∧ Only [.csr, .hr, .rcu, .redun] s t ∧ t.redun.role = 3 ∧
          t.redun.yieldCause = 5 ∧ t.redun.roleAct = s.redun.roleAct)) ∧
    (s.redun.role ≠ 2 ∨ s.redun.sync ≠ 4 ∨ s.redun.peer.role ≠ 1 → exec .revertYield s = .next s ∧
      ∃ t : State, exec .redunYield s = .next t ∧ Only [.csr] s t ∧ csrOnly [R.REDUN_HIST] s t ∧
        isSet t R.F_REDUN_HIST_YIELD_REJ_S = true))

/-- R295 and R313 to R317. -/
def Obligations.SirlosLink : Prop :=
  (∀ (l : LinkHdr) (s : State),
    let up := if l.lane = 0 then s.redun.lane0 else s.redun.lane1
    let next := if l.lane = 0 then s.redun.rcv0 else s.redun.rcv1
    (s.redun.paired = true → l.crcOk = true → up = true → l.seq = next → linkAccept s l = (true, { s with redun :=
      (if l.lane = 0 then { s.redun with rcv0 := (next + 1) % 2 ^ 32 } else { s.redun with rcv1 := (next + 1) % 2 ^ 32 }) })) ∧
    (s.redun.paired = false ∨ (l.crcOk = true ∧ (up = false ∨ l.seq ≠ next)) → linkAccept s l = (false, s)) ∧
    (s.redun.paired = true → l.crcOk = false → (linkAccept s l).1 = false ∧ Only [.csr] s (linkAccept s l).2 ∧
      csrOnly [R.REDUN_SIRLOS_CRC_SUMP_CNT] s (linkAccept s l).2 ∧ getF (linkAccept s l).2 R.F_REDUN_SIRLOS_CRC_SUMP_CNT_CNT =
        min (getF s R.F_REDUN_SIRLOS_CRC_SUMP_CNT_CNT + 1) 0xFFFFFFFF) ∧
    ((linkAccept s l).1 = false → ∀ (a b c d : Nat) (x y : Bool) (e : Hello) (p : Int) (q : PeerEdge) (m : List Nat)
        (w z : List (Nat × Nat)) (ci : CopyItem) (sd : SweepData),
      ∀ f ∈ [Instr.sirlosStatusRx l a b x y c d, .sirlosHelloRx l e, .sirlosTickRx l a b p q, .sirlosCanaryRx l a b m,
        .sirlosMirrorRx l a m, .sirlosRatioRx l a w z, .sirlosFwdRx l a b c, .sirlosCloseRx l a m, .sirlosCopyRx l ci,
        .sirlosSweepRx l a b sd, .sirlosSwackRx l a x, .mirrorAck l a], exec f s = .next (linkAccept s l).2)) ∧
  (∀ (k : Nat) (s : State), k < 2 →
    (s.redun.paired = true → domHeld s 5 = false → isSet s R.F_RCU_STAT_RELOCKING = false →
      ∃ t : State, exec (.sirlosLaneUp k) s = .next t ∧ Only [.csr, .redun] s t ∧
      csrOnly [R.REDUN_SIRLOS_STAT] s t ∧ t.redun.lane0 = (s.redun.lane0 || k == 0) ∧ t.redun.lane1 = (s.redun.lane1 || k == 1) ∧
      getF t R.F_REDUN_SIRLOS_STAT_LOCK = ofBool t.redun.lane0 + 2 * ofBool t.redun.lane1 ∧
      (s.redun.lane0 = true ∨ s.redun.lane1 = true → t.redun.tx = s.redun.tx)) ∧
    (∃ t : State, exec (.sirlosLaneDown k) s = .next t ∧ Only [.csr, .redun] s t ∧ csrOnly [R.REDUN_SIRLOS_STAT] s t ∧
      t.redun = (if k = 0 then { s.redun with lane0 := false } else { s.redun with lane1 := false }) ∧
      getF t R.F_REDUN_SIRLOS_STAT_LOCK = ofBool t.redun.lane0 + 2 * ofBool t.redun.lane1)) ∧
  (∀ (k : Nat) (s : State), (s.redun.tx.any (fun f => f.1 == k) = false → exec (.sirlosResend k) s = .next s) ∧
    (s.redun.tx.any (fun f => f.1 == k) = true → ∃ t : State, exec (.sirlosResend k) s = .next t ∧ Only [.csr] s t ∧
      csrOnly [R.REDUN_SIRLOS_RETX_CNT] s t ∧
      getF t R.F_REDUN_SIRLOS_RETX_CNT_CNT = min (getF s R.F_REDUN_SIRLOS_RETX_CNT_CNT + 1) 0xFFFFFFFF)) ∧
  (∀ s : State, (s.redun.paired = false ∨ s.redun.sync = 0 → exec .peerLost s = .next s) ∧
    (s.redun.paired = true → s.redun.sync ≠ 0 → ∃ t : State, exec .peerLost s = .next t ∧
      Only [.csr, .freeCtr, .slu, .hr, .redun] s t ∧ t.redun.sync = 1 ∧ t.redun.tx = [] ∧ t.redun.peer = ⟨7, 0, false, false⟩ ∧
      t.redun.feeding = false ∧ t.redun.role = s.redun.role ∧ t.redun.roleAct = s.redun.roleAct ∧ t.hr.waitAck = [] ∧
      isSet t R.F_REDUN_HIST_PEER_LOST_S = true ∧ (s.redun.sync = 4 → isSet t R.F_REDUN_HIST_UNSYNC_S = true))) ∧
  (∀ s : State, s.redun.paired = true → s.redun.lane0 = true →
    ∀ q ∈ [(Instr.helloSend, LinkMsg.hello (localHello s)),
      (.statusSend, .status s.redun.role s.redun.sync (homeBit s) (isSet s R.F_TEST_STAT_OPEN) s.redun.rcv0 s.redun.rcv1)],
    exec q.1 s = .next { s with redun :=
      { s.redun with tx := s.redun.tx ++ [(0, s.redun.seq0, q.2)], seq0 := (s.redun.seq0 + 1) % 2 ^ 32 } }) ∧
  (∀ (l : LinkHdr) (x : Hello) (s r : State), linkAccept s l = (true, r) → s.redun.sync = 1 ∨ s.redun.sync = 2 →
    let was := if s.redun.sync = 1 then 0 else s.redun.reason
    let d := helloReason (localHello r) x
    ∃ t : State, exec (.sirlosHelloRx l x) s = .next t ∧ Only [.csr, .redun] s t ∧ csrOnly [R.REDUN_EPOCH] s t ∧
      getF t R.F_REDUN_EPOCH_PEER = x.epoch % 65536 ∧ t.redun.sync = 2 ∧ t.redun.peerHello = some x ∧
      t.redun.reason = (if d ≠ 0 then d else if reasonBlocks was = true ∧ s.redun.peer.role ≠ 4 then 0 else was)) ∧
  (∀ (l : LinkHdr) (role sync : Nat) (home test : Bool) (a0 a1 : Nat) (s r : State), linkAccept s l = (true, r) →
    ∃ t : State, exec (.sirlosStatusRx l role sync home test a0 a1) s = .next t ∧
      Only [.csr, .freeCtr, .slu, .hr, .rcu, .redun] s t ∧ t.redun.peer = ⟨role % 8, sync % 8, home, test⟩ ∧
      t.redun.role = s.redun.role ∧
      (∀ f ∈ t.redun.tx, f ∈ s.redun.tx ∧ ¬ (f.1 = 0 ∧ seqLe (f.2.1 + 1) a0 = true) ∧ ¬ (f.1 = 1 ∧ seqLe (f.2.1 + 1) a1 = true)) ∧
      (s.redun.sync = 4 → role = 4 → t.redun.sync = 2 ∧ t.redun.reason = 7 ∧ isSet t R.F_REDUN_HIST_UNSYNC_S = true) ∧
      (s.redun.sync = 4 → s.redun.role = 2 → role = 2 → s.redun.reason ≠ 11 → t.redun.sync = 2 ∧ t.redun.reason = 11 ∧
        isSet t R.F_REDUN_HIST_DUAL_S = true) ∧
      (s.redun.sync = 4 → s.redun.peer.sync = 4 → sync ≠ 4 → role ≠ 4 → ¬ (s.redun.role = 2 ∧ role = 2) →
        isSet t R.F_REDUN_HIST_UNSYNC_S = true ∧ t.redun.sync ≠ 4) ∧
      (s.redun.sync = 2 → s.redun.role = 1 → role = 2 → sync = 3 → t.redun.sync = 3 ∧ t.redun.phase = 1 ∧ t.redun.unit = true))

/-- R152, R305, R308 and R309. `r` is the state with the frame counted in. -/
def Obligations.StandbyReceives : Prop :=
  (∀ (l : LinkHdr) (idx tmc : Nat) (phi : Int) (e : PeerEdge) (s r : State), linkAccept s l = (true, r) →
    let off := follows s = true ∧ s.redun.sync = 4 ∧ (idx ≠ nowIdx s ∨ tmc ≠ s.tally.tmc)
    ∃ t : State, exec (.sirlosTickRx l idx tmc phi e) s = .next t ∧ Only [.csr, .freeCtr, .slu, .hr, .rcu, .redun, .tally] s t ∧
      getF t R.F_REDUN_ALIGN_SKEW = lowBits 16 (satInt 16 e.skew) ∧ isSet t (R.F_RCU_IN_STAT_PRESENT 7) = true ∧
      (isHit s 7 e.t = false → (getIn t 7).last = some e.t ∧ (getIn t 7).edges = (getIn s 7).edges + 1) ∧
      t.redun.tickRec = some (idx, tmc, 0) ∧ t.redun.role = s.redun.role ∧
      (follows s = false → t.tally = s.tally ∧ t.redun.sync = s.redun.sync) ∧
      (follows s = true → ¬ off → t.tally = { s.tally with phi := phi } ∧ t.redun.sync = s.redun.sync) ∧
      (off → t.tally = s.tally ∧ t.redun.sync = 2 ∧ t.redun.reason = 8 ∧ isSet t R.F_REDUN_HIST_DIVERGE_S = true ∧
        isSet t R.F_REDUN_HIST_UNSYNC_S = true)) ∧
  (∀ (l : LinkHdr) (n slot ts value : Nat) (words lost : List (Nat × Nat)) (present : List Nat) (s r : State),
      linkAccept s l = (true, r) → s.redun.roleAct = false →
    (∃ t : State, exec (.sirlosRatioRx l n words lost) s = .next t ∧ Only [.redun, .ser] s t ∧
      smapFind t.redun.ratios n = some words ∧ t.ser.zeroed = s.ser.zeroed ++ lost) ∧
    (slot < 2048 → bankAdmits s (ringAddr slot ts / 0x80000) 32 true = true → s.bus.ecc = [] →
      ∃ t : State, exec (.sirlosFwdRx l slot ts value) s = .next t ∧ Only [.mem, .redun, .net] s t ∧
        (∀ k : Nat, smapFind t.net.ring k =
          if k = 256 * slot + ts % 256 then some (ts % 2 ^ 32) else smapFind s.net.ring k) ∧
        readWord t (0x04B80000 + 1024 * slot + 4 * (ts % 256)) 4 = value % 2 ^ 32 ∧
        (∀ a : Nat, (a < ringAddr slot ts ∨ ringAddr slot ts + 4 ≤ a) → readByte t a = readByte s a)) ∧
    (slot < 2048 → bankAdmits s (ringAddr slot ts / 0x80000) 32 true = false →
      ∃ t : State, exec (.sirlosFwdRx l slot ts value) s = .next t ∧ Only [.csr, .redun] s t ∧
        csrOnly [R.RSV_OWN_SUMP_CNT, R.RSV_STAT, R.RSV_OWN_LAST] s t ∧ isSet t R.F_RSV_STAT_OWN_S = true) ∧
    (∃ t : State, exec (.sirlosCloseRx l n present) s = .next t ∧ Only [.redun] s t ∧
      ∀ k : Nat, smapFind t.redun.closes k = if k = n then some present else smapFind s.redun.closes k)) ∧
  (∀ (l : LinkHdr) (n slot ts value : Nat) (words lost : List (Nat × Nat)) (present : List Nat) (s r : State),
      linkAccept s l = (true, r) → s.redun.roleAct = true →
    ∀ f ∈ [Instr.sirlosRatioRx l n words lost, .sirlosFwdRx l slot ts value, .sirlosCloseRx l n present], exec f s = .next r) ∧
  (∀ s : State, ∃ t : State, exec .fwdRecordLate s = .next t ∧ Only [.csr, .freeCtr, .slu, .hr, .redun] s t ∧ isSet t R.F_REDUN_HIST_FWD_LATE_S = true ∧
      getF t R.F_REDUN_FWD_LATE_SUMP_CNT_CNT = min (getF s R.F_REDUN_FWD_LATE_SUMP_CNT_CNT + 1) 0xFFFFFFFF ∧
      (s.redun.sync ≠ 4 → t.redun = s.redun ∧ t.hr = s.hr ∧ csrOnly [R.REDUN_FWD_LATE_SUMP_CNT, R.REDUN_HIST] s t) ∧
      (s.redun.sync = 4 → t.redun.sync = 2 ∧ t.redun.reason = 9 ∧ t.hr.waitAck = [] ∧ t.redun.role = s.redun.role ∧
        isSet t R.F_REDUN_HIST_UNSYNC_S = true)) ∧
  (∀ (l : LinkHdr) (jpos : Nat) (b : List Nat) (s r : State), linkAccept s l = (true, r) →
      s.redun.roleAct = true ∨ (s.redun.sync ≠ 4 ∧ s.redun.sync ≠ 3) → exec (.sirlosMirrorRx l jpos b) s = .next r) ∧
  (∀ (l : LinkHdr) (jpos : Nat) (b : List Nat) (s r : State), linkAccept s l = (true, r) → s.redun.roleAct = false →
      s.redun.sync = 3 → s.redun.copied = none → b.length = 32 → (∀ x ∈ b, x < 256) →
      bankAdmits s (journalAddr jpos / 0x80000) 16 true = true → s.bus.ecc = [] →
    ∃ t : State, exec (.sirlosMirrorRx l jpos b) s = .next t ∧ Only [.mem, .hr, .bus, .redun] s t ∧
      readBytes t (journalAddr jpos) 32 = b ∧
      (∀ a : Nat, a < journalAddr jpos ∨ journalAddr jpos + 32 ≤ a → readByte t a = readByte s a) ∧
      t.hr.jhead = max s.hr.jhead jpos ∧ t.hr.jappl = s.hr.jappl)

/-- R317 to R319. `r` is the state with the frame counted in. -/
def Obligations.ResyncCopy : Prop :=
  (∀ s : State,
    let may := s.redun.paired = true ∧ s.redun.role = 2 ∧ s.redun.sync = 2 ∧ s.redun.peer.role = 1 ∧ s.redun.peer.sync = 2 ∧
      ¬ (1 ≤ s.redun.reason ∧ s.redun.reason ≤ 7)
    (may → ∀ q : Instr, q = .redunResyncReq ∨ (q = .autoResyncStart ∧ isSet s R.F_REDUN_CTL_AUTO_RESYNC = true) →
      ∃ t : State, exec q s = .next t ∧ Only [.csr, .redun] s t ∧ csrOnly [R.REDUN_RESYNC] s t ∧
        getF t R.F_REDUN_RESYNC_TRIES = 0 ∧
        t.redun = { s.redun with sync := 3, phase := 1, unit := false, copied := none, verify := none }) ∧
    (¬ may → exec .redunResyncReq s = .next s ∧ exec .autoResyncStart s = .next s) ∧
    (isSet s R.F_REDUN_CTL_AUTO_RESYNC = false → exec .autoResyncStart s = .next s) ∧
    (s.redun.sync ≠ 3 → exec .redunResyncAbort s = .next s) ∧
    (s.redun.sync = 3 → ∃ t : State, exec .redunResyncAbort s = .next t ∧ Only [.csr, .freeCtr, .slu, .hr, .redun] s t ∧
      t.redun.sync = 2 ∧ t.redun.reason = 10 ∧ t.redun.phase = 0 ∧ t.redun.items = 0 ∧ t.redun.feeding = false ∧
      t.redun.role = s.redun.role ∧ t.hr.waitAck = [] ∧ isSet t R.F_REDUN_HIST_RESYNC_FAIL_S = true)) ∧
  (∀ (l : LinkHdr) (s r : State), linkAccept s l = (true, r) → s.redun.sync = 3 → s.redun.unit = true → s.redun.phase = 2 →
    (∀ (c b : Nat) (ws : List Nat), c < 0x4000 → ws.length = 16 → s.bus.ecc = [] →
      (∀ h < 2, bankAdmits s (pstoreAddr h (16 * c) / 0x80000) 14 true = true) →
      ∃ t : State, exec (.sirlosCopyRx l (.cell c b ws)) s = .next t ∧ Only [.mem, .slu, .bus, .redun] s t ∧
        (∀ h < 2, ∀ i < 16, readWord t (pstoreAddr h (16 * c + i)) 4 = ws.getD i 0 % 2 ^ 32) ∧
        cellBsel t c = b % 2 ∧ cellDirty t c = false ∧
        (∀ a : Nat, (∀ h < 2, a < pstoreAddr h (16 * c) ∨ pstoreAddr h (16 * c) + 64 ≤ a) → readByte t a = readByte s a)) ∧
    (∀ (k : Nat) (x : Session), k < 64 → ∃ t : State, exec (.sirlosCopyRx l (.session k x)) s = .next t ∧
      Only [.hr, .redun] s t ∧ getSession t k = { x with outQ := [], lost := 0, evSeq := 1 } ∧ (∀ j : Nat, j ≠ k → getSession t j = getSession s j)) ∧
    (∀ (j : Nat) (b : List Nat), b.length = 32 → (∀ x ∈ b, x < 256) → s.bus.ecc = [] →
      bankAdmits s (journalAddr j / 0x80000) 14 true = true →
      ∃ t : State, exec (.sirlosCopyRx l (.entry j b)) s = .next t ∧ Only [.mem, .hr, .bus, .redun] s t ∧
        readBytes t (journalAddr j) 32 = b ∧ t.hr.jhead = max s.hr.jhead j ∧
        (∀ a : Nat, a < journalAddr j ∨ journalAddr j + 32 ≤ a → readByte t a = readByte s a))) ∧
  (∀ s : State, s.redun.roleAct = true → s.redun.sync = 3 → s.redun.feeding = true → s.redun.copied = none →
    ∃ t : State, exec .copyComplete s = .next t ∧ Only [.redun] s t ∧ t.redun.copied = some (nowIdx s) ∧
      exec .copyComplete t = .next t) ∧
  (∀ (s : State) (x : Nat × Nat × Nat), s.redun.sync = 3 → s.redun.unit = true → s.redun.phase = 2 →
      s.redun.tickRec = some x →
    exec .alignComplete s = .next { s with
      sched := { s.sched with idx := BitVec.ofNat 64 x.1 }
      tally := { s.tally with tmc := x.2.1 }
      redun := { s.redun with aligned := true } }) ∧
  (∀ s : State, s.redun.sync = 3 → s.redun.phase = 2 → s.redun.copied ≠ none →
    (s.redun.unit = false → ∃ t : State, exec .resyncCoreRelease s = .next t ∧ Only [.csr, .redun] s t ∧
      csrOnly [R.REDUN_RESYNC] s t ∧ t.redun.phase = 3 ∧ t.redun.n0 = some (nowIdx s) ∧
      (∀ i : Nat, t.redun.items.testBit i = decide (i < 154)) ∧ getF t R.F_REDUN_RESYNC_ITEMS_LEFT = 154) ∧
    (s.redun.unit = true → s.redun.aligned = false → exec .resyncCoreRelease s = .next s))

/-- R195, R317, R320 and R321. `r` is the state with the frame counted in. -/
def Obligations.SweepItems : Prop :=
  (∀ (item : Nat) (s : State), s.redun.sync = 3 → s.redun.unit = false → s.redun.phase = 3 → item < 154 →
      s.redun.items.testBit item = true → (∀ p ∈ s.redun.passes, p.1 ≠ item) → (item = 0 → s.sched.window = some .a) →
      s.bus.ecc = [] →
    (itemIdle s item = false → exec (.sweepFinalPass item) s = .next s) ∧
    (106 ≤ item → fxQuiet s (item - 106) = false →
      ∃ t : State, exec (.sweepFinalPass item) s = .next t ∧ Only [.csr, .redun] s t ∧
        csrOnly [R.RSV_OWN_SUMP_CNT, R.RSV_STAT, R.RSV_OWN_LAST] s t ∧ t.redun.passes = s.redun.passes ∧
        t.redun.items = s.redun.items ∧ (∀ e ∈ t.redun.dirty, e.1 = item - 106 → e.2 = []) ∧
        (s.redun.paired = true → s.redun.lane1 = true → t.redun.tx = s.redun.tx ++
          [(1, s.redun.seq1, .sweep item (nowIdx s) (.lines (dirtyLines s (item - 106))))])) ∧
    (itemIdle s item = true → (106 ≤ item → fxQuiet s (item - 106) = true) →
    ∃ t : State, exec (.sweepFinalPass item) s = .next t ∧ Only [.csr, .redun] s t ∧
      csrOnly [R.RSV_OWN_SUMP_CNT, R.RSV_STAT, R.RSV_OWN_LAST] s t ∧ (item < 106 → t.csr = s.csr) ∧
      t.redun.passes = s.redun.passes ++ [(item, nowIdx s)] ∧ t.redun.items = s.redun.items ∧
      (∀ e ∈ t.redun.dirty, e ∈ s.redun.dirty ∨ (106 ≤ item ∧ e = (item - 106, []))) ∧
      (∀ e ∈ s.redun.dirty, item < 106 ∨ e.1 ≠ item - 106 → e ∈ t.redun.dirty) ∧
      (s.redun.paired = true → s.redun.lane1 = true →
        t.redun.tx = s.redun.tx ++ [(1, s.redun.seq1, .sweep item (nowIdx s) (itemData s item))]))) ∧
  (∀ (l : LinkHdr) (item : Nat) (ok : Bool) (s r : State), linkAccept s l = (true, r) → s.redun.sync = 3 →
      s.redun.unit = false → s.redun.phase = 3 → item < 154 →
    ∃ t : State, exec (.sirlosSwackRx l item ok) s = .next t ∧ Only [.csr, .redun] s t ∧ csrOnly [R.REDUN_RESYNC] s t ∧
      (∀ p : Nat × Nat, p ∈ t.redun.passes ↔ p ∈ s.redun.passes ∧ p.1 ≠ item) ∧
      (∀ i : Nat, t.redun.items.testBit i = (s.redun.items.testBit i && !(ok && i == item))) ∧
      (ok = true → getF t R.F_REDUN_RESYNC_ITEMS_LEFT = popCount t.redun.items 154)) ∧
  (∀ (item : Nat) (s : State), (s.redun.sync ≠ 3 → exec (.sweepItemDeadline item) s = .next s) ∧
    (s.redun.sync = 3 → ∃ t : State, exec (.sweepItemDeadline item) s = .next t ∧ Only [.redun] s t ∧
      (∀ p : Nat × Nat, p ∈ t.redun.passes ↔ p ∈ s.redun.passes ∧ p.1 ≠ item) ∧ t.redun.items = s.redun.items)) ∧
  (∀ s : State, (s.redun.sync = 3 → s.redun.phase = 3 → s.redun.items ≠ 0 →
      ∃ t : State, exec .resyncItemTimeout s = .next t ∧ Only [.csr, .freeCtr, .slu, .hr, .redun] s t ∧ t.redun.sync = 2 ∧
        t.redun.reason = 10 ∧ isSet t R.F_REDUN_HIST_RESYNC_FAIL_S = true) ∧
    (s.redun.sync ≠ 3 ∨ s.redun.phase ≠ 3 ∨ s.redun.items = 0 → exec .resyncItemTimeout s = .next s)) ∧
  (∀ (l : LinkHdr) (item ns : Nat) (x : SweepData) (s r : State), linkAccept s l = (true, r) → s.redun.sync = 3 →
      s.redun.unit = true → s.redun.phase = 3 → itemFits item x = true → item ≠ 0 →
    (isLines x = true → s.bus.ecc = [] → ∃ t : State, exec (.sirlosSweepRx l item ns x) s = .next t ∧
      Only [.csr, .mem, .redun] s t ∧ csrOnly [R.RSV_OWN_SUMP_CNT, R.RSV_STAT, R.RSV_OWN_LAST] s t ∧
      t.redun.items = s.redun.items ∧ t.redun.muted = s.redun.muted) ∧
    (isLines x = false → inTime s item ns = true → ∃ t : State, exec (.sirlosSweepRx l item ns x) s = .next t ∧
      Only [.csr, .mem, .dsp, .mix, .slu, .bus, .redun] s t ∧ csrOnly [R.REDUN_RESYNC, R.RSV_OWN_SUMP_CNT, R.RSV_STAT, R.RSV_OWN_LAST] s t ∧
      (∀ i : Nat, t.redun.items.testBit i = (s.redun.items.testBit i && i != item)) ∧
      (106 ≤ item → item - 106 ∉ t.redun.muted) ∧ (item < 106 → t.mem = s.mem) ∧
      (∀ a : Nat, inRegions (fxRegions s (item - 106)) a = false → readByte t a = readByte s a)) ∧
    (isLines x = false → inTime s item ns = false → ∃ t : State, exec (.sirlosSweepRx l item ns x) s = .next t ∧ Only [.redun] s t ∧
      t.redun.items = s.redun.items)) ∧
  (∀ (l : LinkHdr) (ns : Nat) (x : SweepData) (s r : State), linkAccept s l = (true, r) → s.redun.sync = 3 →
      s.redun.unit = true → s.redun.phase = 3 → itemFits 0 x = true → idxAge (nowIdx s) ns < 16 →
    ∃ t : State, exec (.sirlosSweepRx l 0 ns x) s = .next t ∧ Only [.redun] s t ∧ t.redun.engine = some (ns, x) ∧
      t.redun.items = s.redun.items)

/-- R312, R317 and R322. `r` is the state with the frame counted in. -/
def Obligations.VerifyAndCanary : Prop :=
  (∀ (l : LinkHdr) (n h : Nat) (items : List Nat) (s r : State), linkAccept s l = (true, r) →
    (s.redun.own.find? (fun e => e.1 == n) = none → ∃ t : State, exec (.sirlosCanaryRx l n h items) s = .next t ∧
      Only [.redun] s t ∧ (n, h, items) ∈ t.redun.theirs ∧ t.redun.own = s.redun.own) ∧
    (∀ o : Nat × Nat × List Nat, s.redun.own.find? (fun e => e.1 == n) = some o →
      (∀ k : Nat, s.redun.verify = some k → o.2.1 = h → ∃ t : State, exec (.sirlosCanaryRx l n h items) s = .next t ∧
        Only [.redun] s t ∧ t.redun.verify = some (k + 1) ∧ t.redun.own = s.redun.own.filter (fun e => e.1 != n)) ∧
      (s.redun.verify ≠ none → o.2.1 ≠ h → getF s R.F_REDUN_RESYNC_TRIES < 3 →
        ∃ t : State, exec (.sirlosCanaryRx l n h items) s = .next t ∧ Only [.csr, .redun] s t ∧ csrOnly [R.REDUN_RESYNC] s t ∧
          t.redun.verify = some 0 ∧ t.redun.phase = 4 ∧ getF t R.F_REDUN_RESYNC_TRIES = getF s R.F_REDUN_RESYNC_TRIES + 1) ∧
      (s.redun.verify ≠ none → o.2.1 ≠ h → 3 ≤ getF s R.F_REDUN_RESYNC_TRIES → s.redun.sync = 3 →
        ∃ t : State, exec (.sirlosCanaryRx l n h items) s = .next t ∧ Only [.csr, .freeCtr, .slu, .hr, .redun] s t ∧
          t.redun.sync = 2 ∧ t.redun.reason = 10 ∧ isSet t R.F_REDUN_HIST_RESYNC_FAIL_S = true) ∧
      (s.redun.verify = none → o.2.1 = h → ∃ t : State, exec (.sirlosCanaryRx l n h items) s = .next t ∧ Only [.redun] s t ∧
        t.redun = { r.redun with own := s.redun.own.filter (fun e => e.1 != n) }) ∧
      (s.redun.verify = none → o.2.1 ≠ h → s.redun.sync = 4 →
        let d := (List.range 114).filter (fun k => nth 0 o.2.2 k != nth 0 items k)
        ∃ t : State, exec (.sirlosCanaryRx l n h items) s = .next t ∧ Only [.csr, .redun] s t ∧
          csrOnly [R.REDUN_HIST, R.REDUN_DIV_ITEM] s t ∧ t.redun.unsyncNext = some 8 ∧ t.redun.divIdx = n ∧ t.redun.sync = 4 ∧
          isSet t R.F_REDUN_HIST_DIVERGE_S = true ∧ getF t R.F_REDUN_DIV_ITEM_COUNT = d.length ∧
          getF t R.F_REDUN_DIV_ITEM_ITEM = d.headD 0))) ∧
  (∀ (n : Nat) (s : State), s.redun.paired = true → s.redun.own.any (fun e => e.1 == n) = true →
    s.redun.verify = none → ∃ t : State, exec (.canaryMissing n) s = .next t ∧ Only [.csr, .redun] s t ∧
      csrOnly [R.REDUN_MISS_CNT] s t ∧ t.redun = { s.redun with own := s.redun.own.filter (fun e => e.1 != n) } ∧
      getF t R.F_REDUN_MISS_CNT_CNT = min (getF s R.F_REDUN_MISS_CNT_CNT + 1) 0xFFFFFFFF) ∧
  (∀ (n : Nat) (s : State), s.redun.paired = false ∨ s.redun.own.any (fun e => e.1 == n) = false →
    exec (.canaryMissing n) s = .next s) ∧
  (∀ (s : State) (n0 : Nat), s.redun.n0 = some n0 → s.redun.sync = 3 → s.redun.phase = 3 → s.redun.items = 0 →
    (idxDue (nowIdx s) (idxAdd n0 (max 8192 s.redun.convLen)) = false → exec .verifyStart s = .next s) ∧
    (idxDue (nowIdx s) (idxAdd n0 (max 8192 s.redun.convLen)) = true → getF s R.F_REDUN_RESYNC_TRIES < 3 →
      ∃ t : State, exec .verifyStart s = .next t ∧ Only [.csr, .redun] s t ∧ csrOnly [R.REDUN_RESYNC] s t ∧
        t.redun = { s.redun with phase := 4, verify := some 0 } ∧
        getF t R.F_REDUN_RESYNC_TRIES = getF s R.F_REDUN_RESYNC_TRIES + 1)) ∧
  (∀ (ms k : Nat) (s : State), s.redun.verify = some k → s.redun.sync = 3 →
    (k < fsHz s → exec (.resyncSynced ms) s = .next s) ∧
    (fsHz s ≤ k → ∃ t : State, exec (.resyncSynced ms) s = .next t ∧ Only [.csr, .redun] s t ∧ csrOnly [R.REDUN_RESYNC_MS] s t ∧
      t.redun = { s.redun with syncNext := true } ∧ getF t R.F_REDUN_RESYNC_MS_MS = min ms 0xFFFF))

/-- R105, R107, R116, R149 and R151, with the tick running. -/
def Obligations.CommandsAccepted : Prop :=
  (∀ (h : Hdr) (r : BitVec 64) (pid value ramp off : Word) (count scene flags k : BitVec 16) (ws ramps mask : List Word)
      (inner : List Nat) (s : State),
    ∀ q ∈ [(Instr.setParam h r pid value, 0x10, paramBody r pid value), (.setBlock h r pid count ws, 0x11, blockBody r pid count ws),
      (.rampParam h r pid value ramp, 0x12, rampBody r pid value ramp),
      (.recallScene h r scene flags mask, 0x20, sceneBody r scene flags [] mask),
      (.storeScene h r scene flags ramps mask, 0x21, sceneBody r scene flags ramps mask),
      (.commitAt h r k inner, 0x22, commitBody r k inner), (.regWrite h r off value, 0x31, paramBody r off value)],
    Served s h q.2.1 q.2.2 → Current s h → h.cls = 1 → s.sched.running = true → JournalOpen s →
    ∀ (ps : List (Nat × Nat × List Nat)) (ms : List Member), partsOf q.2.1 q.2.2 = .ok ps → fieldsRefuse q.2.1 ps = none →
      membersOf s (s.hr.jhead + 1) q.2.1 ps [] = .ok ms →
    (∀ i : Nat, evaluate s h.cyc r.toNat ms = .join i ∨ evaluate s h.cyc r.toNat ms = .form i →
      needs q.2.2.length ≤ journalFree s →
      ∃ t : State, exec q.1 s = .next t ∧ Only [.csr, .mem, .slu, .hr, .bus, .redun] s t ∧
        Accepted s t h q.2.1 i r.toNat false q.2.2 ∧ Advanced s t h ∧ t.slu = (joinGroup s i ms false).slu) ∧
    (∀ code : Nat, evaluate s h.cyc r.toNat ms = .refuse code → ∃ t : State, exec q.1 s = .next t ∧ Only [.csr, .hr] s t ∧
      Refused s t h code 0 ∧ isSet t R.F_SLUICE_STAT_REFUSED_S = true)) ∧
  (∀ (h : Hdr) (r : BitVec 64) (body : UrgentBody) (s : State),
    let h0 := { h with cls := 0 }
    let op := urgentOp body
    let b := urgentBytes r body
    Served s h0 op b → Current s h0 → JournalOpen s → fieldsRefuse op [(0, op, b)] = none →
    ((∀ w ∈ urgentWords op b, w.1 = pidFloodCmd ∨ w.1 = pidFloodRamp) → needs b.length ≤ journalFree s →
      ∃ t : State, exec (.urgentCommand h r body) s = .next t ∧ Only [.csr, .freeCtr, .mem, .slu, .hr, .bus, .redun] s t ∧
        Accepted s t h0 op (urgentIdx s h.cyc) r.toNat true b ∧ Advanced s t h0 ∧ t.slu.groups = s.slu.groups ∧
        t.slu.cells = s.slu.cells ∧ isSet t R.F_SLUICE_STAT_URGENT_S = true ∧
        ∀ w ∈ urgentWords op b, ⟨urgentIdx s h.cyc, s.hr.jhead + 1, w.1, w.2, !mirrors s, urgentIdx s h.cyc⟩ ∈ t.slu.urgent) ∧
    (∀ w : Nat × Nat, (urgentWords op b).find? (fun w => w.1 != pidFloodCmd && w.1 != pidFloodRamp) = some w →
      ∃ t : State, exec (.urgentCommand h r body) s = .next t ∧ Only [.csr, .hr] s t ∧ Refused s t h0 0x0008 w.1))

/-- R145, R148, R160 and R161. -/
def Obligations.SessionCommands : Prop :=
  (∀ (h : Hdr) (client : BitVec 64) (flags : BitVec 16) (mask : Word) (s : State),
    Served s h 0x70 (openBody client flags mask) → h.seq = 0 → client ≠ 0 → (s.redun.paired = true → s.redun.roleAct = true) →
    let k := h.session.toNat
    let x := getSession s k
    (x.isOpen = true → x.client ≠ client.toNat → ∃ t : State, exec (.sessionOpen h client flags mask) s = .next t ∧
      Only [.csr, .hr] s t ∧ Refused s t h 0x0005 0) ∧
    (x.isOpen = false ∨ x.client = client.toNat → 2 ≤ journalFree s → JournalOpen s →
      ∃ t : State, exec (.sessionOpen h client flags mask) s = .next t ∧ Only [.csr, .mem, .hr, .bus, .redun] s t ∧
        t.hr.jhead = s.hr.jhead + 2 ∧ (∀ j : Nat, j ≠ k → getSession t j = getSession s j) ∧
        getSession t k = (if x.isOpen = false then
            { closedSession with isOpen := true, client := client.toNat, reply := h.src, mask := mask.toNat }
          else if flags.toNat.testBit 0 then { x with reply := h.src, mask := mask.toNat }
          else { x with reply := h.src, mask := mask.toNat, norm := emptySpace, urg := emptySpace }))) ∧
  (∀ (h : Hdr) (s : State), Served s h 0x71 [] → Current s h → h.cls = 1 → 1 ≤ journalFree s → JournalOpen s →
    ∃ t : State, exec (.sessionClose h) s = .next t ∧ Only [.csr, .mem, .hr, .bus, .redun] s t ∧
      Accepted s t h 0x71 (idxAdd (nowIdx s) 1) 0 false [] ∧ getSession t h.session.toNat = closedSession ∧
      (∀ j : Nat, j ≠ h.session.toNat → getSession t j = getSession s j)) ∧
  (∀ (k : Nat) (s : State), k < 64 → (getSession s k).isOpen = true → getF s R.F_HEADRACE_CFG_SESS_TMO ≠ 0 →
      (s.redun.paired = true → s.redun.roleAct = true) → k ∉ s.hr.expiring →
    (journalFree s = 0 → exec (.sessionExpiry k) s = .next { s with hr := { s.hr with expiring := s.hr.expiring ++ [k] } }) ∧
    (journalFree s ≠ 0 → JournalOpen s → ∃ t : State, exec (.sessionExpiry k) s = .next t ∧ Only [.csr, .mem, .hr, .bus, .redun] s t ∧
      csrOnly [R.HEADRACE_STAT] s t ∧ isSet t R.F_HEADRACE_STAT_SESS_EXPIRED_S = true ∧ t.hr.jhead = s.hr.jhead + 1 ∧
      getSession t k = closedSession ∧ (∀ j : Nat, j ≠ k → getSession t j = getSession s j))) ∧
  (∀ (h : Hdr) (kind sub : BitVec 8) (period first count : BitVec 16) (s : State),
    let b := meterBody kind sub period first count
    Served s h 0x40 b → Current s h → h.cls = 1 → kind = 0 →
    (meterRefuse (noteValid s h) h.session.toNat b = none → 2 ≤ journalFree s → JournalOpen s →
      ∃ t : State, exec (.meterSub h kind sub period first count) s = .next t ∧ Only [.csr, .mem, .hr, .bus, .redun] s t ∧
        Accepted s t h 0x40 (idxAdd (nowIdx s) 1) 0 false b ∧ Advanced s t h ∧
        ∀ j : Nat, smapFind (getSession t h.session.toNat).subs j =
          if j ≠ sub.toNat then smapFind (getSession s h.session.toNat).subs j
          else if period = 0 then none
          else some ⟨16 * max 2 period.toNat, first.toNat, count.toNat, idxAdd (nowIdx s) 1, []⟩) ∧
    (∀ c : Nat, meterRefuse (noteValid s h) h.session.toNat b = some c → ∃ t : State,
      exec (.meterSub h kind sub period first count) s = .next t ∧ Only [.csr, .hr] s t ∧ Refused s t h c 0)) ∧
  (∀ (h : Hdr) (mask : Word) (s : State), Served s h 0x40 (maskBody mask) → Current s h → h.cls = 1 → 2 ≤ journalFree s → JournalOpen s →
    ∃ t : State, exec (.meterSubEventMask h mask) s = .next t ∧ Only [.csr, .mem, .hr, .bus, .redun] s t ∧
      Accepted s t h 0x40 (idxAdd (nowIdx s) 1) 0 false (maskBody mask) ∧ Advanced s t h ∧
      (getSession t h.session.toNat).mask = mask.toNat ∧
      (getSession t h.session.toNat).subs = (getSession s h.session.toNat).subs)

/-- R144 and R146. The EXPECTED field of a NAK of a closed session is a free value, so that case names only the code. -/
def Obligations.SequenceNumbers : Prop :=
  ∀ (h : Hdr) (r : BitVec 64) (pid value ramp off mask : Word) (kind sub : BitVec 8)
      (count scene flags k period first : BitVec 16) (ws ramps ms : List Word) (inner : List Nat) (s : State),
    ∀ q ∈ [(Instr.setParam h r pid value, 0x10, paramBody r pid value), (.setBlock h r pid count ws, 0x11, blockBody r pid count ws),
      (.rampParam h r pid value ramp, 0x12, rampBody r pid value ramp),
      (.recallScene h r scene flags ms, 0x20, sceneBody r scene flags [] ms),
      (.storeScene h r scene flags ramps ms, 0x21, sceneBody r scene flags ramps ms),
      (.commitAt h r k inner, 0x22, commitBody r k inner), (.regWrite h r off value, 0x31, paramBody r off value),
      (.meterSub h kind sub period first count, 0x40, meterBody kind sub period first count),
      (.meterSubEventMask h mask, 0x40, maskBody mask), (.sessionClose h, 0x71, [])],
    Served s h q.2.1 q.2.2 → h.cls = 1 →
    let e := expectedOf s h
    let n := h.seq.toNat
    let active := s.redun.paired = true → s.redun.roleAct = true
    ((getSession s h.session.toNat).isOpen = false → active → ∃ t : State, exec q.1 s = .next t ∧ Only [.csr, .freeCtr, .hr] s t ∧
      getF t R.F_HEADRACE_LAST_NAK_CODE = 0x0004 ∧ t.hr.jhead = s.hr.jhead ∧ t.hr.sessions = s.hr.sessions ∧
      t.hr.txQ.length = s.hr.txQ.length + 1 ∧
      getF t R.F_HEADRACE_NAK_CNT_NAK_CNT = min (getF s R.F_HEADRACE_NAK_CNT_NAK_CNT + 1) 0xFFFFFFFF) ∧
    ((getSession s h.session.toNat).isOpen = true →
      (∀ a : AckRec, active → 1 ≤ n → n < e → e ≤ n + 32 →
        (getSession s h.session.toNat).norm.acks.find? (fun a => a.seq == n) = some a →
        ∃ t : State, exec q.1 s = .next t ∧ Only [.hr] s t ∧ t.hr.jhead = s.hr.jhead ∧
          t.hr.txQ = s.hr.txQ ++ [⟨h.src, message h.session.toNat 1 0x60 a.seq (ackBody a true)⟩]) ∧
      (∀ code : Nat, (s.redun.paired = true ∧ s.redun.roleAct = false ∧ code = 0x0013) ∨
          (active ∧ 1 ≤ n ∧ n < e ∧ e ≤ n + 32 ∧
            (getSession s h.session.toNat).norm.acks.find? (fun a => a.seq == n) = none ∧ code = 0x0007) ∨
          (active ∧ 1 ≤ n ∧ n + 32 < e ∧ s.rst.stage ≠ .restart ∧ code = 0x0007) ∨
          (active ∧ (n = 0 ∨ e ≤ n ∨ n + 32 < e) ∧ s.rst.stage = .restart ∧ code = 0x0016) ∨
          (active ∧ (n = 0 ∨ e < n) ∧ s.rst.stage ≠ .restart ∧ code = 0x0006) ∨
          (active ∧ n = e ∧ 0 < n ∧ n < 2 ^ 48 - 1 ∧ s.rst.stage ≠ .restart ∧ s.redun.paired = true ∧ s.redun.role = 3 ∧
            code = 0x0013) →
        ∃ t : State, exec q.1 s = .next t ∧ Only [.csr, .hr] s t ∧ Refused s t h code 0))

/-- R135, R137 to R139 and R143. -/
def Obligations.ReadsAndSurface : Prop :=
  (∀ (h : Hdr) (off : Word) (count : BitVec 16) (s : State), Served s h 0x30 (readBody off count) →
    (getSession s h.session.toNat).isOpen = true ∨ off.toNat < 0x10000 → 0 < count.toNat → count.toNat ≤ 64 →
    off.toNat + 4 * (count.toNat - 1) < 0x200000 → s.bus.csrHung = false →
    let data := (csrReads h.cyc count.toNat off.toNat (noteValid s h)).1
    ∃ t : State, exec (.regRead h off count) s = .next t ∧ Only [.csr, .freeCtr, .hr, .net] s t ∧ t.hr.jhead = s.hr.jhead ∧
      data.length = count.toNat ∧ t.hr.txQ = s.hr.txQ ++ [⟨h.src, message h.session.toNat h.cls.toNat 0x60 h.seq.toNat
        (ackBody ⟨h.seq.toNat, noJpos, nowIdx s, 0, false, false, !isSynced s, data.flatMap (beBytes 4)⟩ false)⟩]) ∧
  (∀ (src : Endpoint) (m : List Nat) (s : State), answers s = true → s.hr.rxQ = [] → viaOn s src.via = true →
    let formed := 16 ≤ m.length ∧ m.length = 16 + op8 m 6 2 ∧ op8 m 0 2 = 0x5A48 ∧ op8 m 4 1 < 0x80 ∧ checkOk src.via m = true
    (¬ formed → ∃ t : State, exec (.headraceBadMessage src m) s = .next t ∧ Only [.csr] s t ∧
      csrOnly [R.HEADRACE_RX_SUMP_CNT, R.HEADRACE_STAT] s t ∧ isSet t R.F_HEADRACE_STAT_RX_DISCARD_S = true ∧
      getF t R.F_HEADRACE_RX_SUMP_CNT_RX_SUMP_CNT = min (getF s R.F_HEADRACE_RX_SUMP_CNT_RX_SUMP_CNT + 1) 0xFFFFFFFF) ∧
    (formed → op8 m 2 1 ≠ 1 ∨ hostOpcode (op8 m 5 1) = false → ∃ t : State, exec (.headraceBadMessage src m) s = .next t ∧
      Only [.csr, .freeCtr, .hr] s t ∧ t.hr.jhead = s.hr.jhead ∧ t.hr.sessions = s.hr.sessions ∧
      t.hr.txQ.length = s.hr.txQ.length + 1 ∧
      getF t R.F_HEADRACE_LAST_NAK_CODE = (if op8 m 2 1 ≠ 1 then 0x0001 else 0x0002) ∧
      getF t R.F_HEADRACE_NAK_CNT_NAK_CNT = min (getF s R.F_HEADRACE_NAK_CNT_NAK_CNT + 1) 0xFFFFFFFF)) ∧
  (∀ (m : List Nat) (s : State), answers s = true → isSet s R.F_HEADRACE_CTL_SURF_EN = true →
    let fits := 16 ≤ m.length ∧ m.length = 16 + op8 m 6 2 ∧ m.length ≤ (if op8 m 5 1 = 0x80 then 8208 else 1472) ∧ surfHeld s < 4
    let bs := m.map (fun b => b % 256)
    let cls := op8 bs 4 1 % 4
    let good := op8 bs 0 2 = 0x5A48 ∧ op8 bs 4 1 < 0x80 ∧ checkOk .surface bs = true
    (fits → queueFull s cls = false → exec (.surfWriteMsg m) s =
      .next { s with hr := { s.hr with rxQ := s.hr.rxQ ++ [⟨.surface, bs⟩], surfOut := [] } }) ∧
    (fits → queueFull s cls = true → good → ∃ t : State, exec (.surfWriteMsg m) s = .next t ∧ Only [.csr, .freeCtr, .hr] s t ∧
      getF t R.F_HEADRACE_LAST_NAK_CODE = 0x0014 ∧ t.hr.rxQ = s.hr.rxQ ∧ t.hr.surfOut = [] ∧
      t.hr.txQ.length = s.hr.txQ.length + 1 ∧ t.hr.sessions = s.hr.sessions ∧
      (cls = 0 → isSet t R.F_HEADRACE_STAT_URGENT_DROP_S = true)) ∧
    (fits → queueFull s cls = true → ¬ good → ∃ t : State, exec (.surfWriteMsg m) s = .next t ∧ Only [.csr, .hr] s t ∧
      t.hr = { s.hr with surfOut := [] } ∧ csrOnly [R.HEADRACE_RX_SUMP_CNT, R.HEADRACE_STAT] s t ∧
      isSet t R.F_HEADRACE_STAT_RX_DISCARD_S = true) ∧
    (¬ fits → ∃ t : State, exec (.surfWriteMsg m) s = .next t ∧ Only [.csr] s t ∧
      csrOnly [R.HEADRACE_RX_SUMP_CNT, R.HEADRACE_STAT] s t ∧ isSet t R.F_HEADRACE_STAT_RX_DISCARD_S = true)) ∧
  (∀ (n : Nat) (s : State), isSet s R.F_HEADRACE_CTL_SURF_EN = true →
    (∃ t : State, exec .surfStatus s = .next t ∧ Only [.hr] s t ∧ t.hr = { s.hr with surfOut := t.hr.surfOut } ∧
      t.hr.surfOut.length = 2 ∧
      (takeOut s .surface = none → t.hr.surfOut = [if answers s && decide (surfHeld s < 4) then 0x80 else 0, 0])) ∧
    (∀ o : OutMsg, s.hr.txQ.find? (fun q => q.dst.via = .surface) = some o →
      ∃ t : State, exec (.surfReadMsg n) s = .next t ∧ Only [.hr] s t ∧ t.hr.txQ = s.hr.txQ.erase o ∧
        t.hr.surfOut = (o.bytes ++ List.replicate (n - o.bytes.length) 0).take n) ∧
    (takeOut s .surface = none →
      exec (.surfReadMsg n) s = .next { s with hr := { s.hr with surfOut := List.replicate n 0 } }))

/-- R152 and R153. `r` is the state with the frame counted in. -/
def Obligations.Mirror : Prop :=
  (∀ (l : LinkHdr) (jpos : Nat) (s r : State), linkAccept s l = (true, r) →
    (feeds s = false → exec (.mirrorAck l jpos) s = .next r) ∧
    (feeds s = true →
      let m := min jpos s.hr.jhead
      let ws := s.hr.waitAck.filter (fun w => decide (w.last ≤ m))
      ∃ t : State, exec (.mirrorAck l jpos) s = .next t ∧ Only [.csr, .freeCtr, .slu, .hr, .redun] s t ∧
        t.hr.waitAck = s.hr.waitAck.filter (fun w => decide (m < w.last)) ∧ t.hr.mack = max s.hr.mack m ∧
        t.hr.jhead = s.hr.jhead ∧ t.hr.sessions = s.hr.sessions ∧
        ((∀ w ∈ ws, w.copies = []) → t.hr.txQ = s.hr.txQ ++
          ws.map (fun w => ⟨w.dst, message w.session w.cls 0x60 w.ack.seq (ackBody w.ack false)⟩)) ∧
        t.slu.groups = s.slu.groups ∧ (∀ u ∈ t.slu.urgent, u.jpos ≤ m → u.received = true))) ∧
  (∀ s : State, (feeds s = false ∨ s.hr.jhead ≤ s.hr.mack → exec .mirrorTimeout s = .next s) ∧
    (feeds s = true → s.hr.mack < s.hr.jhead → s.redun.sync ≠ 0 → ∃ t : State, exec .mirrorTimeout s = .next t ∧
      Only [.csr, .freeCtr, .slu, .hr, .redun] s t ∧ isSet t R.F_HEADRACE_STAT_MIRROR_TMO_S = true ∧ t.redun.sync = 1 ∧
      t.hr.waitAck = [] ∧ t.redun.feeding = false ∧ isSet t R.F_REDUN_HIST_PEER_LOST_S = true))

/-- R105, R127, R130 and R131. -/
def Obligations.SluiceWork : Prop :=
  (∀ s : State, (∀ g ∈ s.slu.groups, g.st ≠ .opn) → exec .groupStaged s = .next s) ∧
  (∀ (s : State) (g : Group) (pre post : List Group), s.slu.groups = pre ++ g :: post → (∀ x ∈ pre, x.st ≠ .opn) → g.st = .opn →
    ((∀ m ∈ g.members, ∀ (j sc n : Nat) (us : List Nat), m ≠ .recalled j sc us true n) →
      let ws := g.members.flatMap (memberWrites s)
      (∀ w ∈ ws, w.pid < 2 ^ 19) → PstoreOpen s →
      ∃ t : State, exec .groupStaged s = .next t ∧ Only [.mem, .mix, .slu, .bus] s t ∧
        t.mix = { s.mix with stg := t.mix.stg, mstg := t.mix.mstg, planes := t.mix.planes } ∧
        t.slu = { s.slu with groups := pre ++ { g with st := .ready, staged := ws } :: post, cells := t.slu.cells } ∧
        (∀ p < 2 ^ 19, plive t p = plive s p ∧
          pshadow t p = match (ws.filter (fun w => w.pid == p)).getLast? with
            | some w => w.value % 2 ^ 32
            | none => pshadow s p) ∧
        (∀ c : Nat, cellBsel t c = cellBsel s c ∧ cellDirty t c = (cellDirty s c || ws.any (fun w => w.pid / 16 == c))) ∧
        (∀ a : Nat, a < 0x04000000 ∨ 0x04400000 ≤ a → readByte t a = readByte s a)) ∧
    (∀ (j sc n : Nat) (us : List Nat), g.members = [.recalled j sc us true n] → (loadScene s sc).1 = false →
      SceneBufOpen s → ∃ t : State, exec .groupStaged s = .next t ∧ Only [.csr, .mem, .mix, .slu, .hr, .bus] s t ∧
        t.mix = { s.mix with stg := [], mstg := [] } ∧
        csrOnly [R.SLUICE_STAT, R.HEADRACE_EVT_SUMP_CNT] s t ∧ isSet t R.F_SLUICE_STAT_LOAD_FAIL_S = true ∧
        t.slu.groups = pre ++ { g with st := .ready, members := [.recalled j sc [] false 0], staged := [] } :: post ∧
        t.slu.buf.valid = false ∧ t.slu.cells = s.slu.cells ∧ (∀ p < 2 ^ 19, plive t p = plive s p ∧ pshadow t p = pshadow s p))) ∧
  (∀ s : State, (∀ g r, s.slu.groups = g :: r → g.st ≠ .settle) → exec .groupSettleDone s = .next s) ∧
  (∀ (s : State) (g : Group) (rest : List Group), s.slu.groups = g :: rest → g.st = .settle →
    let opened := match rest with
      | [] => []
      | h :: r => (if h.st = .wait then { h with st := .opn } else h) :: r
    ((∀ m ∈ g.members, ∀ (j sc : Nat) (x y : Option (List Nat)), m ≠ .store j sc x y) → (∀ w ∈ g.staged, w.pid < 2 ^ 19) →
      PstoreOpen s → ∃ t : State, exec .groupSettleDone s = .next t ∧ Only [.mem, .slu, .bus] s t ∧
        t.slu = { s.slu with groups := opened, owed := 0 } ∧ (∀ p < 2 ^ 19, plive t p = plive s p) ∧
        (∀ w ∈ g.staged, w.pid / 16 ≠ 0x3C10 → pshadow t w.pid = plive s w.pid) ∧
        (∀ a : Nat, a < 0x04000000 ∨ 0x04400000 ≤ a → readByte t a = readByte s a)) ∧
    (∀ (j sc : Nat) (x y : Option (List Nat)), g.members = [.store j sc x y] → g.staged = [] →
      SceneBufOpen s → ∃ t : State, exec .groupSettleDone s = .next t ∧ Only [.mem, .slu, .bus] s t ∧
        t.slu = { s.slu with
          groups := opened
          owed := 0
          buf := { s.slu.buf with
            valid := false, storing := true, scene := sc, storeLen := recordLen (maskUnits (x.getD fullMask)), storeJpos := j } } ∧
        readWord t bufAddr 4 = 0x5A534345 ∧ readWord t (bufAddr + 4) 2 = sc % 65536)) ∧
  (∀ (ok : Bool) (s : State), s.slu.buf.storing = false → exec (.sceneStoreDone ok) s = .next s) ∧
  (∀ s : State, s.slu.buf.storing = true → ∃ t : State, exec (.sceneStoreDone false) s = .next t ∧ Only [.csr, .slu, .hr] s t ∧
    csrOnly [R.HEADRACE_EVT_SUMP_CNT] s t ∧ t.slu = { s.slu with buf := { s.slu.buf with storing := false } }) ∧
  (∀ (s : State) (off : Nat), s.slu.buf.storing = true → showRoom s s.slu.buf.storeLen = some off → 0 < s.slu.buf.storeLen →
    s.slu.buf.scene < 1024 → off < 2 ^ 32 → s.slu.buf.storeLen ≤ 0x200000 → BanksOpen s 140 144 0 →
    ∃ t : State, exec (.sceneStoreDone true) s = .next t ∧ Only [.csr, .mem, .slu, .hr, .bus] s t ∧
      csrOnly [R.HEADRACE_EVT_SUMP_CNT] s t ∧
      t.slu = { s.slu with buf := { s.slu.buf with storing := false, dir := some (1 - s.slu.buf.dir.getD 1) } } ∧
      readBytes t (s.slu.buf.showBase + off) s.slu.buf.storeLen = readBytes s bufAddr s.slu.buf.storeLen ∧
      dirEntry t s.slu.buf.scene = (off, s.slu.buf.storeLen, readWord s (bufAddr + 12) 4)) ∧
  (∀ s : State, s.slu.buf.loading = false ∨ s.slu.buf.preload = false → exec .preloadDone s = .next s) ∧
  (∀ s : State, s.slu.buf.loading = true → s.slu.buf.preload = true → SceneBufOpen s →
    let r := loadScene s s.slu.buf.scene
    let ok := r.1 && recFormatOk r.2 bufAddr
    ∃ t : State, exec .preloadDone s = .next t ∧ Only [.csr, .mem, .slu, .hr, .bus] s t ∧
      csrOnly [R.SLUICE_STAT, R.HEADRACE_EVT_SUMP_CNT] s t ∧
      t.slu = { s.slu with buf := { s.slu.buf with valid := ok, loading := false, preload := false } } ∧
      isSet t (if ok then R.F_SLUICE_STAT_PRELOAD_DONE_S else R.F_SLUICE_STAT_PRELOAD_FAIL_S) = true) ∧
  (∀ (v : Word) (s : State),
    (bufBusy s = true → ∃ t : State, exec (.sluicePreloadLoad v) s = .next t ∧ Only [.csr] s t ∧
      csrOnly [R.SLUICE_PRELOAD, R.SLUICE_STAT, R.SLUICE_REFUSE_SUMP_CNT] s t ∧
      getF t R.F_SLUICE_PRELOAD_SCENE = v.toNat % 1024 ∧ isSet t R.F_SLUICE_STAT_REFUSED_S = true ∧
      getF t R.F_SLUICE_REFUSE_SUMP_CNT_REFUSE_SUMP_CNT = min (getF s R.F_SLUICE_REFUSE_SUMP_CNT_REFUSE_SUMP_CNT + 1) 0xFFFFFFFF) ∧
    (bufBusy s = false → ∃ t : State, exec (.sluicePreloadLoad v) s = .next t ∧ Only [.csr, .slu] s t ∧
      csrOnly [R.SLUICE_PRELOAD] s t ∧ getF t R.F_SLUICE_PRELOAD_SCENE = v.toNat % 1024 ∧
      t.slu = { s.slu with buf := { s.slu.buf with valid := false, loading := true, preload := true, scene := v.toNat % 1024 } }))

/-- R20, R54, R97 and R105. -/
def Obligations.Tick : Prop :=
  (∀ (i : TickIn) (s : State), isSet s R.F_SCHED_CTL_RUN = false →
    (s.sched.running = false → exec (.tick i) s = .next s) ∧
    (s.sched.running = true → ∃ t : State, exec (.tick i) s = .next t ∧
      Only [.csr, .sched, .dsp, .flood, .hr, .redun, .net, .ser] s t ∧
      csrOnly [R.SCHED_CTL, R.SCHED_STAT, R.RSV_OWN_SUMP_CNT, R.RSV_STAT, R.RSV_OWN_LAST] s t ∧
      t.hr = { s.hr with sessions := t.hr.sessions } ∧
      (∀ k : Nat, { getSession t k with subs := [] } = { getSession s k with subs := [] }) ∧
      t.sched = { s.sched with
        running := false, window := none, released := [], late := [], fxOpen := false, fxReleased := [], fxLate := [], arm := none } ∧
      (s.sched.arm ≠ none → isSet t R.F_SCHED_STAT_WIN_CANCEL_S = true ∧ getF t R.F_SCHED_CTL_WIN_ARM = 0) ∧
      t.dsp = { s.dsp with handoff := [], conv := [] } ∧ (∀ e ∈ t.net.txCtx, e.2.frames = []) ∧
      (s.redun.paired = false → t.redun.roleAct = false) ∧ (s.redun.paired = true → t.redun = s.redun))) ∧
  (∀ (i : TickIn) (s : State), isSet s R.F_SCHED_CTL_RUN = true → ∃ t : State, exec (.tick i) s = .next t ∧
    t.pending = s.pending ∧ t.sched.idx = s.sched.idx + 1 ∧ t.sched.running = true ∧ t.sched.window = some .a ∧
    t.sched.fxOpen = true ∧ (s.rst.coresHeld = true → t.flood.g = 0 ∧ t.rst = s.rst)) ∧
  (∀ (i : TickIn) (s : State), isSet s R.F_SCHED_CTL_RUN = true → s.redun.paired = false → s.rst.coresHeld = false →
    s.redun.syncNext = false → s.redun.unsyncNext = none → s.slu.urgent = [] → s.bus.ecc = [] →
    (∀ g ∈ s.slu.groups, ∀ m ∈ g.members, ∀ j o v : Nat, m ≠ .reg j o v) →
    let n := (nowIdx s + 1) % 2 ^ 64
    let mark := fun (h : Group) => if unflipped h && idxDue n h.idx then { h with late := true } else h
    (∀ (g : Group) (rest : List Group), s.slu.groups = g :: rest → g.st = .ready → idxDue n g.idx = true →
      ∃ t : State, exec (.tick i) s = .next t ∧ t.slu.groups = { g with st := .settle } :: rest.map mark ∧ t.slu.lastFlip = n ∧
        (∀ c : Nat, c ≠ 0x3C10 → g.staged.any (fun w => w.pid / 16 == c) = true →
          cellBsel t c = 1 - cellBsel s c ∧ cellDirty t c = false) ∧
        (∀ c : Nat, c ≠ 0x3C10 → g.staged.any (fun w => w.pid / 16 == c) = false →
          cellBsel t c = cellBsel s c ∧ cellDirty t c = cellDirty s c) ∧
        getF t R.F_SLUICE_FLIP_CNT_FLIP_CNT = min (getF s R.F_SLUICE_FLIP_CNT_FLIP_CNT + 1) 0xFFFFFFFF ∧
        isSet t R.F_SLUICE_STAT_FLIP_S = true ∧
        getF t R.F_SLUICE_LATE_CNT_LATE_CNT = (if g.idx ≠ n then min (getF s R.F_SLUICE_LATE_CNT_LATE_CNT + 1) 0xFFFFFFFF
          else getF s R.F_SLUICE_LATE_CNT_LATE_CNT) ∧
        (g.idx ≠ n → isSet t R.F_SLUICE_STAT_LATE_FLIP_S = true)) ∧
    ((∀ g r, s.slu.groups = g :: r → g.st ≠ .ready ∨ idxDue n g.idx = false) →
      ∃ t : State, exec (.tick i) s = .next t ∧ t.slu.groups = s.slu.groups.map mark ∧ t.slu.cells = s.slu.cells ∧
        t.slu.lastFlip = s.slu.lastFlip ∧
        getF t R.F_SLUICE_FLIP_CNT_FLIP_CNT = getF s R.F_SLUICE_FLIP_CNT_FLIP_CNT ∧
        t.redun.roleAct = !s.flood.fault ∧
        (let shut := s.flood.seen || pinActive s || s.flood.fault || floodCmd s
         t.flood.closed = shut ∧
         t.flood.g = (if shut then s.flood.g - floodStep (floodRamp s) else min (2 ^ 31) (s.flood.g + floodStep (floodRamp s))))))

/-- R29 to R31, R38, R66, R85, R87, R88 and R161. -/
def Obligations.WindowsAndCrossfades : Prop :=
  (∀ (w : Window) (s : State),
    (s.sched.running = false ∨ s.sched.window ≠ none ∨ w = .a ∨ w = .fx → exec (.windowRelease w) s = .next s) ∧
    (s.sched.running = true → s.sched.window = none → w ≠ .a → w ≠ .fx → ∃ t : State, exec (.windowRelease w) s = .next t ∧
      Only [.csr, .mem, .sched, .mix, .bus, .cores] s t ∧ t.sched.window = some w ∧
      t.sched = { s.sched with window := some w, released := t.sched.released, late := t.sched.late } ∧
      (w = .b → getF t R.F_SCHED_GATE_CNT_GATE_CNT = min (getF s R.F_SCHED_GATE_CNT_GATE_CNT +
        ((workCores s .b).filter (allDormant s)).length) 0xFFFFFFFF) ∧
      (∀ c < 64,
        let gated := w == .b && allDormant s c
        (hasWork s w c = false → getCore t c = getCore s c ∧ c ∉ t.sched.released ∧ c ∉ t.sched.late) ∧
        (hasWork s w c = true → (getCore s c).waiting = false → getCore t c = getCore s c ∧ c ∉ t.sched.released ∧ c ∈ t.sched.late) ∧
        (hasWork s w c = true → (getCore s c).waiting = true → gated = true →
          getCore t c = getCore s c ∧ c ∉ t.sched.released ∧ c ∉ t.sched.late) ∧
        (hasWork s w c = true → (getCore s c).waiting = true → gated = false →
          getCore t c = { getCore s c with waiting := false, cyc := 0, inWindow := true } ∧ c ∈ t.sched.released ∧
          c ∉ t.sched.late)))) ∧
  (∀ (tiles : List Nat) (s : State), (s.sched.fxOpen = false → exec (.windowEnd .fx tiles) s = .next s) ∧
    (s.sched.fxOpen = true → ∃ t : State, exec (.windowEnd .fx tiles) s = .next t ∧ t.sched.fxOpen = false ∧
      t.sched.fxReleased = [] ∧ t.sched.fxLate = [] ∧ t.sched.window = s.sched.window)) ∧
  (∀ (w : Window) (tiles : List Nat) (s : State), w ≠ .fx →
    (s.sched.window ≠ some w → exec (.windowEnd w tiles) s = .next s) ∧
    (s.sched.window = some w → ∃ t : State, exec (.windowEnd w tiles) s = .next t ∧ t.pending = s.pending ∧
      t.sched.window = none ∧ t.sched.released = [] ∧ t.sched.late = [] ∧ t.sched.fxOpen = s.sched.fxOpen ∧
      t.sched.idx = s.sched.idx ∧
      (w ≠ .a → w ≠ .e →
        let overs := overCores s s.sched.released s.sched.late
        getF t R.F_SCHED_OVR_CNT_OVR_CNT = min (getF s R.F_SCHED_OVR_CNT_OVR_CNT + overs.length) 0xFFFFFFFF ∧
        (∀ c r, overs = c :: r → isSet t R.F_SCHED_STAT_OVERRUN_S = true ∧ getF t R.F_SCHED_OVR_LAST_CORE = c ∧
          getF t R.F_SCHED_OVR_LAST_PHASE = winCode w ∧ getF t R.F_SCHED_OVR_LAST_IDX = nowIdx s % 65536) ∧
        (∀ c ∈ overs, (getCore t c).ovr = ((getCore s c).ovr || !stHnd (getCore s c)) ∧ (getCore t c).inWindow = false ∧
          (c ∉ metCores s s.sched.released → smapGet 0 t.sched.ovrRun c = smapGet 0 s.sched.ovrRun c + 1)) ∧
        (∀ c ∈ metCores s s.sched.released, c ∉ overs → getCore t c = getCore s c ∧ smapGet 0 t.sched.ovrRun c = 0)))) ∧
  (∀ s : State, ∃ t : State, exec .conflLatePartial s = .next t ∧ Only [.csr] s t ∧
    csrOnly [R.CONFL_LATE_SUMP_CNT, R.CONFL_STAT] s t ∧ isSet t R.F_CONFL_STAT_LATE_S = true ∧
    getF t R.F_CONFL_LATE_SUMP_CNT_LATE_SUMP_CNT = min (getF s R.F_CONFL_LATE_SUMP_CNT_LATE_SUMP_CNT + 1) 0xFFFFFFFF) ∧
  (∀ (key : Nat) (s : State), smapFind s.dsp.xf key = none → exec (.crossfadeEnd key) s = .next s) ∧
  (∀ (key : Nat) (s : State) (r : Xf), smapFind s.dsp.xf key = some r →
    (idxAge (nowIdx s) r.start < r.len → exec (.crossfadeEnd key) s = .next s) ∧
    (r.len ≤ idxAge (nowIdx s) r.start → ∃ t : State, exec (.crossfadeEnd key) s = .next t ∧ Only [.dsp] s t ∧
      t.dsp = { s.dsp with xf := t.dsp.xf, blk := t.dsp.blk, genPhi := t.dsp.genPhi, genReg := t.dsp.genReg } ∧
      (∀ k : Nat, k ≠ key → smapFind t.dsp.xf k = smapFind s.dsp.xf k) ∧
      ((∀ q : Nat, r.queued = some q → samePoint key q r.new = true) → smapFind t.dsp.xf key = none ∧
        (∀ u < 1424, ∀ q ∈ [(6, 0), (7, 1), (8, 8), (9, 9), (10, 10), (11, 11), (12, 12), (13, 13), (14, 14), (15, 15)],
          key = 64 * u + q.1 → (∀ v ∈ [1, 3, 5, 7], getBlk t u q.2 v = []) ∧
            ∀ v ∈ [0, 2, 4, 6], getBlk t u q.2 v = getBlk s u q.2 v)) ∧
      (∀ q : Nat, r.queued = some q → samePoint key q r.new = false → smapFind t.dsp.xf key =
        if routeXf s = 0 then none else some ⟨idxAdd r.start r.len, routeXf s, r.new, q, none⟩))) ∧
  (∀ (c : Nat) (s : State), c < 384 →
    let unit := colPair (plive s) c
    let recs := unit.filterMap (fun d => smapFind s.mix.xf d)
    let pend := recs.filterMap (fun r => r.pend)
    let runs := fun (d : Nat) => colRuns s (nowIdx s) d
    let same := ∀ d ∈ unit, heldCol s.mix d = colOf (livePlane s.mix d) d
    ∃ t : State, exec (.sendXfadeEnd c) s = .next t ∧ Only [.mix] s t ∧
      (∀ k : Nat, k ∉ unit → smapFind t.mix.xf k = smapFind s.mix.xf k) ∧
      ((∀ d ∈ unit, runs d = true) ∨ (unit.any runs = false ∧ ∀ r ∈ recs, r.len = 0) → t = s) ∧
      (unit.any runs = true → ∀ d ∈ unit, livePlane t.mix d = livePlane s.mix d ∧ pendPlane t.mix d = pendPlane s.mix d ∧
        (runs d = true → smapFind t.mix.xf d = smapFind s.mix.xf d) ∧
        (runs d = false → colOf (prevPlane t.mix d) d = [] ∧
          (∀ r k, smapFind s.mix.xf d = some r → r.pend = some k → smapFind t.mix.xf d = some ⟨r.start, 0, some k⟩) ∧
          ((∀ r, smapFind s.mix.xf d = some r → r.pend = none) → smapFind t.mix.xf d = none))) ∧
      (∀ r, unit.any runs = false → recs.find? (fun r => r.len != 0) = some r →
        let len := xfLen s (pend.foldl max 0)
        ∀ d ∈ unit, colOf (pendPlane t.mix d) d = [] ∧
          (pend = [] ∨ same → smapFind t.mix.xf d = none ∧ colOf (prevPlane t.mix d) d = [] ∧
            colOf (livePlane t.mix d) d = colOf (livePlane s.mix d) d) ∧
          (pend ≠ [] → ¬ same → (∀ e ∈ unit, ((heldCol s.mix e).map (fun x => x.1)).Nodup) →
            smapFind t.mix.xf d = (if len = 0 then none else some ⟨idxAdd r.start r.len, len, none⟩) ∧
            ∀ i < colSources d, smapGet 0 (livePlane t.mix d) (colKey d i) = smapGet 0 (heldCol s.mix d) (colKey d i)))) ∧
  (∀ (k sub : Nat) (s : State),
    (smapFind (getSession s k).subs sub = none ∨ (getSession s k).isOpen = false ∨ s.sched.running = false →
      exec (.meterReport k sub) s = .next s) ∧
    (∀ m, smapFind (getSession s k).subs sub = some m → (getSession s k).isOpen = true → s.sched.running = true →
      (m.period = 0 ∨ nowIdx s % m.period ≠ 0 ∨ idxDue (nowIdx s) m.start = false ∨ nowIdx s = m.start → exec (.meterReport k sub) s = .next s) ∧
      (m.period ≠ 0 → nowIdx s % m.period = 0 → idxDue (nowIdx s) m.start = true → nowIdx s ≠ m.start →
        let x := { getSession s k with subs := smapPut (getSession s k).subs sub { m with acc := [], start := nowIdx s } }
        let codes := tabulate m.count
          (fun i => meterCode ((plive s pidMeterCtl).testBit 0) (m.first + i) (smapGet 0 m.acc (m.first + i)))
        (sendsEvents s = false → exec (.meterReport k sub) s = .next (putSession s k x)) ∧
        (sendsEvents s = true → 0 < m.count → m.count ≤ 718 → x.outQ.length < 64 →
          ∃ t : State, exec (.meterReport k sub) s = .next t ∧ Only [.hr] s t ∧
            t.hr = { s.hr with sessions := t.hr.sessions } ∧ (∀ j : Nat, j ≠ k → getSession t j = getSession s j) ∧
            getSession t k = { x with outQ := x.outQ ++
              [⟨7, nowIdx s, [sub, 0] ++ beBytes 2 m.first ++ beBytes 2 m.count ++ [0, 0] ++ codes.flatMap (beBytes 2)⟩] }))))

/-- R360 to R362, R364 and R366. Blocks 0x14 and 0x15 are CV and PRF. -/
def Obligations.Resets : Prop :=
  let cold := fun (s t : State) =>
    t.pending = s.pending ∧ t.sched = State.reset.sched ∧ t.dsp = State.reset.dsp ∧ t.mix = State.reset.mix ∧
    t.slu = State.reset.slu ∧ t.hr = State.reset.hr ∧ t.bus = State.reset.bus ∧ t.cores = [] ∧ t.rcu = State.reset.rcu ∧
    t.tally = State.reset.tally ∧ t.net = State.reset.net ∧ t.ser = State.reset.ser ∧ t.tst = State.reset.tst ∧
    t.rst = { State.reset.rst with io33 := t.rst.io33 } ∧ t.flood = { State.reset.flood with pin := s.flood.pin } ∧
    t.boot = { State.reset.boot with fuse := s.boot.fuse } ∧
    t.redun = { State.reset.redun with
      paired := pairBit t, role := if pairBit t then 5 else 0, sync := ofBool (pairBit t) } ∧
    (∀ a : Nat, readByte t a = if coldKeeps a then readByte s a else 0) ∧
    (∀ o : Nat, o / 0x10000 ≠ 0x14 → o / 0x10000 ≠ 0x15 → o ≠ R.RST_CAUSE → csrGet t o = csrReset o)
  let warm := fun (cut : List CutBurst) (s t : State) (cause : Nat) =>
    let u := cutAll s cut
    t.pending = s.pending ∧ t.sched.idx = u.sched.idx ∧ t.sched.running = u.sched.running ∧ t.sched.window = none ∧
    t.tally = u.tally ∧ t.cores = [] ∧ t.slu.groups = [] ∧ t.slu.cells = u.slu.cells ∧ t.hr.jhead = u.hr.jhead ∧
    t.hr.txQ = [] ∧ (∀ k : Nat, (getSession t k).isOpen = (getSession u k).isOpen) ∧ t.flood.g = 0 ∧ t.flood.fault = false ∧
    t.flood.closed = false ∧ t.flood.pin = u.flood.pin ∧ t.rst.stage = .asserted ∧ t.rst.warm = true ∧ t.rst.xo = true ∧
    t.rst.coresHeld = true ∧ t.rst.wdt = false ∧ t.rst.restartDue = false ∧ t.redun.roleAct = false ∧
    getF t R.F_RST_CAUSE_LAST = cause ∧ isSet t R.F_SYS_CDC_STAT_CDC_LOST_S = true ∧
    getF t R.F_RST_WARM_CNT_WARM_CNT = min (getF u R.F_RST_WARM_CNT_WARM_CNT + 1) 0xFFFFFFFF ∧
    (∀ o : Nat, o / 0x10000 ≠ 0x14 → o ≠ R.RST_CAUSE → o ≠ R.RST_WARM_CNT → o ≠ R.RST_STAT → o ≠ R.SYS_CDC_STAT →
      csrGet t o = csrWarm o (csrGet (settleLost (halt u)) o)) ∧
    ((∀ b ∈ cut, xbarTarget b.addr ≠ 10) → t.sched.idx = s.sched.idx ∧ t.sched.running = s.sched.running ∧ t.tally = s.tally ∧
      t.flood.pin = s.flood.pin) ∧
    (cut = [] → s.bus.waits = [] → (∀ g l, s.slu.groups = g :: l → g.st ≠ .settle) →
      ∀ a : Nat, readByte t a = if warmKeeps s a then readByte s a else 0)
  (∀ (v : Sys2Proof.CvSupply) (io33 : Bool) (s : State), ∃ t : State, exec (.powerOn v io33) s = .next t ∧ cold s t ∧ t.cv.ok = v.ok ∧
    t.cv.hi = (v.ok && v.hi) ∧ t.prf.queue = [] ∧ csrGet t R.RST_CAUSE = csrReset R.RST_CAUSE ∧ t.rst.io33 = io33 ∧
    t.freeCtr = s.freeCtr) ∧
  (∀ s : State, ∀ q ∈ [(Instr.porstNAssert, 1), (.supplyLoss, 2)], ∃ t : State, exec q.1 s = .next t ∧ cold s t ∧
    t.prf.words = s.prf.words ∧ t.prf.queue = s.prf.queue ∧ t.cv.ok = s.cv.ok ∧ t.cv.hi = s.cv.hi ∧
    getF t R.F_RST_CAUSE_LAST = q.2 ∧ (s.rst.io33 = false ∨ q.2 = 1 → t.rst.io33 = s.rst.io33)) ∧
  (∀ s : State,
    (s.rst.io33 = false → ∀ p ∈ [leaseHbPin s, roleActPin s, syncOkPin s], p = .hiZ) ∧
    (s.rst.io33 = true → leaseHbPin s = (if s.redun.hb then .high else .low) ∧
      roleActPin s = (if s.redun.roleAct then .high else .low) ∧ syncOkPin s = (if s.redun.sync = 4 then .high else .low))) ∧
  (∀ (cut : List CutBurst) (v : Word) (s : State),
    let fires := fun (c : Instr) (cause : Nat) => ∃ t : State, exec c s = .next t ∧ warm cut s t cause
    (coldRuns s = false →
      fires (.resetNAssert cut) 3 ∧ fires (.rstCtlWarm .firmware v cut) 4 ∧ fires (.rstCtlWarm .cage v cut) 4 ∧
      (s.rst.restartDue = true → fires (.bulkRestartReset cut) 5) ∧
      (s.rst.wdt = true → ∃ t : State, exec (.watchdogExpiry cut) s = .next t ∧ warm cut s t 6 ∧ isSet t R.F_RST_STAT_WDT_S = true) ∧
      (s.flood.fault = true → isSet s R.F_RST_CFG_FATAL_RST = true → fires (.fatalResetDelay cut) 7)) ∧
    (coldRuns s = true → ∀ c ∈ [Instr.resetNAssert cut, .rstCtlWarm .firmware v cut, .rstCtlWarm .cage v cut,
      .bulkRestartReset cut, .fatalResetDelay cut], exec c s = .next s) ∧
    (s.rst.restartDue = false → exec (.bulkRestartReset cut) s = .next s) ∧
    (s.rst.wdt = false → exec (.watchdogExpiry cut) s = .next s) ∧
    (s.flood.fault = false ∨ isSet s R.F_RST_CFG_FATAL_RST = false → exec (.fatalResetDelay cut) s = .next s)) ∧
  (∀ (v : Word) (cut : List CutBurst) (s : State), ∃ t : State, exec (.rstDomWrite v cut) s = .next t ∧
    Only [.csr, .mem, .freeCtr, .flood, .slu, .hr, .prf, .cv, .bus, .rcu, .redun, .net, .ser] s t ∧
    (∀ b < 10, domHeld t b = v.toNat.testBit b) ∧
    ((∀ b < 10, domHeld s b = v.toNat.testBit b) → Only [.csr] s t ∧ csrOnly [R.RST_DOM] s t) ∧
    (let rises := fun (b : Nat) => v.toNat.testBit b = true ∧ domHeld s b = false
     (∀ p < 5, rises p → getPort t p = { emptyPort with mode := getF s (R.F_MAC_CTL_SPEED p) } ∧
       isSet t (R.F_MAC_STAT_LINK p) = false) ∧
     (rises 5 → t.redun.tx = [] ∧ t.redun.lane0 = false ∧ t.redun.lane1 = false ∧ getF t R.F_REDUN_SIRLOS_STAT_LOCK = 0) ∧
     (rises 6 → t.net.ring = [] ∧ t.net.txCtx = []) ∧
     (rises 7 → (∀ p < 32, getSp t p = { noSport with
         out := if t.redun.enPrev then List.replicate (ctlSlots (spCtl t p)) 0 else [] }) ∧ ∀ o : Nat, 0x100000 ≤ o → o < 0x110000 → csrGet t o = csrDom o (csrGet s o)) ∧
     (rises 9 → t.ser.pdm = ⟨[], [], []⟩) ∧
     (∀ b ∈ [0, 1, 2, 3, 4, 5, 7], rises b → isSet t R.F_SYS_CDC_STAT_CDC_LOST_S = true))) ∧
  (∀ (m : Nat) (v : Word) (s : State),
    (m ≤ 3 → v = 0x5A54 → s.rst.wdt = true → ∃ t : State, exec (.wdtKick m v) s = .next t ∧ Only [.csr] s t ∧
      csrOnly [R.RST_WDT_LEFT] s t ∧ getF t R.F_RST_WDT_LEFT_LEFT = 4000 * max 1 (getF s R.F_RST_CFG_WDT_TMO)) ∧
    (3 < m ∨ v ≠ 0x5A54 ∨ s.rst.wdt = false → exec (.wdtKick m v) s = .next s))

/-- R363. -/
def Obligations.HostResets : Prop :=
  (∀ (v : Word) (cut : List CutBurst) (s : State), s.bus.csrHung = false →
    ∀ c ∈ [Instr.registerWrite .host R.RST_CTL v, .registerWrite .host R.RST_DOM v,
      .rstCtlWarm .host v cut],
    ∃ t : State, exec c s = .next t ∧ Only [.csr] s t ∧ csrOnly [R.RST_STAT] s t ∧ isSet t R.F_RST_STAT_HOST_REJ_S = true ∧
      getF t R.F_RST_STAT_FATAL_S = getF s R.F_RST_STAT_FATAL_S ∧ getF t R.F_RST_STAT_WDT_S = getF s R.F_RST_STAT_WDT_S) ∧
  (∀ (h : Hdr) (x : BulkHdr) (s : State), Served s h 0x80 (bulkBody 9 x []) → (getSession s h.session.toNat).isOpen = true →
    ∃ t : State, exec (.bulkRestart h x) s = .next t ∧ Only [.csr, .freeCtr, .hr, .rst] s t ∧
      t.rst = { s.rst with restartDue := true } ∧ t.hr.txQ.length = s.hr.txQ.length + 1) ∧
  (∀ (cut : List CutBurst) (s : State), s.rst.restartDue = true → coldRuns s = false →
    ∃ t : State, exec (.bulkRestartReset cut) s = .next t ∧ t.rst.stage = .asserted ∧ t.rst.warm = true ∧
      getF t R.F_RST_CAUSE_LAST = 5)

/-- R134, R155, R349 to R352 and R354. -/
def Obligations.BootAndStart : Prop :=
  (∀ (i : BootIn) (s : State), s.rst.stage ≠ .asserted → exec (.resetRelease i) s = .next s) ∧
  (∀ (i : BootIn) (s : State), s.rst.stage = .asserted → ∃ t : State, exec (.resetRelease i) s = .next t ∧
    t.pending = s.pending ∧ (t.rst.stage = .fw ∨ t.rst.stage = .failed) ∧ t.rst.warm = s.rst.warm ∧ t.rst.io33 = true ∧
    getF t R.F_BOOT_STAT_WARM = ofBool s.rst.warm ∧ getF t R.F_BOOT_STAT_SLOW_FLASH = ofBool i.slow ∧
    (t.rst.stage = .fw → t.rst.wdt = true ∧ t.rst.slot < 2 ∧ getF t R.F_BOOT_STAT_SLOT = t.rst.slot ∧
      getF t R.F_BOOT_STAT_TRIAL = ofBool t.boot.trial ∧
      getF t R.F_RST_WDT_LEFT_LEFT = 4000 * max 1 (getF t R.F_RST_CFG_WDT_TMO)) ∧
    (t.rst.stage = .failed → ∀ c < 64, (getCore t c).held = true) ∧
    (t.boot.map = none → t.rst.stage = .failed ∧ getF t R.F_BOOT_STAT_CAUSE_A = 1 ∧ getF t R.F_BOOT_STAT_CAUSE_B = 1)) ∧
  (∀ s : State, s.rst.stage ≠ .fw → exec .firmwareReady s = .next s ∧ exec .firmwareReadyTimeout s = .next s) ∧
  (∀ s : State, s.rst.stage = .fw →
    (s.rst.warm = false → ∃ t : State, exec .firmwareReady s = .next t ∧ Only [.mix, .rst, .boot] s t ∧
      t.rst = { s.rst with stage := .wait, lastSlot := some s.rst.slot, lastSet := s.boot.digests } ∧
      t.boot = { s.boot with snap := none, settings := settingsPick s } ∧ t.mix.xf = [] ∧ t.mix.queued = []) ∧
    (s.rst.warm = true → ∃ t : State, exec .firmwareReady s = .next t ∧ t.pending = s.pending ∧ t.rst.stage = .restart ∧
      t.rst.lastSlot = some s.rst.slot ∧ t.rst.lastSet = s.boot.digests ∧ t.boot.snap = none ∧
      getF t R.F_BOOT_STAT_SET_CHANGED = ofBool (s.boot.digests != s.rst.lastSet) ∧
      (s.boot.restartOk = true → t.hr.jhead = s.hr.jhead) ∧
      t.boot.settings = settingsPick s ∧
      (s.boot.restartOk = false → PstoreOpen s → Only [.csr, .mem, .mix, .slu, .hr, .bus, .rst, .boot] s t ∧
        csrOnly [R.BOOT_STAT, R.HEADRACE_STAT] s t ∧ isSet t R.F_HEADRACE_STAT_JOURNAL_LOST_S = true ∧ t.hr.sessions = [] ∧
        t.hr.jhead = 0 ∧ t.hr.jappl = 0 ∧ t.slu.groups = [] ∧ t.slu.urgent = [] ∧ ∀ c : Nat, cellDirty t c = false)) ∧
    (let cause := if s.rst.slot = 0 then R.F_BOOT_STAT_CAUSE_A else R.F_BOOT_STAT_CAUSE_B
     ∃ t : State, exec .firmwareReadyTimeout s = .next t ∧ t.pending = s.pending ∧ getF t cause = 15 ∧
      (t.rst.stage = .fw ∨ t.rst.stage = .failed) ∧
      (s.boot.triedBoth = true → t.rst.stage = .failed ∧ t.rst.wdt = false) ∧
      (s.boot.triedBoth = false → t.boot.triedBoth = true ∧
        (t.rst.stage = .fw → t.rst.slot = 1 - s.rst.slot ∧ t.boot.trial = false) ∧
        (s.boot.trial = true → isSet t R.F_BOOT_HIST_FALLBACK_S = true) ∧
        (s.boot.trial = false → isSet t R.F_BOOT_STAT_RESCUE = true)) ∧
      (t.rst.stage = .failed → ∀ c < 64, (getCore t c).held = true))) ∧
  (∀ s : State, exec .waitRefTimeout s =
    .next (if s.rst.stage = .wait then { s with boot := { s.boot with waitRef := none } } else s)) ∧
  (∀ s : State, s.rst.stage ≠ .wait ∨ (s.boot.waitRef ≠ none ∧ dpll s ≠ 1 ∧ dpll s ≠ 2) → exec .engineStart s = .next s) ∧
  (∀ s : State, s.rst.stage = .wait → s.boot.waitRef = none ∨ dpll s = 1 ∨ dpll s = 2 →
    ∃ t : State, exec .engineStart s = .next t ∧ Only [.csr, .freeCtr, .flood, .slu, .hr, .rcu, .redun, .rst] s t ∧
      t.rst = { s.rst with stage := .running, coresHeld := false } ∧
      (rateFamily (rateCode s) = getF s R.F_RCU_STAT_FAMILY → isSet t R.F_SCHED_CTL_RUN = true) ∧
      (rateFamily (rateCode s) ≠ getF s R.F_RCU_STAT_FAMILY → isSet s R.F_SCHED_CTL_RUN = false →
        isSet t R.F_SCHED_CTL_RUN = false ∧ isSet t R.F_SCHED_STAT_FAMILY_MISMATCH_S = true) ∧
      (∀ c < 64, isSet t (R.F_MINTAL_CTL_RESET c) = (isSet s (R.F_MINTAL_CTL_RESET c) && coreKind s c == 0)) ∧
      (s.redun.paired = true → s.redun.role = 5 → t.redun.role = 1 ∧ isSet t R.F_REDUN_HIST_ROLE_S = true)) ∧
  (∀ s : State, s.rst.stage ≠ .restart ∨ s.sched.running = false → exec .coresRestart s = .next s) ∧
  (∀ s : State, s.rst.stage = .restart → s.sched.running = true → ∃ t : State, exec .coresRestart s = .next t ∧
    t.pending = s.pending ∧ t.rst.stage = .running ∧ t.rst.warm = false ∧ t.rst.coresHeld = false ∧
    (s.rst.xo = false → isSet t R.F_RST_FATAL_XO_S = true) ∧
    (s.slu.groups = [] → s.rst.xo = true →
      Only [.csr, .freeCtr, .dsp, .flood, .slu, .hr, .cores, .rcu, .redun, .rst] s t ∧ (s.rst.warm = false → t.dsp = s.dsp) ∧
      (s.redun.paired = false → t.redun.roleAct = !s.flood.fault ∧
        ∀ k < 64, (getSession s k).isOpen = true → (getSession s k).outQ.length < 64 →
          getSession t k = { getSession s k with outQ := (getSession s k).outQ ++ [⟨4, nowIdx s,
            beBytes 8 (nowIdx s) ++ beBytes 6 s.hr.replayFirst ++ beBytes 6 s.hr.replayLast⟩] }) ∧
      (s.redun.paired = true → t.redun.role = if s.redun.role = 4 ∧ s.flood.fault = false then 1 else s.redun.role) ∧
      (s.rst.warm = true → ∀ c < 64, coreKind s c ≠ 0 → coreFailed s c = false → (getCore t c).held = false)))

/-- R355, R357 and R358. -/
def Obligations.FieldUpdate : Prop :=
  let no := fun (c : Instr) (s : State) (h : Hdr) (reason : Nat) => ∃ t : State, exec c s = .next t ∧ Only [.csr, .hr] s t ∧
    Refused s t h 0x000B (reason * 2 ^ 24 + s.boot.upd.next % 2 ^ 24)
  let ack := fun (s t : State) (h : Hdr) => t.hr.jhead = s.hr.jhead ∧ t.hr.txQ = s.hr.txQ ++ [⟨h.src,
    message h.session.toNat h.cls.toNat 0x60 h.seq.toNat (ackBody ⟨h.seq.toNat, noJpos, 0, 0, false, false, !isSynced s,
      beBytes 4 t.boot.upd.next ++ beBytes 4 (updStat t)⟩ false)⟩]
  (∀ (h : Hdr) (x : BulkHdr) (s : State), (getSession s h.session.toNat).isOpen = true →
    (Served s h 0x80 (bulkBody 1 x []) →
      (s.boot.upd.state ≠ 0 ∨ s.boot.trial = true → no (.bulkClone h x) s h 1) ∧
      (s.boot.upd.state = 0 → s.boot.trial = false → ∃ t : State, exec (.bulkClone h x) s = .next t ∧ Only [.hr, .boot] s t ∧
        ack s t h ∧ t.boot = { s.boot with upd := { s.boot.upd with state := 1 } })) ∧
    (Served s h 0x80 (bulkBody 2 x []) →
      let k := x.kind.toNat
      let n := x.total.toNat
      (s.boot.upd.state ≠ 0 → no (.bulkBegin h x) s h 1) ∧
      (s.boot.upd.state = 0 → k = 0 ∨ 4 < k → no (.bulkBegin h x) s h 2) ∧
      (s.boot.upd.state = 0 → 1 ≤ k → k ≤ 4 → n = 0 ∨ imageMax k < n → no (.bulkBegin h x) s h 3) ∧
      (s.boot.upd.state = 0 → 1 ≤ k → k ≤ 4 → 0 < n → n ≤ imageMax k → ∃ t : State, exec (.bulkBegin h x) s = .next t ∧
        Only [.mem, .hr, .bus, .boot] s t ∧ ack s t h ∧ t.boot = { s.boot with upd := ⟨2, k, x.xfer.toNat, n, 0, 0⟩ } ∧
        ∀ a : Nat, idleBase s + imageOff k ≤ a → a < idleBase s + imageOff k + imageMax k →
          readByte t a = (memDefault a).toNat)) ∧
    (∀ (d : List Nat) (drained : Nat), Served s h 0x80 (bulkBody 3 x d) →
      let u := s.boot.upd
      let fresh := (d.map (fun b => b % 256)).drop (u.next - x.off.toNat)
      let on := u.state = 2 ∧ x.xfer.toNat = u.xfer
      (u.state ≠ 2 → no (.bulkData h x d drained) s h 1) ∧
      (u.state = 2 → x.xfer.toNat ≠ u.xfer → no (.bulkData h x d drained) s h 7) ∧
      (on → u.next < x.off.toNat → no (.bulkData h x d drained) s h 4) ∧
      (on → x.off.toNat ≤ u.next → u.total < x.off.toNat + d.length → no (.bulkData h x d drained) s h 3) ∧
      (on → x.off.toNat ≤ u.next → x.off.toNat + d.length ≤ u.total → 262144 < (u.held - drained) + fresh.length →
        no (.bulkData h x d drained) s h 5) ∧
      (on → x.off.toNat ≤ u.next → x.off.toNat + d.length ≤ u.total → (u.held - drained) + fresh.length ≤ 262144 →
        ∃ t : State, exec (.bulkData h x d drained) s = .next t ∧ Only [.mem, .hr, .bus, .boot] s t ∧ ack s t h ∧
          t.boot = { s.boot with upd := { u with next := u.next + fresh.length, held := (u.held - drained) + fresh.length } } ∧
          (let at_ := idleBase s + imageOff u.kind + u.next
           readBytes t at_ fresh.length = fresh ∧
           ∀ a : Nat, a < at_ ∨ at_ + fresh.length ≤ a → readByte t a = readByte s a))) ∧
    (∀ q ∈ [(4, Instr.bulkEnd h x, { s.boot.upd with state := 3 }), (5, .bulkAbort h x, { s.boot.upd with state := 0, held := 0 })],
      Served s h 0x80 (bulkBody q.1 x []) →
      (s.boot.upd.state ≠ 2 → no q.2.1 s h 1) ∧
      (s.boot.upd.state = 2 → x.xfer.toNat ≠ s.boot.upd.xfer → no q.2.1 s h 7) ∧
      (s.boot.upd.state = 2 → x.xfer.toNat = s.boot.upd.xfer → ∃ t : State, exec q.2.1 s = .next t ∧ Only [.hr, .boot] s t ∧
        ack s t h ∧ t.boot = { s.boot with upd := q.2.2 })) ∧
    (∀ tries : Nat, Served s h 0x80 (bulkBody 6 x [tries]) →
      let may := slotComplete s (idleBase s) = true ∧ compatible s (idleBase s) 0 0 = true
      (s.boot.upd.state ≠ 0 → no (.bulkArm h x tries) s h 1) ∧
      (s.boot.upd.state = 0 → ¬ may → no (.bulkArm h x tries) s h 6) ∧
      (s.boot.upd.state = 0 → may → s.prf.queue.length < 8 → s.prf.pf = false →
        let n := max 1 (tries % 16)
        ∃ t : State, exec (.bulkArm h x tries) s = .next t ∧ Only [.hr, .prf] s t ∧ ack s t h ∧
          prfRead t 0x30 = setBits (setBits (setBits (prfRead s 0x30) 23 20 n) 19 16 n) 1 1 1 % 2 ^ 32)) ∧
    (Served s h 0x80 (bulkBody 7 x []) →
      (s.boot.trial = false → no (.bulkConfirm h x) s h 1) ∧
      (s.boot.trial = true → s.prf.queue.length < 8 → s.prf.pf = false → ∃ t : State, exec (.bulkConfirm h x) s = .next t ∧
        Only [.csr, .hr, .prf, .boot] s t ∧ csrOnly [R.BOOT_STAT] s t ∧ ack s t h ∧ t.boot = { s.boot with trial := false } ∧
        getF t R.F_BOOT_STAT_TRIAL = 0 ∧
        prfRead t 0x30 = setBits (setBits (prfRead s 0x30) 2 1 0) 0 0 s.rst.slot % 2 ^ 32)) ∧
    (Served s h 0x80 (bulkBody 8 x []) →
      (s.boot.upd.state ≠ 0 ∨ s.boot.trial = true → no (.bulkRollback h x) s h 1) ∧
      (s.boot.upd.state = 0 → s.boot.trial = false → ∃ t : State, exec (.bulkRollback h x) s = .next t ∧
        Only [.csr, .hr, .boot] s t ∧ csrOnly [R.BOOT_HIST] s t ∧ ack s t h ∧
        t.boot.fuse = { s.boot.fuse with rollback := max s.boot.fuse.rollback (min 64 (minSec s)) } ∧
        (s.boot.fuse.rollback < min 64 (minSec s) → isSet t R.F_BOOT_HIST_ROLLBACK_S = true))) ∧
    (Served s h 0x80 (bulkBody 9 x []) → ∃ t : State, exec (.bulkRestart h x) s = .next t ∧ Only [.hr, .rst] s t ∧ ack s t h ∧
      t.rst = { s.rst with restartDue := true })) ∧
  (∀ (h : Hdr) (x : BulkHdr) (s : State), (getSession s h.session.toNat).isOpen = false →
    ∀ q ∈ [(1, Instr.bulkClone h x), (2, .bulkBegin h x), (4, .bulkEnd h x), (5, .bulkAbort h x), (7, .bulkConfirm h x),
      (8, .bulkRollback h x), (9, .bulkRestart h x)], Served s h 0x80 (bulkBody q.1 x []) →
    ∃ t : State, exec q.2 s = .next t ∧ Only [.csr, .freeCtr, .hr] s t ∧ getF t R.F_HEADRACE_LAST_NAK_CODE = 4 ∧
      t.hr.txQ.length = s.hr.txQ.length + 1) ∧
  (∀ (ok : Bool) (s : State),
    let u := s.boot.upd
    let overs := fun (t : State) (f : Fld) => t.boot = { s.boot with upd := { u with state := 0, held := 0 } } ∧ isSet t f = true
    (u.state = 0 ∨ u.state = 2 ∨ 4 < u.state → exec (.bulkWorkDone ok) s = .next s) ∧
    (u.state = 1 ∨ u.state = 4 → ok = false → ∃ t : State, exec (.bulkWorkDone ok) s = .next t ∧ Only [.csr, .boot] s t ∧
      csrOnly [R.BOOT_HIST] s t ∧ overs t R.F_BOOT_HIST_UPD_FAIL_S) ∧
    (u.state = 1 ∨ u.state = 4 → ok = true → ∃ t : State, exec (.bulkWorkDone ok) s = .next t ∧ Only [.csr, .mem, .bus, .boot] s t ∧
      csrOnly [R.BOOT_HIST] s t ∧ overs t R.F_BOOT_HIST_UPD_DONE_S ∧
      (u.state = 1 → idleBase s + 0x2000000 ≤ liveBase s ∨ liveBase s + 0x2000000 ≤ idleBase s →
        (∀ k ∈ kinds, manifestLen s (liveBase s) k ≤ imageMax k) → ∀ k ∈ kinds,
          let n := manifestLen s (liveBase s) k
          readBytes t (idleBase s + imageOff k) n = readBytes s (liveBase s + imageOff k) n)) ∧
    (u.state = 3 → ∃ t : State, exec (.bulkWorkDone ok) s = .next t ∧ Only [.csr, .boot] s t ∧
      csrOnly [R.BOOT_HIST, R.BOOT_UPD_STAT] s t ∧ getF t R.F_BOOT_UPD_STAT_RESULT = endCode s ∧
      (endCode s = 0 → t.boot = { s.boot with upd := { u with state := 4 } }) ∧
      (endCode s ≠ 0 → overs t R.F_BOOT_HIST_UPD_FAIL_S)))
end

