-- ==== Sys2Proof/Laws/Maps.lean ====
section
/-! SUPPORT. Sparse maps: what is found after a change, and that every change keeps the keys rising. -/
namespace Sys2Proof.Machine

@[simp] theorem smapFind_nil {α : Type} (k : Nat) : smapFind ([] : List (Nat × α)) k = none := rfl

theorem smapFind_del {α : Type} (m : List (Nat × α)) (k j : Nat) :
    smapFind (smapDel m k) j = if j = k then none else smapFind m j := by
  induction m with
  | nil => simp [smapDel, smapFind]
  | cons p m ih =>
    simp only [smapDel]
    by_cases hk : p.1 = k
    · rw [if_pos hk, ih]; simp only [smapFind]; by_cases hj : j = k
      · simp [hj]
      · rw [if_neg hj, if_neg hj, if_neg (fun e => hj (by omega))]
    · rw [if_neg hk]; simp only [smapFind, ih]; by_cases hj : j = k
      · rw [if_pos hj, if_pos hj, if_neg (fun e => hk (by omega))]
      · rw [if_neg hj, if_neg hj]

theorem smapFind_put {α : Type} (m : List (Nat × α)) (k j : Nat) (v : α) :
    smapFind (smapPut m k v) j = if j = k then some v else smapFind m j := by
  induction m with
  | nil => simp only [smapPut, smapFind, eq_comm]
  | cons p m ih =>
    simp only [smapPut]
    by_cases hk : p.1 = k
    · rw [if_pos hk]; simp only [smapFind]; by_cases hj : j = k
      · rw [if_pos hj, if_pos hj.symm]
      · rw [if_neg hj, if_neg (fun e => hj e.symm), if_neg (fun e => hj (by omega))]
    · rw [if_neg hk]
      split
      · simp only [smapFind]; by_cases hj : j = k
        · rw [if_pos hj, if_pos hj.symm]
        · rw [if_neg hj, if_neg (fun e => hj e.symm)]
      · simp only [smapFind, ih]; by_cases hj : j = k
        · rw [if_pos hj, if_pos hj, if_neg (fun e => hk (by omega))]
        · rw [if_neg hj, if_neg hj]

theorem smapGet_set {α : Type} [DecidableEq α] (d : α) (m : List (Nat × α)) (k j : Nat) (v : α) :
    smapGet d (smapSet d m k v) j = if j = k then v else smapGet d m j := by
  unfold smapGet smapSet
  split
  · rw [smapFind_del]; split <;> simp_all
  · rw [smapFind_put]; split <;> simp_all

theorem smapGet_put {α : Type} (d : α) (m : List (Nat × α)) (k j : Nat) (v : α) :
    smapGet d (smapPut m k v) j = if j = k then v else smapGet d m j := by
  unfold smapGet
  rw [smapFind_put]; split <;> simp_all

theorem smapGet_del {α : Type} (d : α) (m : List (Nat × α)) (k j : Nat) :
    smapGet d (smapDel m k) j = if j = k then d else smapGet d m j := by
  unfold smapGet
  rw [smapFind_del]; split <;> simp_all

/-! Rising keys. -/

theorem smapRising_mono {α : Type} {m : List (Nat × α)} {a b : Nat} (h : a ≤ b) (k : smapRising b m = true) :
    smapRising a m = true := by
  cases m with
  | nil => rfl
  | cons p m => simp only [smapRising, Bool.and_eq_true, decide_eq_true_eq] at k ⊢; exact ⟨by omega, k.2⟩

theorem smapRising_filter {α : Type} (f : Nat × α → Bool) {m : List (Nat × α)} {a : Nat} (h : smapRising a m = true) :
    smapRising a (m.filter f) = true := by
  induction m generalizing a with
  | nil => rfl
  | cons p m ih =>
    simp only [smapRising, Bool.and_eq_true, decide_eq_true_eq] at h
    simp only [List.filter]
    split
    · simp only [smapRising, Bool.and_eq_true, decide_eq_true_eq]; exact ⟨h.1, ih h.2⟩
    · exact smapRising_mono (by omega) (ih h.2)

theorem smapDel_eq_filter {α : Type} (m : List (Nat × α)) (k : Nat) : smapDel m k = m.filter (fun p => !decide (p.1 = k)) := by
  induction m with
  | nil => rfl
  | cons p m ih => simp only [smapDel, List.filter]; split <;> simp_all

theorem smapRising_put {α : Type} {m : List (Nat × α)} {a k : Nat} (v : α) (hk : a ≤ k) (h : smapRising a m = true) :
    smapRising a (smapPut m k v) = true := by
  induction m generalizing a with
  | nil => simp [smapPut, smapRising, hk]
  | cons p m ih =>
    simp only [smapRising, Bool.and_eq_true, decide_eq_true_eq] at h
    simp only [smapPut]
    split
    · rename_i e; simp only [smapRising, Bool.and_eq_true, decide_eq_true_eq]; subst e; exact h
    · split
      · simp only [smapRising, Bool.and_eq_true, decide_eq_true_eq]
        exact ⟨hk, by omega, h.2⟩
      · simp only [smapRising, Bool.and_eq_true, decide_eq_true_eq]
        exact ⟨h.1, ih (by omega) h.2⟩

/-! Memory. -/

theorem memNoDefault_filter (f : Host.Cell → Bool) {m : List Host.Cell} (h : memNoDefault m = true) :
    memNoDefault (m.filter f) = true := by
  induction m with
  | nil => rfl
  | cons p m ih =>
    simp only [memNoDefault, Bool.and_eq_true] at h
    simp only [List.filter]
    split
    · simp only [memNoDefault, Bool.and_eq_true]; exact ⟨h.1, ih h.2⟩
    · exact ih h.2

theorem memNoDefault_put {m : List Host.Cell} {a : Nat} {b : BitVec 8} (hb : b ≠ memDefault a) (h : memNoDefault m = true) :
    memNoDefault (smapPut m a b) = true := by
  induction m with
  | nil => simp [smapPut, memNoDefault, hb]
  | cons p m ih =>
    simp only [memNoDefault, Bool.and_eq_true] at h
    simp only [smapPut]
    split
    · simp only [memNoDefault, Bool.and_eq_true, bne_iff_ne, ne_eq]; exact ⟨hb, h.2⟩
    · split
      · simp only [memNoDefault, Bool.and_eq_true, bne_iff_ne, ne_eq]; exact ⟨hb, by simpa [memNoDefault] using h⟩
      · simp only [memNoDefault, Bool.and_eq_true]; exact ⟨h.1, ih h.2⟩

theorem Memory.wf_nil : Memory.wf [] = true := rfl

theorem Memory.wf_filter (f : Host.Cell → Bool) {m : List Host.Cell} (h : Memory.wf m = true) : Memory.wf (m.filter f) = true := by
  simp only [Memory.wf, Bool.and_eq_true] at h ⊢
  exact ⟨smapRising_filter f h.1, memNoDefault_filter f h.2⟩

/-- Writing one byte keeps the canonical form. -/
theorem Memory.wf_put {m : List Host.Cell} (a : Nat) (b : BitVec 8) (h : Memory.wf m = true) : Memory.wf (memPut m a b) = true := by
  unfold memPut
  split
  · rw [smapDel_eq_filter]; exact Memory.wf_filter _ h
  · rename_i hb
    simp only [Memory.wf, Bool.and_eq_true] at h ⊢
    exact ⟨smapRising_put b (Nat.zero_le a) h.1, memNoDefault_put hb h.2⟩

/-- A read after a write: the byte written, and every other byte as it was. -/
theorem memGet_put (m : List Host.Cell) (a j : Nat) (b : BitVec 8) :
    memGet (memPut m a b) j = if j = a then b else memGet m j := by
  unfold memPut memGet
  by_cases hb : b = memDefault a
  · rw [if_pos hb, smapFind_del]; by_cases hj : j = a
    · simp [hj, hb]
    · simp [hj]
  · rw [if_neg hb, smapFind_put]; by_cases hj : j = a
    · simp [hj]
    · simp [hj]

theorem csrGet_csrPut (s : State) (k j : Nat) (v : Word) :
    csrGet (csrPut s k v) j = if j = k then v else csrGet s j := by
  unfold csrPut csrGet
  dsimp only
  by_cases hb : v = csrReset k
  · rw [if_pos hb, smapFind_del]; by_cases hj : j = k
    · simp [hj, hb]
    · simp [hj]
  · rw [if_neg hb, smapFind_put]; by_cases hj : j = k
    · simp [hj]
    · simp [hj]

end Sys2Proof.Machine
end

