-- ==== Sys2Proof/Laws/State.lean ====
section
/-! SUPPORT. For each small update of the state, every part that it leaves as it was. -/
namespace Sys2Proof.Machine

variable (s : State)

/-! `csrPut` changes csr. -/
@[simp] theorem csrPut_pending (o : Nat) (v : Word) : (csrPut s o v).pending = s.pending := rfl
@[simp] theorem csrPut_mem (o : Nat) (v : Word) : (csrPut s o v).mem = s.mem := rfl
@[simp] theorem csrPut_freeCtr (o : Nat) (v : Word) : (csrPut s o v).freeCtr = s.freeCtr := rfl
@[simp] theorem csrPut_sched (o : Nat) (v : Word) : (csrPut s o v).sched = s.sched := rfl
@[simp] theorem csrPut_dsp (o : Nat) (v : Word) : (csrPut s o v).dsp = s.dsp := rfl
@[simp] theorem csrPut_mix (o : Nat) (v : Word) : (csrPut s o v).mix = s.mix := rfl
@[simp] theorem csrPut_flood (o : Nat) (v : Word) : (csrPut s o v).flood = s.flood := rfl
@[simp] theorem csrPut_slu (o : Nat) (v : Word) : (csrPut s o v).slu = s.slu := rfl
@[simp] theorem csrPut_hr (o : Nat) (v : Word) : (csrPut s o v).hr = s.hr := rfl
@[simp] theorem csrPut_prf (o : Nat) (v : Word) : (csrPut s o v).prf = s.prf := rfl
@[simp] theorem csrPut_cv (o : Nat) (v : Word) : (csrPut s o v).cv = s.cv := rfl
@[simp] theorem csrPut_bus (o : Nat) (v : Word) : (csrPut s o v).bus = s.bus := rfl
@[simp] theorem csrPut_cores (o : Nat) (v : Word) : (csrPut s o v).cores = s.cores := rfl
@[simp] theorem csrPut_rcu (o : Nat) (v : Word) : (csrPut s o v).rcu = s.rcu := rfl
@[simp] theorem csrPut_redun (o : Nat) (v : Word) : (csrPut s o v).redun = s.redun := rfl
@[simp] theorem csrPut_rst (o : Nat) (v : Word) : (csrPut s o v).rst = s.rst := rfl
@[simp] theorem csrPut_tally (o : Nat) (v : Word) : (csrPut s o v).tally = s.tally := rfl
@[simp] theorem csrPut_net (o : Nat) (v : Word) : (csrPut s o v).net = s.net := rfl
@[simp] theorem csrPut_ser (o : Nat) (v : Word) : (csrPut s o v).ser = s.ser := rfl
@[simp] theorem csrPut_boot (o : Nat) (v : Word) : (csrPut s o v).boot = s.boot := rfl
@[simp] theorem csrPut_tst (o : Nat) (v : Word) : (csrPut s o v).tst = s.tst := rfl

/-! `setF` changes csr. -/
@[simp] theorem setF_pending (f : Fld) (x : Nat) : (setF s f x).pending = s.pending := rfl
@[simp] theorem setF_mem (f : Fld) (x : Nat) : (setF s f x).mem = s.mem := rfl
@[simp] theorem setF_freeCtr (f : Fld) (x : Nat) : (setF s f x).freeCtr = s.freeCtr := rfl
@[simp] theorem setF_sched (f : Fld) (x : Nat) : (setF s f x).sched = s.sched := rfl
@[simp] theorem setF_dsp (f : Fld) (x : Nat) : (setF s f x).dsp = s.dsp := rfl
@[simp] theorem setF_mix (f : Fld) (x : Nat) : (setF s f x).mix = s.mix := rfl
@[simp] theorem setF_flood (f : Fld) (x : Nat) : (setF s f x).flood = s.flood := rfl
@[simp] theorem setF_slu (f : Fld) (x : Nat) : (setF s f x).slu = s.slu := rfl
@[simp] theorem setF_hr (f : Fld) (x : Nat) : (setF s f x).hr = s.hr := rfl
@[simp] theorem setF_prf (f : Fld) (x : Nat) : (setF s f x).prf = s.prf := rfl
@[simp] theorem setF_cv (f : Fld) (x : Nat) : (setF s f x).cv = s.cv := rfl
@[simp] theorem setF_bus (f : Fld) (x : Nat) : (setF s f x).bus = s.bus := rfl
@[simp] theorem setF_cores (f : Fld) (x : Nat) : (setF s f x).cores = s.cores := rfl
@[simp] theorem setF_rcu (f : Fld) (x : Nat) : (setF s f x).rcu = s.rcu := rfl
@[simp] theorem setF_redun (f : Fld) (x : Nat) : (setF s f x).redun = s.redun := rfl
@[simp] theorem setF_rst (f : Fld) (x : Nat) : (setF s f x).rst = s.rst := rfl
@[simp] theorem setF_tally (f : Fld) (x : Nat) : (setF s f x).tally = s.tally := rfl
@[simp] theorem setF_net (f : Fld) (x : Nat) : (setF s f x).net = s.net := rfl
@[simp] theorem setF_ser (f : Fld) (x : Nat) : (setF s f x).ser = s.ser := rfl
@[simp] theorem setF_boot (f : Fld) (x : Nat) : (setF s f x).boot = s.boot := rfl
@[simp] theorem setF_tst (f : Fld) (x : Nat) : (setF s f x).tst = s.tst := rfl

/-! `stick` changes csr. -/
@[simp] theorem stick_pending (f : Fld) : (stick s f).pending = s.pending := rfl
@[simp] theorem stick_mem (f : Fld) : (stick s f).mem = s.mem := rfl
@[simp] theorem stick_freeCtr (f : Fld) : (stick s f).freeCtr = s.freeCtr := rfl
@[simp] theorem stick_sched (f : Fld) : (stick s f).sched = s.sched := rfl
@[simp] theorem stick_dsp (f : Fld) : (stick s f).dsp = s.dsp := rfl
@[simp] theorem stick_mix (f : Fld) : (stick s f).mix = s.mix := rfl
@[simp] theorem stick_flood (f : Fld) : (stick s f).flood = s.flood := rfl
@[simp] theorem stick_slu (f : Fld) : (stick s f).slu = s.slu := rfl
@[simp] theorem stick_hr (f : Fld) : (stick s f).hr = s.hr := rfl
@[simp] theorem stick_prf (f : Fld) : (stick s f).prf = s.prf := rfl
@[simp] theorem stick_cv (f : Fld) : (stick s f).cv = s.cv := rfl
@[simp] theorem stick_bus (f : Fld) : (stick s f).bus = s.bus := rfl
@[simp] theorem stick_cores (f : Fld) : (stick s f).cores = s.cores := rfl
@[simp] theorem stick_rcu (f : Fld) : (stick s f).rcu = s.rcu := rfl
@[simp] theorem stick_redun (f : Fld) : (stick s f).redun = s.redun := rfl
@[simp] theorem stick_rst (f : Fld) : (stick s f).rst = s.rst := rfl
@[simp] theorem stick_tally (f : Fld) : (stick s f).tally = s.tally := rfl
@[simp] theorem stick_net (f : Fld) : (stick s f).net = s.net := rfl
@[simp] theorem stick_ser (f : Fld) : (stick s f).ser = s.ser := rfl
@[simp] theorem stick_boot (f : Fld) : (stick s f).boot = s.boot := rfl
@[simp] theorem stick_tst (f : Fld) : (stick s f).tst = s.tst := rfl

/-! `count` changes csr. -/
@[simp] theorem count_pending (f : Fld) (n : Nat) : (count s f n).pending = s.pending := rfl
@[simp] theorem count_mem (f : Fld) (n : Nat) : (count s f n).mem = s.mem := rfl
@[simp] theorem count_freeCtr (f : Fld) (n : Nat) : (count s f n).freeCtr = s.freeCtr := rfl
@[simp] theorem count_sched (f : Fld) (n : Nat) : (count s f n).sched = s.sched := rfl
@[simp] theorem count_dsp (f : Fld) (n : Nat) : (count s f n).dsp = s.dsp := rfl
@[simp] theorem count_mix (f : Fld) (n : Nat) : (count s f n).mix = s.mix := rfl
@[simp] theorem count_flood (f : Fld) (n : Nat) : (count s f n).flood = s.flood := rfl
@[simp] theorem count_slu (f : Fld) (n : Nat) : (count s f n).slu = s.slu := rfl
@[simp] theorem count_hr (f : Fld) (n : Nat) : (count s f n).hr = s.hr := rfl
@[simp] theorem count_prf (f : Fld) (n : Nat) : (count s f n).prf = s.prf := rfl
@[simp] theorem count_cv (f : Fld) (n : Nat) : (count s f n).cv = s.cv := rfl
@[simp] theorem count_bus (f : Fld) (n : Nat) : (count s f n).bus = s.bus := rfl
@[simp] theorem count_cores (f : Fld) (n : Nat) : (count s f n).cores = s.cores := rfl
@[simp] theorem count_rcu (f : Fld) (n : Nat) : (count s f n).rcu = s.rcu := rfl
@[simp] theorem count_redun (f : Fld) (n : Nat) : (count s f n).redun = s.redun := rfl
@[simp] theorem count_rst (f : Fld) (n : Nat) : (count s f n).rst = s.rst := rfl
@[simp] theorem count_tally (f : Fld) (n : Nat) : (count s f n).tally = s.tally := rfl
@[simp] theorem count_net (f : Fld) (n : Nat) : (count s f n).net = s.net := rfl
@[simp] theorem count_ser (f : Fld) (n : Nat) : (count s f n).ser = s.ser := rfl
@[simp] theorem count_boot (f : Fld) (n : Nat) : (count s f n).boot = s.boot := rfl
@[simp] theorem count_tst (f : Fld) (n : Nat) : (count s f n).tst = s.tst := rfl

/-! `csrWrite` changes csr. -/
@[simp] theorem csrWrite_pending (o : Nat) (v : Word) : (csrWrite s o v).pending = s.pending := rfl
@[simp] theorem csrWrite_mem (o : Nat) (v : Word) : (csrWrite s o v).mem = s.mem := rfl
@[simp] theorem csrWrite_freeCtr (o : Nat) (v : Word) : (csrWrite s o v).freeCtr = s.freeCtr := rfl
@[simp] theorem csrWrite_sched (o : Nat) (v : Word) : (csrWrite s o v).sched = s.sched := rfl
@[simp] theorem csrWrite_dsp (o : Nat) (v : Word) : (csrWrite s o v).dsp = s.dsp := rfl
@[simp] theorem csrWrite_mix (o : Nat) (v : Word) : (csrWrite s o v).mix = s.mix := rfl
@[simp] theorem csrWrite_flood (o : Nat) (v : Word) : (csrWrite s o v).flood = s.flood := rfl
@[simp] theorem csrWrite_slu (o : Nat) (v : Word) : (csrWrite s o v).slu = s.slu := rfl
@[simp] theorem csrWrite_hr (o : Nat) (v : Word) : (csrWrite s o v).hr = s.hr := rfl
@[simp] theorem csrWrite_prf (o : Nat) (v : Word) : (csrWrite s o v).prf = s.prf := rfl
@[simp] theorem csrWrite_cv (o : Nat) (v : Word) : (csrWrite s o v).cv = s.cv := rfl
@[simp] theorem csrWrite_bus (o : Nat) (v : Word) : (csrWrite s o v).bus = s.bus := rfl
@[simp] theorem csrWrite_cores (o : Nat) (v : Word) : (csrWrite s o v).cores = s.cores := rfl
@[simp] theorem csrWrite_rcu (o : Nat) (v : Word) : (csrWrite s o v).rcu = s.rcu := rfl
@[simp] theorem csrWrite_redun (o : Nat) (v : Word) : (csrWrite s o v).redun = s.redun := rfl
@[simp] theorem csrWrite_rst (o : Nat) (v : Word) : (csrWrite s o v).rst = s.rst := rfl
@[simp] theorem csrWrite_tally (o : Nat) (v : Word) : (csrWrite s o v).tally = s.tally := rfl
@[simp] theorem csrWrite_net (o : Nat) (v : Word) : (csrWrite s o v).net = s.net := rfl
@[simp] theorem csrWrite_ser (o : Nat) (v : Word) : (csrWrite s o v).ser = s.ser := rfl
@[simp] theorem csrWrite_boot (o : Nat) (v : Word) : (csrWrite s o v).boot = s.boot := rfl
@[simp] theorem csrWrite_tst (o : Nat) (v : Word) : (csrWrite s o v).tst = s.tst := rfl

/-! `writeByte` changes mem and bus. -/
@[simp] theorem writeByte_pending (a b : Nat) : (writeByte s a b).pending = s.pending := rfl
@[simp] theorem writeByte_csr (a b : Nat) : (writeByte s a b).csr = s.csr := rfl
@[simp] theorem writeByte_freeCtr (a b : Nat) : (writeByte s a b).freeCtr = s.freeCtr := rfl
@[simp] theorem writeByte_sched (a b : Nat) : (writeByte s a b).sched = s.sched := rfl
@[simp] theorem writeByte_dsp (a b : Nat) : (writeByte s a b).dsp = s.dsp := rfl
@[simp] theorem writeByte_mix (a b : Nat) : (writeByte s a b).mix = s.mix := rfl
@[simp] theorem writeByte_flood (a b : Nat) : (writeByte s a b).flood = s.flood := rfl
@[simp] theorem writeByte_slu (a b : Nat) : (writeByte s a b).slu = s.slu := rfl
@[simp] theorem writeByte_hr (a b : Nat) : (writeByte s a b).hr = s.hr := rfl
@[simp] theorem writeByte_prf (a b : Nat) : (writeByte s a b).prf = s.prf := rfl
@[simp] theorem writeByte_cv (a b : Nat) : (writeByte s a b).cv = s.cv := rfl
@[simp] theorem writeByte_cores (a b : Nat) : (writeByte s a b).cores = s.cores := rfl
@[simp] theorem writeByte_rcu (a b : Nat) : (writeByte s a b).rcu = s.rcu := rfl
@[simp] theorem writeByte_redun (a b : Nat) : (writeByte s a b).redun = s.redun := rfl
@[simp] theorem writeByte_rst (a b : Nat) : (writeByte s a b).rst = s.rst := rfl
@[simp] theorem writeByte_tally (a b : Nat) : (writeByte s a b).tally = s.tally := rfl
@[simp] theorem writeByte_net (a b : Nat) : (writeByte s a b).net = s.net := rfl
@[simp] theorem writeByte_ser (a b : Nat) : (writeByte s a b).ser = s.ser := rfl
@[simp] theorem writeByte_boot (a b : Nat) : (writeByte s a b).boot = s.boot := rfl
@[simp] theorem writeByte_tst (a b : Nat) : (writeByte s a b).tst = s.tst := rfl

/-! `setCell` changes slu. -/
@[simp] theorem setCell_pending (c b : Nat) (d : Bool) : (setCell s c b d).pending = s.pending := rfl
@[simp] theorem setCell_csr (c b : Nat) (d : Bool) : (setCell s c b d).csr = s.csr := rfl
@[simp] theorem setCell_mem (c b : Nat) (d : Bool) : (setCell s c b d).mem = s.mem := rfl
@[simp] theorem setCell_freeCtr (c b : Nat) (d : Bool) : (setCell s c b d).freeCtr = s.freeCtr := rfl
@[simp] theorem setCell_sched (c b : Nat) (d : Bool) : (setCell s c b d).sched = s.sched := rfl
@[simp] theorem setCell_dsp (c b : Nat) (d : Bool) : (setCell s c b d).dsp = s.dsp := rfl
@[simp] theorem setCell_mix (c b : Nat) (d : Bool) : (setCell s c b d).mix = s.mix := rfl
@[simp] theorem setCell_flood (c b : Nat) (d : Bool) : (setCell s c b d).flood = s.flood := rfl
@[simp] theorem setCell_hr (c b : Nat) (d : Bool) : (setCell s c b d).hr = s.hr := rfl
@[simp] theorem setCell_prf (c b : Nat) (d : Bool) : (setCell s c b d).prf = s.prf := rfl
@[simp] theorem setCell_cv (c b : Nat) (d : Bool) : (setCell s c b d).cv = s.cv := rfl
@[simp] theorem setCell_bus (c b : Nat) (d : Bool) : (setCell s c b d).bus = s.bus := rfl
@[simp] theorem setCell_cores (c b : Nat) (d : Bool) : (setCell s c b d).cores = s.cores := rfl
@[simp] theorem setCell_rcu (c b : Nat) (d : Bool) : (setCell s c b d).rcu = s.rcu := rfl
@[simp] theorem setCell_redun (c b : Nat) (d : Bool) : (setCell s c b d).redun = s.redun := rfl
@[simp] theorem setCell_rst (c b : Nat) (d : Bool) : (setCell s c b d).rst = s.rst := rfl
@[simp] theorem setCell_tally (c b : Nat) (d : Bool) : (setCell s c b d).tally = s.tally := rfl
@[simp] theorem setCell_net (c b : Nat) (d : Bool) : (setCell s c b d).net = s.net := rfl
@[simp] theorem setCell_ser (c b : Nat) (d : Bool) : (setCell s c b d).ser = s.ser := rfl
@[simp] theorem setCell_boot (c b : Nat) (d : Bool) : (setCell s c b d).boot = s.boot := rfl
@[simp] theorem setCell_tst (c b : Nat) (d : Bool) : (setCell s c b d).tst = s.tst := rfl

/-! `putSession` changes hr. -/
@[simp] theorem putSession_pending (n : Nat) (x : Session) : (putSession s n x).pending = s.pending := rfl
@[simp] theorem putSession_csr (n : Nat) (x : Session) : (putSession s n x).csr = s.csr := rfl
@[simp] theorem putSession_mem (n : Nat) (x : Session) : (putSession s n x).mem = s.mem := rfl
@[simp] theorem putSession_freeCtr (n : Nat) (x : Session) : (putSession s n x).freeCtr = s.freeCtr := rfl
@[simp] theorem putSession_sched (n : Nat) (x : Session) : (putSession s n x).sched = s.sched := rfl
@[simp] theorem putSession_dsp (n : Nat) (x : Session) : (putSession s n x).dsp = s.dsp := rfl
@[simp] theorem putSession_mix (n : Nat) (x : Session) : (putSession s n x).mix = s.mix := rfl
@[simp] theorem putSession_flood (n : Nat) (x : Session) : (putSession s n x).flood = s.flood := rfl
@[simp] theorem putSession_slu (n : Nat) (x : Session) : (putSession s n x).slu = s.slu := rfl
@[simp] theorem putSession_prf (n : Nat) (x : Session) : (putSession s n x).prf = s.prf := rfl
@[simp] theorem putSession_cv (n : Nat) (x : Session) : (putSession s n x).cv = s.cv := rfl
@[simp] theorem putSession_bus (n : Nat) (x : Session) : (putSession s n x).bus = s.bus := rfl
@[simp] theorem putSession_cores (n : Nat) (x : Session) : (putSession s n x).cores = s.cores := rfl
@[simp] theorem putSession_rcu (n : Nat) (x : Session) : (putSession s n x).rcu = s.rcu := rfl
@[simp] theorem putSession_redun (n : Nat) (x : Session) : (putSession s n x).redun = s.redun := rfl
@[simp] theorem putSession_rst (n : Nat) (x : Session) : (putSession s n x).rst = s.rst := rfl
@[simp] theorem putSession_tally (n : Nat) (x : Session) : (putSession s n x).tally = s.tally := rfl
@[simp] theorem putSession_net (n : Nat) (x : Session) : (putSession s n x).net = s.net := rfl
@[simp] theorem putSession_ser (n : Nat) (x : Session) : (putSession s n x).ser = s.ser := rfl
@[simp] theorem putSession_boot (n : Nat) (x : Session) : (putSession s n x).boot = s.boot := rfl
@[simp] theorem putSession_tst (n : Nat) (x : Session) : (putSession s n x).tst = s.tst := rfl

/-! `putCore` changes cores. -/
@[simp] theorem putCore_pending (n : Nat) (x : Core) : (putCore s n x).pending = s.pending := rfl
@[simp] theorem putCore_csr (n : Nat) (x : Core) : (putCore s n x).csr = s.csr := rfl
@[simp] theorem putCore_mem (n : Nat) (x : Core) : (putCore s n x).mem = s.mem := rfl
@[simp] theorem putCore_freeCtr (n : Nat) (x : Core) : (putCore s n x).freeCtr = s.freeCtr := rfl
@[simp] theorem putCore_sched (n : Nat) (x : Core) : (putCore s n x).sched = s.sched := rfl
@[simp] theorem putCore_dsp (n : Nat) (x : Core) : (putCore s n x).dsp = s.dsp := rfl
@[simp] theorem putCore_mix (n : Nat) (x : Core) : (putCore s n x).mix = s.mix := rfl
@[simp] theorem putCore_flood (n : Nat) (x : Core) : (putCore s n x).flood = s.flood := rfl
@[simp] theorem putCore_slu (n : Nat) (x : Core) : (putCore s n x).slu = s.slu := rfl
@[simp] theorem putCore_hr (n : Nat) (x : Core) : (putCore s n x).hr = s.hr := rfl
@[simp] theorem putCore_prf (n : Nat) (x : Core) : (putCore s n x).prf = s.prf := rfl
@[simp] theorem putCore_cv (n : Nat) (x : Core) : (putCore s n x).cv = s.cv := rfl
@[simp] theorem putCore_bus (n : Nat) (x : Core) : (putCore s n x).bus = s.bus := rfl
@[simp] theorem putCore_rcu (n : Nat) (x : Core) : (putCore s n x).rcu = s.rcu := rfl
@[simp] theorem putCore_redun (n : Nat) (x : Core) : (putCore s n x).redun = s.redun := rfl
@[simp] theorem putCore_rst (n : Nat) (x : Core) : (putCore s n x).rst = s.rst := rfl
@[simp] theorem putCore_tally (n : Nat) (x : Core) : (putCore s n x).tally = s.tally := rfl
@[simp] theorem putCore_net (n : Nat) (x : Core) : (putCore s n x).net = s.net := rfl
@[simp] theorem putCore_ser (n : Nat) (x : Core) : (putCore s n x).ser = s.ser := rfl
@[simp] theorem putCore_boot (n : Nat) (x : Core) : (putCore s n x).boot = s.boot := rfl
@[simp] theorem putCore_tst (n : Nat) (x : Core) : (putCore s n x).tst = s.tst := rfl

/-! `putCv` changes cv. -/
@[simp] theorem putCv_pending (n : Nat) (x : CvOut) : (putCv s n x).pending = s.pending := rfl
@[simp] theorem putCv_csr (n : Nat) (x : CvOut) : (putCv s n x).csr = s.csr := rfl
@[simp] theorem putCv_mem (n : Nat) (x : CvOut) : (putCv s n x).mem = s.mem := rfl
@[simp] theorem putCv_freeCtr (n : Nat) (x : CvOut) : (putCv s n x).freeCtr = s.freeCtr := rfl
@[simp] theorem putCv_sched (n : Nat) (x : CvOut) : (putCv s n x).sched = s.sched := rfl
@[simp] theorem putCv_dsp (n : Nat) (x : CvOut) : (putCv s n x).dsp = s.dsp := rfl
@[simp] theorem putCv_mix (n : Nat) (x : CvOut) : (putCv s n x).mix = s.mix := rfl
@[simp] theorem putCv_flood (n : Nat) (x : CvOut) : (putCv s n x).flood = s.flood := rfl
@[simp] theorem putCv_slu (n : Nat) (x : CvOut) : (putCv s n x).slu = s.slu := rfl
@[simp] theorem putCv_hr (n : Nat) (x : CvOut) : (putCv s n x).hr = s.hr := rfl
@[simp] theorem putCv_prf (n : Nat) (x : CvOut) : (putCv s n x).prf = s.prf := rfl
@[simp] theorem putCv_bus (n : Nat) (x : CvOut) : (putCv s n x).bus = s.bus := rfl
@[simp] theorem putCv_cores (n : Nat) (x : CvOut) : (putCv s n x).cores = s.cores := rfl
@[simp] theorem putCv_rcu (n : Nat) (x : CvOut) : (putCv s n x).rcu = s.rcu := rfl
@[simp] theorem putCv_redun (n : Nat) (x : CvOut) : (putCv s n x).redun = s.redun := rfl
@[simp] theorem putCv_rst (n : Nat) (x : CvOut) : (putCv s n x).rst = s.rst := rfl
@[simp] theorem putCv_tally (n : Nat) (x : CvOut) : (putCv s n x).tally = s.tally := rfl
@[simp] theorem putCv_net (n : Nat) (x : CvOut) : (putCv s n x).net = s.net := rfl
@[simp] theorem putCv_ser (n : Nat) (x : CvOut) : (putCv s n x).ser = s.ser := rfl
@[simp] theorem putCv_boot (n : Nat) (x : CvOut) : (putCv s n x).boot = s.boot := rfl
@[simp] theorem putCv_tst (n : Nat) (x : CvOut) : (putCv s n x).tst = s.tst := rfl

/-! `putIn` changes rcu. -/
@[simp] theorem putIn_pending (n : Nat) (x : RefIn) : (putIn s n x).pending = s.pending := rfl
@[simp] theorem putIn_csr (n : Nat) (x : RefIn) : (putIn s n x).csr = s.csr := rfl
@[simp] theorem putIn_mem (n : Nat) (x : RefIn) : (putIn s n x).mem = s.mem := rfl
@[simp] theorem putIn_freeCtr (n : Nat) (x : RefIn) : (putIn s n x).freeCtr = s.freeCtr := rfl
@[simp] theorem putIn_sched (n : Nat) (x : RefIn) : (putIn s n x).sched = s.sched := rfl
@[simp] theorem putIn_dsp (n : Nat) (x : RefIn) : (putIn s n x).dsp = s.dsp := rfl
@[simp] theorem putIn_mix (n : Nat) (x : RefIn) : (putIn s n x).mix = s.mix := rfl
@[simp] theorem putIn_flood (n : Nat) (x : RefIn) : (putIn s n x).flood = s.flood := rfl
@[simp] theorem putIn_slu (n : Nat) (x : RefIn) : (putIn s n x).slu = s.slu := rfl
@[simp] theorem putIn_hr (n : Nat) (x : RefIn) : (putIn s n x).hr = s.hr := rfl
@[simp] theorem putIn_prf (n : Nat) (x : RefIn) : (putIn s n x).prf = s.prf := rfl
@[simp] theorem putIn_cv (n : Nat) (x : RefIn) : (putIn s n x).cv = s.cv := rfl
@[simp] theorem putIn_bus (n : Nat) (x : RefIn) : (putIn s n x).bus = s.bus := rfl
@[simp] theorem putIn_cores (n : Nat) (x : RefIn) : (putIn s n x).cores = s.cores := rfl
@[simp] theorem putIn_redun (n : Nat) (x : RefIn) : (putIn s n x).redun = s.redun := rfl
@[simp] theorem putIn_rst (n : Nat) (x : RefIn) : (putIn s n x).rst = s.rst := rfl
@[simp] theorem putIn_tally (n : Nat) (x : RefIn) : (putIn s n x).tally = s.tally := rfl
@[simp] theorem putIn_net (n : Nat) (x : RefIn) : (putIn s n x).net = s.net := rfl
@[simp] theorem putIn_ser (n : Nat) (x : RefIn) : (putIn s n x).ser = s.ser := rfl
@[simp] theorem putIn_boot (n : Nat) (x : RefIn) : (putIn s n x).boot = s.boot := rfl
@[simp] theorem putIn_tst (n : Nat) (x : RefIn) : (putIn s n x).tst = s.tst := rfl

/-! `putSp` changes ser. -/
@[simp] theorem putSp_pending (n : Nat) (x : Sport) : (putSp s n x).pending = s.pending := rfl
@[simp] theorem putSp_csr (n : Nat) (x : Sport) : (putSp s n x).csr = s.csr := rfl
@[simp] theorem putSp_mem (n : Nat) (x : Sport) : (putSp s n x).mem = s.mem := rfl
@[simp] theorem putSp_freeCtr (n : Nat) (x : Sport) : (putSp s n x).freeCtr = s.freeCtr := rfl
@[simp] theorem putSp_sched (n : Nat) (x : Sport) : (putSp s n x).sched = s.sched := rfl
@[simp] theorem putSp_dsp (n : Nat) (x : Sport) : (putSp s n x).dsp = s.dsp := rfl
@[simp] theorem putSp_mix (n : Nat) (x : Sport) : (putSp s n x).mix = s.mix := rfl
@[simp] theorem putSp_flood (n : Nat) (x : Sport) : (putSp s n x).flood = s.flood := rfl
@[simp] theorem putSp_slu (n : Nat) (x : Sport) : (putSp s n x).slu = s.slu := rfl
@[simp] theorem putSp_hr (n : Nat) (x : Sport) : (putSp s n x).hr = s.hr := rfl
@[simp] theorem putSp_prf (n : Nat) (x : Sport) : (putSp s n x).prf = s.prf := rfl
@[simp] theorem putSp_cv (n : Nat) (x : Sport) : (putSp s n x).cv = s.cv := rfl
@[simp] theorem putSp_bus (n : Nat) (x : Sport) : (putSp s n x).bus = s.bus := rfl
@[simp] theorem putSp_cores (n : Nat) (x : Sport) : (putSp s n x).cores = s.cores := rfl
@[simp] theorem putSp_rcu (n : Nat) (x : Sport) : (putSp s n x).rcu = s.rcu := rfl
@[simp] theorem putSp_redun (n : Nat) (x : Sport) : (putSp s n x).redun = s.redun := rfl
@[simp] theorem putSp_rst (n : Nat) (x : Sport) : (putSp s n x).rst = s.rst := rfl
@[simp] theorem putSp_tally (n : Nat) (x : Sport) : (putSp s n x).tally = s.tally := rfl
@[simp] theorem putSp_net (n : Nat) (x : Sport) : (putSp s n x).net = s.net := rfl
@[simp] theorem putSp_boot (n : Nat) (x : Sport) : (putSp s n x).boot = s.boot := rfl
@[simp] theorem putSp_tst (n : Nat) (x : Sport) : (putSp s n x).tst = s.tst := rfl

/-! `putPort` changes net. -/
@[simp] theorem putPort_pending (n : Nat) (x : MacPort) : (putPort s n x).pending = s.pending := rfl
@[simp] theorem putPort_csr (n : Nat) (x : MacPort) : (putPort s n x).csr = s.csr := rfl
@[simp] theorem putPort_mem (n : Nat) (x : MacPort) : (putPort s n x).mem = s.mem := rfl
@[simp] theorem putPort_freeCtr (n : Nat) (x : MacPort) : (putPort s n x).freeCtr = s.freeCtr := rfl
@[simp] theorem putPort_sched (n : Nat) (x : MacPort) : (putPort s n x).sched = s.sched := rfl
@[simp] theorem putPort_dsp (n : Nat) (x : MacPort) : (putPort s n x).dsp = s.dsp := rfl
@[simp] theorem putPort_mix (n : Nat) (x : MacPort) : (putPort s n x).mix = s.mix := rfl
@[simp] theorem putPort_flood (n : Nat) (x : MacPort) : (putPort s n x).flood = s.flood := rfl
@[simp] theorem putPort_slu (n : Nat) (x : MacPort) : (putPort s n x).slu = s.slu := rfl
@[simp] theorem putPort_hr (n : Nat) (x : MacPort) : (putPort s n x).hr = s.hr := rfl
@[simp] theorem putPort_prf (n : Nat) (x : MacPort) : (putPort s n x).prf = s.prf := rfl
@[simp] theorem putPort_cv (n : Nat) (x : MacPort) : (putPort s n x).cv = s.cv := rfl
@[simp] theorem putPort_bus (n : Nat) (x : MacPort) : (putPort s n x).bus = s.bus := rfl
@[simp] theorem putPort_cores (n : Nat) (x : MacPort) : (putPort s n x).cores = s.cores := rfl
@[simp] theorem putPort_rcu (n : Nat) (x : MacPort) : (putPort s n x).rcu = s.rcu := rfl
@[simp] theorem putPort_redun (n : Nat) (x : MacPort) : (putPort s n x).redun = s.redun := rfl
@[simp] theorem putPort_rst (n : Nat) (x : MacPort) : (putPort s n x).rst = s.rst := rfl
@[simp] theorem putPort_tally (n : Nat) (x : MacPort) : (putPort s n x).tally = s.tally := rfl
@[simp] theorem putPort_ser (n : Nat) (x : MacPort) : (putPort s n x).ser = s.ser := rfl
@[simp] theorem putPort_boot (n : Nat) (x : MacPort) : (putPort s n x).boot = s.boot := rfl
@[simp] theorem putPort_tst (n : Nat) (x : MacPort) : (putPort s n x).tst = s.tst := rfl

/-! `putUpd` changes boot. -/
@[simp] theorem putUpd_pending (x : Upd) : (putUpd s x).pending = s.pending := rfl
@[simp] theorem putUpd_csr (x : Upd) : (putUpd s x).csr = s.csr := rfl
@[simp] theorem putUpd_mem (x : Upd) : (putUpd s x).mem = s.mem := rfl
@[simp] theorem putUpd_freeCtr (x : Upd) : (putUpd s x).freeCtr = s.freeCtr := rfl
@[simp] theorem putUpd_sched (x : Upd) : (putUpd s x).sched = s.sched := rfl
@[simp] theorem putUpd_dsp (x : Upd) : (putUpd s x).dsp = s.dsp := rfl
@[simp] theorem putUpd_mix (x : Upd) : (putUpd s x).mix = s.mix := rfl
@[simp] theorem putUpd_flood (x : Upd) : (putUpd s x).flood = s.flood := rfl
@[simp] theorem putUpd_slu (x : Upd) : (putUpd s x).slu = s.slu := rfl
@[simp] theorem putUpd_hr (x : Upd) : (putUpd s x).hr = s.hr := rfl
@[simp] theorem putUpd_prf (x : Upd) : (putUpd s x).prf = s.prf := rfl
@[simp] theorem putUpd_cv (x : Upd) : (putUpd s x).cv = s.cv := rfl
@[simp] theorem putUpd_bus (x : Upd) : (putUpd s x).bus = s.bus := rfl
@[simp] theorem putUpd_cores (x : Upd) : (putUpd s x).cores = s.cores := rfl
@[simp] theorem putUpd_rcu (x : Upd) : (putUpd s x).rcu = s.rcu := rfl
@[simp] theorem putUpd_redun (x : Upd) : (putUpd s x).redun = s.redun := rfl
@[simp] theorem putUpd_rst (x : Upd) : (putUpd s x).rst = s.rst := rfl
@[simp] theorem putUpd_tally (x : Upd) : (putUpd s x).tally = s.tally := rfl
@[simp] theorem putUpd_net (x : Upd) : (putUpd s x).net = s.net := rfl
@[simp] theorem putUpd_ser (x : Upd) : (putUpd s x).ser = s.ser := rfl
@[simp] theorem putUpd_tst (x : Upd) : (putUpd s x).tst = s.tst := rfl

/-! `sendOut` changes hr. -/
@[simp] theorem sendOut_pending (d : Endpoint) (b : List Nat) : (sendOut s d b).pending = s.pending := rfl
@[simp] theorem sendOut_csr (d : Endpoint) (b : List Nat) : (sendOut s d b).csr = s.csr := rfl
@[simp] theorem sendOut_mem (d : Endpoint) (b : List Nat) : (sendOut s d b).mem = s.mem := rfl
@[simp] theorem sendOut_freeCtr (d : Endpoint) (b : List Nat) : (sendOut s d b).freeCtr = s.freeCtr := rfl
@[simp] theorem sendOut_sched (d : Endpoint) (b : List Nat) : (sendOut s d b).sched = s.sched := rfl
@[simp] theorem sendOut_dsp (d : Endpoint) (b : List Nat) : (sendOut s d b).dsp = s.dsp := rfl
@[simp] theorem sendOut_mix (d : Endpoint) (b : List Nat) : (sendOut s d b).mix = s.mix := rfl
@[simp] theorem sendOut_flood (d : Endpoint) (b : List Nat) : (sendOut s d b).flood = s.flood := rfl
@[simp] theorem sendOut_slu (d : Endpoint) (b : List Nat) : (sendOut s d b).slu = s.slu := rfl
@[simp] theorem sendOut_prf (d : Endpoint) (b : List Nat) : (sendOut s d b).prf = s.prf := rfl
@[simp] theorem sendOut_cv (d : Endpoint) (b : List Nat) : (sendOut s d b).cv = s.cv := rfl
@[simp] theorem sendOut_bus (d : Endpoint) (b : List Nat) : (sendOut s d b).bus = s.bus := rfl
@[simp] theorem sendOut_cores (d : Endpoint) (b : List Nat) : (sendOut s d b).cores = s.cores := rfl
@[simp] theorem sendOut_rcu (d : Endpoint) (b : List Nat) : (sendOut s d b).rcu = s.rcu := rfl
@[simp] theorem sendOut_redun (d : Endpoint) (b : List Nat) : (sendOut s d b).redun = s.redun := rfl
@[simp] theorem sendOut_rst (d : Endpoint) (b : List Nat) : (sendOut s d b).rst = s.rst := rfl
@[simp] theorem sendOut_tally (d : Endpoint) (b : List Nat) : (sendOut s d b).tally = s.tally := rfl
@[simp] theorem sendOut_net (d : Endpoint) (b : List Nat) : (sendOut s d b).net = s.net := rfl
@[simp] theorem sendOut_ser (d : Endpoint) (b : List Nat) : (sendOut s d b).ser = s.ser := rfl
@[simp] theorem sendOut_boot (d : Endpoint) (b : List Nat) : (sendOut s d b).boot = s.boot := rfl
@[simp] theorem sendOut_tst (d : Endpoint) (b : List Nat) : (sendOut s d b).tst = s.tst := rfl

/-! `freshFree` advances the count of draws. -/
@[simp] theorem freshFree_pending : (freshFree s).2.pending = s.pending := rfl
@[simp] theorem freshFree_csr : (freshFree s).2.csr = s.csr := rfl
@[simp] theorem freshFree_mem : (freshFree s).2.mem = s.mem := rfl
@[simp] theorem freshFree_sched : (freshFree s).2.sched = s.sched := rfl
@[simp] theorem freshFree_dsp : (freshFree s).2.dsp = s.dsp := rfl
@[simp] theorem freshFree_mix : (freshFree s).2.mix = s.mix := rfl
@[simp] theorem freshFree_flood : (freshFree s).2.flood = s.flood := rfl
@[simp] theorem freshFree_slu : (freshFree s).2.slu = s.slu := rfl
@[simp] theorem freshFree_hr : (freshFree s).2.hr = s.hr := rfl
@[simp] theorem freshFree_prf : (freshFree s).2.prf = s.prf := rfl
@[simp] theorem freshFree_cv : (freshFree s).2.cv = s.cv := rfl
@[simp] theorem freshFree_bus : (freshFree s).2.bus = s.bus := rfl
@[simp] theorem freshFree_cores : (freshFree s).2.cores = s.cores := rfl
@[simp] theorem freshFree_rcu : (freshFree s).2.rcu = s.rcu := rfl
@[simp] theorem freshFree_redun : (freshFree s).2.redun = s.redun := rfl
@[simp] theorem freshFree_rst : (freshFree s).2.rst = s.rst := rfl
@[simp] theorem freshFree_tally : (freshFree s).2.tally = s.tally := rfl
@[simp] theorem freshFree_net : (freshFree s).2.net = s.net := rfl
@[simp] theorem freshFree_ser : (freshFree s).2.ser = s.ser := rfl
@[simp] theorem freshFree_boot : (freshFree s).2.boot = s.boot := rfl
@[simp] theorem freshFree_tst : (freshFree s).2.tst = s.tst := rfl
@[simp] theorem freshFree_freeCtr : (freshFree s).2.freeCtr = s.freeCtr + 1 := rfl
@[simp] theorem freshFree_fst : (freshFree s).1 = s.freeCtr := rfl

end Sys2Proof.Machine
end

