-- ==== Sys2Proof/Laws/Csr.lean ====
section
/-! SUPPORT. Register words and fields: what a read gives after each small update. -/
namespace Sys2Proof.Machine

theorem bits_lt (w hi lo : Nat) : bits w hi lo < 2 ^ (hi + 1 - lo) := Nat.mod_lt _ (Nat.two_pow_pos _)

theorem testBit_bits (w hi lo i : Nat) : (bits w hi lo).testBit i = (decide (i < hi + 1 - lo) && w.testBit (lo + i)) := by
  unfold bits
  rw [Nat.testBit_mod_two_pow, Nat.testBit_shiftRight]

theorem bits_le (w hi lo : Nat) : bits w hi lo * 2 ^ lo ≤ w := by
  unfold bits
  calc (w >>> lo) % 2 ^ (hi + 1 - lo) * 2 ^ lo ≤ (w >>> lo) * 2 ^ lo := Nat.mul_le_mul_right _ (Nat.mod_le _ _)
    _ ≤ w := by rw [Nat.shiftRight_eq_div_pow]; exact Nat.div_mul_le_self _ _

/-- The parts of a word above, in and below a field. -/
theorem word_split (w hi lo : Nat) :
    w = w >>> lo / 2 ^ (hi + 1 - lo) * 2 ^ (hi + 1 - lo) * 2 ^ lo + bits w hi lo * 2 ^ lo + w % 2 ^ lo := by
  unfold bits
  rw [← Nat.add_mul, Nat.div_add_mod', Nat.shiftRight_eq_div_pow, Nat.div_add_mod']

theorem setBits_split (w hi lo x : Nat) :
    setBits w hi lo x =
      w >>> lo / 2 ^ (hi + 1 - lo) * 2 ^ (hi + 1 - lo) * 2 ^ lo + x % 2 ^ (hi + 1 - lo) * 2 ^ lo + w % 2 ^ lo := by
  have h := word_split w hi lo
  unfold setBits
  omega

theorem testBit_setBits (w hi lo x i : Nat) :
    (setBits w hi lo x).testBit i =
      if lo ≤ i ∧ i < lo + (hi + 1 - lo) then x.testBit (i - lo) else w.testBit i := by
  have e : setBits w hi lo x
      = 2 ^ lo * (2 ^ (hi + 1 - lo) * (w >>> lo / 2 ^ (hi + 1 - lo)) + x % 2 ^ (hi + 1 - lo)) + w % 2 ^ lo := by
    rw [setBits_split, Nat.mul_comm (2 ^ lo), Nat.add_mul, Nat.mul_comm (2 ^ (hi + 1 - lo))]
  rw [e, Nat.testBit_two_pow_mul_add _ (Nat.mod_lt _ (Nat.two_pow_pos _))]
  by_cases h1 : i < lo
  · rw [if_pos h1, if_neg (by omega), Nat.testBit_mod_two_pow]; simp [h1]
  · rw [if_neg h1, Nat.testBit_two_pow_mul_add _ (Nat.mod_lt _ (Nat.two_pow_pos _))]
    by_cases h2 : i - lo < hi + 1 - lo
    · rw [if_pos h2, if_pos (by omega), Nat.testBit_mod_two_pow]; simp [h2]
    · rw [if_neg h2, if_neg (by omega), Nat.testBit_div_two_pow, Nat.testBit_shiftRight]
      congr 1; omega

/-- A field reads what was put there. -/
theorem bits_setBits (w hi lo x : Nat) : bits (setBits w hi lo x) hi lo = x % 2 ^ (hi + 1 - lo) := by
  apply Nat.eq_of_testBit_eq
  intro i
  rw [testBit_bits, testBit_setBits, Nat.testBit_mod_two_pow]
  by_cases h : i < hi + 1 - lo
  · simp only [h, decide_true, Bool.true_and]; rw [if_pos (by omega)]; congr 1; omega
  · simp [h]

/-- A field that does not overlap keeps its value. -/
theorem bits_setBits_ne (w hi lo x h l : Nat) (d : h < lo ∨ hi < l) :
    bits (setBits w hi lo x) h l = bits w h l := by
  apply Nat.eq_of_testBit_eq
  intro i
  rw [testBit_bits, testBit_bits, testBit_setBits]
  by_cases k : i < h + 1 - l
  · simp only [k, decide_true, Bool.true_and]; rw [if_neg (by omega)]
  · simp [k]

theorem setBits_lt (w hi lo x n : Nat) (hw : w < 2 ^ n) (hn : hi < n) : setBits w hi lo x < 2 ^ n := by
  apply Nat.lt_pow_two_of_testBit
  intro i hi'
  rw [testBit_setBits, if_neg (by omega)]
  exact Nat.testBit_lt_two_pow (Nat.lt_of_lt_of_le hw (Nat.pow_le_pow_right (by decide) hi'))

@[simp] theorem csrGet_put_same (s : State) (o : Nat) (v : Word) : csrGet (csrPut s o v) o = v := by
  rw [csrGet_csrPut, if_pos rfl]

theorem csrGet_put_ne (s : State) (o p : Nat) (v : Word) (h : p ≠ o) : csrGet (csrPut s o v) p = csrGet s p := by
  rw [csrGet_csrPut, if_neg h]

theorem csrGet_setF_ne (s : State) (f : Fld) (x o : Nat) (h : o ≠ f.off) : csrGet (setF s f x) o = csrGet s o :=
  csrGet_put_ne _ _ _ _ h

theorem csrGet_setF_toNat (s : State) (f : Fld) (x : Nat) (h : f.hi < 32) :
    (csrGet (setF s f x) f.off).toNat = setBits (csrGet s f.off).toNat f.hi f.lo x := by
  unfold setF
  rw [csrGet_put_same, BitVec.toNat_ofNat, Nat.mod_eq_of_lt (setBits_lt _ _ _ _ _ (csrGet s f.off).isLt h)]

theorem getF_setF (s : State) (f : Fld) (x : Nat) (h : f.hi < 32) : getF (setF s f x) f = x % 2 ^ (f.hi + 1 - f.lo) := by
  unfold getF
  rw [csrGet_setF_toNat s f x h, bits_setBits]

theorem getF_setF_ne (s : State) (f g : Fld) (x : Nat) (hf : f.hi < 32) (h : g.off ≠ f.off ∨ g.hi < f.lo ∨ f.hi < g.lo) :
    getF (setF s f x) g = getF s g := by
  by_cases e : g.off = f.off
  · unfold getF
    rw [e, csrGet_setF_toNat s f x hf, bits_setBits_ne _ _ _ _ _ _ (h.resolve_left (fun k => k e))]
  · unfold getF
    rw [csrGet_setF_ne _ _ _ _ e]

/-- A field after a write of a field, both named by numbers. -/
theorem getF_setF_cases (s : State) (f g : Fld) (x : Nat) (hf : f.hi < 32) (h : g = f ∨ g.off ≠ f.off ∨ g.hi < f.lo ∨ f.hi < g.lo) :
    getF (setF s f x) g = if g = f then x % 2 ^ (f.hi + 1 - f.lo) else getF s g := by
  split
  · next e => rw [e, getF_setF _ _ _ hf]
  · next e => exact getF_setF_ne _ _ _ _ hf (h.resolve_left e)

end Sys2Proof.Machine
end

