-- ==== Sys2Proof/Laws/Keeps.lean ====
section
/-! SUPPORT. The relation that every operation's lemma states: which parts of the state it may change, and that it keeps the
memory in canonical form; and the rules that compose such lemmas. -/
namespace Sys2Proof.Machine

/-- Every part listed in `ps` is listed in `qs`. -/
def subParts (ps qs : List Part) : Bool := ps.all (fun p => qs.any (fun q => decide (p = q)))

theorem mem_of_subParts {ps qs : List Part} (h : subParts ps qs = true) {p : Part} (hp : p ∈ ps) : p ∈ qs := by
  simp only [subParts, List.all_eq_true, List.any_eq_true, decide_eq_true_eq] at h
  obtain ⟨q, hq, e⟩ := h p hp
  exact e ▸ hq

theorem subParts_trans {ps qs rs : List Part} (h : subParts ps qs = true) (k : subParts qs rs = true) :
    subParts ps rs = true := by
  simp only [subParts, List.all_eq_true, List.any_eq_true, decide_eq_true_eq]
  intro p hp
  exact ⟨p, mem_of_subParts k (mem_of_subParts h hp), rfl⟩

theorem Part.same_trans {p : Part} {s t u : State} (h : p.same s t) (k : p.same t u) : p.same s u := by
  cases p <;> exact Eq.trans k h

/-- `t` differs from `s` at most in the parts listed, and is canonical where `s` is. -/
structure Keeps (ps : List Part) (s t : State) : Prop where
  only : Only ps s t
  inv : s.Inv → t.Inv

theorem Keeps.refl (ps : List Part) (s : State) : Keeps ps s s :=
  ⟨fun p _ => by cases p <;> exact rfl, fun h => h⟩

theorem Keeps.step {ps qs : List Part} {s t u : State} (h : Keeps ps t u) (hs : subParts ps qs = true) (k : Keeps qs s t) :
    Keeps qs s u :=
  ⟨fun p hp => Part.same_trans (k.only p hp) (h.only p (fun hq => hp (mem_of_subParts hs hq))), fun i => h.inv (k.inv i)⟩

theorem Keeps.mono {ps qs : List Part} {s t : State} (h : Keeps ps s t) (hs : subParts ps qs = true) : Keeps qs s t :=
  Keeps.step h hs (Keeps.refl _ _)

theorem Keeps.ite {ps : List Part} {s t u : State} {c : Prop} [Decidable c] (h : Keeps ps s t) (k : Keeps ps s u) :
    Keeps ps s (if c then t else u) := by
  split <;> assumption

theorem Keeps.foldl {α : Type} {ps : List Part} {f : State → α → State} {l : List α} {s x : State}
    (hf : ∀ t a, Keeps ps t (f t a)) (h : Keeps ps s x) : Keeps ps s (l.foldl f x) := by
  induction l generalizing x with
  | nil => exact h
  | cons a l ih => exact ih (Keeps.step (hf x a) (by simp [subParts]) h)

theorem Keeps.foldl_fst {α β : Type} {ps : List Part} {f : State × β → α → State × β} {l : List α} {s : State} {x : State × β}
    (hf : ∀ t a, Keeps ps t.1 (f t a).1) (h : Keeps ps s x.1) : Keeps ps s (l.foldl f x).1 := by
  induction l generalizing x with
  | nil => exact h
  | cons a l ih => exact ih (Keeps.step (hf x a) (by simp [subParts]) h)

theorem Keeps.foldl_snd {α β : Type} {ps : List Part} {f : β × State → α → β × State} {l : List α} {s : State} {x : β × State}
    (hf : ∀ t a, Keeps ps t.2 (f t a).2) (h : Keeps ps s x.2) : Keeps ps s (l.foldl f x).2 := by
  induction l generalizing x with
  | nil => exact h
  | cons a l ih => exact ih (Keeps.step (hf x a) (by simp [subParts]) h)

theorem Keeps.foldl_snd2 {α β γ : Type} {ps : List Part} {f : β × γ × State → α → β × γ × State} {l : List α} {s : State}
    {x : β × γ × State} (hf : ∀ t a, Keeps ps t.2.2 (f t a).2.2) (h : Keeps ps s x.2.2) : Keeps ps s (l.foldl f x).2.2 := by
  induction l generalizing x with
  | nil => exact h
  | cons a l ih => exact ih (Keeps.step (hf x a) (by simp [subParts]) h)

theorem Keeps.ite_p1 {α : Type} {ps : List Part} {s : State} {a b : State × α} {c : Prop} [Decidable c]
    (h : Keeps ps s a.1) (k : Keeps ps s b.1) : Keeps ps s (if c then a else b).1 := by
  split <;> assumption

theorem Keeps.ite_p2 {α : Type} {ps : List Part} {s : State} {a b : α × State} {c : Prop} [Decidable c]
    (h : Keeps ps s a.2) (k : Keeps ps s b.2) : Keeps ps s (if c then a else b).2 := by
  split <;> assumption

theorem Keeps.ite_p22 {α β : Type} {ps : List Part} {s : State} {a b : α × β × State} {c : Prop} [Decidable c]
    (h : Keeps ps s a.2.2) (k : Keeps ps s b.2.2) : Keeps ps s (if c then a else b).2.2 := by
  split <;> assumption

theorem Keeps.ite_p222 {α β γ : Type} {ps : List Part} {s : State} {a b : α × β × γ × State} {c : Prop} [Decidable c]
    (h : Keeps ps s a.2.2.2) (k : Keeps ps s b.2.2.2) : Keeps ps s (if c then a else b).2.2.2 := by
  split <;> assumption

theorem Inv_of_mem {s t : State} (h : t.mem = s.mem) (hb : t.boot.snap = s.boot.snap) (i : s.Inv) : t.Inv := by
  refine ⟨h ▸ i.1, ?_⟩
  unfold Snap.wf
  rw [hb]
  exact i.2

/-- A record update: each field is one of the listed parts or as it was. -/
theorem Keeps.upd {ps : List Part} {s x : State} {a0} {a1} {a2} {a3} {a4} {a5} {a6} {a7} {a8} {a9} {a10} {a11} {a12} {a13} {a14} {a15} {a16} {a17} {a18} {a19} {a20} {a21}
    (h0 : a0 = x.pending ∨ subParts [.pending] ps = true)
    (h1 : a1 = x.csr ∨ subParts [.csr] ps = true)
    (h2 : a2 = x.mem ∨ subParts [.mem] ps = true)
    (h3 : a3 = x.freeCtr ∨ subParts [.freeCtr] ps = true)
    (h4 : a4 = x.sched ∨ subParts [.sched] ps = true)
    (h5 : a5 = x.dsp ∨ subParts [.dsp] ps = true)
    (h6 : a6 = x.mix ∨ subParts [.mix] ps = true)
    (h7 : a7 = x.flood ∨ subParts [.flood] ps = true)
    (h8 : a8 = x.slu ∨ subParts [.slu] ps = true)
    (h9 : a9 = x.hr ∨ subParts [.hr] ps = true)
    (h10 : a10 = x.prf ∨ subParts [.prf] ps = true)
    (h11 : a11 = x.cv ∨ subParts [.cv] ps = true)
    (h12 : a12 = x.bus ∨ subParts [.bus] ps = true)
    (h13 : a13 = x.cores ∨ subParts [.cores] ps = true)
    (h14 : a14 = x.rcu ∨ subParts [.rcu] ps = true)
    (h15 : a15 = x.redun ∨ subParts [.redun] ps = true)
    (h16 : a16 = x.rst ∨ subParts [.rst] ps = true)
    (h17 : a17 = x.tally ∨ subParts [.tally] ps = true)
    (h18 : a18 = x.net ∨ subParts [.net] ps = true)
    (h19 : a19 = x.ser ∨ subParts [.ser] ps = true)
    (h20 : a20 = x.boot ∨ subParts [.boot] ps = true)
    (h21 : a21 = x.tst ∨ subParts [.tst] ps = true)
    (hm : a2 = x.mem) (hb : a20.snap = x.boot.snap)
    (h : Keeps ps s x) : Keeps ps s ⟨a0, a1, a2, a3, a4, a5, a6, a7, a8, a9, a10, a11, a12, a13, a14, a15, a16, a17, a18, a19, a20, a21⟩ := by
  refine ⟨fun p hp => Part.same_trans (h.only p hp) ?_, fun i => Inv_of_mem (t := ⟨a0, a1, a2, a3, a4, a5, a6, a7, a8, a9, a10, a11, a12, a13, a14, a15, a16, a17, a18, a19, a20, a21⟩) hm hb (h.inv i)⟩
  have hn : ∀ q : Part, subParts [q] ps = true → q ∈ ps := fun q hq => mem_of_subParts hq (List.mem_singleton.2 rfl)
  cases p
  · exact h0.elim id (fun e => absurd (hn _ e) hp)
  · exact h1.elim id (fun e => absurd (hn _ e) hp)
  · exact h2.elim id (fun e => absurd (hn _ e) hp)
  · exact h3.elim id (fun e => absurd (hn _ e) hp)
  · exact h4.elim id (fun e => absurd (hn _ e) hp)
  · exact h5.elim id (fun e => absurd (hn _ e) hp)
  · exact h6.elim id (fun e => absurd (hn _ e) hp)
  · exact h7.elim id (fun e => absurd (hn _ e) hp)
  · exact h8.elim id (fun e => absurd (hn _ e) hp)
  · exact h9.elim id (fun e => absurd (hn _ e) hp)
  · exact h10.elim id (fun e => absurd (hn _ e) hp)
  · exact h11.elim id (fun e => absurd (hn _ e) hp)
  · exact h12.elim id (fun e => absurd (hn _ e) hp)
  · exact h13.elim id (fun e => absurd (hn _ e) hp)
  · exact h14.elim id (fun e => absurd (hn _ e) hp)
  · exact h15.elim id (fun e => absurd (hn _ e) hp)
  · exact h16.elim id (fun e => absurd (hn _ e) hp)
  · exact h17.elim id (fun e => absurd (hn _ e) hp)
  · exact h18.elim id (fun e => absurd (hn _ e) hp)
  · exact h19.elim id (fun e => absurd (hn _ e) hp)
  · exact h20.elim id (fun e => absurd (hn _ e) hp)
  · exact h21.elim id (fun e => absurd (hn _ e) hp)

end Sys2Proof.Machine
end

