-- ==== Sys2Proof/Laws/KeepBase.lean ====
section
/-! SUPPORT. The lemma of the one operation that changes a byte of memory. -/
namespace Sys2Proof.Machine

theorem subParts_refl (ps : List Part) : subParts ps ps = true := by simp [subParts]

theorem State.Inv.mem {s t : State} (h : Memory.wf s.mem = true → Memory.wf t.mem = true) (hb : t.boot.snap = s.boot.snap)
    (i : s.Inv) : t.Inv := by
  refine ⟨h i.1, ?_⟩
  unfold Snap.wf
  rw [hb]
  exact i.2

/-- A change of any part but the queue. -/
theorem Keeps.all {s t : State} (hp : t.pending = s.pending) (hi : s.Inv → t.Inv) :
    Keeps [.csr, .mem, .freeCtr, .sched, .dsp, .mix, .flood, .slu, .hr, .prf, .cv, .bus, .cores, .rcu, .redun, .rst, .tally, .net, .ser, .boot, .tst] s t :=
  ⟨fun p h => by cases p <;> first | exact hp | exact absurd (by decide) h, hi⟩

end Sys2Proof.Machine
end

