-- ==== Sys2Proof/Laws/KeepOps.lean ====
section
/-! SUPPORT. What each operation of Machine/Ops.lean may change. -/
namespace Sys2Proof.Machine

theorem csrPut_keeps (s : State) (off : Nat) (v : Word) :
    Keeps [.csr] s (csrPut s off v) := by
  unfold csrPut
  repeat' first
    | with_reducible apply Keeps.refl
    | with_reducible assumption
    | with_reducible apply Keeps.ite
    | intro _
    | split
    | dsimp only
    | ((try with_reducible conv => arg 3; whnf); (with_reducible apply Keeps.upd); (with_reducible exact Or.inl rfl); (exact Or.inr rfl); (iterate 20 (with_reducible exact Or.inl rfl)); (with_reducible exact rfl); (with_reducible exact rfl))

theorem setF_keeps (s : State) (f : Fld) (x : Nat) :
    Keeps [.csr] s (setF s f x) := by
  unfold setF
  repeat' first
    | with_reducible apply Keeps.refl
    | with_reducible assumption
    | with_reducible apply Keeps.ite
    | ((with_reducible apply Keeps.step (csrPut_keeps ..)); exact rfl)
    | intro _
    | split
    | dsimp only
    | ((try with_reducible conv => arg 3; whnf); (with_reducible apply Keeps.upd); (with_reducible exact Or.inl rfl); (exact Or.inr rfl); (iterate 20 (with_reducible exact Or.inl rfl)); (with_reducible exact rfl); (with_reducible exact rfl))

theorem stick_keeps (s : State) (f : Fld) :
    Keeps [.csr] s (stick s f) := by
  unfold stick
  repeat' first
    | with_reducible apply Keeps.refl
    | with_reducible assumption
    | with_reducible apply Keeps.ite
    | ((with_reducible apply Keeps.step (setF_keeps ..)); exact rfl)
    | intro _
    | split
    | dsimp only
    | ((try with_reducible conv => arg 3; whnf); (with_reducible apply Keeps.upd); (with_reducible exact Or.inl rfl); (exact Or.inr rfl); (iterate 20 (with_reducible exact Or.inl rfl)); (with_reducible exact rfl); (with_reducible exact rfl))

theorem count_keeps (s : State) (f : Fld) (k : Nat) :
    Keeps [.csr] s (count s f k) := by
  unfold count
  repeat' first
    | with_reducible apply Keeps.refl
    | with_reducible assumption
    | with_reducible apply Keeps.ite
    | ((with_reducible apply Keeps.step (setF_keeps ..)); exact rfl)
    | intro _
    | split
    | dsimp only
    | ((try with_reducible conv => arg 3; whnf); (with_reducible apply Keeps.upd); (with_reducible exact Or.inl rfl); (exact Or.inr rfl); (iterate 20 (with_reducible exact Or.inl rfl)); (with_reducible exact rfl); (with_reducible exact rfl))

theorem csrWrite_keeps (s : State) (off : Nat) (v : Word) :
    Keeps [.csr] s (csrWrite s off v) := by
  unfold csrWrite
  repeat' first
    | with_reducible apply Keeps.refl
    | with_reducible assumption
    | with_reducible apply Keeps.ite
    | ((with_reducible apply Keeps.step (csrPut_keeps ..)); exact rfl)
    | intro _
    | split
    | dsimp only
    | ((try with_reducible conv => arg 3; whnf); (with_reducible apply Keeps.upd); (with_reducible exact Or.inl rfl); (exact Or.inr rfl); (iterate 20 (with_reducible exact Or.inl rfl)); (with_reducible exact rfl); (with_reducible exact rfl))

theorem writeByte_keeps (s : State) (a b : Nat) : Keeps [.mem, .bus] s (writeByte s a b) :=
  ⟨fun p hp => by cases p <;> first | exact rfl | exact absurd (by decide) hp,
    State.Inv.mem (fun h => Memory.wf_put _ _ h) rfl⟩

theorem writeBytes_keeps (s : State) (a : Nat) (bs : List Nat) : Keeps [.mem, .bus] s (writeBytes s a bs) := by
  induction bs generalizing s a with
  | nil => exact Keeps.refl _ _
  | cons b bs ih => exact Keeps.step (ih _ _) rfl (writeByte_keeps ..)

theorem writeWord_keeps (s : State) (a n v : Nat) :
    Keeps [.mem, .bus] s (writeWord s a n v) := by
  unfold writeWord
  repeat' first
    | with_reducible apply Keeps.refl
    | with_reducible assumption
    | with_reducible apply Keeps.ite
    | ((with_reducible apply Keeps.step (writeBytes_keeps ..)); exact rfl)
    | intro _
    | split
    | dsimp only
    | ((try with_reducible conv => arg 3; whnf); (with_reducible apply Keeps.upd); (iterate 2 (with_reducible exact Or.inl rfl)); (exact Or.inr rfl); (iterate 9 (with_reducible exact Or.inl rfl)); (exact Or.inr rfl); (iterate 9 (with_reducible exact Or.inl rfl)); (with_reducible exact rfl); (with_reducible exact rfl))

theorem freshFree_keeps (s : State) :
    Keeps [.freeCtr] s (freshFree s).2 := by
  unfold freshFree
  repeat' first
    | with_reducible apply Keeps.refl
    | with_reducible assumption
    | with_reducible apply Keeps.ite
    | with_reducible apply Keeps.ite_p1
    | with_reducible apply Keeps.ite_p2
    | with_reducible apply Keeps.ite_p22
    | with_reducible apply Keeps.ite_p222
    | intro _
    | split
    | dsimp only
    | ((try with_reducible conv => arg 3; whnf); (with_reducible apply Keeps.upd); (iterate 3 (with_reducible exact Or.inl rfl)); (exact Or.inr rfl); (iterate 18 (with_reducible exact Or.inl rfl)); (with_reducible exact rfl); (with_reducible exact rfl))

theorem freshMany_keeps (s : State) (n : Nat) :
    Keeps [.freeCtr] s (freshMany s n).2 := by
  unfold freshMany
  repeat' first
    | with_reducible apply Keeps.refl
    | with_reducible assumption
    | with_reducible apply Keeps.ite
    | with_reducible apply Keeps.ite_p1
    | with_reducible apply Keeps.ite_p2
    | with_reducible apply Keeps.ite_p22
    | with_reducible apply Keeps.ite_p222
    | intro _
    | split
    | dsimp only
    | ((try with_reducible conv => arg 3; whnf); (with_reducible apply Keeps.upd); (iterate 3 (with_reducible exact Or.inl rfl)); (exact Or.inr rfl); (iterate 18 (with_reducible exact Or.inl rfl)); (with_reducible exact rfl); (with_reducible exact rfl))

theorem setCell_keeps (s : State) (c bsel : Nat) (dirty : Bool) :
    Keeps [.slu] s (setCell s c bsel dirty) := by
  unfold setCell
  repeat' first
    | with_reducible apply Keeps.refl
    | with_reducible assumption
    | with_reducible apply Keeps.ite
    | intro _
    | split
    | dsimp only
    | ((try with_reducible conv => arg 3; whnf); (with_reducible apply Keeps.upd); (iterate 8 (with_reducible exact Or.inl rfl)); (exact Or.inr rfl); (iterate 13 (with_reducible exact Or.inl rfl)); (with_reducible exact rfl); (with_reducible exact rfl))

theorem pwriteBoth_keeps (s : State) (p v : Nat) :
    Keeps [.mem, .bus] s (pwriteBoth s p v) := by
  unfold pwriteBoth
  repeat' first
    | with_reducible apply Keeps.refl
    | with_reducible assumption
    | with_reducible apply Keeps.ite
    | ((with_reducible apply Keeps.step (writeWord_keeps ..)); exact rfl)
    | intro _
    | split
    | dsimp only
    | ((try with_reducible conv => arg 3; whnf); (with_reducible apply Keeps.upd); (iterate 2 (with_reducible exact Or.inl rfl)); (exact Or.inr rfl); (iterate 9 (with_reducible exact Or.inl rfl)); (exact Or.inr rfl); (iterate 9 (with_reducible exact Or.inl rfl)); (with_reducible exact rfl); (with_reducible exact rfl))

theorem putSession_keeps (s : State) (k : Nat) (x : Session) :
    Keeps [.hr] s (putSession s k x) := by
  unfold putSession
  repeat' first
    | with_reducible apply Keeps.refl
    | with_reducible assumption
    | with_reducible apply Keeps.ite
    | intro _
    | split
    | dsimp only
    | ((try with_reducible conv => arg 3; whnf); (with_reducible apply Keeps.upd); (iterate 9 (with_reducible exact Or.inl rfl)); (exact Or.inr rfl); (iterate 12 (with_reducible exact Or.inl rfl)); (with_reducible exact rfl); (with_reducible exact rfl))

theorem queueEvent_keeps (s : State) (k : Nat) (e : EventMsg) :
    Keeps [.csr, .hr] s (queueEvent s k e) := by
  unfold queueEvent
  repeat' first
    | with_reducible apply Keeps.refl
    | with_reducible assumption
    | with_reducible apply Keeps.ite
    | ((with_reducible apply Keeps.step (putSession_keeps ..)); exact rfl)
    | ((with_reducible apply Keeps.step (count_keeps ..)); exact rfl)
    | intro _
    | split
    | dsimp only
    | ((try with_reducible conv => arg 3; whnf); (with_reducible apply Keeps.upd); (with_reducible exact Or.inl rfl); (exact Or.inr rfl); (iterate 7 (with_reducible exact Or.inl rfl)); (exact Or.inr rfl); (iterate 12 (with_reducible exact Or.inl rfl)); (with_reducible exact rfl); (with_reducible exact rfl))

theorem sendEventTo_keeps (code smp : Nat) (data : List Nat) (s : State) (k : Nat) :
    Keeps [.csr, .hr] s (sendEventTo code smp data s k) := by
  unfold sendEventTo
  repeat' first
    | with_reducible apply Keeps.refl
    | with_reducible assumption
    | with_reducible apply Keeps.ite
    | ((with_reducible apply Keeps.step (queueEvent_keeps ..)); exact rfl)
    | intro _
    | split
    | dsimp only
    | ((try with_reducible conv => arg 3; whnf); (with_reducible apply Keeps.upd); (with_reducible exact Or.inl rfl); (exact Or.inr rfl); (iterate 7 (with_reducible exact Or.inl rfl)); (exact Or.inr rfl); (iterate 12 (with_reducible exact Or.inl rfl)); (with_reducible exact rfl); (with_reducible exact rfl))

theorem sendEvent_keeps (s : State) (code : Nat) (data : List Nat) :
    Keeps [.csr, .hr] s (sendEvent s code data) := by
  unfold sendEvent
  repeat' first
    | with_reducible apply Keeps.refl
    | with_reducible assumption
    | with_reducible apply Keeps.ite
    | with_reducible apply Keeps.foldl
    | with_reducible apply Keeps.foldl_fst
    | with_reducible apply Keeps.foldl_snd
    | with_reducible apply Keeps.foldl_snd2
    | ((with_reducible apply Keeps.step (sendEventTo_keeps ..)); exact rfl)
    | intro _
    | split
    | dsimp only
    | ((try with_reducible conv => arg 3; whnf); (with_reducible apply Keeps.upd); (with_reducible exact Or.inl rfl); (exact Or.inr rfl); (iterate 7 (with_reducible exact Or.inl rfl)); (exact Or.inr rfl); (iterate 12 (with_reducible exact Or.inl rfl)); (with_reducible exact rfl); (with_reducible exact rfl))

end Sys2Proof.Machine
end

