-- ==== Sys2Proof/Laws/KeepSport.lean ====
section
/-! SUPPORT. What each operation of Machine/Sport.lean may change. -/
namespace Sys2Proof.Machine

theorem putSp_keeps (s : State) (p : Nat) (x : Sport) :
    Keeps [.ser] s (putSp s p x) := by
  unfold putSp
  repeat' first
    | with_reducible apply Keeps.refl
    | with_reducible assumption
    | with_reducible apply Keeps.ite
    | intro _
    | split
    | dsimp only
    | ((try with_reducible conv => arg 3; whnf); (with_reducible apply Keeps.upd); (iterate 19 (with_reducible exact Or.inl rfl)); (exact Or.inr rfl); (iterate 2 (with_reducible exact Or.inl rfl)); (with_reducible exact rfl); (with_reducible exact rfl))

theorem trkUnlock_keeps (s : State) (p : Nat) :
    Keeps [.csr] s (trkUnlock s p) := by
  unfold trkUnlock
  repeat' first
    | with_reducible apply Keeps.refl
    | with_reducible assumption
    | with_reducible apply Keeps.ite
    | ((with_reducible apply Keeps.step (count_keeps ..)); exact rfl)
    | ((with_reducible apply Keeps.step (setF_keeps ..)); exact rfl)
    | intro _
    | split
    | dsimp only
    | ((try with_reducible conv => arg 3; whnf); (with_reducible apply Keeps.upd); (with_reducible exact Or.inl rfl); (exact Or.inr rfl); (iterate 20 (with_reducible exact Or.inl rfl)); (with_reducible exact rfl); (with_reducible exact rfl))

theorem spRecheck_keeps (s : State) (p old : Nat) :
    Keeps [.csr, .ser] s (spRecheck s p old) := by
  unfold spRecheck
  repeat' first
    | with_reducible apply Keeps.refl
    | with_reducible assumption
    | with_reducible apply Keeps.ite
    | ((with_reducible apply Keeps.step (trkUnlock_keeps ..)); exact rfl)
    | ((with_reducible apply Keeps.step (putSp_keeps ..)); exact rfl)
    | ((with_reducible apply Keeps.step (stick_keeps ..)); exact rfl)
    | ((with_reducible apply Keeps.step (setF_keeps ..)); exact rfl)
    | intro _
    | split
    | dsimp only
    | ((try with_reducible conv => arg 3; whnf); (with_reducible apply Keeps.upd); (with_reducible exact Or.inl rfl); (exact Or.inr rfl); (iterate 17 (with_reducible exact Or.inl rfl)); (exact Or.inr rfl); (iterate 2 (with_reducible exact Or.inl rfl)); (with_reducible exact rfl); (with_reducible exact rfl))

theorem sportWrite_keeps (s : State) (off v : Nat) :
    Keeps [.csr, .ser] s (sportWrite s off v) := by
  unfold sportWrite
  repeat' first
    | with_reducible apply Keeps.refl
    | with_reducible assumption
    | with_reducible apply Keeps.ite
    | ((with_reducible apply Keeps.step (spRecheck_keeps ..)); exact rfl)
    | ((with_reducible apply Keeps.step (csrWrite_keeps ..)); exact rfl)
    | intro _
    | split
    | dsimp only
    | ((try with_reducible conv => arg 3; whnf); (with_reducible apply Keeps.upd); (with_reducible exact Or.inl rfl); (exact Or.inr rfl); (iterate 17 (with_reducible exact Or.inl rfl)); (exact Or.inr rfl); (iterate 2 (with_reducible exact Or.inl rfl)); (with_reducible exact rfl); (with_reducible exact rfl))

theorem spReenable_keeps (s : State) (p : Nat) :
    Keeps [.csr, .ser] s (spReenable s p) := by
  unfold spReenable
  repeat' first
    | with_reducible apply Keeps.refl
    | with_reducible assumption
    | with_reducible apply Keeps.ite
    | ((with_reducible apply Keeps.step (spRecheck_keeps ..)); exact rfl)
    | ((with_reducible apply Keeps.step (putSp_keeps ..)); exact rfl)
    | intro _
    | split
    | dsimp only
    | ((try with_reducible conv => arg 3; whnf); (with_reducible apply Keeps.upd); (with_reducible exact Or.inl rfl); (exact Or.inr rfl); (iterate 17 (with_reducible exact Or.inl rfl)); (exact Or.inr rfl); (iterate 2 (with_reducible exact Or.inl rfl)); (with_reducible exact rfl); (with_reducible exact rfl))

theorem spRateChange_keeps (s : State) :
    Keeps [.csr, .ser] s (spRateChange s) := by
  unfold spRateChange
  repeat' first
    | with_reducible apply Keeps.refl
    | with_reducible assumption
    | with_reducible apply Keeps.ite
    | with_reducible apply Keeps.foldl
    | with_reducible apply Keeps.foldl_fst
    | with_reducible apply Keeps.foldl_snd
    | with_reducible apply Keeps.foldl_snd2
    | ((with_reducible apply Keeps.step (spReenable_keeps ..)); exact rfl)
    | intro _
    | split
    | dsimp only
    | ((try with_reducible conv => arg 3; whnf); (with_reducible apply Keeps.upd); (with_reducible exact Or.inl rfl); (exact Or.inr rfl); (iterate 17 (with_reducible exact Or.inl rfl)); (exact Or.inr rfl); (iterate 2 (with_reducible exact Or.inl rfl)); (with_reducible exact rfl); (with_reducible exact rfl))

theorem spStart_keeps (f : Nat) (s : State) (p : Nat) :
    Keeps [.csr, .ser] s (spStart f s p) := by
  unfold spStart
  repeat' first
    | with_reducible apply Keeps.refl
    | with_reducible assumption
    | with_reducible apply Keeps.ite
    | ((with_reducible apply Keeps.step (putSp_keeps ..)); exact rfl)
    | ((with_reducible apply Keeps.step (stick_keeps ..)); exact rfl)
    | intro _
    | split
    | dsimp only
    | ((try with_reducible conv => arg 3; whnf); (with_reducible apply Keeps.upd); (with_reducible exact Or.inl rfl); (exact Or.inr rfl); (iterate 17 (with_reducible exact Or.inl rfl)); (exact Or.inr rfl); (iterate 2 (with_reducible exact Or.inl rfl)); (with_reducible exact rfl); (with_reducible exact rfl))

theorem spLoss_keeps (s : State) (p : Nat) :
    Keeps [.ser] s (spLoss s p) := by
  unfold spLoss
  repeat' first
    | with_reducible apply Keeps.refl
    | with_reducible assumption
    | with_reducible apply Keeps.ite
    | ((with_reducible apply Keeps.step (putSp_keeps ..)); exact rfl)
    | intro _
    | split
    | dsimp only
    | ((try with_reducible conv => arg 3; whnf); (with_reducible apply Keeps.upd); (iterate 19 (with_reducible exact Or.inl rfl)); (exact Or.inr rfl); (iterate 2 (with_reducible exact Or.inl rfl)); (with_reducible exact rfl); (with_reducible exact rfl))

theorem deliver_keeps (s : State) (c : SpCfg) (vs : List Int) :
    Keeps [.dsp] s (deliver s c vs) := by
  unfold deliver
  repeat' first
    | with_reducible apply Keeps.refl
    | with_reducible assumption
    | with_reducible apply Keeps.ite
    | with_reducible apply Keeps.foldl
    | with_reducible apply Keeps.foldl_fst
    | with_reducible apply Keeps.foldl_snd
    | with_reducible apply Keeps.foldl_snd2
    | intro _
    | split
    | dsimp only
    | ((try with_reducible conv => arg 3; whnf); (with_reducible apply Keeps.upd); (iterate 5 (with_reducible exact Or.inl rfl)); (exact Or.inr rfl); (iterate 16 (with_reducible exact Or.inl rfl)); (with_reducible exact rfl); (with_reducible exact rfl))

theorem spTick_keeps (s : State) (p : Nat) :
    Keeps [.csr, .ser] s (spTick s p) := by
  unfold spTick
  repeat' first
    | with_reducible apply Keeps.refl
    | with_reducible assumption
    | with_reducible apply Keeps.ite
    | ((with_reducible apply Keeps.step (spStart_keeps ..)); exact rfl)
    | ((with_reducible apply Keeps.step (putSp_keeps ..)); exact rfl)
    | intro _
    | split
    | dsimp only
    | ((try with_reducible conv => arg 3; whnf); (with_reducible apply Keeps.upd); (with_reducible exact Or.inl rfl); (exact Or.inr rfl); (iterate 17 (with_reducible exact Or.inl rfl)); (exact Or.inr rfl); (iterate 2 (with_reducible exact Or.inl rfl)); (with_reducible exact rfl); (with_reducible exact rfl))

theorem laneTake_keeps (s : State) (l : Nat × (Nat × Nat)) :
    Keeps [.csr, .ser] s (laneTake s l) := by
  unfold laneTake
  repeat' first
    | with_reducible apply Keeps.refl
    | with_reducible assumption
    | with_reducible apply Keeps.ite
    | ((with_reducible apply Keeps.step (putSp_keeps ..)); exact rfl)
    | ((with_reducible apply Keeps.step (stick_keeps ..)); exact rfl)
    | intro _
    | split
    | dsimp only
    | ((try with_reducible conv => arg 3; whnf); (with_reducible apply Keeps.upd); (with_reducible exact Or.inl rfl); (exact Or.inr rfl); (iterate 17 (with_reducible exact Or.inl rfl)); (exact Or.inr rfl); (iterate 2 (with_reducible exact Or.inl rfl)); (with_reducible exact rfl); (with_reducible exact rfl))

theorem laneCopy_keeps (p : Nat) (later : Bool) (all : List (Nat × (Nat × Nat))) (s : State) (l : Nat × (Nat × Nat)) :
    Keeps [.csr, .ser] s (laneCopy p later all s l) := by
  unfold laneCopy
  repeat' first
    | with_reducible apply Keeps.refl
    | with_reducible assumption
    | with_reducible apply Keeps.ite
    | with_reducible apply Keeps.ite_p1
    | with_reducible apply Keeps.ite_p2
    | with_reducible apply Keeps.ite_p22
    | with_reducible apply Keeps.ite_p222
    | ((with_reducible apply Keeps.step (putSp_keeps ..)); exact rfl)
    | ((with_reducible apply Keeps.step (stick_keeps ..)); exact rfl)
    | intro _
    | split
    | dsimp only
    | ((try with_reducible conv => arg 3; whnf); (with_reducible apply Keeps.upd); (with_reducible exact Or.inl rfl); (exact Or.inr rfl); (iterate 17 (with_reducible exact Or.inl rfl)); (exact Or.inr rfl); (iterate 2 (with_reducible exact Or.inl rfl)); (with_reducible exact rfl); (with_reducible exact rfl))

theorem laneCopies_keeps (s : State) (p : Nat) :
    Keeps [.csr, .ser] s (laneCopies s p) := by
  unfold laneCopies
  repeat' first
    | with_reducible apply Keeps.refl
    | with_reducible assumption
    | with_reducible apply Keeps.ite
    | with_reducible apply Keeps.foldl
    | with_reducible apply Keeps.foldl_fst
    | with_reducible apply Keeps.foldl_snd
    | with_reducible apply Keeps.foldl_snd2
    | ((with_reducible apply Keeps.step (laneCopy_keeps ..)); exact rfl)
    | intro _
    | split
    | dsimp only
    | ((try with_reducible conv => arg 3; whnf); (with_reducible apply Keeps.upd); (with_reducible exact Or.inl rfl); (exact Or.inr rfl); (iterate 17 (with_reducible exact Or.inl rfl)); (exact Or.inr rfl); (iterate 2 (with_reducible exact Or.inl rfl)); (with_reducible exact rfl); (with_reducible exact rfl))

theorem slaveStart_keeps (s : State) (p n : Nat) (vs : List Int) :
    Keeps [.csr, .dsp, .ser] s (slaveStart s p n vs) := by
  unfold slaveStart
  repeat' first
    | with_reducible apply Keeps.refl
    | with_reducible assumption
    | with_reducible apply Keeps.ite
    | with_reducible apply Keeps.ite_p1
    | with_reducible apply Keeps.ite_p2
    | with_reducible apply Keeps.ite_p22
    | with_reducible apply Keeps.ite_p222
    | with_reducible apply Keeps.foldl
    | with_reducible apply Keeps.foldl_fst
    | with_reducible apply Keeps.foldl_snd
    | with_reducible apply Keeps.foldl_snd2
    | ((with_reducible apply Keeps.step (deliver_keeps ..)); exact rfl)
    | ((with_reducible apply Keeps.step (spStart_keeps ..)); exact rfl)
    | ((with_reducible apply Keeps.step (putSp_keeps ..)); exact rfl)
    | intro _
    | split
    | dsimp only
    | ((try with_reducible conv => arg 3; whnf); (with_reducible apply Keeps.upd); (with_reducible exact Or.inl rfl); (exact Or.inr rfl); (iterate 3 (with_reducible exact Or.inl rfl)); (exact Or.inr rfl); (iterate 13 (with_reducible exact Or.inl rfl)); (exact Or.inr rfl); (iterate 2 (with_reducible exact Or.inl rfl)); (with_reducible exact rfl); (with_reducible exact rfl))

theorem frameError_keeps (s : State) (p : Nat) (c : SpCfg) :
    Keeps [.csr, .ser] s (frameError s p c) := by
  unfold frameError
  repeat' first
    | with_reducible apply Keeps.refl
    | with_reducible assumption
    | with_reducible apply Keeps.ite
    | ((with_reducible apply Keeps.step (spLoss_keeps ..)); exact rfl)
    | ((with_reducible apply Keeps.step (putSp_keeps ..)); exact rfl)
    | ((with_reducible apply Keeps.step (count_keeps ..)); exact rfl)
    | ((with_reducible apply Keeps.step (stick_keeps ..)); exact rfl)
    | intro _
    | split
    | dsimp only
    | ((try with_reducible conv => arg 3; whnf); (with_reducible apply Keeps.upd); (with_reducible exact Or.inl rfl); (exact Or.inr rfl); (iterate 17 (with_reducible exact Or.inl rfl)); (exact Or.inr rfl); (iterate 2 (with_reducible exact Or.inl rfl)); (with_reducible exact rfl); (with_reducible exact rfl))

theorem frameHandoff_keeps (s : State) (p : Nat) (delta : Int) (bclks : Nat) (ws : List Int) :
    Keeps [.csr, .dsp, .ser] s (frameHandoff s p delta bclks ws) := by
  unfold frameHandoff
  repeat' first
    | with_reducible apply Keeps.refl
    | with_reducible assumption
    | with_reducible apply Keeps.ite
    | ((with_reducible apply Keeps.step (frameError_keeps ..)); exact rfl)
    | ((with_reducible apply Keeps.step (slaveStart_keeps ..)); exact rfl)
    | ((with_reducible apply Keeps.step (laneCopies_keeps ..)); exact rfl)
    | ((with_reducible apply Keeps.step (deliver_keeps ..)); exact rfl)
    | ((with_reducible apply Keeps.step (putSp_keeps ..)); exact rfl)
    | ((with_reducible apply Keeps.step (setF_keeps ..)); exact rfl)
    | intro _
    | split
    | dsimp only
    | ((try with_reducible conv => arg 3; whnf); (with_reducible apply Keeps.upd); (with_reducible exact Or.inl rfl); (exact Or.inr rfl); (iterate 3 (with_reducible exact Or.inl rfl)); (exact Or.inr rfl); (iterate 13 (with_reducible exact Or.inl rfl)); (exact Or.inr rfl); (iterate 2 (with_reducible exact Or.inl rfl)); (with_reducible exact rfl); (with_reducible exact rfl))

theorem frameMissing_keeps (s : State) (p : Nat) :
    Keeps [.csr, .ser] s (frameMissing s p) := by
  unfold frameMissing
  repeat' first
    | with_reducible apply Keeps.refl
    | with_reducible assumption
    | with_reducible apply Keeps.ite
    | ((with_reducible apply Keeps.step (putSp_keeps ..)); exact rfl)
    | ((with_reducible apply Keeps.step (count_keeps ..)); exact rfl)
    | ((with_reducible apply Keeps.step (stick_keeps ..)); exact rfl)
    | intro _
    | split
    | dsimp only
    | ((try with_reducible conv => arg 3; whnf); (with_reducible apply Keeps.upd); (with_reducible exact Or.inl rfl); (exact Or.inr rfl); (iterate 17 (with_reducible exact Or.inl rfl)); (exact Or.inr rfl); (iterate 2 (with_reducible exact Or.inl rfl)); (with_reducible exact rfl); (with_reducible exact rfl))

theorem asyncLost_keeps (s : State) (p : Nat) :
    Keeps [.ser] s (asyncLost s p) := by
  unfold asyncLost
  repeat' first
    | with_reducible apply Keeps.refl
    | with_reducible assumption
    | with_reducible apply Keeps.ite
    | intro _
    | split
    | dsimp only
    | ((try with_reducible conv => arg 3; whnf); (with_reducible apply Keeps.upd); (iterate 19 (with_reducible exact Or.inl rfl)); (exact Or.inr rfl); (iterate 2 (with_reducible exact Or.inl rfl)); (with_reducible exact rfl); (with_reducible exact rfl))

theorem asyncCut_keeps (s : State) (p : Nat) :
    Keeps [.csr, .ser] s (asyncCut s p) := by
  unfold asyncCut
  repeat' first
    | with_reducible apply Keeps.refl
    | with_reducible assumption
    | with_reducible apply Keeps.ite
    | ((with_reducible apply Keeps.step (asyncLost_keeps ..)); exact rfl)
    | ((with_reducible apply Keeps.step (putSp_keeps ..)); exact rfl)
    | ((with_reducible apply Keeps.step (count_keeps ..)); exact rfl)
    | ((with_reducible apply Keeps.step (stick_keeps ..)); exact rfl)
    | intro _
    | split
    | dsimp only
    | ((try with_reducible conv => arg 3; whnf); (with_reducible apply Keeps.upd); (with_reducible exact Or.inl rfl); (exact Or.inr rfl); (iterate 17 (with_reducible exact Or.inl rfl)); (exact Or.inr rfl); (iterate 2 (with_reducible exact Or.inl rfl)); (with_reducible exact rfl); (with_reducible exact rfl))

theorem asyncOut_keeps (s : State) (p : Nat) (c : SpCfg) :
    Keeps [.csr, .ser] s (asyncOut s p c) := by
  unfold asyncOut
  repeat' first
    | with_reducible apply Keeps.refl
    | with_reducible assumption
    | with_reducible apply Keeps.ite
    | ((with_reducible apply Keeps.step (putSp_keeps ..)); exact rfl)
    | ((with_reducible apply Keeps.step (count_keeps ..)); exact rfl)
    | ((with_reducible apply Keeps.step (stick_keeps ..)); exact rfl)
    | intro _
    | split
    | dsimp only
    | ((try with_reducible conv => arg 3; whnf); (with_reducible apply Keeps.upd); (with_reducible exact Or.inl rfl); (exact Or.inr rfl); (iterate 17 (with_reducible exact Or.inl rfl)); (exact Or.inr rfl); (iterate 2 (with_reducible exact Or.inl rfl)); (with_reducible exact rfl); (with_reducible exact rfl))

theorem asyncSettings_keeps (s : State) (p : Nat) :
    Keeps [.ser] s (asyncSettings s p) := by
  unfold asyncSettings
  repeat' first
    | with_reducible apply Keeps.refl
    | with_reducible assumption
    | with_reducible apply Keeps.ite
    | ((with_reducible apply Keeps.step (putSp_keeps ..)); exact rfl)
    | intro _
    | split
    | dsimp only
    | ((try with_reducible conv => arg 3; whnf); (with_reducible apply Keeps.upd); (iterate 19 (with_reducible exact Or.inl rfl)); (exact Or.inr rfl); (iterate 2 (with_reducible exact Or.inl rfl)); (with_reducible exact rfl); (with_reducible exact rfl))

theorem fsEdge_keeps (s : State) (p ratio : Nat) :
    Keeps [.csr, .ser] s (fsEdge s p ratio) := by
  unfold fsEdge
  repeat' first
    | with_reducible apply Keeps.refl
    | with_reducible assumption
    | with_reducible apply Keeps.ite
    | with_reducible apply Keeps.ite_p1
    | with_reducible apply Keeps.ite_p2
    | with_reducible apply Keeps.ite_p22
    | with_reducible apply Keeps.ite_p222
    | with_reducible apply Keeps.foldl
    | with_reducible apply Keeps.foldl_fst
    | with_reducible apply Keeps.foldl_snd
    | with_reducible apply Keeps.foldl_snd2
    | ((with_reducible apply Keeps.step (asyncSettings_keeps ..)); exact rfl)
    | ((with_reducible apply Keeps.step (asyncOut_keeps ..)); exact rfl)
    | ((with_reducible apply Keeps.step (asyncCut_keeps ..)); exact rfl)
    | ((with_reducible apply Keeps.step (spStart_keeps ..)); exact rfl)
    | ((with_reducible apply Keeps.step (putSp_keeps ..)); exact rfl)
    | intro _
    | split
    | dsimp only
    | ((try with_reducible conv => arg 3; whnf); (with_reducible apply Keeps.upd); (with_reducible exact Or.inl rfl); (exact Or.inr rfl); (iterate 17 (with_reducible exact Or.inl rfl)); (exact Or.inr rfl); (iterate 2 (with_reducible exact Or.inl rfl)); (with_reducible exact rfl); (with_reducible exact rfl))

theorem asyncKeep_keeps (s : State) (p : Nat) (w : Nat × List Int) :
    Keeps [.csr, .ser] s (asyncKeep s p w) := by
  unfold asyncKeep
  repeat' first
    | with_reducible apply Keeps.refl
    | with_reducible assumption
    | with_reducible apply Keeps.ite
    | ((with_reducible apply Keeps.step (asyncLost_keeps ..)); exact rfl)
    | ((with_reducible apply Keeps.step (putSp_keeps ..)); exact rfl)
    | ((with_reducible apply Keeps.step (count_keeps ..)); exact rfl)
    | ((with_reducible apply Keeps.step (stick_keeps ..)); exact rfl)
    | intro _
    | split
    | dsimp only
    | ((try with_reducible conv => arg 3; whnf); (with_reducible apply Keeps.upd); (with_reducible exact Or.inl rfl); (exact Or.inr rfl); (iterate 17 (with_reducible exact Or.inl rfl)); (exact Or.inr rfl); (iterate 2 (with_reducible exact Or.inl rfl)); (with_reducible exact rfl); (with_reducible exact rfl))

theorem asyncDone_keeps (s : State) (p : Nat) (ws : List Int) :
    Keeps [.csr, .ser] s (asyncDone s p ws) := by
  unfold asyncDone
  repeat' first
    | with_reducible apply Keeps.refl
    | with_reducible assumption
    | with_reducible apply Keeps.ite
    | ((with_reducible apply Keeps.step (asyncKeep_keeps ..)); exact rfl)
    | ((with_reducible apply Keeps.step (putSp_keeps ..)); exact rfl)
    | intro _
    | split
    | dsimp only
    | ((try with_reducible conv => arg 3; whnf); (with_reducible apply Keeps.upd); (with_reducible exact Or.inl rfl); (exact Or.inr rfl); (iterate 17 (with_reducible exact Or.inl rfl)); (exact Or.inr rfl); (iterate 2 (with_reducible exact Or.inl rfl)); (with_reducible exact rfl); (with_reducible exact rfl))

end Sys2Proof.Machine
end

