-- ==== Sys2Proof/Laws/KeepAsrc.lean ====
section
/-! SUPPORT. What each operation of Machine/Asrc.lean may change. -/
namespace Sys2Proof.Machine

theorem readFrame_keeps (c : SpCfg) (p : Nat) (s : State) (f : Nat) :
    Keeps [.csr, .ser] s (readFrame c p s f) := by
  unfold readFrame
  repeat' first
    | with_reducible apply Keeps.refl
    | with_reducible assumption
    | with_reducible apply Keeps.ite
    | with_reducible apply Keeps.ite_p1
    | with_reducible apply Keeps.ite_p2
    | with_reducible apply Keeps.ite_p22
    | with_reducible apply Keeps.ite_p222
    | with_reducible apply Keeps.foldl
    | with_reducible apply Keeps.foldl_fst
    | with_reducible apply Keeps.foldl_snd
    | with_reducible apply Keeps.foldl_snd2
    | ((with_reducible apply Keeps.step (putSp_keeps ..)); exact rfl)
    | ((with_reducible apply Keeps.step (count_keeps ..)); exact rfl)
    | ((with_reducible apply Keeps.step (stick_keeps ..)); exact rfl)
    | intro _
    | split
    | dsimp only
    | ((try with_reducible conv => arg 3; whnf); (with_reducible apply Keeps.upd); (with_reducible exact Or.inl rfl); (exact Or.inr rfl); (iterate 17 (with_reducible exact Or.inl rfl)); (exact Or.inr rfl); (iterate 2 (with_reducible exact Or.inl rfl)); (with_reducible exact rfl); (with_reducible exact rfl))

theorem pushOut_keeps (c : SpCfg) (p r : Nat) (s : State) (e : Nat) :
    Keeps [.csr, .ser] s (pushOut c p r s e) := by
  unfold pushOut
  repeat' first
    | with_reducible apply Keeps.refl
    | with_reducible assumption
    | with_reducible apply Keeps.ite
    | ((with_reducible apply Keeps.step (spLoss_keeps ..)); exact rfl)
    | ((with_reducible apply Keeps.step (putSp_keeps ..)); exact rfl)
    | ((with_reducible apply Keeps.step (count_keeps ..)); exact rfl)
    | ((with_reducible apply Keeps.step (stick_keeps ..)); exact rfl)
    | intro _
    | split
    | dsimp only
    | ((try with_reducible conv => arg 3; whnf); (with_reducible apply Keeps.upd); (with_reducible exact Or.inl rfl); (exact Or.inr rfl); (iterate 17 (with_reducible exact Or.inl rfl)); (exact Or.inr rfl); (iterate 2 (with_reducible exact Or.inl rfl)); (with_reducible exact rfl); (with_reducible exact rfl))

theorem convertIn_keeps (s : State) (p r : Nat) (c : SpCfg) :
    Keeps [.csr, .dsp, .ser] s (convertIn s p r c) := by
  unfold convertIn
  repeat' first
    | with_reducible apply Keeps.refl
    | with_reducible assumption
    | with_reducible apply Keeps.ite
    | with_reducible apply Keeps.foldl
    | ((with_reducible apply Keeps.step (readFrame_keeps ..)); exact rfl)
    | ((with_reducible apply Keeps.step (deliver_keeps ..)); exact rfl)
    | ((with_reducible apply Keeps.step (putSp_keeps ..)); exact rfl)
    | intro _
    | split
    | dsimp only
    | ((try with_reducible conv => arg 3; whnf); (with_reducible apply Keeps.upd); (with_reducible exact Or.inl rfl); (exact Or.inr rfl); (iterate 3 (with_reducible exact Or.inl rfl)); (exact Or.inr rfl); (iterate 13 (with_reducible exact Or.inl rfl)); (exact Or.inr rfl); (iterate 2 (with_reducible exact Or.inl rfl)); (with_reducible exact rfl); (with_reducible exact rfl))

theorem convertOut_keeps (s : State) (p r : Nat) (c : SpCfg) :
    Keeps [.csr, .ser] s (convertOut s p r c) := by
  unfold convertOut
  repeat' first
    | with_reducible apply Keeps.refl
    | with_reducible assumption
    | with_reducible apply Keeps.ite
    | with_reducible apply Keeps.foldl
    | ((with_reducible apply Keeps.step (pushOut_keeps ..)); exact rfl)
    | ((with_reducible apply Keeps.step (putSp_keeps ..)); exact rfl)
    | intro _
    | split
    | dsimp only
    | ((try with_reducible conv => arg 3; whnf); (with_reducible apply Keeps.upd); (with_reducible exact Or.inl rfl); (exact Or.inr rfl); (iterate 17 (with_reducible exact Or.inl rfl)); (exact Or.inr rfl); (iterate 2 (with_reducible exact Or.inl rfl)); (with_reducible exact rfl); (with_reducible exact rfl))

theorem asrcPort_keeps (n : Nat) (s : State) (p : Nat) :
    Keeps [.csr, .dsp, .ser] s (asrcPort n s p) := by
  unfold asrcPort
  repeat' first
    | with_reducible apply Keeps.refl
    | with_reducible assumption
    | with_reducible apply Keeps.ite
    | with_reducible apply Keeps.ite_p1
    | with_reducible apply Keeps.ite_p2
    | with_reducible apply Keeps.ite_p22
    | with_reducible apply Keeps.ite_p222
    | ((with_reducible apply Keeps.step (convertOut_keeps ..)); exact rfl)
    | ((with_reducible apply Keeps.step (convertIn_keeps ..)); exact rfl)
    | ((with_reducible apply Keeps.step (putSp_keeps ..)); exact rfl)
    | ((with_reducible apply Keeps.step (setF_keeps ..)); exact rfl)
    | intro _
    | split
    | dsimp only
    | ((try with_reducible conv => arg 3; whnf); (with_reducible apply Keeps.upd); (with_reducible exact Or.inl rfl); (exact Or.inr rfl); (iterate 3 (with_reducible exact Or.inl rfl)); (exact Or.inr rfl); (iterate 13 (with_reducible exact Or.inl rfl)); (exact Or.inr rfl); (iterate 2 (with_reducible exact Or.inl rfl)); (with_reducible exact rfl); (with_reducible exact rfl))

theorem asrcTick_keeps (s : State) (n : Nat) :
    Keeps [.csr, .dsp, .ser] s (asrcTick s n) := by
  unfold asrcTick
  repeat' first
    | with_reducible apply Keeps.refl
    | with_reducible assumption
    | with_reducible apply Keeps.ite
    | with_reducible apply Keeps.foldl
    | with_reducible apply Keeps.foldl_fst
    | with_reducible apply Keeps.foldl_snd
    | with_reducible apply Keeps.foldl_snd2
    | ((with_reducible apply Keeps.step (asrcPort_keeps ..)); exact rfl)
    | intro _
    | split
    | dsimp only
    | ((try with_reducible conv => arg 3; whnf); (with_reducible apply Keeps.upd); (with_reducible exact Or.inl rfl); (exact Or.inr rfl); (iterate 3 (with_reducible exact Or.inl rfl)); (exact Or.inr rfl); (iterate 13 (with_reducible exact Or.inl rfl)); (exact Or.inr rfl); (iterate 2 (with_reducible exact Or.inl rfl)); (with_reducible exact rfl); (with_reducible exact rfl))

theorem trackerUnlock_keeps (s : State) (p : Nat) :
    Keeps [.csr] s (trackerUnlock s p) := by
  unfold trackerUnlock
  repeat' first
    | with_reducible apply Keeps.refl
    | with_reducible assumption
    | with_reducible apply Keeps.ite
    | ((with_reducible apply Keeps.step (trkUnlock_keeps ..)); exact rfl)
    | intro _
    | split
    | dsimp only
    | ((try with_reducible conv => arg 3; whnf); (with_reducible apply Keeps.upd); (with_reducible exact Or.inl rfl); (exact Or.inr rfl); (iterate 20 (with_reducible exact Or.inl rfl)); (with_reducible exact rfl); (with_reducible exact rfl))

theorem convBegin_keeps (fr lag : Nat) (s : State) (p : Nat) :
    Keeps [.ser] s (convBegin fr lag s p) := by
  unfold convBegin
  repeat' first
    | with_reducible apply Keeps.refl
    | with_reducible assumption
    | with_reducible apply Keeps.ite
    | ((with_reducible apply Keeps.step (putSp_keeps ..)); exact rfl)
    | intro _
    | split
    | dsimp only
    | ((try with_reducible conv => arg 3; whnf); (with_reducible apply Keeps.upd); (iterate 19 (with_reducible exact Or.inl rfl)); (exact Or.inr rfl); (iterate 2 (with_reducible exact Or.inl rfl)); (with_reducible exact rfl); (with_reducible exact rfl))

theorem convStart_keeps (s : State) (p : Nat) :
    Keeps [.freeCtr, .ser] s (convStart s p) := by
  unfold convStart
  repeat' first
    | with_reducible apply Keeps.refl
    | with_reducible assumption
    | with_reducible apply Keeps.ite
    | with_reducible apply Keeps.ite_p1
    | with_reducible apply Keeps.ite_p2
    | with_reducible apply Keeps.ite_p22
    | with_reducible apply Keeps.ite_p222
    | with_reducible apply Keeps.foldl
    | with_reducible apply Keeps.foldl_fst
    | with_reducible apply Keeps.foldl_snd
    | with_reducible apply Keeps.foldl_snd2
    | ((with_reducible apply Keeps.step (convBegin_keeps ..)); exact rfl)
    | ((with_reducible apply Keeps.step (freshMany_keeps ..)); exact rfl)
    | intro _
    | split
    | dsimp only
    | ((try with_reducible conv => arg 3; whnf); (with_reducible apply Keeps.upd); (iterate 3 (with_reducible exact Or.inl rfl)); (exact Or.inr rfl); (iterate 15 (with_reducible exact Or.inl rfl)); (exact Or.inr rfl); (iterate 2 (with_reducible exact Or.inl rfl)); (with_reducible exact rfl); (with_reducible exact rfl))

theorem trackerAcquire_keeps (s : State) (p : Nat) :
    Keeps [.csr, .freeCtr, .ser] s (trackerAcquire s p) := by
  unfold trackerAcquire
  repeat' first
    | with_reducible apply Keeps.refl
    | with_reducible assumption
    | with_reducible apply Keeps.ite
    | with_reducible apply Keeps.foldl
    | with_reducible apply Keeps.foldl_fst
    | with_reducible apply Keeps.foldl_snd
    | with_reducible apply Keeps.foldl_snd2
    | ((with_reducible apply Keeps.step (convStart_keeps ..)); exact rfl)
    | ((with_reducible apply Keeps.step (setF_keeps ..)); exact rfl)
    | intro _
    | split
    | dsimp only
    | ((try with_reducible conv => arg 3; whnf); (with_reducible apply Keeps.upd); (with_reducible exact Or.inl rfl); (exact Or.inr rfl); (with_reducible exact Or.inl rfl); (exact Or.inr rfl); (iterate 15 (with_reducible exact Or.inl rfl)); (exact Or.inr rfl); (iterate 2 (with_reducible exact Or.inl rfl)); (with_reducible exact rfl); (with_reducible exact rfl))

theorem trackerLock_keeps (s : State) (p : Nat) :
    Keeps [.csr] s (trackerLock s p) := by
  unfold trackerLock
  repeat' first
    | with_reducible apply Keeps.refl
    | with_reducible assumption
    | with_reducible apply Keeps.ite
    | ((with_reducible apply Keeps.step (setF_keeps ..)); exact rfl)
    | intro _
    | split
    | dsimp only
    | ((try with_reducible conv => arg 3; whnf); (with_reducible apply Keeps.upd); (with_reducible exact Or.inl rfl); (exact Or.inr rfl); (iterate 20 (with_reducible exact Or.inl rfl)); (with_reducible exact rfl); (with_reducible exact rfl))

theorem asrcRestart_keeps (s : State) :
    Keeps [.freeCtr, .ser] s (asrcRestart s) := by
  unfold asrcRestart
  repeat' first
    | with_reducible apply Keeps.refl
    | with_reducible assumption
    | with_reducible apply Keeps.ite
    | with_reducible apply Keeps.foldl
    | ((with_reducible apply Keeps.step (convStart_keeps ..)); exact rfl)
    | intro _
    | split
    | dsimp only
    | ((try with_reducible conv => arg 3; whnf); (with_reducible apply Keeps.upd); (iterate 3 (with_reducible exact Or.inl rfl)); (exact Or.inr rfl); (iterate 15 (with_reducible exact Or.inl rfl)); (exact Or.inr rfl); (iterate 2 (with_reducible exact Or.inl rfl)); (with_reducible exact rfl); (with_reducible exact rfl))

end Sys2Proof.Machine
end

