-- ==== Sys2Proof/Laws/KeepFlood.lean ====
section
/-! SUPPORT. What each operation of Machine/Flood.lean may change. -/
namespace Sys2Proof.Machine

theorem notePin_keeps (before : Bool) (s : State) :
    Keeps [.csr, .flood] s (notePin before s) := by
  unfold notePin
  repeat' first
    | with_reducible apply Keeps.refl
    | with_reducible assumption
    | with_reducible apply Keeps.ite
    | ((with_reducible apply Keeps.step (stick_keeps ..)); exact rfl)
    | intro _
    | split
    | dsimp only
    | ((try with_reducible conv => arg 3; whnf); (with_reducible apply Keeps.upd); (with_reducible exact Or.inl rfl); (exact Or.inr rfl); (iterate 5 (with_reducible exact Or.inl rfl)); (exact Or.inr rfl); (iterate 14 (with_reducible exact Or.inl rfl)); (with_reducible exact rfl); (with_reducible exact rfl))

theorem muteChange_keeps (s : State) (high : Bool) :
    Keeps [.csr, .flood] s (muteChange s high) := by
  unfold muteChange
  repeat' first
    | with_reducible apply Keeps.refl
    | with_reducible assumption
    | with_reducible apply Keeps.ite
    | ((with_reducible apply Keeps.step (notePin_keeps ..)); exact rfl)
    | intro _
    | split
    | dsimp only
    | ((try with_reducible conv => arg 3; whnf); (with_reducible apply Keeps.upd); (with_reducible exact Or.inl rfl); (exact Or.inr rfl); (iterate 5 (with_reducible exact Or.inl rfl)); (exact Or.inr rfl); (iterate 14 (with_reducible exact Or.inl rfl)); (with_reducible exact rfl); (with_reducible exact rfl))

theorem floodCtlWrite_keeps (s : State) (v : Nat) :
    Keeps [.csr, .flood] s (floodCtlWrite s v) := by
  unfold floodCtlWrite
  repeat' first
    | with_reducible apply Keeps.refl
    | with_reducible assumption
    | with_reducible apply Keeps.ite
    | ((with_reducible apply Keeps.step (notePin_keeps ..)); exact rfl)
    | ((with_reducible apply Keeps.step (setF_keeps ..)); exact rfl)
    | intro _
    | split
    | dsimp only
    | ((try with_reducible conv => arg 3; whnf); (with_reducible apply Keeps.upd); (with_reducible exact Or.inl rfl); (exact Or.inr rfl); (iterate 5 (with_reducible exact Or.inl rfl)); (exact Or.inr rfl); (iterate 14 (with_reducible exact Or.inl rfl)); (with_reducible exact rfl); (with_reducible exact rfl))

theorem floodTick_keeps (s : State) (n : Nat) :
    Keeps [.csr, .flood, .hr] s (floodTick s n) := by
  unfold floodTick
  repeat' first
    | with_reducible apply Keeps.refl
    | with_reducible assumption
    | with_reducible apply Keeps.ite
    | ((with_reducible apply Keeps.step (sendEvent_keeps ..)); exact rfl)
    | ((with_reducible apply Keeps.step (count_keeps ..)); exact rfl)
    | ((with_reducible apply Keeps.step (stick_keeps ..)); exact rfl)
    | ((with_reducible apply Keeps.step (setF_keeps ..)); exact rfl)
    | intro _
    | split
    | dsimp only
    | ((try with_reducible conv => arg 3; whnf); (with_reducible apply Keeps.upd); (with_reducible exact Or.inl rfl); (exact Or.inr rfl); (iterate 5 (with_reducible exact Or.inl rfl)); (exact Or.inr rfl); (with_reducible exact Or.inl rfl); (exact Or.inr rfl); (iterate 12 (with_reducible exact Or.inl rfl)); (with_reducible exact rfl); (with_reducible exact rfl))

end Sys2Proof.Machine
end

