-- ==== Sys2Proof/Laws/KeepLink.lean ====
section
/-! SUPPORT. What each operation of Machine/Link.lean may change. -/
namespace Sys2Proof.Machine

theorem linkSend_keeps (s : State) (m : LinkMsg) :
    Keeps [.redun] s (linkSend s m) := by
  unfold linkSend
  repeat' first
    | with_reducible apply Keeps.refl
    | with_reducible assumption
    | with_reducible apply Keeps.ite
    | intro _
    | split
    | dsimp only
    | ((try with_reducible conv => arg 3; whnf); (with_reducible apply Keeps.upd); (iterate 15 (with_reducible exact Or.inl rfl)); (exact Or.inr rfl); (iterate 6 (with_reducible exact Or.inl rfl)); (with_reducible exact rfl); (with_reducible exact rfl))

theorem linkAck_keeps (s : State) (lane ack : Nat) :
    Keeps [.redun] s (linkAck s lane ack) := by
  unfold linkAck
  repeat' first
    | with_reducible apply Keeps.refl
    | with_reducible assumption
    | with_reducible apply Keeps.ite
    | with_reducible apply Keeps.ite_p1
    | with_reducible apply Keeps.ite_p2
    | with_reducible apply Keeps.ite_p22
    | with_reducible apply Keeps.ite_p222
    | intro _
    | split
    | dsimp only
    | ((try with_reducible conv => arg 3; whnf); (with_reducible apply Keeps.upd); (iterate 15 (with_reducible exact Or.inl rfl)); (exact Or.inr rfl); (iterate 6 (with_reducible exact Or.inl rfl)); (with_reducible exact rfl); (with_reducible exact rfl))

theorem linkAccept_keeps (s : State) (h : LinkHdr) : Keeps [.csr, .redun] s (linkAccept s h).2 := by
  have up : ∀ x : Redun, Keeps [.csr, .redun] s { s with redun := x } := fun x =>
    ⟨fun p hp => by cases p <;> first | exact rfl | exact absurd (by decide) hp, Inv_of_mem rfl rfl⟩
  unfold linkAccept
  repeat' first
    | exact Keeps.refl _ _
    | exact Keeps.mono (count_keeps ..) rfl
    | exact up _
    | split

end Sys2Proof.Machine
end

