-- ==== Sys2Proof/Laws/KeepPrf.lean ====
section
/-! SUPPORT. What each operation of Machine/Prf.lean may change. -/
namespace Sys2Proof.Machine

theorem prfWrite_keeps (s : State) (host : Bool) (w v : Nat) :
    Keeps [.csr, .prf] s (prfWrite s host w v) := by
  unfold prfWrite
  repeat' first
    | with_reducible apply Keeps.refl
    | with_reducible assumption
    | with_reducible apply Keeps.ite
    | ((with_reducible apply Keeps.step (count_keeps ..)); exact rfl)
    | ((with_reducible apply Keeps.step (stick_keeps ..)); exact rfl)
    | intro _
    | split
    | dsimp only
    | ((try with_reducible conv => arg 3; whnf); (with_reducible apply Keeps.upd); (with_reducible exact Or.inl rfl); (exact Or.inr rfl); (iterate 8 (with_reducible exact Or.inl rfl)); (exact Or.inr rfl); (iterate 11 (with_reducible exact Or.inl rfl)); (with_reducible exact rfl); (with_reducible exact rfl))

theorem prfLoad_keeps (s : State) :
    Keeps [.csr, .prf] s (prfLoad s) := by
  unfold prfLoad
  repeat' first
    | with_reducible apply Keeps.refl
    | with_reducible assumption
    | with_reducible apply Keeps.ite
    | ((with_reducible apply Keeps.step (count_keeps ..)); exact rfl)
    | ((with_reducible apply Keeps.step (stick_keeps ..)); exact rfl)
    | ((with_reducible apply Keeps.step (setF_keeps ..)); exact rfl)
    | intro _
    | split
    | dsimp only
    | ((try with_reducible conv => arg 3; whnf); (with_reducible apply Keeps.upd); (with_reducible exact Or.inl rfl); (exact Or.inr rfl); (iterate 8 (with_reducible exact Or.inl rfl)); (exact Or.inr rfl); (iterate 11 (with_reducible exact Or.inl rfl)); (with_reducible exact rfl); (with_reducible exact rfl))

theorem prfDone_keeps (s : State) :
    Keeps [.csr, .prf] s (prfDone s) := by
  unfold prfDone
  repeat' first
    | with_reducible apply Keeps.refl
    | with_reducible assumption
    | with_reducible apply Keeps.ite
    | ((with_reducible apply Keeps.step (prfLoad_keeps ..)); exact rfl)
    | ((with_reducible apply Keeps.step (stick_keeps ..)); exact rfl)
    | intro _
    | split
    | dsimp only
    | ((try with_reducible conv => arg 3; whnf); (with_reducible apply Keeps.upd); (with_reducible exact Or.inl rfl); (exact Or.inr rfl); (iterate 8 (with_reducible exact Or.inl rfl)); (exact Or.inr rfl); (iterate 11 (with_reducible exact Or.inl rfl)); (with_reducible exact rfl); (with_reducible exact rfl))

theorem prfFail_keeps (s : State) :
    Keeps [.prf] s (prfFail s) := by
  unfold prfFail
  repeat' first
    | with_reducible apply Keeps.refl
    | with_reducible assumption
    | with_reducible apply Keeps.ite
    | intro _
    | split
    | dsimp only
    | ((try with_reducible conv => arg 3; whnf); (with_reducible apply Keeps.upd); (iterate 10 (with_reducible exact Or.inl rfl)); (exact Or.inr rfl); (iterate 11 (with_reducible exact Or.inl rfl)); (with_reducible exact rfl); (with_reducible exact rfl))

theorem prfPowerUp_keeps (s : State) :
    Keeps [.csr, .prf] s (prfPowerUp s) := by
  unfold prfPowerUp
  repeat' first
    | with_reducible apply Keeps.refl
    | with_reducible assumption
    | with_reducible apply Keeps.ite
    | ((with_reducible apply Keeps.step (prfLoad_keeps ..)); exact rfl)
    | intro _
    | split
    | dsimp only
    | ((try with_reducible conv => arg 3; whnf); (with_reducible apply Keeps.upd); (with_reducible exact Or.inl rfl); (exact Or.inr rfl); (iterate 8 (with_reducible exact Or.inl rfl)); (exact Or.inr rfl); (iterate 11 (with_reducible exact Or.inl rfl)); (with_reducible exact rfl); (with_reducible exact rfl))

theorem prfReload_keeps (s : State) :
    Keeps [.csr, .prf] s (prfReload s) := by
  unfold prfReload
  repeat' first
    | with_reducible apply Keeps.refl
    | with_reducible assumption
    | with_reducible apply Keeps.ite
    | ((with_reducible apply Keeps.step (prfLoad_keeps ..)); exact rfl)
    | intro _
    | split
    | dsimp only
    | ((try with_reducible conv => arg 3; whnf); (with_reducible apply Keeps.upd); (with_reducible exact Or.inl rfl); (exact Or.inr rfl); (iterate 8 (with_reducible exact Or.inl rfl)); (exact Or.inr rfl); (iterate 11 (with_reducible exact Or.inl rfl)); (with_reducible exact rfl); (with_reducible exact rfl))

end Sys2Proof.Machine
end

