-- ==== Sys2Proof/Laws/KeepCv.lean ====
section
/-! SUPPORT. What each operation of Machine/Cv.lean may change. -/
namespace Sys2Proof.Machine

theorem putCv_keeps (s : State) (k : Nat) (o : CvOut) :
    Keeps [.cv] s (putCv s k o) := by
  unfold putCv
  repeat' first
    | with_reducible apply Keeps.refl
    | with_reducible assumption
    | with_reducible apply Keeps.ite
    | intro _
    | split
    | dsimp only
    | ((try with_reducible conv => arg 3; whnf); (with_reducible apply Keeps.upd); (iterate 11 (with_reducible exact Or.inl rfl)); (exact Or.inr rfl); (iterate 10 (with_reducible exact Or.inl rfl)); (with_reducible exact rfl); (with_reducible exact rfl))

theorem cvLatch_keeps (s : State) (k span code : Nat) :
    Keeps [.cv] s (cvLatch s k span code) := by
  unfold cvLatch
  repeat' first
    | with_reducible apply Keeps.refl
    | with_reducible assumption
    | with_reducible apply Keeps.ite
    | ((with_reducible apply Keeps.step (putCv_keeps ..)); exact rfl)
    | intro _
    | split
    | dsimp only
    | ((try with_reducible conv => arg 3; whnf); (with_reducible apply Keeps.upd); (iterate 11 (with_reducible exact Or.inl rfl)); (exact Or.inr rfl); (iterate 10 (with_reducible exact Or.inl rfl)); (with_reducible exact rfl); (with_reducible exact rfl))

theorem cvEnter_keeps (s : State) (k : Nat) :
    Keeps [.csr, .cv] s (cvEnter s k) := by
  unfold cvEnter
  repeat' first
    | with_reducible apply Keeps.refl
    | with_reducible assumption
    | with_reducible apply Keeps.ite
    | ((with_reducible apply Keeps.step (putCv_keeps ..)); exact rfl)
    | ((with_reducible apply Keeps.step (stick_keeps ..)); exact rfl)
    | intro _
    | split
    | dsimp only
    | ((try with_reducible conv => arg 3; whnf); (with_reducible apply Keeps.upd); (with_reducible exact Or.inl rfl); (exact Or.inr rfl); (iterate 9 (with_reducible exact Or.inl rfl)); (exact Or.inr rfl); (iterate 10 (with_reducible exact Or.inl rfl)); (with_reducible exact rfl); (with_reducible exact rfl))

theorem cvEnterAll_keeps (s : State) :
    Keeps [.csr, .cv] s (cvEnterAll s) := by
  unfold cvEnterAll
  repeat' first
    | with_reducible apply Keeps.refl
    | with_reducible assumption
    | with_reducible apply Keeps.ite
    | with_reducible apply Keeps.foldl
    | with_reducible apply Keeps.foldl_fst
    | with_reducible apply Keeps.foldl_snd
    | with_reducible apply Keeps.foldl_snd2
    | ((with_reducible apply Keeps.step (cvEnter_keeps ..)); exact rfl)
    | ((with_reducible apply Keeps.step (stick_keeps ..)); exact rfl)
    | ((with_reducible apply Keeps.step (setF_keeps ..)); exact rfl)
    | intro _
    | split
    | dsimp only
    | ((try with_reducible conv => arg 3; whnf); (with_reducible apply Keeps.upd); (with_reducible exact Or.inl rfl); (exact Or.inr rfl); (iterate 9 (with_reducible exact Or.inl rfl)); (exact Or.inr rfl); (iterate 10 (with_reducible exact Or.inl rfl)); (with_reducible exact rfl); (with_reducible exact rfl))

theorem cvMid_keeps (s : State) (hi : Bool) :
    Keeps [.csr, .cv] s (cvMid s hi) := by
  unfold cvMid
  repeat' first
    | with_reducible apply Keeps.refl
    | with_reducible assumption
    | with_reducible apply Keeps.ite
    | with_reducible apply Keeps.foldl
    | with_reducible apply Keeps.foldl_fst
    | with_reducible apply Keeps.foldl_snd
    | with_reducible apply Keeps.foldl_snd2
    | ((with_reducible apply Keeps.step (putCv_keeps ..)); exact rfl)
    | ((with_reducible apply Keeps.step (setF_keeps ..)); exact rfl)
    | intro _
    | split
    | dsimp only
    | ((try with_reducible conv => arg 3; whnf); (with_reducible apply Keeps.upd); (with_reducible exact Or.inl rfl); (exact Or.inr rfl); (iterate 9 (with_reducible exact Or.inl rfl)); (exact Or.inr rfl); (iterate 10 (with_reducible exact Or.inl rfl)); (with_reducible exact rfl); (with_reducible exact rfl))

theorem cvLoadRegs_keeps (s : State) :
    Keeps [.csr] s (cvLoadRegs s) := by
  unfold cvLoadRegs
  repeat' first
    | with_reducible apply Keeps.refl
    | with_reducible assumption
    | with_reducible apply Keeps.ite
    | with_reducible apply Keeps.foldl
    | with_reducible apply Keeps.foldl_fst
    | with_reducible apply Keeps.foldl_snd
    | with_reducible apply Keeps.foldl_snd2
    | ((with_reducible apply Keeps.step (setF_keeps ..)); exact rfl)
    | intro _
    | split
    | dsimp only
    | ((try with_reducible conv => arg 3; whnf); (with_reducible apply Keeps.upd); (with_reducible exact Or.inl rfl); (exact Or.inr rfl); (iterate 20 (with_reducible exact Or.inl rfl)); (with_reducible exact rfl); (with_reducible exact rfl))

theorem cvRevertOne_keeps (s : State) (k : Nat) :
    Keeps [.csr, .cv] s (cvRevertOne s k) := by
  unfold cvRevertOne
  repeat' first
    | with_reducible apply Keeps.refl
    | with_reducible assumption
    | with_reducible apply Keeps.ite
    | ((with_reducible apply Keeps.step (cvLatch_keeps ..)); exact rfl)
    | ((with_reducible apply Keeps.step (putCv_keeps ..)); exact rfl)
    | ((with_reducible apply Keeps.step (stick_keeps ..)); exact rfl)
    | intro _
    | split
    | dsimp only
    | ((try with_reducible conv => arg 3; whnf); (with_reducible apply Keeps.upd); (with_reducible exact Or.inl rfl); (exact Or.inr rfl); (iterate 9 (with_reducible exact Or.inl rfl)); (exact Or.inr rfl); (iterate 10 (with_reducible exact Or.inl rfl)); (with_reducible exact rfl); (with_reducible exact rfl))

theorem cvRevert_keeps (s : State) :
    Keeps [.csr, .cv] s (cvRevert s) := by
  unfold cvRevert
  repeat' first
    | with_reducible apply Keeps.refl
    | with_reducible assumption
    | with_reducible apply Keeps.ite
    | with_reducible apply Keeps.foldl
    | with_reducible apply Keeps.foldl_fst
    | with_reducible apply Keeps.foldl_snd
    | with_reducible apply Keeps.foldl_snd2
    | ((with_reducible apply Keeps.step (cvRevertOne_keeps ..)); exact rfl)
    | ((with_reducible apply Keeps.step (cvLoadRegs_keeps ..)); exact rfl)
    | ((with_reducible apply Keeps.step (cvMid_keeps ..)); exact rfl)
    | ((with_reducible apply Keeps.step (stick_keeps ..)); exact rfl)
    | intro _
    | split
    | dsimp only
    | ((try with_reducible conv => arg 3; whnf); (with_reducible apply Keeps.upd); (with_reducible exact Or.inl rfl); (exact Or.inr rfl); (iterate 9 (with_reducible exact Or.inl rfl)); (exact Or.inr rfl); (iterate 10 (with_reducible exact Or.inl rfl)); (with_reducible exact rfl); (with_reducible exact rfl))

theorem cvPowerUp_keeps (s : State) (ok hi : Bool) :
    Keeps [.csr, .cv] s (cvPowerUp s ok hi) := by
  unfold cvPowerUp
  repeat' first
    | with_reducible apply Keeps.refl
    | with_reducible assumption
    | with_reducible apply Keeps.ite
    | ((with_reducible apply Keeps.step (cvLoadRegs_keeps ..)); exact rfl)
    | ((with_reducible apply Keeps.step (cvEnterAll_keeps ..)); exact rfl)
    | ((with_reducible apply Keeps.step (stick_keeps ..)); exact rfl)
    | ((with_reducible apply Keeps.step (setF_keeps ..)); exact rfl)
    | intro _
    | split
    | dsimp only
    | ((try with_reducible conv => arg 3; whnf); (with_reducible apply Keeps.upd); (with_reducible exact Or.inl rfl); (exact Or.inr rfl); (iterate 9 (with_reducible exact Or.inl rfl)); (exact Or.inr rfl); (iterate 10 (with_reducible exact Or.inl rfl)); (with_reducible exact rfl); (with_reducible exact rfl))

theorem cvOutWrite_keeps (s : State) (k v : Nat) :
    Keeps [.csr, .cv] s (cvOutWrite s k v) := by
  unfold cvOutWrite
  repeat' first
    | with_reducible apply Keeps.refl
    | with_reducible assumption
    | with_reducible apply Keeps.ite
    | ((with_reducible apply Keeps.step (cvLatch_keeps ..)); exact rfl)
    | ((with_reducible apply Keeps.step (putCv_keeps ..)); exact rfl)
    | ((with_reducible apply Keeps.step (csrWrite_keeps ..)); exact rfl)
    | ((with_reducible apply Keeps.step (stick_keeps ..)); exact rfl)
    | intro _
    | split
    | dsimp only
    | ((try with_reducible conv => arg 3; whnf); (with_reducible apply Keeps.upd); (with_reducible exact Or.inl rfl); (exact Or.inr rfl); (iterate 9 (with_reducible exact Or.inl rfl)); (exact Or.inr rfl); (iterate 10 (with_reducible exact Or.inl rfl)); (with_reducible exact rfl); (with_reducible exact rfl))

theorem cvTickLatch_keeps (s : State) :
    Keeps [.cv] s (cvTickLatch s) := by
  unfold cvTickLatch
  repeat' first
    | with_reducible apply Keeps.refl
    | with_reducible assumption
    | with_reducible apply Keeps.ite
    | with_reducible apply Keeps.foldl
    | with_reducible apply Keeps.foldl_fst
    | with_reducible apply Keeps.foldl_snd
    | with_reducible apply Keeps.foldl_snd2
    | ((with_reducible apply Keeps.step (cvLatch_keeps ..)); exact rfl)
    | intro _
    | split
    | dsimp only
    | ((try with_reducible conv => arg 3; whnf); (with_reducible apply Keeps.upd); (iterate 11 (with_reducible exact Or.inl rfl)); (exact Or.inr rfl); (iterate 10 (with_reducible exact Or.inl rfl)); (with_reducible exact rfl); (with_reducible exact rfl))

theorem cvCtlWrite_keeps (s : State) (v : Nat) :
    Keeps [.csr, .cv] s (cvCtlWrite s v) := by
  unfold cvCtlWrite
  repeat' first
    | with_reducible apply Keeps.refl
    | with_reducible assumption
    | with_reducible apply Keeps.ite
    | ((with_reducible apply Keeps.step (cvMid_keeps ..)); exact rfl)
    | ((with_reducible apply Keeps.step (stick_keeps ..)); exact rfl)
    | intro _
    | split
    | dsimp only
    | ((try with_reducible conv => arg 3; whnf); (with_reducible apply Keeps.upd); (with_reducible exact Or.inl rfl); (exact Or.inr rfl); (iterate 9 (with_reducible exact Or.inl rfl)); (exact Or.inr rfl); (iterate 10 (with_reducible exact Or.inl rfl)); (with_reducible exact rfl); (with_reducible exact rfl))

theorem cvParkEnd_keeps (s : State) (k : Nat) :
    Keeps [.cv] s (cvParkEnd s k) := by
  unfold cvParkEnd
  repeat' first
    | with_reducible apply Keeps.refl
    | with_reducible assumption
    | with_reducible apply Keeps.ite
    | ((with_reducible apply Keeps.step (putCv_keeps ..)); exact rfl)
    | intro _
    | split
    | dsimp only
    | ((try with_reducible conv => arg 3; whnf); (with_reducible apply Keeps.upd); (iterate 11 (with_reducible exact Or.inl rfl)); (exact Or.inr rfl); (iterate 10 (with_reducible exact Or.inl rfl)); (with_reducible exact rfl); (with_reducible exact rfl))

theorem cvHiFall_keeps (s : State) :
    Keeps [.csr, .cv] s (cvHiFall s) := by
  unfold cvHiFall
  repeat' first
    | with_reducible apply Keeps.refl
    | with_reducible assumption
    | with_reducible apply Keeps.ite
    | with_reducible apply Keeps.foldl
    | with_reducible apply Keeps.foldl_fst
    | with_reducible apply Keeps.foldl_snd
    | with_reducible apply Keeps.foldl_snd2
    | ((with_reducible apply Keeps.step (cvMid_keeps ..)); exact rfl)
    | ((with_reducible apply Keeps.step (putCv_keeps ..)); exact rfl)
    | ((with_reducible apply Keeps.step (stick_keeps ..)); exact rfl)
    | intro _
    | split
    | dsimp only
    | ((try with_reducible conv => arg 3; whnf); (with_reducible apply Keeps.upd); (with_reducible exact Or.inl rfl); (exact Or.inr rfl); (iterate 9 (with_reducible exact Or.inl rfl)); (exact Or.inr rfl); (iterate 10 (with_reducible exact Or.inl rfl)); (with_reducible exact rfl); (with_reducible exact rfl))

theorem cvLoss_keeps (s : State) :
    Keeps [.csr, .cv] s (cvLoss s) := by
  unfold cvLoss
  repeat' first
    | with_reducible apply Keeps.refl
    | with_reducible assumption
    | with_reducible apply Keeps.ite
    | with_reducible apply Keeps.foldl
    | with_reducible apply Keeps.foldl_fst
    | with_reducible apply Keeps.foldl_snd
    | with_reducible apply Keeps.foldl_snd2
    | ((with_reducible apply Keeps.step (cvHiFall_keeps ..)); exact rfl)
    | ((with_reducible apply Keeps.step (putCv_keeps ..)); exact rfl)
    | ((with_reducible apply Keeps.step (stick_keeps ..)); exact rfl)
    | intro _
    | split
    | dsimp only
    | ((try with_reducible conv => arg 3; whnf); (with_reducible apply Keeps.upd); (with_reducible exact Or.inl rfl); (exact Or.inr rfl); (iterate 9 (with_reducible exact Or.inl rfl)); (exact Or.inr rfl); (iterate 10 (with_reducible exact Or.inl rfl)); (with_reducible exact rfl); (with_reducible exact rfl))

theorem cvRestore_keeps (s : State) (hi : Bool) :
    Keeps [.csr, .cv] s (cvRestore s hi) := by
  unfold cvRestore
  repeat' first
    | with_reducible apply Keeps.refl
    | with_reducible assumption
    | with_reducible apply Keeps.ite
    | ((with_reducible apply Keeps.step (cvEnterAll_keeps ..)); exact rfl)
    | intro _
    | split
    | dsimp only
    | ((try with_reducible conv => arg 3; whnf); (with_reducible apply Keeps.upd); (with_reducible exact Or.inl rfl); (exact Or.inr rfl); (iterate 9 (with_reducible exact Or.inl rfl)); (exact Or.inr rfl); (iterate 10 (with_reducible exact Or.inl rfl)); (with_reducible exact rfl); (with_reducible exact rfl))

end Sys2Proof.Machine
end

