-- ==== Sys2Proof/Laws/KeepRcu.lean ====
section
/-! SUPPORT. What each operation of Machine/Rcu.lean may change. -/
namespace Sys2Proof.Machine

theorem putIn_keeps (s : State) (i : Nat) (x : RefIn) :
    Keeps [.rcu] s (putIn s i x) := by
  unfold putIn
  repeat' first
    | with_reducible apply Keeps.refl
    | with_reducible assumption
    | with_reducible apply Keeps.ite
    | intro _
    | split
    | dsimp only
    | ((try with_reducible conv => arg 3; whnf); (with_reducible apply Keeps.upd); (iterate 14 (with_reducible exact Or.inl rfl)); (exact Or.inr rfl); (iterate 7 (with_reducible exact Or.inl rfl)); (with_reducible exact rfl); (with_reducible exact rfl))

theorem enterDpll_keeps (s : State) (st : Nat) :
    Keeps [.csr, .hr] s (enterDpll s st) := by
  unfold enterDpll
  repeat' first
    | with_reducible apply Keeps.refl
    | with_reducible assumption
    | with_reducible apply Keeps.ite
    | ((with_reducible apply Keeps.step (sendEvent_keeps ..)); exact rfl)
    | ((with_reducible apply Keeps.step (stick_keeps ..)); exact rfl)
    | ((with_reducible apply Keeps.step (setF_keeps ..)); exact rfl)
    | intro _
    | split
    | dsimp only
    | ((try with_reducible conv => arg 3; whnf); (with_reducible apply Keeps.upd); (with_reducible exact Or.inl rfl); (exact Or.inr rfl); (iterate 7 (with_reducible exact Or.inl rfl)); (exact Or.inr rfl); (iterate 12 (with_reducible exact Or.inl rfl)); (with_reducible exact rfl); (with_reducible exact rfl))

theorem enterHold_keeps (s : State) :
    Keeps [.csr, .hr] s (enterHold s) := by
  unfold enterHold
  repeat' first
    | with_reducible apply Keeps.refl
    | with_reducible assumption
    | with_reducible apply Keeps.ite
    | ((with_reducible apply Keeps.step (enterDpll_keeps ..)); exact rfl)
    | ((with_reducible apply Keeps.step (setF_keeps ..)); exact rfl)
    | intro _
    | split
    | dsimp only
    | ((try with_reducible conv => arg 3; whnf); (with_reducible apply Keeps.upd); (with_reducible exact Or.inl rfl); (exact Or.inr rfl); (iterate 7 (with_reducible exact Or.inl rfl)); (exact Or.inr rfl); (iterate 12 (with_reducible exact Or.inl rfl)); (with_reducible exact rfl); (with_reducible exact rfl))

theorem selectIn_keeps (s : State) (i cause : Nat) :
    Keeps [.csr, .hr, .rcu] s (selectIn s i cause) := by
  unfold selectIn
  repeat' first
    | with_reducible apply Keeps.refl
    | with_reducible assumption
    | with_reducible apply Keeps.ite
    | ((with_reducible apply Keeps.step (enterDpll_keeps ..)); exact rfl)
    | ((with_reducible apply Keeps.step (count_keeps ..)); exact rfl)
    | ((with_reducible apply Keeps.step (stick_keeps ..)); exact rfl)
    | ((with_reducible apply Keeps.step (setF_keeps ..)); exact rfl)
    | intro _
    | split
    | dsimp only
    | ((try with_reducible conv => arg 3; whnf); (with_reducible apply Keeps.upd); (with_reducible exact Or.inl rfl); (exact Or.inr rfl); (iterate 7 (with_reducible exact Or.inl rfl)); (exact Or.inr rfl); (iterate 4 (with_reducible exact Or.inl rfl)); (exact Or.inr rfl); (iterate 7 (with_reducible exact Or.inl rfl)); (with_reducible exact rfl); (with_reducible exact rfl))

theorem reselect_keeps (s : State) (cause : Nat) :
    Keeps [.csr, .hr, .rcu] s (reselect s cause) := by
  unfold reselect
  repeat' first
    | with_reducible apply Keeps.refl
    | with_reducible assumption
    | with_reducible apply Keeps.ite
    | ((with_reducible apply Keeps.step (selectIn_keeps ..)); exact rfl)
    | ((with_reducible apply Keeps.step (enterHold_keeps ..)); exact rfl)
    | intro _
    | split
    | dsimp only
    | ((try with_reducible conv => arg 3; whnf); (with_reducible apply Keeps.upd); (with_reducible exact Or.inl rfl); (exact Or.inr rfl); (iterate 7 (with_reducible exact Or.inl rfl)); (exact Or.inr rfl); (iterate 4 (with_reducible exact Or.inl rfl)); (exact Or.inr rfl); (iterate 7 (with_reducible exact Or.inl rfl)); (with_reducible exact rfl); (with_reducible exact rfl))

theorem discord_keeps (s : State) :
    Keeps [.csr] s (discord s) := by
  unfold discord
  repeat' first
    | with_reducible apply Keeps.refl
    | with_reducible assumption
    | with_reducible apply Keeps.ite
    | ((with_reducible apply Keeps.step (stick_keeps ..)); exact rfl)
    | ((with_reducible apply Keeps.step (setF_keeps ..)); exact rfl)
    | intro _
    | split
    | dsimp only
    | ((try with_reducible conv => arg 3; whnf); (with_reducible apply Keeps.upd); (with_reducible exact Or.inl rfl); (exact Or.inr rfl); (iterate 20 (with_reducible exact Or.inl rfl)); (with_reducible exact rfl); (with_reducible exact rfl))

theorem setInState_keeps (s : State) (i st : Nat) :
    Keeps [.csr] s (setInState s i st) := by
  unfold setInState
  repeat' first
    | with_reducible apply Keeps.refl
    | with_reducible assumption
    | with_reducible apply Keeps.ite
    | ((with_reducible apply Keeps.step (stick_keeps ..)); exact rfl)
    | ((with_reducible apply Keeps.step (setF_keeps ..)); exact rfl)
    | intro _
    | split
    | dsimp only
    | ((try with_reducible conv => arg 3; whnf); (with_reducible apply Keeps.upd); (with_reducible exact Or.inl rfl); (exact Or.inr rfl); (iterate 20 (with_reducible exact Or.inl rfl)); (with_reducible exact rfl); (with_reducible exact rfl))

theorem disqualify_keeps (s : State) (i cause : Nat) :
    Keeps [.csr, .rcu] s (disqualify s i cause) := by
  delta disqualify
  try lift_lets
  intros
  repeat' first
    | with_reducible apply Keeps.refl
    | with_reducible assumption
    | with_reducible apply Keeps.ite
    | ((with_reducible apply Keeps.step (setInState_keeps ..)); exact rfl)
    | ((with_reducible apply Keeps.step (putIn_keeps ..)); exact rfl)
    | ((with_reducible apply Keeps.step (stick_keeps ..)); exact rfl)
    | ((with_reducible apply Keeps.step (setF_keeps ..)); exact rfl)
    | intro _
    | split
    | dsimp only
    | ((try with_reducible conv => arg 3; whnf); (with_reducible apply Keeps.upd); (with_reducible exact Or.inl rfl); (exact Or.inr rfl); (iterate 12 (with_reducible exact Or.inl rfl)); (exact Or.inr rfl); (iterate 7 (with_reducible exact Or.inl rfl)); (with_reducible exact rfl); (with_reducible exact rfl))

theorem wckJudge_keeps (s : State) (k : Nat) :
    Keeps [.csr] s (wckJudge s k) := by
  unfold wckJudge
  repeat' first
    | with_reducible apply Keeps.refl
    | with_reducible assumption
    | with_reducible apply Keeps.ite
    | ((with_reducible apply Keeps.step (setF_keeps ..)); exact rfl)
    | intro _
    | split
    | dsimp only
    | ((try with_reducible conv => arg 3; whnf); (with_reducible apply Keeps.upd); (with_reducible exact Or.inl rfl); (exact Or.inr rfl); (iterate 20 (with_reducible exact Or.inl rfl)); (with_reducible exact rfl); (with_reducible exact rfl))

theorem wckPlace_keeps (s : State) (k : Nat) (b : Int) :
    Keeps [.rcu] s (wckPlace s k b) := by
  unfold wckPlace
  repeat' first
    | with_reducible apply Keeps.refl
    | with_reducible assumption
    | with_reducible apply Keeps.ite
    | intro _
    | split
    | dsimp only
    | ((try with_reducible conv => arg 3; whnf); (with_reducible apply Keeps.upd); (iterate 14 (with_reducible exact Or.inl rfl)); (exact Or.inr rfl); (iterate 7 (with_reducible exact Or.inl rfl)); (with_reducible exact rfl); (with_reducible exact rfl))

theorem wckAlign_keeps (s : State) (k : Nat) :
    Keeps [.csr, .freeCtr, .rcu] s (wckAlign s k) := by
  unfold wckAlign
  repeat' first
    | with_reducible apply Keeps.refl
    | with_reducible assumption
    | with_reducible apply Keeps.ite
    | ((with_reducible apply Keeps.step (wckPlace_keeps ..)); exact rfl)
    | ((with_reducible apply Keeps.step (wckJudge_keeps ..)); exact rfl)
    | ((with_reducible apply Keeps.step (freshFree_keeps ..)); exact rfl)
    | ((with_reducible apply Keeps.step (setF_keeps ..)); exact rfl)
    | intro _
    | split
    | dsimp only
    | ((try with_reducible conv => arg 3; whnf); (with_reducible apply Keeps.upd); (with_reducible exact Or.inl rfl); (exact Or.inr rfl); (with_reducible exact Or.inl rfl); (exact Or.inr rfl); (iterate 10 (with_reducible exact Or.inl rfl)); (exact Or.inr rfl); (iterate 7 (with_reducible exact Or.inl rfl)); (with_reducible exact rfl); (with_reducible exact rfl))

theorem wckMeasure_keeps (s : State) (i : Nat) (t : Int) :
    Keeps [.csr] s (wckMeasure s i t) := by
  unfold wckMeasure
  repeat' first
    | with_reducible apply Keeps.refl
    | with_reducible assumption
    | with_reducible apply Keeps.ite
    | with_reducible apply Keeps.foldl
    | ((with_reducible apply Keeps.step (setF_keeps ..)); exact rfl)
    | intro _
    | split
    | dsimp only
    | ((try with_reducible conv => arg 3; whnf); (with_reducible apply Keeps.upd); (with_reducible exact Or.inl rfl); (exact Or.inr rfl); (iterate 20 (with_reducible exact Or.inl rfl)); (with_reducible exact rfl); (with_reducible exact rfl))

theorem wckInput_keeps (s : State) (i : Nat) :
    Keeps [.csr, .freeCtr, .rcu] s (wckInput s i) := by
  unfold wckInput
  repeat' first
    | with_reducible apply Keeps.refl
    | with_reducible assumption
    | with_reducible apply Keeps.ite
    | with_reducible apply Keeps.foldl
    | with_reducible apply Keeps.foldl_fst
    | with_reducible apply Keeps.foldl_snd
    | with_reducible apply Keeps.foldl_snd2
    | ((with_reducible apply Keeps.step (wckAlign_keeps ..)); exact rfl)
    | ((with_reducible apply Keeps.step (setF_keeps ..)); exact rfl)
    | intro _
    | split
    | dsimp only
    | ((try with_reducible conv => arg 3; whnf); (with_reducible apply Keeps.upd); (with_reducible exact Or.inl rfl); (exact Or.inr rfl); (with_reducible exact Or.inl rfl); (exact Or.inr rfl); (iterate 10 (with_reducible exact Or.inl rfl)); (exact Or.inr rfl); (iterate 7 (with_reducible exact Or.inl rfl)); (with_reducible exact rfl); (with_reducible exact rfl))

theorem inputsMoved_keeps (s : State) (i cause : Nat) :
    Keeps [.csr, .freeCtr, .hr, .rcu] s (inputsMoved s i cause) := by
  unfold inputsMoved
  repeat' first
    | with_reducible apply Keeps.refl
    | with_reducible assumption
    | with_reducible apply Keeps.ite
    | ((with_reducible apply Keeps.step (wckInput_keeps ..)); exact rfl)
    | ((with_reducible apply Keeps.step (discord_keeps ..)); exact rfl)
    | ((with_reducible apply Keeps.step (reselect_keeps ..)); exact rfl)
    | intro _
    | split
    | dsimp only
    | ((try with_reducible conv => arg 3; whnf); (with_reducible apply Keeps.upd); (with_reducible exact Or.inl rfl); (exact Or.inr rfl); (with_reducible exact Or.inl rfl); (exact Or.inr rfl); (iterate 5 (with_reducible exact Or.inl rfl)); (exact Or.inr rfl); (iterate 4 (with_reducible exact Or.inl rfl)); (exact Or.inr rfl); (iterate 7 (with_reducible exact Or.inl rfl)); (with_reducible exact rfl); (with_reducible exact rfl))

theorem takeHit_keeps (s : State) (i : Nat) (t : Int) :
    Keeps [.csr, .freeCtr, .hr, .rcu] s (takeHit s i t) := by
  unfold takeHit
  repeat' first
    | with_reducible apply Keeps.refl
    | with_reducible assumption
    | with_reducible apply Keeps.ite
    | ((with_reducible apply Keeps.step (inputsMoved_keeps ..)); exact rfl)
    | ((with_reducible apply Keeps.step (disqualify_keeps ..)); exact rfl)
    | ((with_reducible apply Keeps.step (putIn_keeps ..)); exact rfl)
    | ((with_reducible apply Keeps.step (count_keeps ..)); exact rfl)
    | ((with_reducible apply Keeps.step (stick_keeps ..)); exact rfl)
    | intro _
    | split
    | dsimp only
    | ((try with_reducible conv => arg 3; whnf); (with_reducible apply Keeps.upd); (with_reducible exact Or.inl rfl); (exact Or.inr rfl); (with_reducible exact Or.inl rfl); (exact Or.inr rfl); (iterate 5 (with_reducible exact Or.inl rfl)); (exact Or.inr rfl); (iterate 4 (with_reducible exact Or.inl rfl)); (exact Or.inr rfl); (iterate 7 (with_reducible exact Or.inl rfl)); (with_reducible exact rfl); (with_reducible exact rfl))

theorem judge_keeps (s : State) (in1 in4 : Bool) :
    Keeps [.csr, .hr] s (judge s in1 in4) := by
  unfold judge
  repeat' first
    | with_reducible apply Keeps.refl
    | with_reducible assumption
    | with_reducible apply Keeps.ite
    | ((with_reducible apply Keeps.step (enterDpll_keeps ..)); exact rfl)
    | intro _
    | split
    | dsimp only
    | ((try with_reducible conv => arg 3; whnf); (with_reducible apply Keeps.upd); (with_reducible exact Or.inl rfl); (exact Or.inr rfl); (iterate 7 (with_reducible exact Or.inl rfl)); (exact Or.inr rfl); (iterate 12 (with_reducible exact Or.inl rfl)); (with_reducible exact rfl); (with_reducible exact rfl))

theorem loopDemand_keeps (s : State) :
    Keeps [.csr, .freeCtr] s (loopDemand s) := by
  unfold loopDemand
  repeat' first
    | with_reducible apply Keeps.refl
    | with_reducible assumption
    | with_reducible apply Keeps.ite
    | with_reducible apply Keeps.ite_p1
    | with_reducible apply Keeps.ite_p2
    | with_reducible apply Keeps.ite_p22
    | with_reducible apply Keeps.ite_p222
    | ((with_reducible apply Keeps.step (freshFree_keeps ..)); exact rfl)
    | ((with_reducible apply Keeps.step (stick_keeps ..)); exact rfl)
    | ((with_reducible apply Keeps.step (setF_keeps ..)); exact rfl)
    | intro _
    | split
    | dsimp only
    | ((try with_reducible conv => arg 3; whnf); (with_reducible apply Keeps.upd); (with_reducible exact Or.inl rfl); (exact Or.inr rfl); (with_reducible exact Or.inl rfl); (exact Or.inr rfl); (iterate 18 (with_reducible exact Or.inl rfl)); (with_reducible exact rfl); (with_reducible exact rfl))

theorem selEdge_keeps (s : State) (i : Nat) (err : Int) (in1 in4 : Bool) :
    Keeps [.csr, .freeCtr, .hr, .rcu] s (selEdge s i err in1 in4) := by
  unfold selEdge
  repeat' first
    | with_reducible apply Keeps.refl
    | with_reducible assumption
    | with_reducible apply Keeps.ite
    | ((with_reducible apply Keeps.step (loopDemand_keeps ..)); exact rfl)
    | ((with_reducible apply Keeps.step (judge_keeps ..)); exact rfl)
    | ((with_reducible apply Keeps.step (setF_keeps ..)); exact rfl)
    | intro _
    | split
    | dsimp only
    | ((try with_reducible conv => arg 3; whnf); (with_reducible apply Keeps.upd); (with_reducible exact Or.inl rfl); (exact Or.inr rfl); (with_reducible exact Or.inl rfl); (exact Or.inr rfl); (iterate 5 (with_reducible exact Or.inl rfl)); (exact Or.inr rfl); (iterate 4 (with_reducible exact Or.inl rfl)); (exact Or.inr rfl); (iterate 7 (with_reducible exact Or.inl rfl)); (with_reducible exact rfl); (with_reducible exact rfl))

theorem refEdge_keeps (s : State) (i : Nat) (t err : Int) (bad : Bool) (in1 in4 : Bool) :
    Keeps [.csr, .freeCtr, .hr, .rcu] s (refEdge s i t err bad in1 in4) := by
  unfold refEdge
  repeat' first
    | with_reducible apply Keeps.refl
    | with_reducible assumption
    | with_reducible apply Keeps.ite
    | ((with_reducible apply Keeps.step (selEdge_keeps ..)); exact rfl)
    | ((with_reducible apply Keeps.step (takeHit_keeps ..)); exact rfl)
    | ((with_reducible apply Keeps.step (wckMeasure_keeps ..)); exact rfl)
    | ((with_reducible apply Keeps.step (putIn_keeps ..)); exact rfl)
    | ((with_reducible apply Keeps.step (setF_keeps ..)); exact rfl)
    | intro _
    | split
    | dsimp only
    | ((try with_reducible conv => arg 3; whnf); (with_reducible apply Keeps.upd); (with_reducible exact Or.inl rfl); (exact Or.inr rfl); (with_reducible exact Or.inl rfl); (exact Or.inr rfl); (iterate 5 (with_reducible exact Or.inl rfl)); (exact Or.inr rfl); (iterate 4 (with_reducible exact Or.inl rfl)); (exact Or.inr rfl); (iterate 7 (with_reducible exact Or.inl rfl)); (with_reducible exact rfl); (with_reducible exact rfl))

theorem refEdgePin_keeps (s : State) (i : Nat) (t err : Int) (bad : Bool) :
    Keeps [.csr, .freeCtr, .hr, .rcu] s (refEdgePin s i t err bad) := by
  unfold refEdgePin
  repeat' first
    | with_reducible apply Keeps.refl
    | with_reducible assumption
    | with_reducible apply Keeps.ite
    | ((with_reducible apply Keeps.step (refEdge_keeps ..)); exact rfl)
    | intro _
    | split
    | dsimp only
    | ((try with_reducible conv => arg 3; whnf); (with_reducible apply Keeps.upd); (with_reducible exact Or.inl rfl); (exact Or.inr rfl); (with_reducible exact Or.inl rfl); (exact Or.inr rfl); (iterate 5 (with_reducible exact Or.inl rfl)); (exact Or.inr rfl); (iterate 4 (with_reducible exact Or.inl rfl)); (exact Or.inr rfl); (iterate 7 (with_reducible exact Or.inl rfl)); (with_reducible exact rfl); (with_reducible exact rfl))

theorem ptpEdge_keeps (s : State) (t : Int) (v : Nat) :
    Keeps [.csr, .freeCtr, .hr, .rcu] s (ptpEdge s t v) := by
  unfold ptpEdge
  repeat' first
    | with_reducible apply Keeps.refl
    | with_reducible assumption
    | with_reducible apply Keeps.ite
    | ((with_reducible apply Keeps.step (refEdge_keeps ..)); exact rfl)
    | intro _
    | split
    | dsimp only
    | ((try with_reducible conv => arg 3; whnf); (with_reducible apply Keeps.upd); (with_reducible exact Or.inl rfl); (exact Or.inr rfl); (with_reducible exact Or.inl rfl); (exact Or.inr rfl); (iterate 5 (with_reducible exact Or.inl rfl)); (exact Or.inr rfl); (iterate 4 (with_reducible exact Or.inl rfl)); (exact Or.inr rfl); (iterate 7 (with_reducible exact Or.inl rfl)); (with_reducible exact rfl); (with_reducible exact rfl))

theorem refLoss_keeps (s : State) (i : Nat) :
    Keeps [.csr, .freeCtr, .hr, .rcu] s (refLoss s i) := by
  unfold refLoss
  repeat' first
    | with_reducible apply Keeps.refl
    | with_reducible assumption
    | with_reducible apply Keeps.ite
    | ((with_reducible apply Keeps.step (inputsMoved_keeps ..)); exact rfl)
    | ((with_reducible apply Keeps.step (disqualify_keeps ..)); exact rfl)
    | ((with_reducible apply Keeps.step (putIn_keeps ..)); exact rfl)
    | ((with_reducible apply Keeps.step (count_keeps ..)); exact rfl)
    | ((with_reducible apply Keeps.step (stick_keeps ..)); exact rfl)
    | ((with_reducible apply Keeps.step (setF_keeps ..)); exact rfl)
    | intro _
    | split
    | dsimp only
    | ((try with_reducible conv => arg 3; whnf); (with_reducible apply Keeps.upd); (with_reducible exact Or.inl rfl); (exact Or.inr rfl); (with_reducible exact Or.inl rfl); (exact Or.inr rfl); (iterate 5 (with_reducible exact Or.inl rfl)); (exact Or.inr rfl); (iterate 4 (with_reducible exact Or.inl rfl)); (exact Or.inr rfl); (iterate 7 (with_reducible exact Or.inl rfl)); (with_reducible exact rfl); (with_reducible exact rfl))

theorem makeValid_keeps (s : State) (i : Nat) :
    Keeps [.csr] s (makeValid s i) := by
  unfold makeValid
  repeat' first
    | with_reducible apply Keeps.refl
    | with_reducible assumption
    | with_reducible apply Keeps.ite
    | ((with_reducible apply Keeps.step (setInState_keeps ..)); exact rfl)
    | ((with_reducible apply Keeps.step (stick_keeps ..)); exact rfl)
    | ((with_reducible apply Keeps.step (setF_keeps ..)); exact rfl)
    | intro _
    | split
    | dsimp only
    | ((try with_reducible conv => arg 3; whnf); (with_reducible apply Keeps.upd); (with_reducible exact Or.inl rfl); (exact Or.inr rfl); (iterate 20 (with_reducible exact Or.inl rfl)); (with_reducible exact rfl); (with_reducible exact rfl))

theorem measEnd_keeps (s : State) (i : Nat) (foff : Int) :
    Keeps [.csr, .freeCtr, .hr, .rcu] s (measEnd s i foff) := by
  unfold measEnd
  repeat' first
    | with_reducible apply Keeps.refl
    | with_reducible assumption
    | with_reducible apply Keeps.ite
    | ((with_reducible apply Keeps.step (makeValid_keeps ..)); exact rfl)
    | ((with_reducible apply Keeps.step (inputsMoved_keeps ..)); exact rfl)
    | ((with_reducible apply Keeps.step (disqualify_keeps ..)); exact rfl)
    | ((with_reducible apply Keeps.step (setInState_keeps ..)); exact rfl)
    | ((with_reducible apply Keeps.step (discord_keeps ..)); exact rfl)
    | ((with_reducible apply Keeps.step (putIn_keeps ..)); exact rfl)
    | ((with_reducible apply Keeps.step (setF_keeps ..)); exact rfl)
    | intro _
    | split
    | dsimp only
    | ((try with_reducible conv => arg 3; whnf); (with_reducible apply Keeps.upd); (with_reducible exact Or.inl rfl); (exact Or.inr rfl); (with_reducible exact Or.inl rfl); (exact Or.inr rfl); (iterate 5 (with_reducible exact Or.inl rfl)); (exact Or.inr rfl); (iterate 4 (with_reducible exact Or.inl rfl)); (exact Or.inr rfl); (iterate 7 (with_reducible exact Or.inl rfl)); (with_reducible exact rfl); (with_reducible exact rfl))

theorem inCfgWrite_keeps (s : State) (i : Nat) (v : Word) :
    Keeps [.csr, .freeCtr, .hr, .rcu] s (inCfgWrite s i v) := by
  unfold inCfgWrite
  repeat' first
    | with_reducible apply Keeps.refl
    | with_reducible assumption
    | with_reducible apply Keeps.ite
    | ((with_reducible apply Keeps.step (inputsMoved_keeps ..)); exact rfl)
    | ((with_reducible apply Keeps.step (disqualify_keeps ..)); exact rfl)
    | ((with_reducible apply Keeps.step (csrWrite_keeps ..)); exact rfl)
    | ((with_reducible apply Keeps.step (setF_keeps ..)); exact rfl)
    | intro _
    | split
    | dsimp only
    | ((try with_reducible conv => arg 3; whnf); (with_reducible apply Keeps.upd); (with_reducible exact Or.inl rfl); (exact Or.inr rfl); (with_reducible exact Or.inl rfl); (exact Or.inr rfl); (iterate 5 (with_reducible exact Or.inl rfl)); (exact Or.inr rfl); (iterate 4 (with_reducible exact Or.inl rfl)); (exact Or.inr rfl); (iterate 7 (with_reducible exact Or.inl rfl)); (with_reducible exact rfl); (with_reducible exact rfl))

theorem lockExpiry_keeps (s : State) :
    Keeps [.csr, .hr, .rcu] s (lockExpiry s) := by
  unfold lockExpiry
  repeat' first
    | with_reducible apply Keeps.refl
    | with_reducible assumption
    | with_reducible apply Keeps.ite
    | ((with_reducible apply Keeps.step (reselect_keeps ..)); exact rfl)
    | ((with_reducible apply Keeps.step (enterDpll_keeps ..)); exact rfl)
    | ((with_reducible apply Keeps.step (setF_keeps ..)); exact rfl)
    | intro _
    | split
    | dsimp only
    | ((try with_reducible conv => arg 3; whnf); (with_reducible apply Keeps.upd); (with_reducible exact Or.inl rfl); (exact Or.inr rfl); (iterate 7 (with_reducible exact Or.inl rfl)); (exact Or.inr rfl); (iterate 4 (with_reducible exact Or.inl rfl)); (exact Or.inr rfl); (iterate 7 (with_reducible exact Or.inl rfl)); (with_reducible exact rfl); (with_reducible exact rfl))

theorem switchTimeout_keeps (s : State) :
    Keeps [.csr, .hr, .rcu] s (switchTimeout s) := by
  unfold switchTimeout
  repeat' first
    | with_reducible apply Keeps.refl
    | with_reducible assumption
    | with_reducible apply Keeps.ite
    | ((with_reducible apply Keeps.step (discord_keeps ..)); exact rfl)
    | ((with_reducible apply Keeps.step (reselect_keeps ..)); exact rfl)
    | ((with_reducible apply Keeps.step (setF_keeps ..)); exact rfl)
    | intro _
    | split
    | dsimp only
    | ((try with_reducible conv => arg 3; whnf); (with_reducible apply Keeps.upd); (with_reducible exact Or.inl rfl); (exact Or.inr rfl); (iterate 7 (with_reducible exact Or.inl rfl)); (exact Or.inr rfl); (iterate 4 (with_reducible exact Or.inl rfl)); (exact Or.inr rfl); (iterate 7 (with_reducible exact Or.inl rfl)); (with_reducible exact rfl); (with_reducible exact rfl))

theorem revertExpiry_keeps (s : State) (i : Nat) :
    Keeps [.csr, .hr, .rcu] s (revertExpiry s i) := by
  unfold revertExpiry
  repeat' first
    | with_reducible apply Keeps.refl
    | with_reducible assumption
    | with_reducible apply Keeps.ite
    | ((with_reducible apply Keeps.step (reselect_keeps ..)); exact rfl)
    | intro _
    | split
    | dsimp only
    | ((try with_reducible conv => arg 3; whnf); (with_reducible apply Keeps.upd); (with_reducible exact Or.inl rfl); (exact Or.inr rfl); (iterate 7 (with_reducible exact Or.inl rfl)); (exact Or.inr rfl); (iterate 4 (with_reducible exact Or.inl rfl)); (exact Or.inr rfl); (iterate 7 (with_reducible exact Or.inl rfl)); (with_reducible exact rfl); (with_reducible exact rfl))

theorem holdSample_keeps (s : State) (foff : Int) :
    Keeps [.csr, .rcu] s (holdSample s foff) := by
  unfold holdSample
  repeat' first
    | with_reducible apply Keeps.refl
    | with_reducible assumption
    | with_reducible apply Keeps.ite
    | ((with_reducible apply Keeps.step (stick_keeps ..)); exact rfl)
    | ((with_reducible apply Keeps.step (setF_keeps ..)); exact rfl)
    | intro _
    | split
    | dsimp only
    | ((try with_reducible conv => arg 3; whnf); (with_reducible apply Keeps.upd); (with_reducible exact Or.inl rfl); (exact Or.inr rfl); (iterate 12 (with_reducible exact Or.inl rfl)); (exact Or.inr rfl); (iterate 7 (with_reducible exact Or.inl rfl)); (with_reducible exact rfl); (with_reducible exact rfl))

theorem rcuCtlWrite_keeps (s : State) (v : Word) :
    Keeps [.csr, .hr, .rcu] s (rcuCtlWrite s v).1 := by
  unfold rcuCtlWrite
  repeat' first
    | with_reducible apply Keeps.refl
    | with_reducible assumption
    | with_reducible apply Keeps.ite
    | with_reducible apply Keeps.ite_p1
    | with_reducible apply Keeps.ite_p2
    | with_reducible apply Keeps.ite_p22
    | with_reducible apply Keeps.ite_p222
    | ((with_reducible apply Keeps.step (discord_keeps ..)); exact rfl)
    | ((with_reducible apply Keeps.step (reselect_keeps ..)); exact rfl)
    | ((with_reducible apply Keeps.step (csrWrite_keeps ..)); exact rfl)
    | ((with_reducible apply Keeps.step (stick_keeps ..)); exact rfl)
    | ((with_reducible apply Keeps.step (setF_keeps ..)); exact rfl)
    | intro _
    | split
    | dsimp only
    | ((try with_reducible conv => arg 3; whnf); (with_reducible apply Keeps.upd); (with_reducible exact Or.inl rfl); (exact Or.inr rfl); (iterate 7 (with_reducible exact Or.inl rfl)); (exact Or.inr rfl); (iterate 4 (with_reducible exact Or.inl rfl)); (exact Or.inr rfl); (iterate 7 (with_reducible exact Or.inl rfl)); (with_reducible exact rfl); (with_reducible exact rfl))

theorem rcuRelocked_keeps (s : State) :
    Keeps [.csr, .freeCtr, .hr, .rcu] s (rcuRelocked s) := by
  unfold rcuRelocked
  repeat' first
    | with_reducible apply Keeps.refl
    | with_reducible assumption
    | with_reducible apply Keeps.ite
    | with_reducible apply Keeps.foldl
    | with_reducible apply Keeps.foldl_fst
    | with_reducible apply Keeps.foldl_snd
    | with_reducible apply Keeps.foldl_snd2
    | ((with_reducible apply Keeps.step (wckInput_keeps ..)); exact rfl)
    | ((with_reducible apply Keeps.step (wckJudge_keeps ..)); exact rfl)
    | ((with_reducible apply Keeps.step (disqualify_keeps ..)); exact rfl)
    | ((with_reducible apply Keeps.step (discord_keeps ..)); exact rfl)
    | ((with_reducible apply Keeps.step (enterDpll_keeps ..)); exact rfl)
    | ((with_reducible apply Keeps.step (stick_keeps ..)); exact rfl)
    | ((with_reducible apply Keeps.step (setF_keeps ..)); exact rfl)
    | intro _
    | split
    | dsimp only
    | ((try with_reducible conv => arg 3; whnf); (with_reducible apply Keeps.upd); (with_reducible exact Or.inl rfl); (exact Or.inr rfl); (with_reducible exact Or.inl rfl); (exact Or.inr rfl); (iterate 5 (with_reducible exact Or.inl rfl)); (exact Or.inr rfl); (iterate 4 (with_reducible exact Or.inl rfl)); (exact Or.inr rfl); (iterate 7 (with_reducible exact Or.inl rfl)); (with_reducible exact rfl); (with_reducible exact rfl))

end Sys2Proof.Machine
end

