-- ==== Sys2Proof/Laws/KeepReply.lean ====
section
/-! SUPPORT. What each operation of Machine/Reply.lean may change. -/
namespace Sys2Proof.Machine

theorem sendOut_keeps (s : State) (dst : Endpoint) (bytes : List Nat) :
    Keeps [.hr] s (sendOut s dst bytes) := by
  unfold sendOut
  repeat' first
    | with_reducible apply Keeps.refl
    | with_reducible assumption
    | with_reducible apply Keeps.ite
    | intro _
    | split
    | dsimp only
    | ((try with_reducible conv => arg 3; whnf); (with_reducible apply Keeps.upd); (iterate 9 (with_reducible exact Or.inl rfl)); (exact Or.inr rfl); (iterate 12 (with_reducible exact Or.inl rfl)); (with_reducible exact rfl); (with_reducible exact rfl))

theorem sendAck_keeps (s : State) (dst : Endpoint) (session cls : Nat) (a : AckRec) (replayed : Bool) :
    Keeps [.hr] s (sendAck s dst session cls a replayed) := by
  unfold sendAck
  repeat' first
    | with_reducible apply Keeps.refl
    | with_reducible assumption
    | with_reducible apply Keeps.ite
    | ((with_reducible apply Keeps.step (sendOut_keeps ..)); exact rfl)
    | intro _
    | split
    | dsimp only
    | ((try with_reducible conv => arg 3; whnf); (with_reducible apply Keeps.upd); (iterate 9 (with_reducible exact Or.inl rfl)); (exact Or.inr rfl); (iterate 12 (with_reducible exact Or.inl rfl)); (with_reducible exact rfl); (with_reducible exact rfl))

theorem sendNak_keeps (s : State) (h : Hdr) (code detail expected : Nat) :
    Keeps [.csr, .hr] s (sendNak s h code detail expected) := by
  unfold sendNak
  repeat' first
    | with_reducible apply Keeps.refl
    | with_reducible assumption
    | with_reducible apply Keeps.ite
    | ((with_reducible apply Keeps.step (sendOut_keeps ..)); exact rfl)
    | ((with_reducible apply Keeps.step (count_keeps ..)); exact rfl)
    | ((with_reducible apply Keeps.step (stick_keeps ..)); exact rfl)
    | ((with_reducible apply Keeps.step (setF_keeps ..)); exact rfl)
    | intro _
    | split
    | dsimp only
    | ((try with_reducible conv => arg 3; whnf); (with_reducible apply Keeps.upd); (with_reducible exact Or.inl rfl); (exact Or.inr rfl); (iterate 7 (with_reducible exact Or.inl rfl)); (exact Or.inr rfl); (iterate 12 (with_reducible exact Or.inl rfl)); (with_reducible exact rfl); (with_reducible exact rfl))

theorem nak_keeps (s : State) (h : Hdr) (code detail : Nat) :
    Keeps [.csr, .freeCtr, .hr] s (nak s h code detail) := by
  unfold nak
  repeat' first
    | with_reducible apply Keeps.refl
    | with_reducible assumption
    | with_reducible apply Keeps.ite
    | with_reducible apply Keeps.ite_p1
    | with_reducible apply Keeps.ite_p2
    | with_reducible apply Keeps.ite_p22
    | with_reducible apply Keeps.ite_p222
    | ((with_reducible apply Keeps.step (sendNak_keeps ..)); exact rfl)
    | ((with_reducible apply Keeps.step (freshFree_keeps ..)); exact rfl)
    | intro _
    | split
    | dsimp only
    | ((try with_reducible conv => arg 3; whnf); (with_reducible apply Keeps.upd); (with_reducible exact Or.inl rfl); (exact Or.inr rfl); (with_reducible exact Or.inl rfl); (exact Or.inr rfl); (iterate 5 (with_reducible exact Or.inl rfl)); (exact Or.inr rfl); (iterate 12 (with_reducible exact Or.inl rfl)); (with_reducible exact rfl); (with_reducible exact rfl))

theorem rxSump_keeps (s : State) :
    Keeps [.csr] s (rxSump s) := by
  unfold rxSump
  repeat' first
    | with_reducible apply Keeps.refl
    | with_reducible assumption
    | with_reducible apply Keeps.ite
    | ((with_reducible apply Keeps.step (count_keeps ..)); exact rfl)
    | ((with_reducible apply Keeps.step (stick_keeps ..)); exact rfl)
    | intro _
    | split
    | dsimp only
    | ((try with_reducible conv => arg 3; whnf); (with_reducible apply Keeps.upd); (with_reducible exact Or.inl rfl); (exact Or.inr rfl); (iterate 20 (with_reducible exact Or.inl rfl)); (with_reducible exact rfl); (with_reducible exact rfl))

theorem nakBusy_keeps (s : State) (h : Hdr) :
    Keeps [.csr, .freeCtr, .hr] s (nakBusy s h) := by
  unfold nakBusy
  repeat' first
    | with_reducible apply Keeps.refl
    | with_reducible assumption
    | with_reducible apply Keeps.ite
    | ((with_reducible apply Keeps.step (nak_keeps ..)); exact rfl)
    | ((with_reducible apply Keeps.step (count_keeps ..)); exact rfl)
    | ((with_reducible apply Keeps.step (stick_keeps ..)); exact rfl)
    | intro _
    | split
    | dsimp only
    | ((try with_reducible conv => arg 3; whnf); (with_reducible apply Keeps.upd); (with_reducible exact Or.inl rfl); (exact Or.inr rfl); (with_reducible exact Or.inl rfl); (exact Or.inr rfl); (iterate 5 (with_reducible exact Or.inl rfl)); (exact Or.inr rfl); (iterate 12 (with_reducible exact Or.inl rfl)); (with_reducible exact rfl); (with_reducible exact rfl))

theorem queueRx_keeps (s : State) (src : Endpoint) (m : List Nat) :
    Keeps [.csr, .freeCtr, .hr] s (queueRx s src m) := by
  unfold queueRx
  repeat' first
    | with_reducible apply Keeps.refl
    | with_reducible assumption
    | with_reducible apply Keeps.ite
    | ((with_reducible apply Keeps.step (nakBusy_keeps ..)); exact rfl)
    | ((with_reducible apply Keeps.step (rxSump_keeps ..)); exact rfl)
    | intro _
    | split
    | dsimp only
    | ((try with_reducible conv => arg 3; whnf); (with_reducible apply Keeps.upd); (with_reducible exact Or.inl rfl); (exact Or.inr rfl); (with_reducible exact Or.inl rfl); (exact Or.inr rfl); (iterate 5 (with_reducible exact Or.inl rfl)); (exact Or.inr rfl); (iterate 12 (with_reducible exact Or.inl rfl)); (with_reducible exact rfl); (with_reducible exact rfl))

theorem sendWaiting_keeps (s : State) (w : WaitAck) (unmirrored : Bool) :
    Keeps [.csr, .hr] s (sendWaiting s w unmirrored) := by
  unfold sendWaiting
  repeat' first
    | with_reducible apply Keeps.refl
    | with_reducible assumption
    | with_reducible apply Keeps.ite
    | with_reducible apply Keeps.foldl
    | with_reducible apply Keeps.foldl_fst
    | with_reducible apply Keeps.foldl_snd
    | with_reducible apply Keeps.foldl_snd2
    | ((with_reducible apply Keeps.step (sendAck_keeps ..)); exact rfl)
    | ((with_reducible apply Keeps.step (putSession_keeps ..)); exact rfl)
    | ((with_reducible apply Keeps.step (count_keeps ..)); exact rfl)
    | intro _
    | split
    | dsimp only
    | ((try with_reducible conv => arg 3; whnf); (with_reducible apply Keeps.upd); (with_reducible exact Or.inl rfl); (exact Or.inr rfl); (iterate 7 (with_reducible exact Or.inl rfl)); (exact Or.inr rfl); (iterate 12 (with_reducible exact Or.inl rfl)); (with_reducible exact rfl); (with_reducible exact rfl))

theorem urgentReceived_keeps (s : State) (p : Nat → Bool) :
    Keeps [.csr, .freeCtr, .slu] s (urgentReceived s p) := by
  unfold urgentReceived
  repeat' first
    | with_reducible apply Keeps.refl
    | with_reducible assumption
    | with_reducible apply Keeps.ite
    | with_reducible apply Keeps.ite_p1
    | with_reducible apply Keeps.ite_p2
    | with_reducible apply Keeps.ite_p22
    | with_reducible apply Keeps.ite_p222
    | ((with_reducible apply Keeps.step (freshFree_keeps ..)); exact rfl)
    | ((with_reducible apply Keeps.step (setF_keeps ..)); exact rfl)
    | intro _
    | split
    | dsimp only
    | ((try with_reducible conv => arg 3; whnf); (with_reducible apply Keeps.upd); (with_reducible exact Or.inl rfl); (exact Or.inr rfl); (with_reducible exact Or.inl rfl); (exact Or.inr rfl); (iterate 4 (with_reducible exact Or.inl rfl)); (exact Or.inr rfl); (iterate 13 (with_reducible exact Or.inl rfl)); (with_reducible exact rfl); (with_reducible exact rfl))

theorem urgentInTime_keeps (s : State) (jpos : Nat) :
    Keeps [.csr, .freeCtr, .slu] s (urgentInTime s jpos) := by
  unfold urgentInTime
  repeat' first
    | with_reducible apply Keeps.refl
    | with_reducible assumption
    | with_reducible apply Keeps.ite
    | with_reducible apply Keeps.ite_p1
    | with_reducible apply Keeps.ite_p2
    | with_reducible apply Keeps.ite_p22
    | with_reducible apply Keeps.ite_p222
    | ((with_reducible apply Keeps.step (freshFree_keeps ..)); exact rfl)
    | ((with_reducible apply Keeps.step (setF_keeps ..)); exact rfl)
    | intro _
    | split
    | dsimp only
    | ((try with_reducible conv => arg 3; whnf); (with_reducible apply Keeps.upd); (with_reducible exact Or.inl rfl); (exact Or.inr rfl); (with_reducible exact Or.inl rfl); (exact Or.inr rfl); (iterate 4 (with_reducible exact Or.inl rfl)); (exact Or.inr rfl); (iterate 13 (with_reducible exact Or.inl rfl)); (with_reducible exact rfl); (with_reducible exact rfl))

theorem flushWaiting_keeps (s : State) :
    Keeps [.csr, .freeCtr, .slu, .hr] s (flushWaiting s) := by
  unfold flushWaiting
  repeat' first
    | with_reducible apply Keeps.refl
    | with_reducible assumption
    | with_reducible apply Keeps.ite
    | with_reducible apply Keeps.foldl
    | with_reducible apply Keeps.foldl_fst
    | with_reducible apply Keeps.foldl_snd
    | with_reducible apply Keeps.foldl_snd2
    | ((with_reducible apply Keeps.step (urgentReceived_keeps ..)); exact rfl)
    | ((with_reducible apply Keeps.step (sendWaiting_keeps ..)); exact rfl)
    | intro _
    | split
    | dsimp only
    | ((try with_reducible conv => arg 3; whnf); (with_reducible apply Keeps.upd); (with_reducible exact Or.inl rfl); (exact Or.inr rfl); (with_reducible exact Or.inl rfl); (exact Or.inr rfl); (iterate 4 (with_reducible exact Or.inl rfl)); (iterate 2 (exact Or.inr rfl)); (iterate 12 (with_reducible exact Or.inl rfl)); (with_reducible exact rfl); (with_reducible exact rfl))

theorem ackUpTo_keeps (s : State) (jpos : Nat) :
    Keeps [.csr, .freeCtr, .slu, .hr] s (ackUpTo s jpos) := by
  unfold ackUpTo
  repeat' first
    | with_reducible apply Keeps.refl
    | with_reducible assumption
    | with_reducible apply Keeps.ite
    | with_reducible apply Keeps.foldl
    | with_reducible apply Keeps.foldl_fst
    | with_reducible apply Keeps.foldl_snd
    | with_reducible apply Keeps.foldl_snd2
    | ((with_reducible apply Keeps.step (urgentReceived_keeps ..)); exact rfl)
    | ((with_reducible apply Keeps.step (sendWaiting_keeps ..)); exact rfl)
    | intro _
    | split
    | dsimp only
    | ((try with_reducible conv => arg 3; whnf); (with_reducible apply Keeps.upd); (with_reducible exact Or.inl rfl); (exact Or.inr rfl); (with_reducible exact Or.inl rfl); (exact Or.inr rfl); (iterate 4 (with_reducible exact Or.inl rfl)); (iterate 2 (exact Or.inr rfl)); (iterate 12 (with_reducible exact Or.inl rfl)); (with_reducible exact rfl); (with_reducible exact rfl))

theorem popEvent_keeps {s : State} {k : Nat} {r : List Nat × State} (h : popEvent s k = some r) : Keeps [.hr] s r.2 := by
  unfold popEvent at h
  dsimp only at h
  split at h
  · cases h
  · cases h; exact putSession_keeps ..

end Sys2Proof.Machine
end

