-- ==== Sys2Proof/Laws/KeepRoles.lean ====
section
/-! SUPPORT. What each operation of Machine/Roles.lean may change. -/
namespace Sys2Proof.Machine

theorem setRoleAct_keeps (s : State) (b : Bool) :
    Keeps [.csr, .flood, .redun] s (setRoleAct s b) := by
  unfold setRoleAct
  repeat' first
    | with_reducible apply Keeps.refl
    | with_reducible assumption
    | with_reducible apply Keeps.ite
    | ((with_reducible apply Keeps.step (stick_keeps ..)); exact rfl)
    | intro _
    | split
    | dsimp only
    | ((try with_reducible conv => arg 3; whnf); (with_reducible apply Keeps.upd); (with_reducible exact Or.inl rfl); (exact Or.inr rfl); (iterate 5 (with_reducible exact Or.inl rfl)); (exact Or.inr rfl); (iterate 7 (with_reducible exact Or.inl rfl)); (exact Or.inr rfl); (iterate 6 (with_reducible exact Or.inl rfl)); (with_reducible exact rfl); (with_reducible exact rfl))

theorem enterRole_keeps (s : State) (r : Nat) :
    Keeps [.csr, .redun] s (enterRole s r) := by
  unfold enterRole
  repeat' first
    | with_reducible apply Keeps.refl
    | with_reducible assumption
    | with_reducible apply Keeps.ite
    | ((with_reducible apply Keeps.step (stick_keeps ..)); exact rfl)
    | intro _
    | split
    | dsimp only
    | ((try with_reducible conv => arg 3; whnf); (with_reducible apply Keeps.upd); (with_reducible exact Or.inl rfl); (exact Or.inr rfl); (iterate 13 (with_reducible exact Or.inl rfl)); (exact Or.inr rfl); (iterate 6 (with_reducible exact Or.inl rfl)); (with_reducible exact rfl); (with_reducible exact rfl))

theorem roleFollows_keeps (s : State) :
    Keeps [.csr, .hr, .rcu] s (roleFollows s) := by
  unfold roleFollows
  repeat' first
    | with_reducible apply Keeps.refl
    | with_reducible assumption
    | with_reducible apply Keeps.ite
    | ((with_reducible apply Keeps.step (discord_keeps ..)); exact rfl)
    | ((with_reducible apply Keeps.step (reselect_keeps ..)); exact rfl)
    | intro _
    | split
    | dsimp only
    | ((try with_reducible conv => arg 3; whnf); (with_reducible apply Keeps.upd); (with_reducible exact Or.inl rfl); (exact Or.inr rfl); (iterate 7 (with_reducible exact Or.inl rfl)); (exact Or.inr rfl); (iterate 4 (with_reducible exact Or.inl rfl)); (exact Or.inr rfl); (iterate 7 (with_reducible exact Or.inl rfl)); (with_reducible exact rfl); (with_reducible exact rfl))

theorem setRole_keeps (s : State) (r : Nat) :
    Keeps [.csr, .hr, .rcu, .redun] s (setRole s r) := by
  unfold setRole
  repeat' first
    | with_reducible apply Keeps.refl
    | with_reducible assumption
    | with_reducible apply Keeps.ite
    | ((with_reducible apply Keeps.step (roleFollows_keeps ..)); exact rfl)
    | ((with_reducible apply Keeps.step (enterRole_keeps ..)); exact rfl)
    | intro _
    | split
    | dsimp only
    | ((try with_reducible conv => arg 3; whnf); (with_reducible apply Keeps.upd); (with_reducible exact Or.inl rfl); (exact Or.inr rfl); (iterate 7 (with_reducible exact Or.inl rfl)); (exact Or.inr rfl); (iterate 4 (with_reducible exact Or.inl rfl)); (iterate 2 (exact Or.inr rfl)); (iterate 6 (with_reducible exact Or.inl rfl)); (with_reducible exact rfl); (with_reducible exact rfl))

theorem sendRole_keeps (s : State) (cause : Nat) :
    Keeps [.csr, .hr] s (sendRole s cause) := by
  unfold sendRole
  repeat' first
    | with_reducible apply Keeps.refl
    | with_reducible assumption
    | with_reducible apply Keeps.ite
    | ((with_reducible apply Keeps.step (sendEvent_keeps ..)); exact rfl)
    | intro _
    | split
    | dsimp only
    | ((try with_reducible conv => arg 3; whnf); (with_reducible apply Keeps.upd); (with_reducible exact Or.inl rfl); (exact Or.inr rfl); (iterate 7 (with_reducible exact Or.inl rfl)); (exact Or.inr rfl); (iterate 12 (with_reducible exact Or.inl rfl)); (with_reducible exact rfl); (with_reducible exact rfl))

theorem dropSync_keeps (s : State) (sync reason : Nat) :
    Keeps [.csr, .freeCtr, .slu, .hr, .redun] s (dropSync s sync reason) := by
  unfold dropSync
  repeat' first
    | with_reducible apply Keeps.refl
    | with_reducible assumption
    | with_reducible apply Keeps.ite
    | ((with_reducible apply Keeps.step (flushWaiting_keeps ..)); exact rfl)
    | ((with_reducible apply Keeps.step (stick_keeps ..)); exact rfl)
    | ((with_reducible apply Keeps.step (setF_keeps ..)); exact rfl)
    | intro _
    | split
    | dsimp only
    | ((try with_reducible conv => arg 3; whnf); (with_reducible apply Keeps.upd); (with_reducible exact Or.inl rfl); (exact Or.inr rfl); (with_reducible exact Or.inl rfl); (exact Or.inr rfl); (iterate 4 (with_reducible exact Or.inl rfl)); (iterate 2 (exact Or.inr rfl)); (iterate 5 (with_reducible exact Or.inl rfl)); (exact Or.inr rfl); (iterate 6 (with_reducible exact Or.inl rfl)); (with_reducible exact rfl); (with_reducible exact rfl))

theorem leaveSynced_keeps (s : State) (reason : Nat) :
    Keeps [.csr, .freeCtr, .slu, .hr, .redun] s (leaveSynced s reason) := by
  unfold leaveSynced
  repeat' first
    | with_reducible apply Keeps.refl
    | with_reducible assumption
    | with_reducible apply Keeps.ite
    | ((with_reducible apply Keeps.step (dropSync_keeps ..)); exact rfl)
    | intro _
    | split
    | dsimp only
    | ((try with_reducible conv => arg 3; whnf); (with_reducible apply Keeps.upd); (with_reducible exact Or.inl rfl); (exact Or.inr rfl); (with_reducible exact Or.inl rfl); (exact Or.inr rfl); (iterate 4 (with_reducible exact Or.inl rfl)); (iterate 2 (exact Or.inr rfl)); (iterate 5 (with_reducible exact Or.inl rfl)); (exact Or.inr rfl); (iterate 6 (with_reducible exact Or.inl rfl)); (with_reducible exact rfl); (with_reducible exact rfl))

theorem resyncFail_keeps (s : State) :
    Keeps [.csr, .freeCtr, .slu, .hr, .redun] s (resyncFail s) := by
  unfold resyncFail
  repeat' first
    | with_reducible apply Keeps.refl
    | with_reducible assumption
    | with_reducible apply Keeps.ite
    | ((with_reducible apply Keeps.step (dropSync_keeps ..)); exact rfl)
    | ((with_reducible apply Keeps.step (stick_keeps ..)); exact rfl)
    | intro _
    | split
    | dsimp only
    | ((try with_reducible conv => arg 3; whnf); (with_reducible apply Keeps.upd); (with_reducible exact Or.inl rfl); (exact Or.inr rfl); (with_reducible exact Or.inl rfl); (exact Or.inr rfl); (iterate 4 (with_reducible exact Or.inl rfl)); (iterate 2 (exact Or.inr rfl)); (iterate 5 (with_reducible exact Or.inl rfl)); (exact Or.inr rfl); (iterate 6 (with_reducible exact Or.inl rfl)); (with_reducible exact rfl); (with_reducible exact rfl))

theorem halt_keeps (s : State) :
    Keeps [.csr, .freeCtr, .flood, .slu, .hr, .rcu, .redun] s (halt s) := by
  unfold halt
  repeat' first
    | with_reducible apply Keeps.refl
    | with_reducible assumption
    | with_reducible apply Keeps.ite
    | ((with_reducible apply Keeps.step (resyncFail_keeps ..)); exact rfl)
    | ((with_reducible apply Keeps.step (leaveSynced_keeps ..)); exact rfl)
    | ((with_reducible apply Keeps.step (setRole_keeps ..)); exact rfl)
    | ((with_reducible apply Keeps.step (setRoleAct_keeps ..)); exact rfl)
    | intro _
    | split
    | dsimp only
    | ((try with_reducible conv => arg 3; whnf); (with_reducible apply Keeps.upd); (with_reducible exact Or.inl rfl); (exact Or.inr rfl); (with_reducible exact Or.inl rfl); (exact Or.inr rfl); (iterate 3 (with_reducible exact Or.inl rfl)); (iterate 3 (exact Or.inr rfl)); (iterate 4 (with_reducible exact Or.inl rfl)); (iterate 2 (exact Or.inr rfl)); (iterate 6 (with_reducible exact Or.inl rfl)); (with_reducible exact rfl); (with_reducible exact rfl))

theorem fatalFault_keeps (s : State) (cause : Fld) :
    Keeps [.csr, .freeCtr, .flood, .slu, .hr, .cv, .rcu, .redun] s (fatalFault s cause) := by
  unfold fatalFault
  repeat' first
    | with_reducible apply Keeps.refl
    | with_reducible assumption
    | with_reducible apply Keeps.ite
    | ((with_reducible apply Keeps.step (halt_keeps ..)); exact rfl)
    | ((with_reducible apply Keeps.step (cvRevert_keeps ..)); exact rfl)
    | ((with_reducible apply Keeps.step (stick_keeps ..)); exact rfl)
    | intro _
    | split
    | dsimp only
    | ((try with_reducible conv => arg 3; whnf); (with_reducible apply Keeps.upd); (with_reducible exact Or.inl rfl); (exact Or.inr rfl); (with_reducible exact Or.inl rfl); (exact Or.inr rfl); (iterate 3 (with_reducible exact Or.inl rfl)); (iterate 3 (exact Or.inr rfl)); (with_reducible exact Or.inl rfl); (exact Or.inr rfl); (iterate 2 (with_reducible exact Or.inl rfl)); (iterate 2 (exact Or.inr rfl)); (iterate 6 (with_reducible exact Or.inl rfl)); (with_reducible exact rfl); (with_reducible exact rfl))

theorem loneRole_keeps (s : State) :
    Keeps [.csr, .flood, .redun] s (loneRole s) := by
  unfold loneRole
  repeat' first
    | with_reducible apply Keeps.refl
    | with_reducible assumption
    | with_reducible apply Keeps.ite
    | ((with_reducible apply Keeps.step (setRoleAct_keeps ..)); exact rfl)
    | intro _
    | split
    | dsimp only
    | ((try with_reducible conv => arg 3; whnf); (with_reducible apply Keeps.upd); (with_reducible exact Or.inl rfl); (exact Or.inr rfl); (iterate 5 (with_reducible exact Or.inl rfl)); (exact Or.inr rfl); (iterate 7 (with_reducible exact Or.inl rfl)); (exact Or.inr rfl); (iterate 6 (with_reducible exact Or.inl rfl)); (with_reducible exact rfl); (with_reducible exact rfl))

end Sys2Proof.Machine
end

