-- ==== Sys2Proof/Laws/KeepMemory.lean ====
section
/-! SUPPORT. What each operation of Machine/Memory.lean may change. -/
namespace Sys2Proof.Machine

theorem xbarRefuse_keeps (s : State) (target master : Nat) (write : Bool) :
    Keeps [.csr] s (xbarRefuse s target master write) := by
  unfold xbarRefuse
  repeat' first
    | with_reducible apply Keeps.refl
    | with_reducible assumption
    | with_reducible apply Keeps.ite
    | ((with_reducible apply Keeps.step (count_keeps ..)); exact rfl)
    | ((with_reducible apply Keeps.step (stick_keeps ..)); exact rfl)
    | ((with_reducible apply Keeps.step (setF_keeps ..)); exact rfl)
    | intro _
    | split
    | dsimp only
    | ((try with_reducible conv => arg 3; whnf); (with_reducible apply Keeps.upd); (with_reducible exact Or.inl rfl); (exact Or.inr rfl); (iterate 20 (with_reducible exact Or.inl rfl)); (with_reducible exact rfl); (with_reducible exact rfl))

theorem ownRefuse_keeps (s : State) (bank master : Nat) (onB write : Bool) :
    Keeps [.csr] s (ownRefuse s bank master onB write) := by
  unfold ownRefuse
  repeat' first
    | with_reducible apply Keeps.refl
    | with_reducible assumption
    | with_reducible apply Keeps.ite
    | ((with_reducible apply Keeps.step (count_keeps ..)); exact rfl)
    | ((with_reducible apply Keeps.step (stick_keeps ..)); exact rfl)
    | ((with_reducible apply Keeps.step (setF_keeps ..)); exact rfl)
    | intro _
    | split
    | dsimp only
    | ((try with_reducible conv => arg 3; whnf); (with_reducible apply Keeps.upd); (with_reducible exact Or.inl rfl); (exact Or.inr rfl); (iterate 20 (with_reducible exact Or.inl rfl)); (with_reducible exact rfl); (with_reducible exact rfl))

theorem eccPend_keeps (s : State) (w : Nat) :
    Keeps [.bus] s (eccPend s w) := by
  unfold eccPend
  repeat' first
    | with_reducible apply Keeps.refl
    | with_reducible assumption
    | with_reducible apply Keeps.ite
    | intro _
    | split
    | dsimp only
    | ((try with_reducible conv => arg 3; whnf); (with_reducible apply Keeps.upd); (iterate 12 (with_reducible exact Or.inl rfl)); (exact Or.inr rfl); (iterate 9 (with_reducible exact Or.inl rfl)); (with_reducible exact rfl); (with_reducible exact rfl))

theorem eccTouch_keeps (scrub : Bool) (s : State) (w : Nat) :
    Keeps [.csr, .freeCtr, .flood, .slu, .hr, .cv, .bus, .rcu, .redun] s (eccTouch scrub s w) := by
  unfold eccTouch
  repeat' first
    | with_reducible apply Keeps.refl
    | with_reducible assumption
    | with_reducible apply Keeps.ite
    | ((with_reducible apply Keeps.step (eccPend_keeps ..)); exact rfl)
    | ((with_reducible apply Keeps.step (fatalFault_keeps ..)); exact rfl)
    | ((with_reducible apply Keeps.step (count_keeps ..)); exact rfl)
    | ((with_reducible apply Keeps.step (stick_keeps ..)); exact rfl)
    | ((with_reducible apply Keeps.step (setF_keeps ..)); exact rfl)
    | intro _
    | split
    | dsimp only
    | ((try with_reducible conv => arg 3; whnf); (with_reducible apply Keeps.upd); (with_reducible exact Or.inl rfl); (exact Or.inr rfl); (with_reducible exact Or.inl rfl); (exact Or.inr rfl); (iterate 3 (with_reducible exact Or.inl rfl)); (iterate 3 (exact Or.inr rfl)); (with_reducible exact Or.inl rfl); (iterate 2 (exact Or.inr rfl)); (with_reducible exact Or.inl rfl); (iterate 2 (exact Or.inr rfl)); (iterate 6 (with_reducible exact Or.inl rfl)); (with_reducible exact rfl); (with_reducible exact rfl))

theorem eccRead_keeps (s : State) (a n : Nat) :
    Keeps [.csr, .freeCtr, .flood, .slu, .hr, .cv, .bus, .rcu, .redun] s (eccRead s a n).2.2 := by
  unfold eccRead
  repeat' first
    | with_reducible apply Keeps.refl
    | with_reducible assumption
    | with_reducible apply Keeps.ite
    | with_reducible apply Keeps.ite_p1
    | with_reducible apply Keeps.ite_p2
    | with_reducible apply Keeps.ite_p22
    | with_reducible apply Keeps.ite_p222
    | with_reducible apply Keeps.foldl
    | with_reducible apply Keeps.foldl_fst
    | with_reducible apply Keeps.foldl_snd
    | with_reducible apply Keeps.foldl_snd2
    | ((with_reducible apply Keeps.step (eccTouch_keeps ..)); exact rfl)
    | intro _
    | split
    | dsimp only
    | ((try with_reducible conv => arg 3; whnf); (with_reducible apply Keeps.upd); (with_reducible exact Or.inl rfl); (exact Or.inr rfl); (with_reducible exact Or.inl rfl); (exact Or.inr rfl); (iterate 3 (with_reducible exact Or.inl rfl)); (iterate 3 (exact Or.inr rfl)); (with_reducible exact Or.inl rfl); (iterate 2 (exact Or.inr rfl)); (with_reducible exact Or.inl rfl); (iterate 2 (exact Or.inr rfl)); (iterate 6 (with_reducible exact Or.inl rfl)); (with_reducible exact rfl); (with_reducible exact rfl))

theorem eccWrite_keeps (s : State) (a : Nat) (data : List Nat) :
    Keeps [.csr, .mem, .freeCtr, .flood, .slu, .hr, .cv, .bus, .rcu, .redun] s (eccWrite s a data) := by
  unfold eccWrite
  repeat' first
    | with_reducible apply Keeps.refl
    | with_reducible assumption
    | with_reducible apply Keeps.ite
    | with_reducible apply Keeps.foldl
    | with_reducible apply Keeps.foldl_fst
    | with_reducible apply Keeps.foldl_snd
    | with_reducible apply Keeps.foldl_snd2
    | ((with_reducible apply Keeps.step (eccTouch_keeps ..)); exact rfl)
    | ((with_reducible apply Keeps.step (writeBytes_keeps ..)); exact rfl)
    | intro _
    | split
    | dsimp only
    | ((try with_reducible conv => arg 3; whnf); (with_reducible apply Keeps.upd); (with_reducible exact Or.inl rfl); (iterate 3 (exact Or.inr rfl)); (iterate 3 (with_reducible exact Or.inl rfl)); (iterate 3 (exact Or.inr rfl)); (with_reducible exact Or.inl rfl); (iterate 2 (exact Or.inr rfl)); (with_reducible exact Or.inl rfl); (iterate 2 (exact Or.inr rfl)); (iterate 6 (with_reducible exact Or.inl rfl)); (with_reducible exact rfl); (with_reducible exact rfl))

theorem refuseAt_keeps (s : State) (m a : Nat) (write : Bool) :
    Keeps [.csr] s (refuseAt s m a write) := by
  unfold refuseAt
  repeat' first
    | with_reducible apply Keeps.refl
    | with_reducible assumption
    | with_reducible apply Keeps.ite
    | ((with_reducible apply Keeps.step (ownRefuse_keeps ..)); exact rfl)
    | intro _
    | split
    | dsimp only
    | ((try with_reducible conv => arg 3; whnf); (with_reducible apply Keeps.upd); (with_reducible exact Or.inl rfl); (exact Or.inr rfl); (iterate 20 (with_reducible exact Or.inl rfl)); (with_reducible exact rfl); (with_reducible exact rfl))

theorem engineWrite_keeps (s : State) (m a : Nat) (data : List Nat) :
    Keeps [.csr, .mem, .freeCtr, .flood, .slu, .hr, .cv, .bus, .rcu, .redun] s (engineWrite s m a data) := by
  unfold engineWrite
  repeat' first
    | with_reducible apply Keeps.refl
    | with_reducible assumption
    | with_reducible apply Keeps.ite
    | with_reducible apply Keeps.foldl
    | ((with_reducible apply Keeps.step (refuseAt_keeps ..)); exact rfl)
    | ((with_reducible apply Keeps.step (eccWrite_keeps ..)); exact rfl)
    | intro _
    | split
    | dsimp only
    | ((try with_reducible conv => arg 3; whnf); (with_reducible apply Keeps.upd); (with_reducible exact Or.inl rfl); (iterate 3 (exact Or.inr rfl)); (iterate 3 (with_reducible exact Or.inl rfl)); (iterate 3 (exact Or.inr rfl)); (with_reducible exact Or.inl rfl); (iterate 2 (exact Or.inr rfl)); (with_reducible exact Or.inl rfl); (iterate 2 (exact Or.inr rfl)); (iterate 6 (with_reducible exact Or.inl rfl)); (with_reducible exact rfl); (with_reducible exact rfl))

theorem scanRange_keeps (s : State) (m a n : Nat) :
    Keeps [.csr, .freeCtr, .flood, .slu, .hr, .cv, .bus, .rcu, .redun] s (scanRange s m a n) := by
  unfold scanRange
  repeat' first
    | with_reducible apply Keeps.refl
    | with_reducible assumption
    | with_reducible apply Keeps.ite
    | with_reducible apply Keeps.foldl
    | ((with_reducible apply Keeps.step (refuseAt_keeps ..)); exact rfl)
    | ((with_reducible apply Keeps.step (eccTouch_keeps ..)); exact rfl)
    | intro _
    | split
    | dsimp only
    | ((try with_reducible conv => arg 3; whnf); (with_reducible apply Keeps.upd); (with_reducible exact Or.inl rfl); (exact Or.inr rfl); (with_reducible exact Or.inl rfl); (exact Or.inr rfl); (iterate 3 (with_reducible exact Or.inl rfl)); (iterate 3 (exact Or.inr rfl)); (with_reducible exact Or.inl rfl); (iterate 2 (exact Or.inr rfl)); (with_reducible exact Or.inl rfl); (iterate 2 (exact Or.inr rfl)); (iterate 6 (with_reducible exact Or.inl rfl)); (with_reducible exact rfl); (with_reducible exact rfl))

theorem pwriteBytes_keeps (s : State) (p o : Nat) (data : List Nat) :
    Keeps [.csr, .mem, .freeCtr, .flood, .slu, .hr, .cv, .bus, .rcu, .redun] s (pwriteBytes s p o data) := by
  unfold pwriteBytes
  repeat' first
    | with_reducible apply Keeps.refl
    | with_reducible assumption
    | with_reducible apply Keeps.ite
    | ((with_reducible apply Keeps.step (engineWrite_keeps ..)); exact rfl)
    | ((with_reducible apply Keeps.step (refuseAt_keeps ..)); exact rfl)
    | ((with_reducible apply Keeps.step (setCell_keeps ..)); exact rfl)
    | intro _
    | split
    | dsimp only
    | ((try with_reducible conv => arg 3; whnf); (with_reducible apply Keeps.upd); (with_reducible exact Or.inl rfl); (iterate 3 (exact Or.inr rfl)); (iterate 3 (with_reducible exact Or.inl rfl)); (iterate 3 (exact Or.inr rfl)); (with_reducible exact Or.inl rfl); (iterate 2 (exact Or.inr rfl)); (with_reducible exact Or.inl rfl); (iterate 2 (exact Or.inr rfl)); (iterate 6 (with_reducible exact Or.inl rfl)); (with_reducible exact rfl); (with_reducible exact rfl))

theorem pwriteShadow_keeps (s : State) (p v : Nat) :
    Keeps [.csr, .mem, .freeCtr, .flood, .slu, .hr, .cv, .bus, .rcu, .redun] s (pwriteShadow s p v) := by
  unfold pwriteShadow
  repeat' first
    | with_reducible apply Keeps.refl
    | with_reducible assumption
    | with_reducible apply Keeps.ite
    | ((with_reducible apply Keeps.step (pwriteBytes_keeps ..)); exact rfl)
    | intro _
    | split
    | dsimp only
    | ((try with_reducible conv => arg 3; whnf); (with_reducible apply Keeps.upd); (with_reducible exact Or.inl rfl); (iterate 3 (exact Or.inr rfl)); (iterate 3 (with_reducible exact Or.inl rfl)); (iterate 3 (exact Or.inr rfl)); (with_reducible exact Or.inl rfl); (iterate 2 (exact Or.inr rfl)); (with_reducible exact Or.inl rfl); (iterate 2 (exact Or.inr rfl)); (iterate 6 (with_reducible exact Or.inl rfl)); (with_reducible exact rfl); (with_reducible exact rfl))

theorem pwriteLive_keeps (s : State) (p v : Nat) :
    Keeps [.csr, .mem, .freeCtr, .flood, .slu, .hr, .cv, .bus, .rcu, .redun] s (pwriteLive s p v) := by
  unfold pwriteLive
  repeat' first
    | with_reducible apply Keeps.refl
    | with_reducible assumption
    | with_reducible apply Keeps.ite
    | ((with_reducible apply Keeps.step (engineWrite_keeps ..)); exact rfl)
    | intro _
    | split
    | dsimp only
    | ((try with_reducible conv => arg 3; whnf); (with_reducible apply Keeps.upd); (with_reducible exact Or.inl rfl); (iterate 3 (exact Or.inr rfl)); (iterate 3 (with_reducible exact Or.inl rfl)); (iterate 3 (exact Or.inr rfl)); (with_reducible exact Or.inl rfl); (iterate 2 (exact Or.inr rfl)); (with_reducible exact Or.inl rfl); (iterate 2 (exact Or.inr rfl)); (iterate 6 (with_reducible exact Or.inl rfl)); (with_reducible exact rfl); (with_reducible exact rfl))

theorem copyHalf_keeps (s : State) (c src : Nat) :
    Keeps [.csr, .mem, .freeCtr, .flood, .slu, .hr, .cv, .bus, .rcu, .redun] s (copyHalf s c src) := by
  unfold copyHalf
  repeat' first
    | with_reducible apply Keeps.refl
    | with_reducible assumption
    | with_reducible apply Keeps.ite
    | ((with_reducible apply Keeps.step (scanRange_keeps ..)); exact rfl)
    | ((with_reducible apply Keeps.step (engineWrite_keeps ..)); exact rfl)
    | intro _
    | split
    | dsimp only
    | ((try with_reducible conv => arg 3; whnf); (with_reducible apply Keeps.upd); (with_reducible exact Or.inl rfl); (iterate 3 (exact Or.inr rfl)); (iterate 3 (with_reducible exact Or.inl rfl)); (iterate 3 (exact Or.inr rfl)); (with_reducible exact Or.inl rfl); (iterate 2 (exact Or.inr rfl)); (with_reducible exact Or.inl rfl); (iterate 2 (exact Or.inr rfl)); (iterate 6 (with_reducible exact Or.inl rfl)); (with_reducible exact rfl); (with_reducible exact rfl))

theorem memDo_keeps (s : State) (r : BusReq) :
    Keeps [.csr, .mem, .freeCtr, .flood, .slu, .hr, .cv, .bus, .rcu, .redun] s (memDo s r).st := by
  unfold memDo
  repeat' first
    | with_reducible apply Keeps.refl
    | with_reducible assumption
    | with_reducible apply Keeps.ite
    | with_reducible apply Keeps.ite_p1
    | with_reducible apply Keeps.ite_p2
    | with_reducible apply Keeps.ite_p22
    | with_reducible apply Keeps.ite_p222
    | ((with_reducible apply Keeps.step (eccWrite_keeps ..)); exact rfl)
    | ((with_reducible apply Keeps.step (eccRead_keeps ..)); exact rfl)
    | intro _
    | split
    | dsimp only
    | ((try with_reducible conv => arg 3; whnf); (with_reducible apply Keeps.upd); (with_reducible exact Or.inl rfl); (iterate 3 (exact Or.inr rfl)); (iterate 3 (with_reducible exact Or.inl rfl)); (iterate 3 (exact Or.inr rfl)); (with_reducible exact Or.inl rfl); (iterate 2 (exact Or.inr rfl)); (with_reducible exact Or.inl rfl); (iterate 2 (exact Or.inr rfl)); (iterate 6 (with_reducible exact Or.inl rfl)); (with_reducible exact rfl); (with_reducible exact rfl))

theorem refused_keeps (s : State) (r : BusReq) (t : Nat) :
    Keeps [.csr] s (refused s r t).st := by
  unfold refused
  repeat' first
    | with_reducible apply Keeps.refl
    | with_reducible assumption
    | with_reducible apply Keeps.ite
    | ((with_reducible apply Keeps.step (xbarRefuse_keeps ..)); exact rfl)
    | intro _
    | split
    | dsimp only
    | ((try with_reducible conv => arg 3; whnf); (with_reducible apply Keeps.upd); (with_reducible exact Or.inl rfl); (exact Or.inr rfl); (iterate 20 (with_reducible exact Or.inl rfl)); (with_reducible exact rfl); (with_reducible exact rfl))

theorem pstoreDo_keeps (s : State) (r : BusReq) :
    Keeps [.csr, .mem, .freeCtr, .flood, .slu, .hr, .cv, .bus, .rcu, .redun] s (pstoreDo s r).st := by
  unfold pstoreDo
  repeat' first
    | with_reducible apply Keeps.refl
    | with_reducible assumption
    | with_reducible apply Keeps.ite
    | with_reducible apply Keeps.foldl
    | with_reducible apply Keeps.foldl_fst
    | with_reducible apply Keeps.foldl_snd
    | with_reducible apply Keeps.foldl_snd2
    | ((with_reducible apply Keeps.step (pwriteBytes_keeps ..)); exact rfl)
    | ((with_reducible apply Keeps.step (eccTouch_keeps ..)); exact rfl)
    | ((with_reducible apply Keeps.step (ownRefuse_keeps ..)); exact rfl)
    | intro _
    | split
    | dsimp only
    | ((try with_reducible conv => arg 3; whnf); (with_reducible apply Keeps.upd); (with_reducible exact Or.inl rfl); (iterate 3 (exact Or.inr rfl)); (iterate 3 (with_reducible exact Or.inl rfl)); (iterate 3 (exact Or.inr rfl)); (with_reducible exact Or.inl rfl); (iterate 2 (exact Or.inr rfl)); (with_reducible exact Or.inl rfl); (iterate 2 (exact Or.inr rfl)); (iterate 6 (with_reducible exact Or.inl rfl)); (with_reducible exact rfl); (with_reducible exact rfl))

theorem prfDo_keeps (s : State) (r : BusReq) :
    Keeps [.csr, .prf] s (prfDo s r).st := by
  unfold prfDo
  repeat' first
    | with_reducible apply Keeps.refl
    | with_reducible assumption
    | with_reducible apply Keeps.ite
    | with_reducible apply Keeps.foldl
    | with_reducible apply Keeps.foldl_fst
    | with_reducible apply Keeps.foldl_snd
    | with_reducible apply Keeps.foldl_snd2
    | ((with_reducible apply Keeps.step (prfWrite_keeps ..)); exact rfl)
    | intro _
    | split
    | dsimp only
    | ((try with_reducible conv => arg 3; whnf); (with_reducible apply Keeps.upd); (with_reducible exact Or.inl rfl); (exact Or.inr rfl); (iterate 8 (with_reducible exact Or.inl rfl)); (exact Or.inr rfl); (iterate 11 (with_reducible exact Or.inl rfl)); (with_reducible exact rfl); (with_reducible exact rfl))

theorem keptWrite_keeps (s : State) (r : BusReq) :
    Keeps [.freeCtr, .hr] s (keptWrite s r) := by
  unfold keptWrite
  repeat' first
    | with_reducible apply Keeps.refl
    | with_reducible assumption
    | with_reducible apply Keeps.ite
    | with_reducible apply Keeps.ite_p1
    | with_reducible apply Keeps.ite_p2
    | with_reducible apply Keeps.ite_p22
    | with_reducible apply Keeps.ite_p222
    | ((with_reducible apply Keeps.step (freshFree_keeps ..)); exact rfl)
    | intro _
    | split
    | dsimp only
    | ((try with_reducible conv => arg 3; whnf); (with_reducible apply Keeps.upd); (iterate 3 (with_reducible exact Or.inl rfl)); (exact Or.inr rfl); (iterate 5 (with_reducible exact Or.inl rfl)); (exact Or.inr rfl); (iterate 12 (with_reducible exact Or.inl rfl)); (with_reducible exact rfl); (with_reducible exact rfl))

theorem memAccess_keeps (s : State) (r : BusReq) :
    Keeps [.csr, .mem, .freeCtr, .flood, .slu, .hr, .prf, .cv, .bus, .rcu, .redun] s (memAccess s r).st := by
  delta memAccess
  try lift_lets
  intros
  repeat' first
    | with_reducible apply Keeps.refl
    | with_reducible assumption
    | with_reducible apply Keeps.ite
    | ((with_reducible apply Keeps.step (keptWrite_keeps ..)); exact rfl)
    | ((with_reducible apply Keeps.step (prfDo_keeps ..)); exact rfl)
    | ((with_reducible apply Keeps.step (pstoreDo_keeps ..)); exact rfl)
    | ((with_reducible apply Keeps.step (refused_keeps ..)); exact rfl)
    | ((with_reducible apply Keeps.step (memDo_keeps ..)); exact rfl)
    | ((with_reducible apply Keeps.step (ownRefuse_keeps ..)); exact rfl)
    | ((with_reducible apply Keeps.step (writeBytes_keeps ..)); exact rfl)
    | intro _
    | split
    | dsimp only
    | ((try with_reducible conv => arg 3; whnf); (with_reducible apply Keeps.upd); (with_reducible exact Or.inl rfl); (iterate 3 (exact Or.inr rfl)); (iterate 3 (with_reducible exact Or.inl rfl)); (iterate 6 (exact Or.inr rfl)); (with_reducible exact Or.inl rfl); (iterate 2 (exact Or.inr rfl)); (iterate 6 (with_reducible exact Or.inl rfl)); (with_reducible exact rfl); (with_reducible exact rfl))

theorem atBoundary_keeps {ps : List Part} {f : State → BusReq → Access} (hf : ∀ s r, Keeps ps s (f s r).st)
    (h : subParts [.csr] ps = true) (s : State) (r : BusReq) : Keeps ps s (atBoundary f s r).st := by
  have e : ∀ (c : Prop) [Decidable c] (a b : Access), Keeps ps s a.st → Keeps ps s b.st → Keeps ps s (if c then a else b).st := by
    intro c _ a b ha hb
    split <;> assumption
  delta atBoundary
  lift_lets
  intros
  refine e _ _ _ ?_ (hf ..)
  exact Keeps.step (xbarRefuse_keeps ..) h (hf ..)

theorem memBurst_keeps (s : State) (r : BusReq) :
    Keeps [.csr, .mem, .freeCtr, .flood, .slu, .hr, .prf, .cv, .bus, .rcu, .redun] s (memBurst s r).st :=
  atBoundary_keeps memAccess_keeps rfl s r

theorem portBAccess_keeps (s : State) (r : BusReq) :
    Keeps [.csr, .mem, .freeCtr, .flood, .slu, .hr, .cv, .bus, .rcu, .redun] s (portBAccess s r).st := by
  unfold portBAccess
  repeat' first
    | with_reducible apply Keeps.refl
    | with_reducible assumption
    | with_reducible apply Keeps.ite
    | ((with_reducible apply Keeps.step (memDo_keeps ..)); exact rfl)
    | ((with_reducible apply Keeps.step (refuseAt_keeps ..)); exact rfl)
    | intro _
    | split
    | dsimp only
    | ((try with_reducible conv => arg 3; whnf); (with_reducible apply Keeps.upd); (with_reducible exact Or.inl rfl); (iterate 3 (exact Or.inr rfl)); (iterate 3 (with_reducible exact Or.inl rfl)); (iterate 3 (exact Or.inr rfl)); (with_reducible exact Or.inl rfl); (iterate 2 (exact Or.inr rfl)); (with_reducible exact Or.inl rfl); (iterate 2 (exact Or.inr rfl)); (iterate 6 (with_reducible exact Or.inl rfl)); (with_reducible exact rfl); (with_reducible exact rfl))

theorem collide_keeps (s : State) :
    Keeps [.csr] s (collide s) := by
  unfold collide
  repeat' first
    | with_reducible apply Keeps.refl
    | with_reducible assumption
    | with_reducible apply Keeps.ite
    | ((with_reducible apply Keeps.step (count_keeps ..)); exact rfl)
    | ((with_reducible apply Keeps.step (stick_keeps ..)); exact rfl)
    | intro _
    | split
    | dsimp only
    | ((try with_reducible conv => arg 3; whnf); (with_reducible apply Keeps.upd); (with_reducible exact Or.inl rfl); (exact Or.inr rfl); (iterate 20 (with_reducible exact Or.inl rfl)); (with_reducible exact rfl); (with_reducible exact rfl))

theorem enqueueWait_keeps (s : State) (w : BusWait) :
    Keeps [.bus] s (enqueueWait s w) := by
  unfold enqueueWait
  repeat' first
    | with_reducible apply Keeps.refl
    | with_reducible assumption
    | with_reducible apply Keeps.ite
    | intro _
    | split
    | dsimp only
    | ((try with_reducible conv => arg 3; whnf); (with_reducible apply Keeps.upd); (iterate 12 (with_reducible exact Or.inl rfl)); (exact Or.inr rfl); (iterate 9 (with_reducible exact Or.inl rfl)); (with_reducible exact rfl); (with_reducible exact rfl))

theorem granted_keeps (s : State) (t m : Nat) :
    Keeps [.bus] s (granted s t m) := by
  unfold granted
  repeat' first
    | with_reducible apply Keeps.refl
    | with_reducible assumption
    | with_reducible apply Keeps.ite
    | intro _
    | split
    | dsimp only
    | ((try with_reducible conv => arg 3; whnf); (with_reducible apply Keeps.upd); (iterate 12 (with_reducible exact Or.inl rfl)); (exact Or.inr rfl); (iterate 9 (with_reducible exact Or.inl rfl)); (with_reducible exact rfl); (with_reducible exact rfl))

theorem putRead_keeps (s : State) (m : Nat) (x : Access) : Keeps [.bus] x.st (putRead s m x) :=
  ⟨fun p hp => by cases p <;> first | exact rfl | exact absurd (by decide) hp, Inv_of_mem rfl rfl⟩

theorem showLocks_keeps (s : State) :
    Keeps [.csr] s (showLocks s) := by
  unfold showLocks
  repeat' first
    | with_reducible apply Keeps.refl
    | with_reducible assumption
    | with_reducible apply Keeps.ite
    | with_reducible apply Keeps.foldl
    | with_reducible apply Keeps.foldl_fst
    | with_reducible apply Keeps.foldl_snd
    | with_reducible apply Keeps.foldl_snd2
    | ((with_reducible apply Keeps.step (setF_keeps ..)); exact rfl)
    | intro _
    | split
    | dsimp only
    | ((try with_reducible conv => arg 3; whnf); (with_reducible apply Keeps.upd); (with_reducible exact Or.inl rfl); (exact Or.inr rfl); (iterate 20 (with_reducible exact Or.inl rfl)); (with_reducible exact rfl); (with_reducible exact rfl))

theorem dropLocks_keeps (s : State) (m : Nat) :
    Keeps [.csr, .bus] s (dropLocks s m) := by
  unfold dropLocks
  repeat' first
    | with_reducible apply Keeps.refl
    | with_reducible assumption
    | with_reducible apply Keeps.ite
    | ((with_reducible apply Keeps.step (showLocks_keeps ..)); exact rfl)
    | intro _
    | split
    | dsimp only
    | ((try with_reducible conv => arg 3; whnf); (with_reducible apply Keeps.upd); (with_reducible exact Or.inl rfl); (exact Or.inr rfl); (iterate 10 (with_reducible exact Or.inl rfl)); (exact Or.inr rfl); (iterate 9 (with_reducible exact Or.inl rfl)); (with_reducible exact rfl); (with_reducible exact rfl))

theorem Keeps.bus (s : State) (b : Bus) : Keeps [.bus] s { s with bus := b } :=
  ⟨fun p hp => by cases p <;> first | exact rfl | exact absurd (by decide) hp, Inv_of_mem rfl rfl⟩

theorem serveBurst_keeps {ps : List Part} {f : State → BusReq → Access} (hf : ∀ s r, Keeps ps s (f s r).st)
    (h : subParts [.csr, .mem, .freeCtr, .flood, .slu, .hr, .cv, .bus, .rcu, .redun] ps = true) (s : State) (w : BusWait) : Keeps ps s (serveBurst f s w) := by
  have up := fun {qs : List Part} {t u : State} (k : Keeps qs t u) (g : subParts qs [.csr, .mem, .freeCtr, .flood, .slu, .hr, .cv, .bus, .rcu, .redun] = true) =>
    Keeps.mono k (subParts_trans g h)
  unfold serveBurst
  dsimp only
  split
  · exact Keeps.step (putRead_keeps ..) (subParts_trans rfl h) (up (portBAccess_keeps ..) rfl)
  · split
    · exact Keeps.step (putRead_keeps ..) (subParts_trans rfl h)
        (Keeps.step (refused_keeps ..) (subParts_trans rfl h) (up (stick_keeps ..) rfl))
    · have k : Keeps ps s (putRead s w.req.master (f (granted s (xbarTarget w.req.addr) w.req.master) w.req)) :=
        Keeps.step (putRead_keeps ..) (subParts_trans rfl h) (Keeps.step (hf ..) (subParts_refl _) (up (granted_keeps ..) rfl))
      generalize hx : putRead s w.req.master (f (granted s (xbarTarget w.req.addr) w.req.master) w.req) = x at k
      split
      · exact Keeps.step (showLocks_keeps ..) (subParts_trans rfl h) (Keeps.step (Keeps.bus ..) (subParts_trans rfl h) k)
      · split
        · exact Keeps.step (dropLocks_keeps ..) (subParts_trans rfl h) k
        · exact k

theorem drainWaits_keeps (n : Nat) (s : State) : Keeps [.csr, .mem, .freeCtr, .flood, .slu, .hr, .prf, .cv, .bus, .rcu, .redun] s (drainWaits n s) := by
  induction n generalizing s with
  | zero => exact Keeps.refl _ _
  | succ n ih =>
    simp only [drainWaits]
    split
    · exact Keeps.refl _ _
    · exact Keeps.step (ih _) rfl (Keeps.step (serveBurst_keeps memBurst_keeps rfl ..) rfl (Keeps.mono (Keeps.bus ..) rfl))

theorem retryWaits_keeps (s : State) :
    Keeps [.csr, .mem, .freeCtr, .flood, .slu, .hr, .prf, .cv, .bus, .rcu, .redun] s (retryWaits s) := by
  unfold retryWaits
  repeat' first
    | with_reducible apply Keeps.refl
    | with_reducible assumption
    | with_reducible apply Keeps.ite
    | with_reducible apply Keeps.foldl
    | with_reducible apply Keeps.foldl_fst
    | with_reducible apply Keeps.foldl_snd
    | with_reducible apply Keeps.foldl_snd2
    | ((with_reducible apply Keeps.step (drainWaits_keeps ..)); exact rfl)
    | intro _
    | split
    | dsimp only
    | ((try with_reducible conv => arg 3; whnf); (with_reducible apply Keeps.upd); (with_reducible exact Or.inl rfl); (iterate 3 (exact Or.inr rfl)); (iterate 3 (with_reducible exact Or.inl rfl)); (iterate 6 (exact Or.inr rfl)); (with_reducible exact Or.inl rfl); (iterate 2 (exact Or.inr rfl)); (iterate 6 (with_reducible exact Or.inl rfl)); (with_reducible exact rfl); (with_reducible exact rfl))

theorem serveOrWait_keeps (s : State) (w : BusWait) : Keeps [.csr, .mem, .freeCtr, .flood, .slu, .hr, .prf, .cv, .bus, .rcu, .redun] s (serveOrWait s w) := by
  unfold serveOrWait
  exact Keeps.ite (Keeps.mono (enqueueWait_keeps ..) rfl) (Keeps.mono (serveBurst_keeps memBurst_keeps rfl ..) rfl)

theorem lockedRead_keeps (s : State) (m a n : Nat) :
    Keeps [.csr, .mem, .freeCtr, .flood, .slu, .hr, .prf, .cv, .bus, .rcu, .redun] s (lockedRead s m a n) := by
  delta lockedRead
  try lift_lets
  intros
  repeat' first
    | with_reducible apply Keeps.refl
    | with_reducible assumption
    | with_reducible apply Keeps.ite
    | with_reducible apply Keeps.ite_p1
    | with_reducible apply Keeps.ite_p2
    | with_reducible apply Keeps.ite_p22
    | with_reducible apply Keeps.ite_p222
    | ((with_reducible apply Keeps.step (serveOrWait_keeps ..)); exact rfl)
    | ((with_reducible apply Keeps.step (putRead_keeps ..)); exact rfl)
    | ((with_reducible apply Keeps.step (refused_keeps ..)); exact rfl)
    | ((with_reducible apply Keeps.step (stick_keeps ..)); exact rfl)
    | intro _
    | split
    | dsimp only
    | ((try with_reducible conv => arg 3; whnf); (with_reducible apply Keeps.upd); (with_reducible exact Or.inl rfl); (iterate 3 (exact Or.inr rfl)); (iterate 3 (with_reducible exact Or.inl rfl)); (iterate 6 (exact Or.inr rfl)); (with_reducible exact Or.inl rfl); (iterate 2 (exact Or.inr rfl)); (iterate 6 (with_reducible exact Or.inl rfl)); (with_reducible exact rfl); (with_reducible exact rfl))

theorem releaseLock_keeps (s : State) (m : Nat) :
    Keeps [.csr, .mem, .freeCtr, .flood, .slu, .hr, .prf, .cv, .bus, .rcu, .redun] s (releaseLock s m) := by
  unfold releaseLock
  repeat' first
    | with_reducible apply Keeps.refl
    | with_reducible assumption
    | with_reducible apply Keeps.ite
    | with_reducible apply Keeps.ite_p1
    | with_reducible apply Keeps.ite_p2
    | with_reducible apply Keeps.ite_p22
    | with_reducible apply Keeps.ite_p222
    | ((with_reducible apply Keeps.step (retryWaits_keeps ..)); exact rfl)
    | ((with_reducible apply Keeps.step (dropLocks_keeps ..)); exact rfl)
    | intro _
    | split
    | dsimp only
    | ((try with_reducible conv => arg 3; whnf); (with_reducible apply Keeps.upd); (with_reducible exact Or.inl rfl); (iterate 3 (exact Or.inr rfl)); (iterate 3 (with_reducible exact Or.inl rfl)); (iterate 6 (exact Or.inr rfl)); (with_reducible exact Or.inl rfl); (iterate 2 (exact Or.inr rfl)); (iterate 6 (with_reducible exact Or.inl rfl)); (with_reducible exact rfl); (with_reducible exact rfl))

theorem unlockWrite_keeps (s : State) (m a : Nat) (d : List Nat) :
    Keeps [.csr, .mem, .freeCtr, .flood, .slu, .hr, .prf, .cv, .bus, .rcu, .redun] s (unlockWrite s m a d) := by
  delta unlockWrite
  try lift_lets
  intros
  repeat' first
    | with_reducible apply Keeps.refl
    | with_reducible assumption
    | with_reducible apply Keeps.ite
    | ((with_reducible apply Keeps.step (serveOrWait_keeps ..)); exact rfl)
    | ((with_reducible apply Keeps.step (retryWaits_keeps ..)); exact rfl)
    | intro _
    | split
    | dsimp only
    | ((try with_reducible conv => arg 3; whnf); (with_reducible apply Keeps.upd); (with_reducible exact Or.inl rfl); (iterate 3 (exact Or.inr rfl)); (iterate 3 (with_reducible exact Or.inl rfl)); (iterate 6 (exact Or.inr rfl)); (with_reducible exact Or.inl rfl); (iterate 2 (exact Or.inr rfl)); (iterate 6 (with_reducible exact Or.inl rfl)); (with_reducible exact rfl); (with_reducible exact rfl))

theorem cutBurst_keeps (s : State) (b : CutBurst) :
    Keeps [.csr, .mem, .freeCtr, .flood, .slu, .hr, .prf, .cv, .bus, .rcu, .redun] s (cutBurst s b) := by
  unfold cutBurst
  repeat' first
    | with_reducible apply Keeps.refl
    | with_reducible assumption
    | with_reducible apply Keeps.ite
    | ((with_reducible apply Keeps.step (memAccess_keeps ..)); exact rfl)
    | ((with_reducible apply Keeps.step (count_keeps ..)); exact rfl)
    | ((with_reducible apply Keeps.step (stick_keeps ..)); exact rfl)
    | ((with_reducible apply Keeps.step (setF_keeps ..)); exact rfl)
    | ((with_reducible apply Keeps.step (csrPut_keeps ..)); exact rfl)
    | intro _
    | split
    | dsimp only
    | ((try with_reducible conv => arg 3; whnf); (with_reducible apply Keeps.upd); (with_reducible exact Or.inl rfl); (iterate 3 (exact Or.inr rfl)); (iterate 3 (with_reducible exact Or.inl rfl)); (iterate 6 (exact Or.inr rfl)); (with_reducible exact Or.inl rfl); (iterate 2 (exact Or.inr rfl)); (iterate 6 (with_reducible exact Or.inl rfl)); (with_reducible exact rfl); (with_reducible exact rfl))

theorem masterReset_keeps (s : State) (ms : List Nat) (cut : List CutBurst) :
    Keeps [.csr, .mem, .freeCtr, .flood, .slu, .hr, .prf, .cv, .bus, .rcu, .redun] s (masterReset s ms cut) := by
  unfold masterReset
  repeat' first
    | with_reducible apply Keeps.refl
    | with_reducible assumption
    | with_reducible apply Keeps.ite
    | with_reducible apply Keeps.foldl
    | with_reducible apply Keeps.foldl_fst
    | with_reducible apply Keeps.foldl_snd
    | with_reducible apply Keeps.foldl_snd2
    | ((with_reducible apply Keeps.step (cutBurst_keeps ..)); exact rfl)
    | ((with_reducible apply Keeps.step (releaseLock_keeps ..)); exact rfl)
    | intro _
    | split
    | dsimp only
    | ((try with_reducible conv => arg 3; whnf); (with_reducible apply Keeps.upd); (with_reducible exact Or.inl rfl); (iterate 3 (exact Or.inr rfl)); (iterate 3 (with_reducible exact Or.inl rfl)); (iterate 6 (exact Or.inr rfl)); (with_reducible exact Or.inl rfl); (iterate 2 (exact Or.inr rfl)); (iterate 6 (with_reducible exact Or.inl rfl)); (with_reducible exact rfl); (with_reducible exact rfl))

theorem eccWriteback_keeps (s : State) (w : Nat) :
    Keeps [.bus] s (eccWriteback s w) := by
  unfold eccWriteback
  repeat' first
    | with_reducible apply Keeps.refl
    | with_reducible assumption
    | with_reducible apply Keeps.ite
    | intro _
    | split
    | dsimp only
    | ((try with_reducible conv => arg 3; whnf); (with_reducible apply Keeps.upd); (iterate 12 (with_reducible exact Or.inl rfl)); (exact Or.inr rfl); (iterate 9 (with_reducible exact Or.inl rfl)); (with_reducible exact rfl); (with_reducible exact rfl))

theorem scrubRead_keeps (s : State) (busy : List Nat) :
    Keeps [.csr, .freeCtr, .flood, .slu, .hr, .cv, .bus, .rcu, .redun] s (scrubRead s busy) := by
  unfold scrubRead
  repeat' first
    | with_reducible apply Keeps.refl
    | with_reducible assumption
    | with_reducible apply Keeps.ite
    | with_reducible apply Keeps.foldl
    | with_reducible apply Keeps.foldl_fst
    | with_reducible apply Keeps.foldl_snd
    | with_reducible apply Keeps.foldl_snd2
    | ((with_reducible apply Keeps.step (eccTouch_keeps ..)); exact rfl)
    | ((with_reducible apply Keeps.step (count_keeps ..)); exact rfl)
    | intro _
    | split
    | dsimp only
    | ((try with_reducible conv => arg 3; whnf); (with_reducible apply Keeps.upd); (with_reducible exact Or.inl rfl); (exact Or.inr rfl); (with_reducible exact Or.inl rfl); (exact Or.inr rfl); (iterate 3 (with_reducible exact Or.inl rfl)); (iterate 3 (exact Or.inr rfl)); (with_reducible exact Or.inl rfl); (iterate 2 (exact Or.inr rfl)); (with_reducible exact Or.inl rfl); (iterate 2 (exact Or.inr rfl)); (iterate 6 (with_reducible exact Or.inl rfl)); (with_reducible exact rfl); (with_reducible exact rfl))

theorem setOwner_keeps (s : State) (bank o : Nat) :
    Keeps [.csr] s (setOwner s bank o) := by
  unfold setOwner
  repeat' first
    | with_reducible apply Keeps.refl
    | with_reducible assumption
    | with_reducible apply Keeps.ite
    | ((with_reducible apply Keeps.step (csrPut_keeps ..)); exact rfl)
    | intro _
    | split
    | dsimp only
    | ((try with_reducible conv => arg 3; whnf); (with_reducible apply Keeps.upd); (with_reducible exact Or.inl rfl); (exact Or.inr rfl); (iterate 20 (with_reducible exact Or.inl rfl)); (with_reducible exact rfl); (with_reducible exact rfl))

theorem handoverWrite_keeps (s : State) (v : Nat) :
    Keeps [.csr, .bus] s (handoverWrite s v) := by
  unfold handoverWrite
  repeat' first
    | with_reducible apply Keeps.refl
    | with_reducible assumption
    | with_reducible apply Keeps.ite
    | ((with_reducible apply Keeps.step (stick_keeps ..)); exact rfl)
    | ((with_reducible apply Keeps.step (setF_keeps ..)); exact rfl)
    | intro _
    | split
    | dsimp only
    | ((try with_reducible conv => arg 3; whnf); (with_reducible apply Keeps.upd); (with_reducible exact Or.inl rfl); (exact Or.inr rfl); (iterate 10 (with_reducible exact Or.inl rfl)); (exact Or.inr rfl); (iterate 9 (with_reducible exact Or.inl rfl)); (with_reducible exact rfl); (with_reducible exact rfl))

theorem handoverComplete_keeps (s : State) :
    Keeps [.csr, .mem, .freeCtr, .flood, .slu, .hr, .prf, .cv, .bus, .rcu, .redun] s (handoverComplete s) := by
  unfold handoverComplete
  repeat' first
    | with_reducible apply Keeps.refl
    | with_reducible assumption
    | with_reducible apply Keeps.ite
    | ((with_reducible apply Keeps.step (setOwner_keeps ..)); exact rfl)
    | ((with_reducible apply Keeps.step (retryWaits_keeps ..)); exact rfl)
    | ((with_reducible apply Keeps.step (stick_keeps ..)); exact rfl)
    | ((with_reducible apply Keeps.step (setF_keeps ..)); exact rfl)
    | intro _
    | split
    | dsimp only
    | ((try with_reducible conv => arg 3; whnf); (with_reducible apply Keeps.upd); (with_reducible exact Or.inl rfl); (iterate 3 (exact Or.inr rfl)); (iterate 3 (with_reducible exact Or.inl rfl)); (iterate 6 (exact Or.inr rfl)); (with_reducible exact Or.inl rfl); (iterate 2 (exact Or.inr rfl)); (iterate 6 (with_reducible exact Or.inl rfl)); (with_reducible exact rfl); (with_reducible exact rfl))

theorem clearRange_keeps (s : State) (a n : Nat) : Keeps [.mem, .bus] s (clearRange s a n) :=
  ⟨fun p hp => by cases p <;> first | exact rfl | exact absurd (by decide) hp,
    State.Inv.mem (fun h => Memory.wf_filter _ h) rfl⟩

theorem mbistWrite_keeps (s : State) (v : Nat) :
    Keeps [.csr, .bus] s (mbistWrite s v) := by
  unfold mbistWrite
  repeat' first
    | with_reducible apply Keeps.refl
    | with_reducible assumption
    | with_reducible apply Keeps.ite
    | ((with_reducible apply Keeps.step (stick_keeps ..)); exact rfl)
    | ((with_reducible apply Keeps.step (setF_keeps ..)); exact rfl)
    | ((with_reducible apply Keeps.step (csrPut_keeps ..)); exact rfl)
    | intro _
    | split
    | dsimp only
    | ((try with_reducible conv => arg 3; whnf); (with_reducible apply Keeps.upd); (with_reducible exact Or.inl rfl); (exact Or.inr rfl); (iterate 10 (with_reducible exact Or.inl rfl)); (exact Or.inr rfl); (iterate 9 (with_reducible exact Or.inl rfl)); (with_reducible exact rfl); (with_reducible exact rfl))

theorem markFailed_keeps (s : State) (m : Mbist) (bad : Bool) :
    Keeps [.csr, .bus] s (markFailed s m bad) := by
  unfold markFailed
  repeat' first
    | with_reducible apply Keeps.refl
    | with_reducible assumption
    | with_reducible apply Keeps.ite
    | ((with_reducible apply Keeps.step (setOwner_keeps ..)); exact rfl)
    | ((with_reducible apply Keeps.step (csrPut_keeps ..)); exact rfl)
    | intro _
    | split
    | dsimp only
    | ((try with_reducible conv => arg 3; whnf); (with_reducible apply Keeps.upd); (with_reducible exact Or.inl rfl); (exact Or.inr rfl); (iterate 10 (with_reducible exact Or.inl rfl)); (exact Or.inr rfl); (iterate 9 (with_reducible exact Or.inl rfl)); (with_reducible exact rfl); (with_reducible exact rfl))

theorem softRepair_keeps (s : State) (key rows cols : Nat) :
    Keeps [.csr, .bus] s (softRepair s key rows cols) := by
  unfold softRepair
  repeat' first
    | with_reducible apply Keeps.refl
    | with_reducible assumption
    | with_reducible apply Keeps.ite
    | ((with_reducible apply Keeps.step (setF_keeps ..)); exact rfl)
    | intro _
    | split
    | dsimp only
    | ((try with_reducible conv => arg 3; whnf); (with_reducible apply Keeps.upd); (with_reducible exact Or.inl rfl); (exact Or.inr rfl); (iterate 10 (with_reducible exact Or.inl rfl)); (exact Or.inr rfl); (iterate 9 (with_reducible exact Or.inl rfl)); (with_reducible exact rfl); (with_reducible exact rfl))

theorem clearSingles_keeps (s : State) (a n : Nat) :
    Keeps [.bus] s (clearSingles s a n) := by
  unfold clearSingles
  repeat' first
    | with_reducible apply Keeps.refl
    | with_reducible assumption
    | with_reducible apply Keeps.ite
    | intro _
    | split
    | dsimp only
    | ((try with_reducible conv => arg 3; whnf); (with_reducible apply Keeps.upd); (iterate 12 (with_reducible exact Or.inl rfl)); (exact Or.inr rfl); (iterate 9 (with_reducible exact Or.inl rfl)); (with_reducible exact rfl); (with_reducible exact rfl))

theorem mbistComplete_keeps (s : State) (rows cols : Nat) (fails : Bool) :
    Keeps [.csr, .mem, .bus] s (mbistComplete s rows cols fails) := by
  unfold mbistComplete
  repeat' first
    | with_reducible apply Keeps.refl
    | with_reducible assumption
    | with_reducible apply Keeps.ite
    | with_reducible apply Keeps.ite_p1
    | with_reducible apply Keeps.ite_p2
    | with_reducible apply Keeps.ite_p22
    | with_reducible apply Keeps.ite_p222
    | ((with_reducible apply Keeps.step (clearSingles_keeps ..)); exact rfl)
    | ((with_reducible apply Keeps.step (softRepair_keeps ..)); exact rfl)
    | ((with_reducible apply Keeps.step (markFailed_keeps ..)); exact rfl)
    | ((with_reducible apply Keeps.step (clearRange_keeps ..)); exact rfl)
    | ((with_reducible apply Keeps.step (stick_keeps ..)); exact rfl)
    | ((with_reducible apply Keeps.step (setF_keeps ..)); exact rfl)
    | intro _
    | split
    | dsimp only
    | ((try with_reducible conv => arg 3; whnf); (with_reducible apply Keeps.upd); (with_reducible exact Or.inl rfl); (iterate 2 (exact Or.inr rfl)); (iterate 9 (with_reducible exact Or.inl rfl)); (exact Or.inr rfl); (iterate 9 (with_reducible exact Or.inl rfl)); (with_reducible exact rfl); (with_reducible exact rfl))

end Sys2Proof.Machine
end

