-- ==== Sys2Proof/Laws/KeepStream.lean ====
section
/-! SUPPORT. What each operation of Machine/Stream.lean may change. -/
namespace Sys2Proof.Machine

theorem ctxCount_keeps (s : State) (c k n : Nat) :
    Keeps [.net] s (ctxCount s c k n) := by
  unfold ctxCount
  repeat' first
    | with_reducible apply Keeps.refl
    | with_reducible assumption
    | with_reducible apply Keeps.ite
    | intro _
    | split
    | dsimp only
    | ((try with_reducible conv => arg 3; whnf); (with_reducible apply Keeps.upd); (iterate 18 (with_reducible exact Or.inl rfl)); (exact Or.inr rfl); (iterate 3 (with_reducible exact Or.inl rfl)); (with_reducible exact rfl); (with_reducible exact rfl))

theorem ctxReject_keeps (s : State) (c : Nat) (tx : Bool) (reason : Nat) :
    Keeps [.csr] s (ctxReject s c tx reason) := by
  unfold ctxReject
  repeat' first
    | with_reducible apply Keeps.refl
    | with_reducible assumption
    | with_reducible apply Keeps.ite
    | ((with_reducible apply Keeps.step (stick_keeps ..)); exact rfl)
    | ((with_reducible apply Keeps.step (setF_keeps ..)); exact rfl)
    | intro _
    | split
    | dsimp only
    | ((try with_reducible conv => arg 3; whnf); (with_reducible apply Keeps.upd); (with_reducible exact Or.inl rfl); (exact Or.inr rfl); (iterate 20 (with_reducible exact Or.inl rfl)); (with_reducible exact rfl); (with_reducible exact rfl))

theorem ctxClear_keeps (s : State) (c : Nat) :
    Keeps [.net] s (ctxClear s c) := by
  unfold ctxClear
  repeat' first
    | with_reducible apply Keeps.refl
    | with_reducible assumption
    | with_reducible apply Keeps.ite
    | with_reducible apply Keeps.ite_p1
    | with_reducible apply Keeps.ite_p2
    | with_reducible apply Keeps.ite_p22
    | with_reducible apply Keeps.ite_p222
    | intro _
    | split
    | dsimp only
    | ((try with_reducible conv => arg 3; whnf); (with_reducible apply Keeps.upd); (iterate 18 (with_reducible exact Or.inl rfl)); (exact Or.inr rfl); (iterate 3 (with_reducible exact Or.inl rfl)); (with_reducible exact rfl); (with_reducible exact rfl))

theorem setReceiving_keeps (s : State) (c : Nat) (on : Bool) :
    Keeps [.csr] s (setReceiving s c on) := by
  unfold setReceiving
  repeat' first
    | with_reducible apply Keeps.refl
    | with_reducible assumption
    | with_reducible apply Keeps.ite
    | ((with_reducible apply Keeps.step (setF_keeps ..)); exact rfl)
    | intro _
    | split
    | dsimp only
    | ((try with_reducible conv => arg 3; whnf); (with_reducible apply Keeps.upd); (with_reducible exact Or.inl rfl); (exact Or.inr rfl); (iterate 20 (with_reducible exact Or.inl rfl)); (with_reducible exact rfl); (with_reducible exact rfl))

theorem rxCtlWrite_keeps (s : State) (c v : Nat) :
    Keeps [.csr, .net] s (rxCtlWrite s c v) := by
  unfold rxCtlWrite
  repeat' first
    | with_reducible apply Keeps.refl
    | with_reducible assumption
    | with_reducible apply Keeps.ite
    | ((with_reducible apply Keeps.step (setReceiving_keeps ..)); exact rfl)
    | ((with_reducible apply Keeps.step (ctxClear_keeps ..)); exact rfl)
    | ((with_reducible apply Keeps.step (ctxReject_keeps ..)); exact rfl)
    | ((with_reducible apply Keeps.step (csrWrite_keeps ..)); exact rfl)
    | ((with_reducible apply Keeps.step (setF_keeps ..)); exact rfl)
    | intro _
    | split
    | dsimp only
    | ((try with_reducible conv => arg 3; whnf); (with_reducible apply Keeps.upd); (with_reducible exact Or.inl rfl); (exact Or.inr rfl); (iterate 16 (with_reducible exact Or.inl rfl)); (exact Or.inr rfl); (iterate 3 (with_reducible exact Or.inl rfl)); (with_reducible exact rfl); (with_reducible exact rfl))

theorem txCtlWrite_keeps (s : State) (c v : Nat) :
    Keeps [.csr, .net] s (txCtlWrite s c v) := by
  unfold txCtlWrite
  repeat' first
    | with_reducible apply Keeps.refl
    | with_reducible assumption
    | with_reducible apply Keeps.ite
    | ((with_reducible apply Keeps.step (ctxReject_keeps ..)); exact rfl)
    | ((with_reducible apply Keeps.step (csrWrite_keeps ..)); exact rfl)
    | ((with_reducible apply Keeps.step (setF_keeps ..)); exact rfl)
    | intro _
    | split
    | dsimp only
    | ((try with_reducible conv => arg 3; whnf); (with_reducible apply Keeps.upd); (with_reducible exact Or.inl rfl); (exact Or.inr rfl); (iterate 16 (with_reducible exact Or.inl rfl)); (exact Or.inr rfl); (iterate 3 (with_reducible exact Or.inl rfl)); (with_reducible exact rfl); (with_reducible exact rfl))

theorem ctxWrite_keeps (s : State) (off v : Nat) :
    Keeps [.csr, .net] s (ctxWrite s off v) := by
  unfold ctxWrite
  repeat' first
    | with_reducible apply Keeps.refl
    | with_reducible assumption
    | with_reducible apply Keeps.ite
    | ((with_reducible apply Keeps.step (txCtlWrite_keeps ..)); exact rfl)
    | ((with_reducible apply Keeps.step (rxCtlWrite_keeps ..)); exact rfl)
    | ((with_reducible apply Keeps.step (ctxReject_keeps ..)); exact rfl)
    | ((with_reducible apply Keeps.step (csrWrite_keeps ..)); exact rfl)
    | intro _
    | split
    | dsimp only
    | ((try with_reducible conv => arg 3; whnf); (with_reducible apply Keeps.upd); (with_reducible exact Or.inl rfl); (exact Or.inr rfl); (iterate 16 (with_reducible exact Or.inl rfl)); (exact Or.inr rfl); (iterate 3 (with_reducible exact Or.inl rfl)); (with_reducible exact rfl); (with_reducible exact rfl))

theorem ringStore_keeps (s : State) (slot ts : Nat) (x : Int) :
    Keeps [.csr, .mem, .freeCtr, .flood, .slu, .hr, .cv, .bus, .rcu, .redun, .net] s (ringStore s slot ts x) := by
  unfold ringStore
  repeat' first
    | with_reducible apply Keeps.refl
    | with_reducible assumption
    | with_reducible apply Keeps.ite
    | ((with_reducible apply Keeps.step (engineWrite_keeps ..)); exact rfl)
    | ((with_reducible apply Keeps.step (refuseAt_keeps ..)); exact rfl)
    | intro _
    | split
    | dsimp only
    | ((try with_reducible conv => arg 3; whnf); (with_reducible apply Keeps.upd); (with_reducible exact Or.inl rfl); (iterate 3 (exact Or.inr rfl)); (iterate 3 (with_reducible exact Or.inl rfl)); (iterate 3 (exact Or.inr rfl)); (with_reducible exact Or.inl rfl); (iterate 2 (exact Or.inr rfl)); (with_reducible exact Or.inl rfl); (iterate 2 (exact Or.inr rfl)); (iterate 2 (with_reducible exact Or.inl rfl)); (exact Or.inr rfl); (iterate 3 (with_reducible exact Or.inl rfl)); (with_reducible exact rfl); (with_reducible exact rfl))

theorem ringWrite_keeps (s : State) (slot ts : Nat) (x : Int) :
    Keeps [.csr, .mem, .freeCtr, .flood, .slu, .hr, .cv, .bus, .rcu, .redun, .net] s (ringWrite s slot ts x) := by
  unfold ringWrite
  repeat' first
    | with_reducible apply Keeps.refl
    | with_reducible assumption
    | with_reducible apply Keeps.ite
    | ((with_reducible apply Keeps.step (ringStore_keeps ..)); exact rfl)
    | ((with_reducible apply Keeps.step (linkSend_keeps ..)); exact rfl)
    | intro _
    | split
    | dsimp only
    | ((try with_reducible conv => arg 3; whnf); (with_reducible apply Keeps.upd); (with_reducible exact Or.inl rfl); (iterate 3 (exact Or.inr rfl)); (iterate 3 (with_reducible exact Or.inl rfl)); (iterate 3 (exact Or.inr rfl)); (with_reducible exact Or.inl rfl); (iterate 2 (exact Or.inr rfl)); (with_reducible exact Or.inl rfl); (iterate 2 (exact Or.inr rfl)); (iterate 2 (with_reducible exact Or.inl rfl)); (exact Or.inr rfl); (iterate 3 (with_reducible exact Or.inl rfl)); (with_reducible exact rfl); (with_reducible exact rfl))

theorem placeSample_keeps (c endCyc : Nat) (r : Rtp) (s : State) (i : Nat) :
    Keeps [.csr, .mem, .freeCtr, .flood, .slu, .hr, .cv, .bus, .rcu, .redun, .net] s (placeSample c endCyc r s i) := by
  unfold placeSample
  repeat' first
    | with_reducible apply Keeps.refl
    | with_reducible assumption
    | with_reducible apply Keeps.ite
    | with_reducible apply Keeps.foldl
    | with_reducible apply Keeps.foldl_fst
    | with_reducible apply Keeps.foldl_snd
    | with_reducible apply Keeps.foldl_snd2
    | ((with_reducible apply Keeps.step (ringWrite_keeps ..)); exact rfl)
    | ((with_reducible apply Keeps.step (ctxCount_keeps ..)); exact rfl)
    | ((with_reducible apply Keeps.step (stick_keeps ..)); exact rfl)
    | intro _
    | split
    | dsimp only
    | ((try with_reducible conv => arg 3; whnf); (with_reducible apply Keeps.upd); (with_reducible exact Or.inl rfl); (iterate 3 (exact Or.inr rfl)); (iterate 3 (with_reducible exact Or.inl rfl)); (iterate 3 (exact Or.inr rfl)); (with_reducible exact Or.inl rfl); (iterate 2 (exact Or.inr rfl)); (with_reducible exact Or.inl rfl); (iterate 2 (exact Or.inr rfl)); (iterate 2 (with_reducible exact Or.inl rfl)); (exact Or.inr rfl); (iterate 3 (with_reducible exact Or.inl rfl)); (with_reducible exact rfl); (with_reducible exact rfl))

theorem mediaFrame_keeps (s : State) (c : Nat) (sec : Bool) (payload : List Nat) (endCyc : Nat) :
    Keeps [.csr, .mem, .freeCtr, .flood, .slu, .hr, .cv, .bus, .rcu, .redun, .net] s (mediaFrame s c sec payload endCyc) := by
  unfold mediaFrame
  repeat' first
    | with_reducible apply Keeps.refl
    | with_reducible assumption
    | with_reducible apply Keeps.ite
    | with_reducible apply Keeps.ite_p1
    | with_reducible apply Keeps.ite_p2
    | with_reducible apply Keeps.ite_p22
    | with_reducible apply Keeps.ite_p222
    | with_reducible apply Keeps.foldl
    | with_reducible apply Keeps.foldl_fst
    | with_reducible apply Keeps.foldl_snd
    | with_reducible apply Keeps.foldl_snd2
    | ((with_reducible apply Keeps.step (placeSample_keeps ..)); exact rfl)
    | ((with_reducible apply Keeps.step (setReceiving_keeps ..)); exact rfl)
    | ((with_reducible apply Keeps.step (ctxCount_keeps ..)); exact rfl)
    | intro _
    | split
    | dsimp only
    | ((try with_reducible conv => arg 3; whnf); (with_reducible apply Keeps.upd); (with_reducible exact Or.inl rfl); (iterate 3 (exact Or.inr rfl)); (iterate 3 (with_reducible exact Or.inl rfl)); (iterate 3 (exact Or.inr rfl)); (with_reducible exact Or.inl rfl); (iterate 2 (exact Or.inr rfl)); (with_reducible exact Or.inl rfl); (iterate 2 (exact Or.inr rfl)); (iterate 2 (with_reducible exact Or.inl rfl)); (exact Or.inr rfl); (iterate 3 (with_reducible exact Or.inl rfl)); (with_reducible exact rfl); (with_reducible exact rfl))

theorem presentCtx_keeps (close : Option (List Nat)) (tmc : Nat) (s : State) (c : Nat) :
    Keeps [.csr, .freeCtr, .dsp, .flood, .slu, .hr, .cv, .bus, .rcu, .redun, .net] s (presentCtx close tmc s c) := by
  unfold presentCtx
  repeat' first
    | with_reducible apply Keeps.refl
    | with_reducible assumption
    | with_reducible apply Keeps.ite
    | with_reducible apply Keeps.ite_p1
    | with_reducible apply Keeps.ite_p2
    | with_reducible apply Keeps.ite_p22
    | with_reducible apply Keeps.ite_p222
    | with_reducible apply Keeps.foldl
    | with_reducible apply Keeps.foldl_fst
    | with_reducible apply Keeps.foldl_snd
    | with_reducible apply Keeps.foldl_snd2
    | ((with_reducible apply Keeps.step (ctxCount_keeps ..)); exact rfl)
    | ((with_reducible apply Keeps.step (scanRange_keeps ..)); exact rfl)
    | ((with_reducible apply Keeps.step (stick_keeps ..)); exact rfl)
    | intro _
    | split
    | dsimp only
    | ((try with_reducible conv => arg 3; whnf); (with_reducible apply Keeps.upd); (with_reducible exact Or.inl rfl); (exact Or.inr rfl); (with_reducible exact Or.inl rfl); (exact Or.inr rfl); (with_reducible exact Or.inl rfl); (exact Or.inr rfl); (with_reducible exact Or.inl rfl); (iterate 3 (exact Or.inr rfl)); (with_reducible exact Or.inl rfl); (iterate 2 (exact Or.inr rfl)); (with_reducible exact Or.inl rfl); (iterate 2 (exact Or.inr rfl)); (iterate 2 (with_reducible exact Or.inl rfl)); (exact Or.inr rfl); (iterate 3 (with_reducible exact Or.inl rfl)); (with_reducible exact rfl); (with_reducible exact rfl))

theorem presentAll_keeps (s : State) (n tmc : Nat) :
    Keeps [.csr, .freeCtr, .dsp, .flood, .slu, .hr, .cv, .bus, .rcu, .redun, .net] s (presentAll s n tmc) := by
  unfold presentAll
  repeat' first
    | with_reducible apply Keeps.refl
    | with_reducible assumption
    | with_reducible apply Keeps.ite
    | with_reducible apply Keeps.ite_p1
    | with_reducible apply Keeps.ite_p2
    | with_reducible apply Keeps.ite_p22
    | with_reducible apply Keeps.ite_p222
    | with_reducible apply Keeps.foldl
    | with_reducible apply Keeps.foldl_fst
    | with_reducible apply Keeps.foldl_snd
    | with_reducible apply Keeps.foldl_snd2
    | ((with_reducible apply Keeps.step (presentCtx_keeps ..)); exact rfl)
    | ((with_reducible apply Keeps.step (linkSend_keeps ..)); exact rfl)
    | intro _
    | split
    | dsimp only
    | ((try with_reducible conv => arg 3; whnf); (with_reducible apply Keeps.upd); (with_reducible exact Or.inl rfl); (exact Or.inr rfl); (with_reducible exact Or.inl rfl); (exact Or.inr rfl); (with_reducible exact Or.inl rfl); (exact Or.inr rfl); (with_reducible exact Or.inl rfl); (iterate 3 (exact Or.inr rfl)); (with_reducible exact Or.inl rfl); (iterate 2 (exact Or.inr rfl)); (with_reducible exact Or.inl rfl); (iterate 2 (exact Or.inr rfl)); (iterate 2 (with_reducible exact Or.inl rfl)); (exact Or.inr rfl); (iterate 3 (with_reducible exact Or.inl rfl)); (with_reducible exact rfl); (with_reducible exact rfl))

theorem putPort_keeps (s : State) (p : Nat) (x : MacPort) :
    Keeps [.net] s (putPort s p x) := by
  unfold putPort
  repeat' first
    | with_reducible apply Keeps.refl
    | with_reducible assumption
    | with_reducible apply Keeps.ite
    | intro _
    | split
    | dsimp only
    | ((try with_reducible conv => arg 3; whnf); (with_reducible apply Keeps.upd); (iterate 18 (with_reducible exact Or.inl rfl)); (exact Or.inr rfl); (iterate 3 (with_reducible exact Or.inl rfl)); (with_reducible exact rfl); (with_reducible exact rfl))

theorem postMedia_keeps (s : State) (p : Nat) (bytes : List Nat) :
    Keeps [.net] s (postMedia s p bytes) := by
  unfold postMedia
  repeat' first
    | with_reducible apply Keeps.refl
    | with_reducible assumption
    | with_reducible apply Keeps.ite
    | ((with_reducible apply Keeps.step (putPort_keeps ..)); exact rfl)
    | intro _
    | split
    | dsimp only
    | ((try with_reducible conv => arg 3; whnf); (with_reducible apply Keeps.upd); (iterate 18 (with_reducible exact Or.inl rfl)); (exact Or.inr rfl); (iterate 3 (with_reducible exact Or.inl rfl)); (with_reducible exact rfl); (with_reducible exact rfl))

theorem sendPacket_keeps (s : State) (c : Nat) (x : TxCtx) :
    Keeps [.net] s (sendPacket s c x) := by
  unfold sendPacket
  repeat' first
    | with_reducible apply Keeps.refl
    | with_reducible assumption
    | with_reducible apply Keeps.ite
    | ((with_reducible apply Keeps.step (postMedia_keeps ..)); exact rfl)
    | ((with_reducible apply Keeps.step (ctxCount_keeps ..)); exact rfl)
    | intro _
    | split
    | dsimp only
    | ((try with_reducible conv => arg 3; whnf); (with_reducible apply Keeps.upd); (iterate 18 (with_reducible exact Or.inl rfl)); (exact Or.inr rfl); (iterate 3 (with_reducible exact Or.inl rfl)); (with_reducible exact rfl); (with_reducible exact rfl))

theorem packCtx_keeps (s : State) (c : Nat) :
    Keeps [.net] s (packCtx s c) := by
  unfold packCtx
  repeat' first
    | with_reducible apply Keeps.refl
    | with_reducible assumption
    | with_reducible apply Keeps.ite
    | ((with_reducible apply Keeps.step (sendPacket_keeps ..)); exact rfl)
    | intro _
    | split
    | dsimp only
    | ((try with_reducible conv => arg 3; whnf); (with_reducible apply Keeps.upd); (iterate 18 (with_reducible exact Or.inl rfl)); (exact Or.inr rfl); (iterate 3 (with_reducible exact Or.inl rfl)); (with_reducible exact rfl); (with_reducible exact rfl))

theorem packAll_keeps (s : State) :
    Keeps [.net] s (packAll s) := by
  unfold packAll
  repeat' first
    | with_reducible apply Keeps.refl
    | with_reducible assumption
    | with_reducible apply Keeps.ite
    | with_reducible apply Keeps.foldl
    | with_reducible apply Keeps.foldl_fst
    | with_reducible apply Keeps.foldl_snd
    | with_reducible apply Keeps.foldl_snd2
    | ((with_reducible apply Keeps.step (packCtx_keeps ..)); exact rfl)
    | intro _
    | split
    | dsimp only
    | ((try with_reducible conv => arg 3; whnf); (with_reducible apply Keeps.upd); (iterate 18 (with_reducible exact Or.inl rfl)); (exact Or.inr rfl); (iterate 3 (with_reducible exact Or.inl rfl)); (with_reducible exact rfl); (with_reducible exact rfl))

theorem stampCtx_keeps (s : State) (c : Nat) :
    Keeps [.net] s (stampCtx s c) := by
  unfold stampCtx
  repeat' first
    | with_reducible apply Keeps.refl
    | with_reducible assumption
    | with_reducible apply Keeps.ite
    | intro _
    | split
    | dsimp only
    | ((try with_reducible conv => arg 3; whnf); (with_reducible apply Keeps.upd); (iterate 18 (with_reducible exact Or.inl rfl)); (exact Or.inr rfl); (iterate 3 (with_reducible exact Or.inl rfl)); (with_reducible exact rfl); (with_reducible exact rfl))

theorem stampAll_keeps (s : State) :
    Keeps [.net] s (stampAll s) := by
  unfold stampAll
  repeat' first
    | with_reducible apply Keeps.refl
    | with_reducible assumption
    | with_reducible apply Keeps.ite
    | with_reducible apply Keeps.foldl
    | with_reducible apply Keeps.foldl_fst
    | with_reducible apply Keeps.foldl_snd
    | with_reducible apply Keeps.foldl_snd2
    | ((with_reducible apply Keeps.step (stampCtx_keeps ..)); exact rfl)
    | intro _
    | split
    | dsimp only
    | ((try with_reducible conv => arg 3; whnf); (with_reducible apply Keeps.upd); (iterate 18 (with_reducible exact Or.inl rfl)); (exact Or.inr rfl); (iterate 3 (with_reducible exact Or.inl rfl)); (with_reducible exact rfl); (with_reducible exact rfl))

end Sys2Proof.Machine
end

