-- ==== Sys2Proof/Laws/KeepMac.lean ====
section
/-! SUPPORT. What each operation of Machine/Mac.lean may change. -/
namespace Sys2Proof.Machine

theorem linkDown_keeps (s : State) (p : Nat) :
    Keeps [.csr] s (linkDown s p) := by
  unfold linkDown
  repeat' first
    | with_reducible apply Keeps.refl
    | with_reducible assumption
    | with_reducible apply Keeps.ite
    | ((with_reducible apply Keeps.step (stick_keeps ..)); exact rfl)
    | ((with_reducible apply Keeps.step (setF_keeps ..)); exact rfl)
    | intro _
    | split
    | dsimp only
    | ((try with_reducible conv => arg 3; whnf); (with_reducible apply Keeps.upd); (with_reducible exact Or.inl rfl); (exact Or.inr rfl); (iterate 20 (with_reducible exact Or.inl rfl)); (with_reducible exact rfl); (with_reducible exact rfl))

theorem linkUp_keeps (s : State) (p speed : Nat) :
    Keeps [.csr] s (linkUp s p speed) := by
  unfold linkUp
  repeat' first
    | with_reducible apply Keeps.refl
    | with_reducible assumption
    | with_reducible apply Keeps.ite
    | ((with_reducible apply Keeps.step (stick_keeps ..)); exact rfl)
    | ((with_reducible apply Keeps.step (setF_keeps ..)); exact rfl)
    | intro _
    | split
    | dsimp only
    | ((try with_reducible conv => arg 3; whnf); (with_reducible apply Keeps.upd); (with_reducible exact Or.inl rfl); (exact Or.inr rfl); (iterate 20 (with_reducible exact Or.inl rfl)); (with_reducible exact rfl); (with_reducible exact rfl))

theorem macCtlWrite_keeps (s : State) (p v : Nat) :
    Keeps [.csr, .net] s (macCtlWrite s p v) := by
  unfold macCtlWrite
  repeat' first
    | with_reducible apply Keeps.refl
    | with_reducible assumption
    | with_reducible apply Keeps.ite
    | ((with_reducible apply Keeps.step (linkDown_keeps ..)); exact rfl)
    | ((with_reducible apply Keeps.step (putPort_keeps ..)); exact rfl)
    | ((with_reducible apply Keeps.step (csrWrite_keeps ..)); exact rfl)
    | ((with_reducible apply Keeps.step (setF_keeps ..)); exact rfl)
    | intro _
    | split
    | dsimp only
    | ((try with_reducible conv => arg 3; whnf); (with_reducible apply Keeps.upd); (with_reducible exact Or.inl rfl); (exact Or.inr rfl); (iterate 16 (with_reducible exact Or.inl rfl)); (exact Or.inr rfl); (iterate 3 (with_reducible exact Or.inl rfl)); (with_reducible exact rfl); (with_reducible exact rfl))

theorem pauseCheck_keeps (s : State) (p : Nat) :
    Keeps [.net] s (pauseCheck s p) := by
  unfold pauseCheck
  repeat' first
    | with_reducible apply Keeps.refl
    | with_reducible assumption
    | with_reducible apply Keeps.ite
    | ((with_reducible apply Keeps.step (putPort_keeps ..)); exact rfl)
    | intro _
    | split
    | dsimp only
    | ((try with_reducible conv => arg 3; whnf); (with_reducible apply Keeps.upd); (iterate 18 (with_reducible exact Or.inl rfl)); (exact Or.inr rfl); (iterate 3 (with_reducible exact Or.inl rfl)); (with_reducible exact rfl); (with_reducible exact rfl))

theorem rxTaken_keeps (s : State) (p k : Nat) :
    Keeps [.net] s (rxTaken s p k) := by
  unfold rxTaken
  repeat' first
    | with_reducible apply Keeps.refl
    | with_reducible assumption
    | with_reducible apply Keeps.ite
    | ((with_reducible apply Keeps.step (putPort_keeps ..)); exact rfl)
    | intro _
    | split
    | dsimp only
    | ((try with_reducible conv => arg 3; whnf); (with_reducible apply Keeps.upd); (iterate 18 (with_reducible exact Or.inl rfl)); (exact Or.inr rfl); (iterate 3 (with_reducible exact Or.inl rfl)); (with_reducible exact rfl); (with_reducible exact rfl))

theorem rxQueue_keeps (s : State) (p : Nat) (f : RxFrame) :
    Keeps [.csr, .net] s (rxQueue s p f) := by
  unfold rxQueue
  repeat' first
    | with_reducible apply Keeps.refl
    | with_reducible assumption
    | with_reducible apply Keeps.ite
    | ((with_reducible apply Keeps.step (putPort_keeps ..)); exact rfl)
    | ((with_reducible apply Keeps.step (count_keeps ..)); exact rfl)
    | ((with_reducible apply Keeps.step (stick_keeps ..)); exact rfl)
    | intro _
    | split
    | dsimp only
    | ((try with_reducible conv => arg 3; whnf); (with_reducible apply Keeps.upd); (with_reducible exact Or.inl rfl); (exact Or.inr rfl); (iterate 16 (with_reducible exact Or.inl rfl)); (exact Or.inr rfl); (iterate 3 (with_reducible exact Or.inl rfl)); (with_reducible exact rfl); (with_reducible exact rfl))

theorem rxHeadrace_keeps (s : State) (p : Nat) (f : List Nat) (u : Udp) :
    Keeps [.csr, .freeCtr, .hr] s (rxHeadrace s p f u) := by
  unfold rxHeadrace
  repeat' first
    | with_reducible apply Keeps.refl
    | with_reducible assumption
    | with_reducible apply Keeps.ite
    | ((with_reducible apply Keeps.step (queueRx_keeps ..)); exact rfl)
    | ((with_reducible apply Keeps.step (rxSump_keeps ..)); exact rfl)
    | ((with_reducible apply Keeps.step (count_keeps ..)); exact rfl)
    | ((with_reducible apply Keeps.step (stick_keeps ..)); exact rfl)
    | intro _
    | split
    | dsimp only
    | ((try with_reducible conv => arg 3; whnf); (with_reducible apply Keeps.upd); (with_reducible exact Or.inl rfl); (exact Or.inr rfl); (with_reducible exact Or.inl rfl); (exact Or.inr rfl); (iterate 5 (with_reducible exact Or.inl rfl)); (exact Or.inr rfl); (iterate 12 (with_reducible exact Or.inl rfl)); (with_reducible exact rfl); (with_reducible exact rfl))

theorem rxHost_keeps (s : State) (p : Nat) (group oversize : Bool) (f : List Nat) (st : Nat × Nat) :
    Keeps [.csr, .net] s (rxHost s p group oversize f st) := by
  unfold rxHost
  repeat' first
    | with_reducible apply Keeps.refl
    | with_reducible assumption
    | with_reducible apply Keeps.ite
    | with_reducible apply Keeps.ite_p1
    | with_reducible apply Keeps.ite_p2
    | with_reducible apply Keeps.ite_p22
    | with_reducible apply Keeps.ite_p222
    | ((with_reducible apply Keeps.step (rxQueue_keeps ..)); exact rfl)
    | ((with_reducible apply Keeps.step (putPort_keeps ..)); exact rfl)
    | ((with_reducible apply Keeps.step (count_keeps ..)); exact rfl)
    | intro _
    | split
    | dsimp only
    | ((try with_reducible conv => arg 3; whnf); (with_reducible apply Keeps.upd); (with_reducible exact Or.inl rfl); (exact Or.inr rfl); (iterate 16 (with_reducible exact Or.inl rfl)); (exact Or.inr rfl); (iterate 3 (with_reducible exact Or.inl rfl)); (with_reducible exact rfl); (with_reducible exact rfl))

theorem macRx_keeps (s : State) (p : Nat) (f : List Nat) (sfd fin taken : Nat) (group : Bool) :
    Keeps [.csr, .mem, .freeCtr, .flood, .slu, .hr, .cv, .bus, .rcu, .redun, .net] s (macRx s p f sfd fin taken group) := by
  unfold macRx
  repeat' first
    | with_reducible apply Keeps.refl
    | with_reducible assumption
    | with_reducible apply Keeps.ite
    | with_reducible apply Keeps.ite_p1
    | with_reducible apply Keeps.ite_p2
    | with_reducible apply Keeps.ite_p22
    | with_reducible apply Keeps.ite_p222
    | ((with_reducible apply Keeps.step (rxHost_keeps ..)); exact rfl)
    | ((with_reducible apply Keeps.step (rxHeadrace_keeps ..)); exact rfl)
    | ((with_reducible apply Keeps.step (rxQueue_keeps ..)); exact rfl)
    | ((with_reducible apply Keeps.step (rxTaken_keeps ..)); exact rfl)
    | ((with_reducible apply Keeps.step (pauseCheck_keeps ..)); exact rfl)
    | ((with_reducible apply Keeps.step (putPort_keeps ..)); exact rfl)
    | ((with_reducible apply Keeps.step (mediaFrame_keeps ..)); exact rfl)
    | ((with_reducible apply Keeps.step (count_keeps ..)); exact rfl)
    | ((with_reducible apply Keeps.step (stick_keeps ..)); exact rfl)
    | intro _
    | split
    | dsimp only
    | ((try with_reducible conv => arg 3; whnf); (with_reducible apply Keeps.upd); (with_reducible exact Or.inl rfl); (iterate 3 (exact Or.inr rfl)); (iterate 3 (with_reducible exact Or.inl rfl)); (iterate 3 (exact Or.inr rfl)); (with_reducible exact Or.inl rfl); (iterate 2 (exact Or.inr rfl)); (with_reducible exact Or.inl rfl); (iterate 2 (exact Or.inr rfl)); (iterate 2 (with_reducible exact Or.inl rfl)); (exact Or.inr rfl); (iterate 3 (with_reducible exact Or.inl rfl)); (with_reducible exact rfl); (with_reducible exact rfl))

theorem postFrame_keeps (p : Nat) (s : State) (x : TxPost) :
    Keeps [.net] s (postFrame p s x) := by
  unfold postFrame
  repeat' first
    | with_reducible apply Keeps.refl
    | with_reducible assumption
    | with_reducible apply Keeps.ite
    | ((with_reducible apply Keeps.step (putPort_keeps ..)); exact rfl)
    | intro _
    | split
    | dsimp only
    | ((try with_reducible conv => arg 3; whnf); (with_reducible apply Keeps.upd); (iterate 18 (with_reducible exact Or.inl rfl)); (exact Or.inr rfl); (iterate 3 (with_reducible exact Or.inl rfl)); (with_reducible exact rfl); (with_reducible exact rfl))

theorem takeOut_keeps {s : State} {via : Via} {r : OutMsg × State} (h : takeOut s via = some r) : Keeps [.hr] s r.2 := by
  unfold takeOut at h
  split at h
  · cases h
    exact ⟨fun p hp => by cases p <;> first | exact rfl | exact absurd (by decide) hp, Inv_of_mem rfl rfl⟩
  · obtain ⟨k, -, e⟩ := List.exists_of_findSome?_eq_some h
    dsimp only at e
    split at e
    · obtain ⟨x, hx, rfl⟩ := Option.map_eq_some_iff.1 e
      exact popEvent_keeps hx
    · cases e

theorem sendPtp_keeps (s : State) (p cyc : Nat) (t : TxFrame) :
    Keeps [.csr, .net] s (sendPtp s p cyc t) := by
  unfold sendPtp
  repeat' first
    | with_reducible apply Keeps.refl
    | with_reducible assumption
    | with_reducible apply Keeps.ite
    | with_reducible apply Keeps.ite_p1
    | with_reducible apply Keeps.ite_p2
    | with_reducible apply Keeps.ite_p22
    | with_reducible apply Keeps.ite_p222
    | ((with_reducible apply Keeps.step (putPort_keeps ..)); exact rfl)
    | ((with_reducible apply Keeps.step (count_keeps ..)); exact rfl)
    | ((with_reducible apply Keeps.step (stick_keeps ..)); exact rfl)
    | intro _
    | split
    | dsimp only
    | ((try with_reducible conv => arg 3; whnf); (with_reducible apply Keeps.upd); (with_reducible exact Or.inl rfl); (exact Or.inr rfl); (iterate 16 (with_reducible exact Or.inl rfl)); (exact Or.inr rfl); (iterate 3 (with_reducible exact Or.inl rfl)); (with_reducible exact rfl); (with_reducible exact rfl))

theorem sendCut_keeps (s : State) (p : Nat) (dry : Bool) (t : TxFrame) :
    Keeps [.csr, .net] s (sendCut s p dry t) := by
  unfold sendCut
  repeat' first
    | with_reducible apply Keeps.refl
    | with_reducible assumption
    | with_reducible apply Keeps.ite
    | ((with_reducible apply Keeps.step (putPort_keeps ..)); exact rfl)
    | ((with_reducible apply Keeps.step (count_keeps ..)); exact rfl)
    | ((with_reducible apply Keeps.step (stick_keeps ..)); exact rfl)
    | ((with_reducible apply Keeps.step (setF_keeps ..)); exact rfl)
    | intro _
    | split
    | dsimp only
    | ((try with_reducible conv => arg 3; whnf); (with_reducible apply Keeps.upd); (with_reducible exact Or.inl rfl); (exact Or.inr rfl); (iterate 16 (with_reducible exact Or.inl rfl)); (exact Or.inr rfl); (iterate 3 (with_reducible exact Or.inl rfl)); (with_reducible exact rfl); (with_reducible exact rfl))

theorem macTx_keeps (s : State) (p : Nat) (posted : List TxPost) (cyc : Nat) (dry : Bool) (taken : Nat) :
    Keeps [.csr, .hr, .net] s (macTx s p posted cyc dry taken) := by
  unfold macTx
  repeat' first
    | with_reducible apply Keeps.refl
    | with_reducible assumption
    | with_reducible apply Keeps.ite
    | with_reducible apply Keeps.ite_p1
    | with_reducible apply Keeps.ite_p2
    | with_reducible apply Keeps.ite_p22
    | with_reducible apply Keeps.ite_p222
    | with_reducible apply Keeps.foldl
    | with_reducible apply Keeps.foldl_fst
    | with_reducible apply Keeps.foldl_snd
    | with_reducible apply Keeps.foldl_snd2
    | ((with_reducible apply Keeps.step (sendCut_keeps ..)); exact rfl)
    | ((with_reducible apply Keeps.step (sendPtp_keeps ..)); exact rfl)
    | ((with_reducible apply Keeps.step (takeOut_keeps (by assumption))); exact rfl)
    | ((with_reducible apply Keeps.step (postFrame_keeps ..)); exact rfl)
    | ((with_reducible apply Keeps.step (rxTaken_keeps ..)); exact rfl)
    | ((with_reducible apply Keeps.step (pauseCheck_keeps ..)); exact rfl)
    | ((with_reducible apply Keeps.step (putPort_keeps ..)); exact rfl)
    | ((with_reducible apply Keeps.step (count_keeps ..)); exact rfl)
    | intro _
    | split
    | dsimp only
    | ((try with_reducible conv => arg 3; whnf); (with_reducible apply Keeps.upd); (with_reducible exact Or.inl rfl); (exact Or.inr rfl); (iterate 7 (with_reducible exact Or.inl rfl)); (exact Or.inr rfl); (iterate 8 (with_reducible exact Or.inl rfl)); (exact Or.inr rfl); (iterate 3 (with_reducible exact Or.inl rfl)); (with_reducible exact rfl); (with_reducible exact rfl))

theorem pauseExpiry_keeps (s : State) (p taken : Nat) :
    Keeps [.net] s (pauseExpiry s p taken) := by
  unfold pauseExpiry
  repeat' first
    | with_reducible apply Keeps.refl
    | with_reducible assumption
    | with_reducible apply Keeps.ite
    | ((with_reducible apply Keeps.step (rxTaken_keeps ..)); exact rfl)
    | ((with_reducible apply Keeps.step (pauseCheck_keeps ..)); exact rfl)
    | ((with_reducible apply Keeps.step (putPort_keeps ..)); exact rfl)
    | intro _
    | split
    | dsimp only
    | ((try with_reducible conv => arg 3; whnf); (with_reducible apply Keeps.upd); (iterate 18 (with_reducible exact Or.inl rfl)); (exact Or.inr rfl); (iterate 3 (with_reducible exact Or.inl rfl)); (with_reducible exact rfl); (with_reducible exact rfl))

theorem segSend_keeps (s : State) (p : Nat) (tmpl payload : List Nat) :
    Keeps [.csr, .net] s (segSend s p tmpl payload) := by
  unfold segSend
  repeat' first
    | with_reducible apply Keeps.refl
    | with_reducible assumption
    | with_reducible apply Keeps.ite
    | ((with_reducible apply Keeps.step (putPort_keeps ..)); exact rfl)
    | ((with_reducible apply Keeps.step (stick_keeps ..)); exact rfl)
    | intro _
    | split
    | dsimp only
    | ((try with_reducible conv => arg 3; whnf); (with_reducible apply Keeps.upd); (with_reducible exact Or.inl rfl); (exact Or.inr rfl); (iterate 16 (with_reducible exact Or.inl rfl)); (exact Or.inr rfl); (iterate 3 (with_reducible exact Or.inl rfl)); (with_reducible exact rfl); (with_reducible exact rfl))

theorem tsqPop_keeps (s : State) (p : Nat) :
    Keeps [.net] s (tsqPop s p) := by
  unfold tsqPop
  repeat' first
    | with_reducible apply Keeps.refl
    | with_reducible assumption
    | with_reducible apply Keeps.ite
    | ((with_reducible apply Keeps.step (putPort_keeps ..)); exact rfl)
    | intro _
    | split
    | dsimp only
    | ((try with_reducible conv => arg 3; whnf); (with_reducible apply Keeps.upd); (iterate 18 (with_reducible exact Or.inl rfl)); (exact Or.inr rfl); (iterate 3 (with_reducible exact Or.inl rfl)); (with_reducible exact rfl); (with_reducible exact rfl))

end Sys2Proof.Machine
end

