-- ==== Sys2Proof/Laws/KeepIntake.lean ====
section
/-! SUPPORT. What each operation of Machine/Intake.lean may change. -/
namespace Sys2Proof.Machine

theorem runGen_keeps (n : Nat) (s : State) (g : Nat) :
    Keeps [.dsp] s (runGen n s g) := by
  unfold runGen
  repeat' first
    | with_reducible apply Keeps.refl
    | with_reducible assumption
    | with_reducible apply Keeps.ite
    | with_reducible apply Keeps.ite_p1
    | with_reducible apply Keeps.ite_p2
    | with_reducible apply Keeps.ite_p22
    | with_reducible apply Keeps.ite_p222
    | intro _
    | split
    | dsimp only
    | ((try with_reducible conv => arg 3; whnf); (with_reducible apply Keeps.upd); (iterate 5 (with_reducible exact Or.inl rfl)); (exact Or.inr rfl); (iterate 16 (with_reducible exact Or.inl rfl)); (with_reducible exact rfl); (with_reducible exact rfl))

theorem resetGens_keeps (s : State) :
    Keeps [.dsp] s (resetGens s) := by
  unfold resetGens
  repeat' first
    | with_reducible apply Keeps.refl
    | with_reducible assumption
    | with_reducible apply Keeps.ite
    | intro _
    | split
    | dsimp only
    | ((try with_reducible conv => arg 3; whnf); (with_reducible apply Keeps.upd); (iterate 5 (with_reducible exact Or.inl rfl)); (exact Or.inr rfl); (iterate 16 (with_reducible exact Or.inl rfl)); (with_reducible exact rfl); (with_reducible exact rfl))

theorem presentFx_keeps (n : Nat) (s : State) (slot : Nat) :
    Keeps [.dsp] s (presentFx n s slot) := by
  unfold presentFx
  repeat' first
    | with_reducible apply Keeps.refl
    | with_reducible assumption
    | with_reducible apply Keeps.ite
    | intro _
    | split
    | dsimp only
    | ((try with_reducible conv => arg 3; whnf); (with_reducible apply Keeps.upd); (iterate 5 (with_reducible exact Or.inl rfl)); (exact Or.inr rfl); (iterate 16 (with_reducible exact Or.inl rfl)); (with_reducible exact rfl); (with_reducible exact rfl))

theorem countClip_keeps (s : State) (v : Int) :
    Keeps [.csr] s (countClip s v) := by
  unfold countClip
  repeat' first
    | with_reducible apply Keeps.refl
    | with_reducible assumption
    | with_reducible apply Keeps.ite
    | ((with_reducible apply Keeps.step (count_keeps ..)); exact rfl)
    | ((with_reducible apply Keeps.step (stick_keeps ..)); exact rfl)
    | intro _
    | split
    | dsimp only
    | ((try with_reducible conv => arg 3; whnf); (with_reducible apply Keeps.upd); (with_reducible exact Or.inl rfl); (exact Or.inr rfl); (iterate 20 (with_reducible exact Or.inl rfl)); (with_reducible exact rfl); (with_reducible exact rfl))

theorem presentOut_keeps (used : List Nat) (s : State) (id : Nat) :
    Keeps [.csr, .dsp] s (presentOut used s id) := by
  unfold presentOut
  repeat' first
    | with_reducible apply Keeps.refl
    | with_reducible assumption
    | with_reducible apply Keeps.ite
    | ((with_reducible apply Keeps.step (countClip_keeps ..)); exact rfl)
    | intro _
    | split
    | dsimp only
    | ((try with_reducible conv => arg 3; whnf); (with_reducible apply Keeps.upd); (with_reducible exact Or.inl rfl); (exact Or.inr rfl); (iterate 3 (with_reducible exact Or.inl rfl)); (exact Or.inr rfl); (iterate 16 (with_reducible exact Or.inl rfl)); (with_reducible exact rfl); (with_reducible exact rfl))

theorem alignRefused_keeps (s : State) (u n : Nat) (ds : List Nat) :
    Keeps [.csr] s (alignRefused s u n ds) := by
  unfold alignRefused
  repeat' first
    | with_reducible apply Keeps.refl
    | with_reducible assumption
    | with_reducible apply Keeps.ite
    | with_reducible apply Keeps.foldl
    | ((with_reducible apply Keeps.step (ownRefuse_keeps ..)); exact rfl)
    | intro _
    | split
    | dsimp only
    | ((try with_reducible conv => arg 3; whnf); (with_reducible apply Keeps.upd); (with_reducible exact Or.inl rfl); (exact Or.inr rfl); (iterate 20 (with_reducible exact Or.inl rfl)); (with_reducible exact rfl); (with_reducible exact rfl))

theorem intakeStrip_keeps (n : Nat) (s : State) (u : Nat) :
    Keeps [.csr, .dsp] s (intakeStrip n s u) := by
  unfold intakeStrip
  repeat' first
    | with_reducible apply Keeps.refl
    | with_reducible assumption
    | with_reducible apply Keeps.ite
    | ((with_reducible apply Keeps.step (alignRefused_keeps ..)); exact rfl)
    | intro _
    | split
    | dsimp only
    | ((try with_reducible conv => arg 3; whnf); (with_reducible apply Keeps.upd); (with_reducible exact Or.inl rfl); (exact Or.inr rfl); (iterate 3 (with_reducible exact Or.inl rfl)); (exact Or.inr rfl); (iterate 16 (with_reducible exact Or.inl rfl)); (with_reducible exact rfl); (with_reducible exact rfl))

theorem silence_keeps (s : State) (n : Nat) :
    Keeps [.csr, .mem, .sched, .slu, .bus] s (silence s n) := by
  unfold silence
  repeat' first
    | with_reducible apply Keeps.refl
    | with_reducible assumption
    | with_reducible apply Keeps.ite
    | with_reducible apply Keeps.ite_p1
    | with_reducible apply Keeps.ite_p2
    | with_reducible apply Keeps.ite_p22
    | with_reducible apply Keeps.ite_p222
    | with_reducible apply Keeps.foldl
    | with_reducible apply Keeps.foldl_fst
    | with_reducible apply Keeps.foldl_snd
    | with_reducible apply Keeps.foldl_snd2
    | ((with_reducible apply Keeps.step (writeWord_keeps ..)); exact rfl)
    | ((with_reducible apply Keeps.step (setF_keeps ..)); exact rfl)
    | intro _
    | split
    | dsimp only
    | ((try with_reducible conv => arg 3; whnf); (with_reducible apply Keeps.upd); (with_reducible exact Or.inl rfl); (iterate 2 (exact Or.inr rfl)); (with_reducible exact Or.inl rfl); (exact Or.inr rfl); (iterate 3 (with_reducible exact Or.inl rfl)); (exact Or.inr rfl); (iterate 3 (with_reducible exact Or.inl rfl)); (exact Or.inr rfl); (iterate 9 (with_reducible exact Or.inl rfl)); (with_reducible exact rfl); (with_reducible exact rfl))

theorem intake_keeps (s : State) (n : Nat) :
    Keeps [.csr, .mem, .sched, .dsp, .slu, .bus] s (intake s n) := by
  unfold intake
  repeat' first
    | with_reducible apply Keeps.refl
    | with_reducible assumption
    | with_reducible apply Keeps.ite
    | with_reducible apply Keeps.foldl
    | with_reducible apply Keeps.foldl_fst
    | with_reducible apply Keeps.foldl_snd
    | with_reducible apply Keeps.foldl_snd2
    | ((with_reducible apply Keeps.step (silence_keeps ..)); exact rfl)
    | ((with_reducible apply Keeps.step (intakeStrip_keeps ..)); exact rfl)
    | ((with_reducible apply Keeps.step (presentOut_keeps ..)); exact rfl)
    | ((with_reducible apply Keeps.step (presentFx_keeps ..)); exact rfl)
    | ((with_reducible apply Keeps.step (runGen_keeps ..)); exact rfl)
    | intro _
    | split
    | dsimp only
    | ((try with_reducible conv => arg 3; whnf); (with_reducible apply Keeps.upd); (with_reducible exact Or.inl rfl); (iterate 2 (exact Or.inr rfl)); (with_reducible exact Or.inl rfl); (iterate 2 (exact Or.inr rfl)); (iterate 2 (with_reducible exact Or.inl rfl)); (exact Or.inr rfl); (iterate 3 (with_reducible exact Or.inl rfl)); (exact Or.inr rfl); (iterate 9 (with_reducible exact Or.inl rfl)); (with_reducible exact rfl); (with_reducible exact rfl))

end Sys2Proof.Machine
end

