-- ==== Sys2Proof/Laws/KeepScene.lean ====
section
/-! SUPPORT. What each operation of Machine/Scene.lean may change. -/
namespace Sys2Proof.Machine

theorem loadScene_keeps (s : State) (scene : Nat) :
    Keeps [.csr, .mem, .freeCtr, .flood, .slu, .hr, .cv, .bus, .rcu, .redun] s (loadScene s scene).2 := by
  unfold loadScene
  repeat' first
    | with_reducible apply Keeps.refl
    | with_reducible assumption
    | with_reducible apply Keeps.ite
    | with_reducible apply Keeps.ite_p1
    | with_reducible apply Keeps.ite_p2
    | with_reducible apply Keeps.ite_p22
    | with_reducible apply Keeps.ite_p222
    | ((with_reducible apply Keeps.step (scanRange_keeps ..)); exact rfl)
    | ((with_reducible apply Keeps.step (engineWrite_keeps ..)); exact rfl)
    | intro _
    | split
    | dsimp only
    | ((try with_reducible conv => arg 3; whnf); (with_reducible apply Keeps.upd); (with_reducible exact Or.inl rfl); (iterate 3 (exact Or.inr rfl)); (iterate 3 (with_reducible exact Or.inl rfl)); (iterate 3 (exact Or.inr rfl)); (with_reducible exact Or.inl rfl); (iterate 2 (exact Or.inr rfl)); (with_reducible exact Or.inl rfl); (iterate 2 (exact Or.inr rfl)); (iterate 6 (with_reducible exact Or.inl rfl)); (with_reducible exact rfl); (with_reducible exact rfl))

theorem scanLive_keeps (s : State) (units : List Nat) :
    Keeps [.csr, .freeCtr, .flood, .slu, .hr, .cv, .bus, .rcu, .redun] s (scanLive s units) := by
  unfold scanLive
  repeat' first
    | with_reducible apply Keeps.refl
    | with_reducible assumption
    | with_reducible apply Keeps.ite
    | with_reducible apply Keeps.foldl
    | ((with_reducible apply Keeps.step (eccTouch_keeps ..)); exact rfl)
    | intro _
    | split
    | dsimp only
    | ((try with_reducible conv => arg 3; whnf); (with_reducible apply Keeps.upd); (with_reducible exact Or.inl rfl); (exact Or.inr rfl); (with_reducible exact Or.inl rfl); (exact Or.inr rfl); (iterate 3 (with_reducible exact Or.inl rfl)); (iterate 3 (exact Or.inr rfl)); (with_reducible exact Or.inl rfl); (iterate 2 (exact Or.inr rfl)); (with_reducible exact Or.inl rfl); (iterate 2 (exact Or.inr rfl)); (iterate 6 (with_reducible exact Or.inl rfl)); (with_reducible exact rfl); (with_reducible exact rfl))

theorem captureScene_keeps (s : State) (scene : Nat) (mask : List Nat) (ramps : List Nat) :
    Keeps [.csr, .mem, .freeCtr, .flood, .slu, .hr, .cv, .bus, .rcu, .redun] s (captureScene s scene mask ramps).2 := by
  unfold captureScene
  repeat' first
    | with_reducible apply Keeps.refl
    | with_reducible assumption
    | with_reducible apply Keeps.ite
    | with_reducible apply Keeps.ite_p1
    | with_reducible apply Keeps.ite_p2
    | with_reducible apply Keeps.ite_p22
    | with_reducible apply Keeps.ite_p222
    | ((with_reducible apply Keeps.step (scanLive_keeps ..)); exact rfl)
    | ((with_reducible apply Keeps.step (engineWrite_keeps ..)); exact rfl)
    | intro _
    | split
    | dsimp only
    | ((try with_reducible conv => arg 3; whnf); (with_reducible apply Keeps.upd); (with_reducible exact Or.inl rfl); (iterate 3 (exact Or.inr rfl)); (iterate 3 (with_reducible exact Or.inl rfl)); (iterate 3 (exact Or.inr rfl)); (with_reducible exact Or.inl rfl); (iterate 2 (exact Or.inr rfl)); (with_reducible exact Or.inl rfl); (iterate 2 (exact Or.inr rfl)); (iterate 6 (with_reducible exact Or.inl rfl)); (with_reducible exact rfl); (with_reducible exact rfl))

theorem preloadLoad_keeps (s : State) (scene : Nat) :
    Keeps [.csr, .slu] s (preloadLoad s scene) := by
  unfold preloadLoad
  repeat' first
    | with_reducible apply Keeps.refl
    | with_reducible assumption
    | with_reducible apply Keeps.ite
    | ((with_reducible apply Keeps.step (count_keeps ..)); exact rfl)
    | ((with_reducible apply Keeps.step (stick_keeps ..)); exact rfl)
    | intro _
    | split
    | dsimp only
    | ((try with_reducible conv => arg 3; whnf); (with_reducible apply Keeps.upd); (with_reducible exact Or.inl rfl); (exact Or.inr rfl); (iterate 6 (with_reducible exact Or.inl rfl)); (exact Or.inr rfl); (iterate 13 (with_reducible exact Or.inl rfl)); (with_reducible exact rfl); (with_reducible exact rfl))

theorem preloadDone_keeps (s : State) :
    Keeps [.csr, .mem, .freeCtr, .flood, .slu, .hr, .cv, .bus, .rcu, .redun] s (preloadDone s) := by
  unfold preloadDone
  repeat' first
    | with_reducible apply Keeps.refl
    | with_reducible assumption
    | with_reducible apply Keeps.ite
    | with_reducible apply Keeps.ite_p1
    | with_reducible apply Keeps.ite_p2
    | with_reducible apply Keeps.ite_p22
    | with_reducible apply Keeps.ite_p222
    | ((with_reducible apply Keeps.step (loadScene_keeps ..)); exact rfl)
    | ((with_reducible apply Keeps.step (sendEvent_keeps ..)); exact rfl)
    | ((with_reducible apply Keeps.step (stick_keeps ..)); exact rfl)
    | intro _
    | split
    | dsimp only
    | ((try with_reducible conv => arg 3; whnf); (with_reducible apply Keeps.upd); (with_reducible exact Or.inl rfl); (iterate 3 (exact Or.inr rfl)); (iterate 3 (with_reducible exact Or.inl rfl)); (iterate 3 (exact Or.inr rfl)); (with_reducible exact Or.inl rfl); (iterate 2 (exact Or.inr rfl)); (with_reducible exact Or.inl rfl); (iterate 2 (exact Or.inr rfl)); (iterate 6 (with_reducible exact Or.inl rfl)); (with_reducible exact rfl); (with_reducible exact rfl))

theorem storeDone_keeps (s : State) (ok : Bool) :
    Keeps [.csr, .mem, .freeCtr, .flood, .slu, .hr, .cv, .bus, .rcu, .redun] s (storeDone s ok) := by
  unfold storeDone
  repeat' first
    | with_reducible apply Keeps.refl
    | with_reducible assumption
    | with_reducible apply Keeps.ite
    | ((with_reducible apply Keeps.step (scanRange_keeps ..)); exact rfl)
    | ((with_reducible apply Keeps.step (sendEvent_keeps ..)); exact rfl)
    | ((with_reducible apply Keeps.step (writeBytes_keeps ..)); exact rfl)
    | intro _
    | split
    | dsimp only
    | ((try with_reducible conv => arg 3; whnf); (with_reducible apply Keeps.upd); (with_reducible exact Or.inl rfl); (iterate 3 (exact Or.inr rfl)); (iterate 3 (with_reducible exact Or.inl rfl)); (iterate 3 (exact Or.inr rfl)); (with_reducible exact Or.inl rfl); (iterate 2 (exact Or.inr rfl)); (with_reducible exact Or.inl rfl); (iterate 2 (exact Or.inr rfl)); (iterate 6 (with_reducible exact Or.inl rfl)); (with_reducible exact rfl); (with_reducible exact rfl))

end Sys2Proof.Machine
end

