-- ==== Sys2Proof/Laws/KeepStrips.lean ====
section
/-! SUPPORT. What each operation of Machine/Strips.lean may change. -/
namespace Sys2Proof.Machine

theorem putBlk_keeps (s : State) (u blk ver : Nat) (x : List Int) :
    Keeps [.dsp] s (putBlk s u blk ver x) := by
  unfold putBlk
  repeat' first
    | with_reducible apply Keeps.refl
    | with_reducible assumption
    | with_reducible apply Keeps.ite
    | intro _
    | split
    | dsimp only
    | ((try with_reducible conv => arg 3; whnf); (with_reducible apply Keeps.upd); (iterate 5 (with_reducible exact Or.inl rfl)); (exact Or.inr rfl); (iterate 16 (with_reducible exact Or.inl rfl)); (with_reducible exact rfl); (with_reducible exact rfl))

theorem clearStrip_keeps (s : State) (u : Nat) :
    Keeps [.dsp] s (clearStrip s u) := by
  unfold clearStrip
  repeat' first
    | with_reducible apply Keeps.refl
    | with_reducible assumption
    | with_reducible apply Keeps.ite
    | with_reducible apply Keeps.ite_p1
    | with_reducible apply Keeps.ite_p2
    | with_reducible apply Keeps.ite_p22
    | with_reducible apply Keeps.ite_p222
    | intro _
    | split
    | dsimp only
    | ((try with_reducible conv => arg 3; whnf); (with_reducible apply Keeps.upd); (iterate 5 (with_reducible exact Or.inl rfl)); (exact Or.inr rfl); (iterate 16 (with_reducible exact Or.inl rfl)); (with_reducible exact rfl); (with_reducible exact rfl))

theorem filtStage_keeps (s : State) (n u blk : Nat) (x : Int) :
    Keeps [.dsp] s (filtStage s n u blk x).2 := by
  unfold filtStage
  repeat' first
    | with_reducible apply Keeps.refl
    | with_reducible assumption
    | with_reducible apply Keeps.ite
    | with_reducible apply Keeps.ite_p1
    | with_reducible apply Keeps.ite_p2
    | with_reducible apply Keeps.ite_p22
    | with_reducible apply Keeps.ite_p222
    | ((with_reducible apply Keeps.step (putBlk_keeps ..)); exact rfl)
    | intro _
    | split
    | dsimp only
    | ((try with_reducible conv => arg 3; whnf); (with_reducible apply Keeps.upd); (iterate 5 (with_reducible exact Or.inl rfl)); (exact Or.inr rfl); (iterate 16 (with_reducible exact Or.inl rfl)); (with_reducible exact rfl); (with_reducible exact rfl))

theorem preStage_keeps (s : State) (n u : Nat) (x0 : Int) :
    Keeps [.dsp] s (preStage s n u x0).2.2 := by
  unfold preStage
  repeat' first
    | with_reducible apply Keeps.refl
    | with_reducible assumption
    | with_reducible apply Keeps.ite
    | with_reducible apply Keeps.ite_p1
    | with_reducible apply Keeps.ite_p2
    | with_reducible apply Keeps.ite_p22
    | with_reducible apply Keeps.ite_p222
    | ((with_reducible apply Keeps.step (filtStage_keeps ..)); exact rfl)
    | intro _
    | split
    | dsimp only
    | ((try with_reducible conv => arg 3; whnf); (with_reducible apply Keeps.upd); (iterate 5 (with_reducible exact Or.inl rfl)); (exact Or.inr rfl); (iterate 16 (with_reducible exact Or.inl rfl)); (with_reducible exact rfl); (with_reducible exact rfl))

theorem dynLane_keeps (comp : Bool) (s : State) (n u i : Nat) (linked : Bool) (a b : Int) :
    Keeps [.dsp] s (dynLane comp s n u i linked a b).2.2 := by
  delta dynLane
  try lift_lets
  intros
  repeat' first
    | with_reducible apply Keeps.refl
    | with_reducible assumption
    | with_reducible apply Keeps.ite
    | with_reducible apply Keeps.ite_p1
    | with_reducible apply Keeps.ite_p2
    | with_reducible apply Keeps.ite_p22
    | with_reducible apply Keeps.ite_p222
    | ((with_reducible apply Keeps.step (putBlk_keeps ..)); exact rfl)
    | intro _
    | split
    | dsimp only
    | ((try with_reducible conv => arg 3; whnf); (with_reducible apply Keeps.upd); (iterate 5 (with_reducible exact Or.inl rfl)); (exact Or.inr rfl); (iterate 16 (with_reducible exact Or.inl rfl)); (with_reducible exact rfl); (with_reducible exact rfl))

theorem dynStage_keeps (comp : Bool) (s : State) (n u m : Nat) (lk : Nat × Option (Nat × Int)) (a b : List Int) :
    Keeps [.dsp] s (dynStage comp s n u m lk a b).2.2 := by
  unfold dynStage
  repeat' first
    | with_reducible apply Keeps.refl
    | with_reducible assumption
    | with_reducible apply Keeps.ite
    | with_reducible apply Keeps.ite_p1
    | with_reducible apply Keeps.ite_p2
    | with_reducible apply Keeps.ite_p22
    | with_reducible apply Keeps.ite_p222
    | with_reducible apply Keeps.foldl
    | with_reducible apply Keeps.foldl_fst
    | with_reducible apply Keeps.foldl_snd
    | with_reducible apply Keeps.foldl_snd2
    | ((with_reducible apply Keeps.step (dynLane_keeps ..)); exact rfl)
    | intro _
    | split
    | dsimp only
    | ((try with_reducible conv => arg 3; whnf); (with_reducible apply Keeps.upd); (iterate 5 (with_reducible exact Or.inl rfl)); (exact Or.inr rfl); (iterate 16 (with_reducible exact Or.inl rfl)); (with_reducible exact rfl); (with_reducible exact rfl))

theorem bandStage_keeps (s : State) (n u b i : Nat) (x : Int) :
    Keeps [.dsp] s (bandStage s n u b i x).2 := by
  unfold bandStage
  repeat' first
    | with_reducible apply Keeps.refl
    | with_reducible assumption
    | with_reducible apply Keeps.ite
    | with_reducible apply Keeps.ite_p1
    | with_reducible apply Keeps.ite_p2
    | with_reducible apply Keeps.ite_p22
    | with_reducible apply Keeps.ite_p222
    | ((with_reducible apply Keeps.step (putBlk_keeps ..)); exact rfl)
    | intro _
    | split
    | dsimp only
    | ((try with_reducible conv => arg 3; whnf); (with_reducible apply Keeps.upd); (iterate 5 (with_reducible exact Or.inl rfl)); (exact Or.inr rfl); (iterate 16 (with_reducible exact Or.inl rfl)); (with_reducible exact rfl); (with_reducible exact rfl))

theorem eqLane_keeps (s : State) (n u i : Nat) (x : Int) :
    Keeps [.dsp] s (eqLane s n u i x).2 := by
  unfold eqLane
  repeat' first
    | with_reducible apply Keeps.refl
    | with_reducible assumption
    | with_reducible apply Keeps.ite
    | with_reducible apply Keeps.ite_p1
    | with_reducible apply Keeps.ite_p2
    | with_reducible apply Keeps.ite_p22
    | with_reducible apply Keeps.ite_p222
    | with_reducible apply Keeps.foldl
    | with_reducible apply Keeps.foldl_fst
    | with_reducible apply Keeps.foldl_snd
    | with_reducible apply Keeps.foldl_snd2
    | ((with_reducible apply Keeps.step (bandStage_keeps ..)); exact rfl)
    | intro _
    | split
    | dsimp only
    | ((try with_reducible conv => arg 3; whnf); (with_reducible apply Keeps.upd); (iterate 5 (with_reducible exact Or.inl rfl)); (exact Or.inr rfl); (iterate 16 (with_reducible exact Or.inl rfl)); (with_reducible exact rfl); (with_reducible exact rfl))

theorem eqStage_keeps (s : State) (n u m : Nat) (x : List Int) :
    Keeps [.dsp] s (eqStage s n u m x).2 := by
  unfold eqStage
  repeat' first
    | with_reducible apply Keeps.refl
    | with_reducible assumption
    | with_reducible apply Keeps.ite
    | with_reducible apply Keeps.ite_p1
    | with_reducible apply Keeps.ite_p2
    | with_reducible apply Keeps.ite_p22
    | with_reducible apply Keeps.ite_p222
    | with_reducible apply Keeps.foldl
    | with_reducible apply Keeps.foldl_fst
    | with_reducible apply Keeps.foldl_snd
    | with_reducible apply Keeps.foldl_snd2
    | ((with_reducible apply Keeps.step (eqLane_keeps ..)); exact rfl)
    | intro _
    | split
    | dsimp only
    | ((try with_reducible conv => arg 3; whnf); (with_reducible apply Keeps.upd); (iterate 5 (with_reducible exact Or.inl rfl)); (exact Or.inr rfl); (iterate 16 (with_reducible exact Or.inl rfl)); (with_reducible exact rfl); (with_reducible exact rfl))

theorem procPair_keeps (s : State) (n u : Nat) (gate : Bool) (xa xb : Int) :
    Keeps [.dsp] s (procPair s n u gate xa xb).2.2 := by
  delta procPair
  try lift_lets
  intros
  repeat' first
    | with_reducible apply Keeps.refl
    | with_reducible assumption
    | with_reducible apply Keeps.ite
    | with_reducible apply Keeps.ite_p1
    | with_reducible apply Keeps.ite_p2
    | with_reducible apply Keeps.ite_p22
    | with_reducible apply Keeps.ite_p222
    | ((with_reducible apply Keeps.step (eqStage_keeps ..)); exact rfl)
    | ((with_reducible apply Keeps.step (dynStage_keeps ..)); exact rfl)
    | ((with_reducible apply Keeps.step (preStage_keeps ..)); exact rfl)
    | intro _
    | split
    | dsimp only
    | ((try with_reducible conv => arg 3; whnf); (with_reducible apply Keeps.upd); (iterate 5 (with_reducible exact Or.inl rfl)); (exact Or.inr rfl); (iterate 16 (with_reducible exact Or.inl rfl)); (with_reducible exact rfl); (with_reducible exact rfl))

theorem putMeters_keeps (s : State) (u : Nat) (o : StripOut) (peak : Nat) :
    Keeps [.csr, .dsp] s (putMeters s u o peak) := by
  unfold putMeters
  repeat' first
    | with_reducible apply Keeps.refl
    | with_reducible assumption
    | with_reducible apply Keeps.ite
    | ((with_reducible apply Keeps.step (ownRefuse_keeps ..)); exact rfl)
    | intro _
    | split
    | dsimp only
    | ((try with_reducible conv => arg 3; whnf); (with_reducible apply Keeps.upd); (with_reducible exact Or.inl rfl); (exact Or.inr rfl); (iterate 3 (with_reducible exact Or.inl rfl)); (exact Or.inr rfl); (iterate 16 (with_reducible exact Or.inl rfl)); (with_reducible exact rfl); (with_reducible exact rfl))

theorem zeroMeters_keeps (s : State) (u : Nat) :
    Keeps [.csr, .dsp] s (zeroMeters s u) := by
  unfold zeroMeters
  repeat' first
    | with_reducible apply Keeps.refl
    | with_reducible assumption
    | with_reducible apply Keeps.ite
    | ((with_reducible apply Keeps.step (putMeters_keeps ..)); exact rfl)
    | intro _
    | split
    | dsimp only
    | ((try with_reducible conv => arg 3; whnf); (with_reducible apply Keeps.upd); (with_reducible exact Or.inl rfl); (exact Or.inr rfl); (iterate 3 (with_reducible exact Or.inl rfl)); (exact Or.inr rfl); (iterate 16 (with_reducible exact Or.inl rfl)); (with_reducible exact rfl); (with_reducible exact rfl))

theorem putInput_keeps (s : State) (u : Nat) (o : StripOut) (peak : Nat) :
    Keeps [.csr, .dsp] s (putInput s u o peak) := by
  unfold putInput
  repeat' first
    | with_reducible apply Keeps.refl
    | with_reducible assumption
    | with_reducible apply Keeps.ite
    | ((with_reducible apply Keeps.step (putMeters_keeps ..)); exact rfl)
    | intro _
    | split
    | dsimp only
    | ((try with_reducible conv => arg 3; whnf); (with_reducible apply Keeps.upd); (with_reducible exact Or.inl rfl); (exact Or.inr rfl); (iterate 3 (with_reducible exact Or.inl rfl)); (exact Or.inr rfl); (iterate 16 (with_reducible exact Or.inl rfl)); (with_reducible exact rfl); (with_reducible exact rfl))

theorem zeroInput_keeps (s : State) (u : Nat) :
    Keeps [.csr, .dsp] s (zeroInput s u) := by
  unfold zeroInput
  repeat' first
    | with_reducible apply Keeps.refl
    | with_reducible assumption
    | with_reducible apply Keeps.ite
    | ((with_reducible apply Keeps.step (zeroMeters_keeps ..)); exact rfl)
    | intro _
    | split
    | dsimp only
    | ((try with_reducible conv => arg 3; whnf); (with_reducible apply Keeps.upd); (with_reducible exact Or.inl rfl); (exact Or.inr rfl); (iterate 3 (with_reducible exact Or.inl rfl)); (exact Or.inr rfl); (iterate 16 (with_reducible exact Or.inl rfl)); (with_reducible exact rfl); (with_reducible exact rfl))

theorem runInputPair_keeps (s : State) (n u : Nat) :
    Keeps [.csr, .dsp] s (runInputPair s n u) := by
  unfold runInputPair
  repeat' first
    | with_reducible apply Keeps.refl
    | with_reducible assumption
    | with_reducible apply Keeps.ite
    | with_reducible apply Keeps.ite_p1
    | with_reducible apply Keeps.ite_p2
    | with_reducible apply Keeps.ite_p22
    | with_reducible apply Keeps.ite_p222
    | ((with_reducible apply Keeps.step (zeroInput_keeps ..)); exact rfl)
    | ((with_reducible apply Keeps.step (putInput_keeps ..)); exact rfl)
    | ((with_reducible apply Keeps.step (procPair_keeps ..)); exact rfl)
    | ((with_reducible apply Keeps.step (clearStrip_keeps ..)); exact rfl)
    | intro _
    | split
    | dsimp only
    | ((try with_reducible conv => arg 3; whnf); (with_reducible apply Keeps.upd); (with_reducible exact Or.inl rfl); (exact Or.inr rfl); (iterate 3 (with_reducible exact Or.inl rfl)); (exact Or.inr rfl); (iterate 16 (with_reducible exact Or.inl rfl)); (with_reducible exact rfl); (with_reducible exact rfl))

theorem runInputTile_keeps (s : State) (n t : Nat) :
    Keeps [.csr, .dsp] s (runInputTile s n t) := by
  unfold runInputTile
  repeat' first
    | with_reducible apply Keeps.refl
    | with_reducible assumption
    | with_reducible apply Keeps.ite
    | with_reducible apply Keeps.foldl
    | with_reducible apply Keeps.foldl_fst
    | with_reducible apply Keeps.foldl_snd
    | with_reducible apply Keeps.foldl_snd2
    | ((with_reducible apply Keeps.step (runInputPair_keeps ..)); exact rfl)
    | intro _
    | split
    | dsimp only
    | ((try with_reducible conv => arg 3; whnf); (with_reducible apply Keeps.upd); (with_reducible exact Or.inl rfl); (exact Or.inr rfl); (iterate 3 (with_reducible exact Or.inl rfl)); (exact Or.inr rfl); (iterate 16 (with_reducible exact Or.inl rfl)); (with_reducible exact rfl); (with_reducible exact rfl))

theorem runMixPair_keeps (s : State) (n u : Nat) (xa xb : Int) :
    Keeps [.csr, .dsp] s (runMixPair s n u xa xb) := by
  unfold runMixPair
  repeat' first
    | with_reducible apply Keeps.refl
    | with_reducible assumption
    | with_reducible apply Keeps.ite
    | with_reducible apply Keeps.ite_p1
    | with_reducible apply Keeps.ite_p2
    | with_reducible apply Keeps.ite_p22
    | with_reducible apply Keeps.ite_p222
    | ((with_reducible apply Keeps.step (putMeters_keeps ..)); exact rfl)
    | ((with_reducible apply Keeps.step (procPair_keeps ..)); exact rfl)
    | intro _
    | split
    | dsimp only
    | ((try with_reducible conv => arg 3; whnf); (with_reducible apply Keeps.upd); (with_reducible exact Or.inl rfl); (exact Or.inr rfl); (iterate 3 (with_reducible exact Or.inl rfl)); (exact Or.inr rfl); (iterate 16 (with_reducible exact Or.inl rfl)); (with_reducible exact rfl); (with_reducible exact rfl))

theorem zeroMix_keeps (s : State) (u : Nat) :
    Keeps [.csr, .dsp] s (zeroMix s u) := by
  unfold zeroMix
  repeat' first
    | with_reducible apply Keeps.refl
    | with_reducible assumption
    | with_reducible apply Keeps.ite
    | ((with_reducible apply Keeps.step (zeroMeters_keeps ..)); exact rfl)
    | intro _
    | split
    | dsimp only
    | ((try with_reducible conv => arg 3; whnf); (with_reducible apply Keeps.upd); (with_reducible exact Or.inl rfl); (exact Or.inr rfl); (iterate 3 (with_reducible exact Or.inl rfl)); (exact Or.inr rfl); (iterate 16 (with_reducible exact Or.inl rfl)); (with_reducible exact rfl); (with_reducible exact rfl))

end Sys2Proof.Machine
end

