-- ==== Sys2Proof/Laws/KeepSends.lean ====
section
/-! SUPPORT. What each operation of Machine/Sends.lean may change. -/
namespace Sys2Proof.Machine

theorem stageCol_keeps (get : Nat → Nat) (srcs : List Nat) (s : State) (c : Nat) :
    Keeps [.mix] s (stageCol get srcs s c) := by
  unfold stageCol
  repeat' first
    | with_reducible apply Keeps.refl
    | with_reducible assumption
    | with_reducible apply Keeps.ite
    | intro _
    | split
    | dsimp only
    | ((try with_reducible conv => arg 3; whnf); (with_reducible apply Keeps.upd); (iterate 6 (with_reducible exact Or.inl rfl)); (exact Or.inr rfl); (iterate 15 (with_reducible exact Or.inl rfl)); (with_reducible exact rfl); (with_reducible exact rfl))

theorem startCol_keeps (s : State) (n len c : Nat) (upd : List (Nat × Nat) → List (Nat × Nat)) :
    Keeps [.mix] s (startCol s n len c upd) := by
  unfold startCol
  repeat' first
    | with_reducible apply Keeps.refl
    | with_reducible assumption
    | with_reducible apply Keeps.ite
    | with_reducible apply Keeps.ite_p1
    | with_reducible apply Keeps.ite_p2
    | with_reducible apply Keeps.ite_p22
    | with_reducible apply Keeps.ite_p222
    | intro _
    | split
    | dsimp only
    | ((try with_reducible conv => arg 3; whnf); (with_reducible apply Keeps.upd); (iterate 6 (with_reducible exact Or.inl rfl)); (exact Or.inr rfl); (iterate 15 (with_reducible exact Or.inl rfl)); (with_reducible exact rfl); (with_reducible exact rfl))

theorem queueCol_keeps (s : State) (n nRamp c : Nat) (srcs : List Nat) :
    Keeps [.mix] s (queueCol s n nRamp c srcs) := by
  unfold queueCol
  repeat' first
    | with_reducible apply Keeps.refl
    | with_reducible assumption
    | with_reducible apply Keeps.ite
    | intro _
    | split
    | dsimp only
    | ((try with_reducible conv => arg 3; whnf); (with_reducible apply Keeps.upd); (iterate 6 (with_reducible exact Or.inl rfl)); (exact Or.inr rfl); (iterate 15 (with_reducible exact Or.inl rfl)); (with_reducible exact rfl); (with_reducible exact rfl))

theorem commitCol_keeps (s : State) (n : Nat) (words : List (Nat × Nat)) (c : Nat) (srcs : List Nat) :
    Keeps [.csr, .mix] s (commitCol s n words c srcs) := by
  unfold commitCol
  repeat' first
    | with_reducible apply Keeps.refl
    | with_reducible assumption
    | with_reducible apply Keeps.ite
    | with_reducible apply Keeps.ite_p1
    | with_reducible apply Keeps.ite_p2
    | with_reducible apply Keeps.ite_p22
    | with_reducible apply Keeps.ite_p222
    | with_reducible apply Keeps.foldl
    | with_reducible apply Keeps.foldl_fst
    | with_reducible apply Keeps.foldl_snd
    | with_reducible apply Keeps.foldl_snd2
    | ((with_reducible apply Keeps.step (queueCol_keeps ..)); exact rfl)
    | ((with_reducible apply Keeps.step (startCol_keeps ..)); exact rfl)
    | ((with_reducible apply Keeps.step (count_keeps ..)); exact rfl)
    | ((with_reducible apply Keeps.step (stick_keeps ..)); exact rfl)
    | intro _
    | split
    | dsimp only
    | ((try with_reducible conv => arg 3; whnf); (with_reducible apply Keeps.upd); (with_reducible exact Or.inl rfl); (exact Or.inr rfl); (iterate 4 (with_reducible exact Or.inl rfl)); (exact Or.inr rfl); (iterate 15 (with_reducible exact Or.inl rfl)); (with_reducible exact rfl); (with_reducible exact rfl))

theorem freeCol_keeps (s : State) (c : Nat) :
    Keeps [.mix] s (freeCol s c) := by
  unfold freeCol
  repeat' first
    | with_reducible apply Keeps.refl
    | with_reducible assumption
    | with_reducible apply Keeps.ite
    | intro _
    | split
    | dsimp only
    | ((try with_reducible conv => arg 3; whnf); (with_reducible apply Keeps.upd); (iterate 6 (with_reducible exact Or.inl rfl)); (exact Or.inr rfl); (iterate 15 (with_reducible exact Or.inl rfl)); (with_reducible exact rfl); (with_reducible exact rfl))

theorem clearCol_keeps (s : State) (c : Nat) :
    Keeps [.mix] s (clearCol s c) := by
  unfold clearCol
  repeat' first
    | with_reducible apply Keeps.refl
    | with_reducible assumption
    | with_reducible apply Keeps.ite
    | intro _
    | split
    | dsimp only
    | ((try with_reducible conv => arg 3; whnf); (with_reducible apply Keeps.upd); (iterate 6 (with_reducible exact Or.inl rfl)); (exact Or.inr rfl); (iterate 15 (with_reducible exact Or.inl rfl)); (with_reducible exact rfl); (with_reducible exact rfl))

theorem dropHeld_keeps (s : State) (c : Nat) :
    Keeps [.mix] s (dropHeld s c) := by
  unfold dropHeld
  repeat' first
    | with_reducible apply Keeps.refl
    | with_reducible assumption
    | with_reducible apply Keeps.ite
    | intro _
    | split
    | dsimp only
    | ((try with_reducible conv => arg 3; whnf); (with_reducible apply Keeps.upd); (iterate 6 (with_reducible exact Or.inl rfl)); (exact Or.inr rfl); (iterate 15 (with_reducible exact Or.inl rfl)); (with_reducible exact rfl); (with_reducible exact rfl))

theorem endUnit_keeps (s : State) (unit : List Nat) :
    Keeps [.mix] s (endUnit s unit) := by
  unfold endUnit
  repeat' first
    | with_reducible apply Keeps.refl
    | with_reducible assumption
    | with_reducible apply Keeps.ite
    | with_reducible apply Keeps.foldl
    | ((with_reducible apply Keeps.step (dropHeld_keeps ..)); exact rfl)
    | ((with_reducible apply Keeps.step (clearCol_keeps ..)); exact rfl)
    | ((with_reducible apply Keeps.step (freeCol_keeps ..)); exact rfl)
    | ((with_reducible apply Keeps.step (startCol_keeps ..)); exact rfl)
    | intro _
    | split
    | dsimp only
    | ((try with_reducible conv => arg 3; whnf); (with_reducible apply Keeps.upd); (iterate 6 (with_reducible exact Or.inl rfl)); (exact Or.inr rfl); (iterate 15 (with_reducible exact Or.inl rfl)); (with_reducible exact rfl); (with_reducible exact rfl))

theorem endColPair_keeps (s : State) (c : Nat) :
    Keeps [.mix] s (endColPair s c) := by
  unfold endColPair
  repeat' first
    | with_reducible apply Keeps.refl
    | with_reducible assumption
    | with_reducible apply Keeps.ite
    | with_reducible apply Keeps.foldl
    | with_reducible apply Keeps.foldl_fst
    | with_reducible apply Keeps.foldl_snd
    | with_reducible apply Keeps.foldl_snd2
    | ((with_reducible apply Keeps.step (endUnit_keeps ..)); exact rfl)
    | intro _
    | split
    | dsimp only
    | ((try with_reducible conv => arg 3; whnf); (with_reducible apply Keeps.upd); (iterate 6 (with_reducible exact Or.inl rfl)); (exact Or.inr rfl); (iterate 15 (with_reducible exact Or.inl rfl)); (with_reducible exact rfl); (with_reducible exact rfl))

theorem mixCore_keeps (s : State) (n m : Nat) :
    Keeps [.mix] s (mixCore s n m) := by
  unfold mixCore
  repeat' first
    | with_reducible apply Keeps.refl
    | with_reducible assumption
    | with_reducible apply Keeps.ite
    | with_reducible apply Keeps.foldl
    | with_reducible apply Keeps.foldl_fst
    | with_reducible apply Keeps.foldl_snd
    | with_reducible apply Keeps.foldl_snd2
    | intro _
    | split
    | dsimp only
    | ((try with_reducible conv => arg 3; whnf); (with_reducible apply Keeps.upd); (iterate 6 (with_reducible exact Or.inl rfl)); (exact Or.inr rfl); (iterate 15 (with_reducible exact Or.inl rfl)); (with_reducible exact rfl); (with_reducible exact rfl))

theorem zeroLeaves_keeps (s : State) (m : Nat) :
    Keeps [.mix] s (zeroLeaves s m) := by
  unfold zeroLeaves
  repeat' first
    | with_reducible apply Keeps.refl
    | with_reducible assumption
    | with_reducible apply Keeps.ite
    | with_reducible apply Keeps.ite_p1
    | with_reducible apply Keeps.ite_p2
    | with_reducible apply Keeps.ite_p22
    | with_reducible apply Keeps.ite_p222
    | intro _
    | split
    | dsimp only
    | ((try with_reducible conv => arg 3; whnf); (with_reducible apply Keeps.upd); (iterate 6 (with_reducible exact Or.inl rfl)); (exact Or.inr rfl); (iterate 15 (with_reducible exact Or.inl rfl)); (with_reducible exact rfl); (with_reducible exact rfl))

theorem deliverBus_keeps (s : State) (b : Nat) :
    Keeps [.csr, .mem, .mix, .bus] s (deliverBus s b) := by
  delta deliverBus
  try lift_lets
  intros
  repeat' first
    | with_reducible apply Keeps.refl
    | with_reducible assumption
    | with_reducible apply Keeps.ite
    | ((with_reducible apply Keeps.step (writeWord_keeps ..)); exact rfl)
    | ((with_reducible apply Keeps.step (count_keeps ..)); exact rfl)
    | ((with_reducible apply Keeps.step (stick_keeps ..)); exact rfl)
    | ((with_reducible apply Keeps.step (setF_keeps ..)); exact rfl)
    | intro _
    | split
    | dsimp only
    | ((try with_reducible conv => arg 3; whnf); (with_reducible apply Keeps.upd); (with_reducible exact Or.inl rfl); (iterate 2 (exact Or.inr rfl)); (iterate 3 (with_reducible exact Or.inl rfl)); (exact Or.inr rfl); (iterate 5 (with_reducible exact Or.inl rfl)); (exact Or.inr rfl); (iterate 9 (with_reducible exact Or.inl rfl)); (with_reducible exact rfl); (with_reducible exact rfl))

theorem confluence_keeps (s : State) :
    Keeps [.csr, .mem, .mix, .bus] s (confluence s) := by
  delta confluence
  try lift_lets
  intros
  repeat' first
    | with_reducible apply Keeps.refl
    | with_reducible assumption
    | with_reducible apply Keeps.ite
    | with_reducible apply Keeps.foldl
    | with_reducible apply Keeps.foldl_fst
    | with_reducible apply Keeps.foldl_snd
    | with_reducible apply Keeps.foldl_snd2
    | ((with_reducible apply Keeps.step (deliverBus_keeps ..)); exact rfl)
    | intro _
    | split
    | dsimp only
    | ((try with_reducible conv => arg 3; whnf); (with_reducible apply Keeps.upd); (with_reducible exact Or.inl rfl); (iterate 2 (exact Or.inr rfl)); (iterate 3 (with_reducible exact Or.inl rfl)); (exact Or.inr rfl); (iterate 5 (with_reducible exact Or.inl rfl)); (exact Or.inr rfl); (iterate 9 (with_reducible exact Or.inl rfl)); (with_reducible exact rfl); (with_reducible exact rfl))

theorem putTile_keeps (s : State) (c t : Nat) :
    Keeps [.mem, .bus] s (putTile s c t) := by
  unfold putTile
  repeat' first
    | with_reducible apply Keeps.refl
    | with_reducible assumption
    | with_reducible apply Keeps.ite
    | with_reducible apply Keeps.foldl
    | ((with_reducible apply Keeps.step (writeWord_keeps ..)); exact rfl)
    | intro _
    | split
    | dsimp only
    | ((try with_reducible conv => arg 3; whnf); (with_reducible apply Keeps.upd); (iterate 2 (with_reducible exact Or.inl rfl)); (exact Or.inr rfl); (iterate 9 (with_reducible exact Or.inl rfl)); (exact Or.inr rfl); (iterate 9 (with_reducible exact Or.inl rfl)); (with_reducible exact rfl); (with_reducible exact rfl))

theorem runMixTile_keeps (s : State) (n t : Nat) :
    Keeps [.csr, .dsp] s (runMixTile s n t) := by
  unfold runMixTile
  repeat' first
    | with_reducible apply Keeps.refl
    | with_reducible assumption
    | with_reducible apply Keeps.ite
    | with_reducible apply Keeps.foldl
    | with_reducible apply Keeps.foldl_fst
    | with_reducible apply Keeps.foldl_snd
    | with_reducible apply Keeps.foldl_snd2
    | ((with_reducible apply Keeps.step (runMixPair_keeps ..)); exact rfl)
    | intro _
    | split
    | dsimp only
    | ((try with_reducible conv => arg 3; whnf); (with_reducible apply Keeps.upd); (with_reducible exact Or.inl rfl); (exact Or.inr rfl); (iterate 3 (with_reducible exact Or.inl rfl)); (exact Or.inr rfl); (iterate 16 (with_reducible exact Or.inl rfl)); (with_reducible exact rfl); (with_reducible exact rfl))

theorem zeroMixTile_keeps (s : State) (t : Nat) :
    Keeps [.csr, .dsp] s (zeroMixTile s t) := by
  unfold zeroMixTile
  repeat' first
    | with_reducible apply Keeps.refl
    | with_reducible assumption
    | with_reducible apply Keeps.ite
    | with_reducible apply Keeps.foldl
    | with_reducible apply Keeps.foldl_fst
    | with_reducible apply Keeps.foldl_snd
    | with_reducible apply Keeps.foldl_snd2
    | ((with_reducible apply Keeps.step (zeroMix_keeps ..)); exact rfl)
    | intro _
    | split
    | dsimp only
    | ((try with_reducible conv => arg 3; whnf); (with_reducible apply Keeps.upd); (with_reducible exact Or.inl rfl); (exact Or.inr rfl); (iterate 3 (with_reducible exact Or.inl rfl)); (exact Or.inr rfl); (iterate 16 (with_reducible exact Or.inl rfl)); (with_reducible exact rfl); (with_reducible exact rfl))

theorem exchange_keeps (s : State) (ks : List Nat) :
    Keeps [.mem, .bus] s (exchange s ks) := by
  unfold exchange
  repeat' first
    | with_reducible apply Keeps.refl
    | with_reducible assumption
    | with_reducible apply Keeps.ite
    | with_reducible apply Keeps.foldl
    | with_reducible apply Keeps.foldl_fst
    | with_reducible apply Keeps.foldl_snd
    | with_reducible apply Keeps.foldl_snd2
    | ((with_reducible apply Keeps.step (writeWord_keeps ..)); exact rfl)
    | intro _
    | split
    | dsimp only
    | ((try with_reducible conv => arg 3; whnf); (with_reducible apply Keeps.upd); (iterate 2 (with_reducible exact Or.inl rfl)); (exact Or.inr rfl); (iterate 9 (with_reducible exact Or.inl rfl)); (exact Or.inr rfl); (iterate 9 (with_reducible exact Or.inl rfl)); (with_reducible exact rfl); (with_reducible exact rfl))

theorem latePartial_keeps (s : State) :
    Keeps [.csr] s (latePartial s) := by
  unfold latePartial
  repeat' first
    | with_reducible apply Keeps.refl
    | with_reducible assumption
    | with_reducible apply Keeps.ite
    | ((with_reducible apply Keeps.step (count_keeps ..)); exact rfl)
    | ((with_reducible apply Keeps.step (stick_keeps ..)); exact rfl)
    | intro _
    | split
    | dsimp only
    | ((try with_reducible conv => arg 3; whnf); (with_reducible apply Keeps.upd); (with_reducible exact Or.inl rfl); (exact Or.inr rfl); (iterate 20 (with_reducible exact Or.inl rfl)); (with_reducible exact rfl); (with_reducible exact rfl))

end Sys2Proof.Machine
end

