-- ==== Sys2Proof/Laws/KeepSluice.lean ====
section
/-! SUPPORT. What each operation of Machine/Sluice.lean may change. -/
namespace Sys2Proof.Machine

theorem joinGroup_keeps (s : State) (idx : Nat) (ms : List Member) (replayed : Bool) :
    Keeps [.slu] s (joinGroup s idx ms replayed) := by
  unfold joinGroup
  repeat' first
    | with_reducible apply Keeps.refl
    | with_reducible assumption
    | with_reducible apply Keeps.ite
    | intro _
    | split
    | dsimp only
    | ((try with_reducible conv => arg 3; whnf); (with_reducible apply Keeps.upd); (iterate 8 (with_reducible exact Or.inl rfl)); (exact Or.inr rfl); (iterate 13 (with_reducible exact Or.inl rfl)); (with_reducible exact rfl); (with_reducible exact rfl))

theorem stageWrites_keeps (s : State) (ws : List PWrite) :
    Keeps [.csr, .mem, .freeCtr, .flood, .slu, .hr, .cv, .bus, .rcu, .redun] s (stageWrites s ws) := by
  unfold stageWrites
  repeat' first
    | with_reducible apply Keeps.refl
    | with_reducible assumption
    | with_reducible apply Keeps.ite
    | with_reducible apply Keeps.foldl
    | with_reducible apply Keeps.foldl_fst
    | with_reducible apply Keeps.foldl_snd
    | with_reducible apply Keeps.foldl_snd2
    | ((with_reducible apply Keeps.step (pwriteShadow_keeps ..)); exact rfl)
    | intro _
    | split
    | dsimp only
    | ((try with_reducible conv => arg 3; whnf); (with_reducible apply Keeps.upd); (with_reducible exact Or.inl rfl); (iterate 3 (exact Or.inr rfl)); (iterate 3 (with_reducible exact Or.inl rfl)); (iterate 3 (exact Or.inr rfl)); (with_reducible exact Or.inl rfl); (iterate 2 (exact Or.inr rfl)); (with_reducible exact Or.inl rfl); (iterate 2 (exact Or.inr rfl)); (iterate 6 (with_reducible exact Or.inl rfl)); (with_reducible exact rfl); (with_reducible exact rfl))

theorem stageCols_keeps (s : State) (ws : List PWrite) :
    Keeps [.mix] s (stageCols s ws) := by
  unfold stageCols
  repeat' first
    | with_reducible apply Keeps.refl
    | with_reducible assumption
    | with_reducible apply Keeps.ite
    | with_reducible apply Keeps.foldl
    | ((with_reducible apply Keeps.step (stageCol_keeps ..)); exact rfl)
    | intro _
    | split
    | dsimp only
    | ((try with_reducible conv => arg 3; whnf); (with_reducible apply Keeps.upd); (iterate 6 (with_reducible exact Or.inl rfl)); (exact Or.inr rfl); (iterate 15 (with_reducible exact Or.inl rfl)); (with_reducible exact rfl); (with_reducible exact rfl))

theorem stageMember_keeps (acc : State × List Member) (m : Member) :
    Keeps [.csr, .mem, .freeCtr, .flood, .slu, .hr, .cv, .bus, .rcu, .redun] acc.1 (stageMember acc m).1 := by
  unfold stageMember
  split
  · dsimp only
    split
    · exact Keeps.mono (loadScene_keeps ..) rfl
    · exact Keeps.step (sendEvent_keeps ..) rfl (Keeps.step (stick_keeps ..) rfl (Keeps.mono (loadScene_keeps ..) rfl))
  all_goals exact Keeps.refl _ _

theorem groupStaged_keeps (s : State) :
    Keeps [.csr, .mem, .freeCtr, .mix, .flood, .slu, .hr, .cv, .bus, .rcu, .redun] s (groupStaged s) := by
  delta groupStaged
  try lift_lets
  intros
  repeat' first
    | with_reducible apply Keeps.refl
    | with_reducible assumption
    | with_reducible apply Keeps.ite
    | with_reducible apply Keeps.ite_p1
    | with_reducible apply Keeps.ite_p2
    | with_reducible apply Keeps.ite_p22
    | with_reducible apply Keeps.ite_p222
    | with_reducible apply Keeps.foldl
    | with_reducible apply Keeps.foldl_fst
    | with_reducible apply Keeps.foldl_snd
    | with_reducible apply Keeps.foldl_snd2
    | ((with_reducible apply Keeps.step (stageMember_keeps ..)); exact rfl)
    | ((with_reducible apply Keeps.step (stageCols_keeps ..)); exact rfl)
    | ((with_reducible apply Keeps.step (stageWrites_keeps ..)); exact rfl)
    | intro _
    | split
    | dsimp only
    | ((try with_reducible conv => arg 3; whnf); (with_reducible apply Keeps.upd); (with_reducible exact Or.inl rfl); (iterate 3 (exact Or.inr rfl)); (iterate 2 (with_reducible exact Or.inl rfl)); (iterate 4 (exact Or.inr rfl)); (with_reducible exact Or.inl rfl); (iterate 2 (exact Or.inr rfl)); (with_reducible exact Or.inl rfl); (iterate 2 (exact Or.inr rfl)); (iterate 6 (with_reducible exact Or.inl rfl)); (with_reducible exact rfl); (with_reducible exact rfl))

theorem copyBlk_keeps (s : State) (u blk fromV toV : Nat) :
    Keeps [.dsp] s (copyBlk s u blk fromV toV) := by
  unfold copyBlk
  repeat' first
    | with_reducible apply Keeps.refl
    | with_reducible assumption
    | with_reducible apply Keeps.ite
    | ((with_reducible apply Keeps.step (putBlk_keeps ..)); exact rfl)
    | intro _
    | split
    | dsimp only
    | ((try with_reducible conv => arg 3; whnf); (with_reducible apply Keeps.upd); (iterate 5 (with_reducible exact Or.inl rfl)); (exact Or.inr rfl); (iterate 16 (with_reducible exact Or.inl rfl)); (with_reducible exact rfl); (with_reducible exact rfl))

theorem clearVer_keeps (s : State) (u : Nat) (p : Nat → Bool) :
    Keeps [.dsp] s (clearVer s u p) := by
  unfold clearVer
  repeat' first
    | with_reducible apply Keeps.refl
    | with_reducible assumption
    | with_reducible apply Keeps.ite
    | with_reducible apply Keeps.ite_p1
    | with_reducible apply Keeps.ite_p2
    | with_reducible apply Keeps.ite_p22
    | with_reducible apply Keeps.ite_p222
    | intro _
    | split
    | dsimp only
    | ((try with_reducible conv => arg 3; whnf); (with_reducible apply Keeps.upd); (iterate 5 (with_reducible exact Or.inl rfl)); (exact Or.inr rfl); (iterate 16 (with_reducible exact Or.inl rfl)); (with_reducible exact rfl); (with_reducible exact rfl))

theorem clearBlk_keeps (s : State) (u blk : Nat) :
    Keeps [.dsp] s (clearBlk s u blk) := by
  unfold clearBlk
  repeat' first
    | with_reducible apply Keeps.refl
    | with_reducible assumption
    | with_reducible apply Keeps.ite
    | with_reducible apply Keeps.ite_p1
    | with_reducible apply Keeps.ite_p2
    | with_reducible apply Keeps.ite_p22
    | with_reducible apply Keeps.ite_p222
    | intro _
    | split
    | dsimp only
    | ((try with_reducible conv => arg 3; whnf); (with_reducible apply Keeps.upd); (iterate 5 (with_reducible exact Or.inl rfl)); (exact Or.inr rfl); (iterate 16 (with_reducible exact Or.inl rfl)); (with_reducible exact rfl); (with_reducible exact rfl))

theorem splitBlk_keeps (s : State) (u blk : Nat) (keep : Bool) :
    Keeps [.dsp] s (splitBlk s u blk keep) := by
  unfold splitBlk
  repeat' first
    | with_reducible apply Keeps.refl
    | with_reducible assumption
    | with_reducible apply Keeps.ite
    | with_reducible apply Keeps.foldl
    | with_reducible apply Keeps.foldl_fst
    | with_reducible apply Keeps.foldl_snd
    | with_reducible apply Keeps.foldl_snd2
    | ((with_reducible apply Keeps.step (copyBlk_keeps ..)); exact rfl)
    | ((with_reducible apply Keeps.step (putBlk_keeps ..)); exact rfl)
    | intro _
    | split
    | dsimp only
    | ((try with_reducible conv => arg 3; whnf); (with_reducible apply Keeps.upd); (iterate 5 (with_reducible exact Or.inl rfl)); (exact Or.inr rfl); (iterate 16 (with_reducible exact Or.inl rfl)); (with_reducible exact rfl); (with_reducible exact rfl))

theorem splitInsert_keeps (s : State) (u : Nat) :
    Keeps [.dsp] s (splitInsert s u) := by
  unfold splitInsert
  repeat' first
    | with_reducible apply Keeps.refl
    | with_reducible assumption
    | with_reducible apply Keeps.ite
    | with_reducible apply Keeps.foldl
    | ((with_reducible apply Keeps.step (copyBlk_keeps ..)); exact rfl)
    | intro _
    | split
    | dsimp only
    | ((try with_reducible conv => arg 3; whnf); (with_reducible apply Keeps.upd); (iterate 5 (with_reducible exact Or.inl rfl)); (exact Or.inr rfl); (iterate 16 (with_reducible exact Or.inl rfl)); (with_reducible exact rfl); (with_reducible exact rfl))

theorem joinInsert_keeps (s : State) (u : Nat) :
    Keeps [.dsp] s (joinInsert s u) := by
  unfold joinInsert
  repeat' first
    | with_reducible apply Keeps.refl
    | with_reducible assumption
    | with_reducible apply Keeps.ite
    | with_reducible apply Keeps.foldl
    | ((with_reducible apply Keeps.step (putBlk_keeps ..)); exact rfl)
    | intro _
    | split
    | dsimp only
    | ((try with_reducible conv => arg 3; whnf); (with_reducible apply Keeps.upd); (iterate 5 (with_reducible exact Or.inl rfl)); (exact Or.inr rfl); (iterate 16 (with_reducible exact Or.inl rfl)); (with_reducible exact rfl); (with_reducible exact rfl))

theorem pointStart_keeps (s : State) (key new len : Nat) :
    Keeps [.dsp] s (pointStart s key new len) := by
  unfold pointStart
  repeat' first
    | with_reducible apply Keeps.refl
    | with_reducible assumption
    | with_reducible apply Keeps.ite
    | with_reducible apply Keeps.foldl
    | with_reducible apply Keeps.foldl_fst
    | with_reducible apply Keeps.foldl_snd
    | with_reducible apply Keeps.foldl_snd2
    | ((with_reducible apply Keeps.step (splitInsert_keeps ..)); exact rfl)
    | ((with_reducible apply Keeps.step (splitBlk_keeps ..)); exact rfl)
    | ((with_reducible apply Keeps.step (clearBlk_keeps ..)); exact rfl)
    | ((with_reducible apply Keeps.step (copyBlk_keeps ..)); exact rfl)
    | ((with_reducible apply Keeps.step (putBlk_keeps ..)); exact rfl)
    | intro _
    | split
    | dsimp only
    | ((try with_reducible conv => arg 3; whnf); (with_reducible apply Keeps.upd); (iterate 5 (with_reducible exact Or.inl rfl)); (exact Or.inr rfl); (iterate 16 (with_reducible exact Or.inl rfl)); (with_reducible exact rfl); (with_reducible exact rfl))

theorem pointEnd_keeps (s : State) (key new : Nat) :
    Keeps [.dsp] s (pointEnd s key new) := by
  unfold pointEnd
  repeat' first
    | with_reducible apply Keeps.refl
    | with_reducible assumption
    | with_reducible apply Keeps.ite
    | with_reducible apply Keeps.foldl
    | with_reducible apply Keeps.foldl_fst
    | with_reducible apply Keeps.foldl_snd
    | with_reducible apply Keeps.foldl_snd2
    | ((with_reducible apply Keeps.step (joinInsert_keeps ..)); exact rfl)
    | ((with_reducible apply Keeps.step (clearBlk_keeps ..)); exact rfl)
    | ((with_reducible apply Keeps.step (clearVer_keeps ..)); exact rfl)
    | ((with_reducible apply Keeps.step (putBlk_keeps ..)); exact rfl)
    | intro _
    | split
    | dsimp only
    | ((try with_reducible conv => arg 3; whnf); (with_reducible apply Keeps.upd); (iterate 5 (with_reducible exact Or.inl rfl)); (exact Or.inr rfl); (iterate 16 (with_reducible exact Or.inl rfl)); (with_reducible exact rfl); (with_reducible exact rfl))

theorem startPoint_keeps (s : State) (n key old new : Nat) :
    Keeps [.dsp] s (startPoint s n key old new) := by
  unfold startPoint
  repeat' first
    | with_reducible apply Keeps.refl
    | with_reducible assumption
    | with_reducible apply Keeps.ite
    | ((with_reducible apply Keeps.step (pointStart_keeps ..)); exact rfl)
    | intro _
    | split
    | dsimp only
    | ((try with_reducible conv => arg 3; whnf); (with_reducible apply Keeps.upd); (iterate 5 (with_reducible exact Or.inl rfl)); (exact Or.inr rfl); (iterate 16 (with_reducible exact Or.inl rfl)); (with_reducible exact rfl); (with_reducible exact rfl))

theorem commitPoint_keeps (s : State) (n key old : Nat) :
    Keeps [.csr, .dsp] s (commitPoint s n key old) := by
  unfold commitPoint
  repeat' first
    | with_reducible apply Keeps.refl
    | with_reducible assumption
    | with_reducible apply Keeps.ite
    | ((with_reducible apply Keeps.step (startPoint_keeps ..)); exact rfl)
    | ((with_reducible apply Keeps.step (count_keeps ..)); exact rfl)
    | ((with_reducible apply Keeps.step (stick_keeps ..)); exact rfl)
    | intro _
    | split
    | dsimp only
    | ((try with_reducible conv => arg 3; whnf); (with_reducible apply Keeps.upd); (with_reducible exact Or.inl rfl); (exact Or.inr rfl); (iterate 3 (with_reducible exact Or.inl rfl)); (exact Or.inr rfl); (iterate 16 (with_reducible exact Or.inl rfl)); (with_reducible exact rfl); (with_reducible exact rfl))

theorem endPoint_keeps (s : State) (key : Nat) :
    Keeps [.dsp] s (endPoint s key) := by
  unfold endPoint
  repeat' first
    | with_reducible apply Keeps.refl
    | with_reducible assumption
    | with_reducible apply Keeps.ite
    | ((with_reducible apply Keeps.step (startPoint_keeps ..)); exact rfl)
    | ((with_reducible apply Keeps.step (pointEnd_keeps ..)); exact rfl)
    | intro _
    | split
    | dsimp only
    | ((try with_reducible conv => arg 3; whnf); (with_reducible apply Keeps.upd); (iterate 5 (with_reducible exact Or.inl rfl)); (exact Or.inr rfl); (iterate 16 (with_reducible exact Or.inl rfl)); (with_reducible exact rfl); (with_reducible exact rfl))

theorem endDue_keeps (s : State) :
    Keeps [.dsp, .mix] s (endDue s) := by
  unfold endDue
  repeat' first
    | with_reducible apply Keeps.refl
    | with_reducible assumption
    | with_reducible apply Keeps.ite
    | with_reducible apply Keeps.foldl
    | ((with_reducible apply Keeps.step (endPoint_keeps ..)); exact rfl)
    | ((with_reducible apply Keeps.step (endColPair_keeps ..)); exact rfl)
    | intro _
    | split
    | dsimp only
    | ((try with_reducible conv => arg 3; whnf); (with_reducible apply Keeps.upd); (iterate 5 (with_reducible exact Or.inl rfl)); (iterate 2 (exact Or.inr rfl)); (iterate 15 (with_reducible exact Or.inl rfl)); (with_reducible exact rfl); (with_reducible exact rfl))

theorem checkIds_keeps (s : State) (n : Nat) (olds : List (Nat × List (Nat × Nat))) :
    Keeps [.csr] s (checkIds s n olds) := by
  unfold checkIds
  repeat' first
    | with_reducible apply Keeps.refl
    | with_reducible assumption
    | with_reducible apply Keeps.ite
    | with_reducible apply Keeps.ite_p1
    | with_reducible apply Keeps.ite_p2
    | with_reducible apply Keeps.ite_p22
    | with_reducible apply Keeps.ite_p222
    | with_reducible apply Keeps.foldl
    | with_reducible apply Keeps.foldl_fst
    | with_reducible apply Keeps.foldl_snd
    | with_reducible apply Keeps.foldl_snd2
    | ((with_reducible apply Keeps.step (stick_keeps ..)); exact rfl)
    | ((with_reducible apply Keeps.step (setF_keeps ..)); exact rfl)
    | intro _
    | split
    | dsimp only
    | ((try with_reducible conv => arg 3; whnf); (with_reducible apply Keeps.upd); (with_reducible exact Or.inl rfl); (exact Or.inr rfl); (iterate 20 (with_reducible exact Or.inl rfl)); (with_reducible exact rfl); (with_reducible exact rfl))

theorem startRamp_keeps (s : State) (n : Nat) (w : PWrite) (a : Nat) :
    Keeps [.slu] s (startRamp s n w a) := by
  unfold startRamp
  repeat' first
    | with_reducible apply Keeps.refl
    | with_reducible assumption
    | with_reducible apply Keeps.ite
    | intro _
    | split
    | dsimp only
    | ((try with_reducible conv => arg 3; whnf); (with_reducible apply Keeps.upd); (iterate 8 (with_reducible exact Or.inl rfl)); (exact Or.inr rfl); (iterate 13 (with_reducible exact Or.inl rfl)); (with_reducible exact rfl); (with_reducible exact rfl))

theorem flipFloodCell_keeps (s : State) (n : Nat) (ws : List (Nat × PWrite)) :
    Keeps [.csr, .mem, .freeCtr, .flood, .slu, .hr, .cv, .bus, .rcu, .redun] s (flipFloodCell s n ws) := by
  unfold flipFloodCell
  repeat' first
    | with_reducible apply Keeps.refl
    | with_reducible assumption
    | with_reducible apply Keeps.ite
    | with_reducible apply Keeps.ite_p1
    | with_reducible apply Keeps.ite_p2
    | with_reducible apply Keeps.ite_p22
    | with_reducible apply Keeps.ite_p222
    | with_reducible apply Keeps.foldl
    | with_reducible apply Keeps.foldl_fst
    | with_reducible apply Keeps.foldl_snd
    | with_reducible apply Keeps.foldl_snd2
    | ((with_reducible apply Keeps.step (pwriteLive_keeps ..)); exact rfl)
    | ((with_reducible apply Keeps.step (setCell_keeps ..)); exact rfl)
    | intro _
    | split
    | dsimp only
    | ((try with_reducible conv => arg 3; whnf); (with_reducible apply Keeps.upd); (with_reducible exact Or.inl rfl); (iterate 3 (exact Or.inr rfl)); (iterate 3 (with_reducible exact Or.inl rfl)); (iterate 3 (exact Or.inr rfl)); (with_reducible exact Or.inl rfl); (iterate 2 (exact Or.inr rfl)); (with_reducible exact Or.inl rfl); (iterate 2 (exact Or.inr rfl)); (iterate 6 (with_reducible exact Or.inl rfl)); (with_reducible exact rfl); (with_reducible exact rfl))

theorem reloadPrng_keeps (s : State) :
    Keeps [.dsp] s (reloadPrng s) := by
  unfold reloadPrng
  repeat' first
    | with_reducible apply Keeps.refl
    | with_reducible assumption
    | with_reducible apply Keeps.ite
    | intro _
    | split
    | dsimp only
    | ((try with_reducible conv => arg 3; whnf); (with_reducible apply Keeps.upd); (iterate 5 (with_reducible exact Or.inl rfl)); (exact Or.inr rfl); (iterate 16 (with_reducible exact Or.inl rfl)); (with_reducible exact rfl); (with_reducible exact rfl))

theorem flipWords_keeps (s : State) (n : Nat) (staged : List PWrite) (quiet : Bool) :
    Keeps [.csr, .mem, .freeCtr, .dsp, .mix, .flood, .slu, .hr, .cv, .bus, .rcu, .redun] s (flipWords s n staged quiet) := by
  unfold flipWords
  repeat' first
    | with_reducible apply Keeps.refl
    | with_reducible assumption
    | with_reducible apply Keeps.ite
    | with_reducible apply Keeps.ite_p1
    | with_reducible apply Keeps.ite_p2
    | with_reducible apply Keeps.ite_p22
    | with_reducible apply Keeps.ite_p222
    | with_reducible apply Keeps.foldl
    | with_reducible apply Keeps.foldl_fst
    | with_reducible apply Keeps.foldl_snd
    | with_reducible apply Keeps.foldl_snd2
    | ((with_reducible apply Keeps.step (reloadPrng_keeps ..)); exact rfl)
    | ((with_reducible apply Keeps.step (flipFloodCell_keeps ..)); exact rfl)
    | ((with_reducible apply Keeps.step (startRamp_keeps ..)); exact rfl)
    | ((with_reducible apply Keeps.step (checkIds_keeps ..)); exact rfl)
    | ((with_reducible apply Keeps.step (endDue_keeps ..)); exact rfl)
    | ((with_reducible apply Keeps.step (commitPoint_keeps ..)); exact rfl)
    | ((with_reducible apply Keeps.step (commitCol_keeps ..)); exact rfl)
    | ((with_reducible apply Keeps.step (startCol_keeps ..)); exact rfl)
    | ((with_reducible apply Keeps.step (setCell_keeps ..)); exact rfl)
    | intro _
    | split
    | dsimp only
    | ((try with_reducible conv => arg 3; whnf); (with_reducible apply Keeps.upd); (with_reducible exact Or.inl rfl); (iterate 3 (exact Or.inr rfl)); (with_reducible exact Or.inl rfl); (iterate 5 (exact Or.inr rfl)); (with_reducible exact Or.inl rfl); (iterate 2 (exact Or.inr rfl)); (with_reducible exact Or.inl rfl); (iterate 2 (exact Or.inr rfl)); (iterate 6 (with_reducible exact Or.inl rfl)); (with_reducible exact rfl); (with_reducible exact rfl))

theorem markApplied_keeps (s : State) (p : JCmd → Bool) :
    Keeps [.hr] s (markApplied s p) := by
  unfold markApplied
  repeat' first
    | with_reducible apply Keeps.refl
    | with_reducible assumption
    | with_reducible apply Keeps.ite
    | with_reducible apply Keeps.ite_p1
    | with_reducible apply Keeps.ite_p2
    | with_reducible apply Keeps.ite_p22
    | with_reducible apply Keeps.ite_p222
    | intro _
    | split
    | dsimp only
    | ((try with_reducible conv => arg 3; whnf); (with_reducible apply Keeps.upd); (iterate 9 (with_reducible exact Or.inl rfl)); (exact Or.inr rfl); (iterate 12 (with_reducible exact Or.inl rfl)); (with_reducible exact rfl); (with_reducible exact rfl))

theorem captureMember_keeps (s : State) (m : Member) : Keeps [.csr, .mem, .freeCtr, .flood, .slu, .hr, .cv, .bus, .rcu, .redun] s (captureMember s m) := by
  unfold captureMember
  split
  · with_reducible apply Keeps.upd
    (iterate 2 (with_reducible exact Or.inl rfl)); exact Or.inr rfl; (iterate 5 (with_reducible exact Or.inl rfl)); exact Or.inr rfl
    (iterate 3 (with_reducible exact Or.inl rfl)); exact Or.inr rfl; (iterate 9 (with_reducible exact Or.inl rfl))
    · rfl
    · rfl
    · exact Keeps.mono (captureScene_keeps ..) rfl
  all_goals exact Keeps.refl _ _

theorem flipHead_keeps (s : State) (n : Nat) :
    Keeps [.csr, .mem, .freeCtr, .dsp, .mix, .flood, .slu, .hr, .cv, .bus, .rcu, .redun] s (flipHead s n) := by
  unfold flipHead
  repeat' first
    | with_reducible apply Keeps.refl
    | with_reducible assumption
    | with_reducible apply Keeps.ite
    | with_reducible apply Keeps.ite_p1
    | with_reducible apply Keeps.ite_p2
    | with_reducible apply Keeps.ite_p22
    | with_reducible apply Keeps.ite_p222
    | ((with_reducible apply Keeps.step (markApplied_keeps ..)); exact rfl)
    | ((with_reducible apply Keeps.step (flipWords_keeps ..)); exact rfl)
    | ((with_reducible apply Keeps.step (count_keeps ..)); exact rfl)
    | ((with_reducible apply Keeps.step (stick_keeps ..)); exact rfl)
    | intro _
    | split
    | dsimp only
    | ((try with_reducible conv => arg 3; whnf); (with_reducible apply Keeps.upd); (with_reducible exact Or.inl rfl); (iterate 3 (exact Or.inr rfl)); (with_reducible exact Or.inl rfl); (iterate 5 (exact Or.inr rfl)); (with_reducible exact Or.inl rfl); (iterate 2 (exact Or.inr rfl)); (with_reducible exact Or.inl rfl); (iterate 2 (exact Or.inr rfl)); (iterate 6 (with_reducible exact Or.inl rfl)); (with_reducible exact rfl); (with_reducible exact rfl))

theorem markLate_keeps (s : State) (n : Nat) :
    Keeps [.slu] s (markLate s n) := by
  unfold markLate
  repeat' first
    | with_reducible apply Keeps.refl
    | with_reducible assumption
    | with_reducible apply Keeps.ite
    | intro _
    | split
    | dsimp only
    | ((try with_reducible conv => arg 3; whnf); (with_reducible apply Keeps.upd); (iterate 8 (with_reducible exact Or.inl rfl)); (exact Or.inr rfl); (iterate 13 (with_reducible exact Or.inl rfl)); (with_reducible exact rfl); (with_reducible exact rfl))

theorem dueRegs_keeps (s : State) (n : Nat) :
    Keeps [.slu, .hr] s (dueRegs s n).2 := by
  unfold dueRegs
  repeat' first
    | with_reducible apply Keeps.refl
    | with_reducible assumption
    | with_reducible apply Keeps.ite
    | with_reducible apply Keeps.ite_p1
    | with_reducible apply Keeps.ite_p2
    | with_reducible apply Keeps.ite_p22
    | with_reducible apply Keeps.ite_p222
    | ((with_reducible apply Keeps.step (markApplied_keeps ..)); exact rfl)
    | intro _
    | split
    | dsimp only
    | ((try with_reducible conv => arg 3; whnf); (with_reducible apply Keeps.upd); (iterate 8 (with_reducible exact Or.inl rfl)); (iterate 2 (exact Or.inr rfl)); (iterate 12 (with_reducible exact Or.inl rfl)); (with_reducible exact rfl); (with_reducible exact rfl))

theorem settleCells_keeps (s : State) (ws : List PWrite) :
    Keeps [.csr, .mem, .freeCtr, .flood, .slu, .hr, .cv, .bus, .rcu, .redun] s (settleCells s ws) := by
  unfold settleCells
  repeat' first
    | with_reducible apply Keeps.refl
    | with_reducible assumption
    | with_reducible apply Keeps.ite
    | with_reducible apply Keeps.foldl
    | ((with_reducible apply Keeps.step (copyHalf_keeps ..)); exact rfl)
    | intro _
    | split
    | dsimp only
    | ((try with_reducible conv => arg 3; whnf); (with_reducible apply Keeps.upd); (with_reducible exact Or.inl rfl); (iterate 3 (exact Or.inr rfl)); (iterate 3 (with_reducible exact Or.inl rfl)); (iterate 3 (exact Or.inr rfl)); (with_reducible exact Or.inl rfl); (iterate 2 (exact Or.inr rfl)); (with_reducible exact Or.inl rfl); (iterate 2 (exact Or.inr rfl)); (iterate 6 (with_reducible exact Or.inl rfl)); (with_reducible exact rfl); (with_reducible exact rfl))

theorem settleLost_keeps (s : State) :
    Keeps [.csr, .mem, .freeCtr, .flood, .slu, .hr, .cv, .bus, .rcu, .redun] s (settleLost s) := by
  unfold settleLost
  repeat' first
    | with_reducible apply Keeps.refl
    | with_reducible assumption
    | with_reducible apply Keeps.ite
    | ((with_reducible apply Keeps.step (settleCells_keeps ..)); exact rfl)
    | intro _
    | split
    | dsimp only
    | ((try with_reducible conv => arg 3; whnf); (with_reducible apply Keeps.upd); (with_reducible exact Or.inl rfl); (iterate 3 (exact Or.inr rfl)); (iterate 3 (with_reducible exact Or.inl rfl)); (iterate 3 (exact Or.inr rfl)); (with_reducible exact Or.inl rfl); (iterate 2 (exact Or.inr rfl)); (with_reducible exact Or.inl rfl); (iterate 2 (exact Or.inr rfl)); (iterate 6 (with_reducible exact Or.inl rfl)); (with_reducible exact rfl); (with_reducible exact rfl))

theorem groupSettleDone_keeps (s : State) :
    Keeps [.csr, .mem, .freeCtr, .flood, .slu, .hr, .cv, .bus, .rcu, .redun] s (groupSettleDone s) := by
  delta groupSettleDone
  try lift_lets
  intros
  repeat' first
    | with_reducible apply Keeps.refl
    | with_reducible assumption
    | with_reducible apply Keeps.ite
    | with_reducible apply Keeps.ite_p1
    | with_reducible apply Keeps.ite_p2
    | with_reducible apply Keeps.ite_p22
    | with_reducible apply Keeps.ite_p222
    | with_reducible apply Keeps.foldl
    | with_reducible apply Keeps.foldl_fst
    | with_reducible apply Keeps.foldl_snd
    | with_reducible apply Keeps.foldl_snd2
    | ((with_reducible apply Keeps.step (settleCells_keeps ..)); exact rfl)
    | ((with_reducible apply Keeps.step (captureMember_keeps ..)); exact rfl)
    | intro _
    | split
    | dsimp only
    | ((try with_reducible conv => arg 3; whnf); (with_reducible apply Keeps.upd); (with_reducible exact Or.inl rfl); (iterate 3 (exact Or.inr rfl)); (iterate 3 (with_reducible exact Or.inl rfl)); (iterate 3 (exact Or.inr rfl)); (with_reducible exact Or.inl rfl); (iterate 2 (exact Or.inr rfl)); (with_reducible exact Or.inl rfl); (iterate 2 (exact Or.inr rfl)); (iterate 6 (with_reducible exact Or.inl rfl)); (with_reducible exact rfl); (with_reducible exact rfl))

theorem applyUrgent_keeps (n : Nat) (s : State) (u : UrgentW) :
    Keeps [.csr, .mem, .freeCtr, .flood, .slu, .hr, .cv, .bus, .rcu, .redun] s (applyUrgent n s u) := by
  unfold applyUrgent
  repeat' first
    | with_reducible apply Keeps.refl
    | with_reducible assumption
    | with_reducible apply Keeps.ite
    | with_reducible apply Keeps.ite_p1
    | with_reducible apply Keeps.ite_p2
    | with_reducible apply Keeps.ite_p22
    | with_reducible apply Keeps.ite_p222
    | ((with_reducible apply Keeps.step (pwriteLive_keeps ..)); exact rfl)
    | ((with_reducible apply Keeps.step (count_keeps ..)); exact rfl)
    | ((with_reducible apply Keeps.step (stick_keeps ..)); exact rfl)
    | intro _
    | split
    | dsimp only
    | ((try with_reducible conv => arg 3; whnf); (with_reducible apply Keeps.upd); (with_reducible exact Or.inl rfl); (iterate 3 (exact Or.inr rfl)); (iterate 3 (with_reducible exact Or.inl rfl)); (iterate 3 (exact Or.inr rfl)); (with_reducible exact Or.inl rfl); (iterate 2 (exact Or.inr rfl)); (with_reducible exact Or.inl rfl); (iterate 2 (exact Or.inr rfl)); (iterate 6 (with_reducible exact Or.inl rfl)); (with_reducible exact rfl); (with_reducible exact rfl))

theorem applyDueUrgent_keeps (s : State) (n : Nat) :
    Keeps [.csr, .mem, .freeCtr, .flood, .slu, .hr, .cv, .bus, .rcu, .redun] s (applyDueUrgent s n) := by
  unfold applyDueUrgent
  repeat' first
    | with_reducible apply Keeps.refl
    | with_reducible assumption
    | with_reducible apply Keeps.ite
    | with_reducible apply Keeps.foldl
    | with_reducible apply Keeps.foldl_fst
    | with_reducible apply Keeps.foldl_snd
    | with_reducible apply Keeps.foldl_snd2
    | ((with_reducible apply Keeps.step (applyUrgent_keeps ..)); exact rfl)
    | ((with_reducible apply Keeps.step (markApplied_keeps ..)); exact rfl)
    | intro _
    | split
    | dsimp only
    | ((try with_reducible conv => arg 3; whnf); (with_reducible apply Keeps.upd); (with_reducible exact Or.inl rfl); (iterate 3 (exact Or.inr rfl)); (iterate 3 (with_reducible exact Or.inl rfl)); (iterate 3 (exact Or.inr rfl)); (with_reducible exact Or.inl rfl); (iterate 2 (exact Or.inr rfl)); (with_reducible exact Or.inl rfl); (iterate 2 (exact Or.inr rfl)); (iterate 6 (with_reducible exact Or.inl rfl)); (with_reducible exact rfl); (with_reducible exact rfl))

theorem restoreDirty_keeps (s : State) :
    Keeps [.csr, .mem, .freeCtr, .flood, .slu, .hr, .cv, .bus, .rcu, .redun] s (restoreDirty s) := by
  unfold restoreDirty
  repeat' first
    | with_reducible apply Keeps.refl
    | with_reducible assumption
    | with_reducible apply Keeps.ite
    | with_reducible apply Keeps.ite_p1
    | with_reducible apply Keeps.ite_p2
    | with_reducible apply Keeps.ite_p22
    | with_reducible apply Keeps.ite_p222
    | with_reducible apply Keeps.foldl
    | with_reducible apply Keeps.foldl_fst
    | with_reducible apply Keeps.foldl_snd
    | with_reducible apply Keeps.foldl_snd2
    | ((with_reducible apply Keeps.step (copyHalf_keeps ..)); exact rfl)
    | ((with_reducible apply Keeps.step (setCell_keeps ..)); exact rfl)
    | intro _
    | split
    | dsimp only
    | ((try with_reducible conv => arg 3; whnf); (with_reducible apply Keeps.upd); (with_reducible exact Or.inl rfl); (iterate 3 (exact Or.inr rfl)); (iterate 3 (with_reducible exact Or.inl rfl)); (iterate 3 (exact Or.inr rfl)); (with_reducible exact Or.inl rfl); (iterate 2 (exact Or.inr rfl)); (with_reducible exact Or.inl rfl); (iterate 2 (exact Or.inr rfl)); (iterate 6 (with_reducible exact Or.inl rfl)); (with_reducible exact rfl); (with_reducible exact rfl))

theorem restageAll_keeps (s : State) :
    Keeps [.mix] s (restageAll s) := by
  unfold restageAll
  repeat' first
    | with_reducible apply Keeps.refl
    | with_reducible assumption
    | with_reducible apply Keeps.ite
    | with_reducible apply Keeps.foldl
    | with_reducible apply Keeps.foldl_fst
    | with_reducible apply Keeps.foldl_snd
    | with_reducible apply Keeps.foldl_snd2
    | intro _
    | split
    | dsimp only
    | ((try with_reducible conv => arg 3; whnf); (with_reducible apply Keeps.upd); (iterate 6 (with_reducible exact Or.inl rfl)); (exact Or.inr rfl); (iterate 15 (with_reducible exact Or.inl rfl)); (with_reducible exact rfl); (with_reducible exact rfl))

end Sys2Proof.Machine
end

