-- ==== Sys2Proof/Laws/KeepJournal.lean ====
section
/-! SUPPORT. What each operation of Machine/Journal.lean may change. -/
namespace Sys2Proof.Machine

theorem writeEntries_keeps (s : State) (jpos : Nat) (es : List (List Nat)) : Keeps [.csr, .mem, .freeCtr, .flood, .slu, .hr, .cv, .bus, .rcu, .redun] s (writeEntries s jpos es) := by
  induction es generalizing s jpos with
  | nil => exact Keeps.refl _ _
  | cons e es ih => exact Keeps.step (ih _ _) rfl (Keeps.mono (engineWrite_keeps ..) rfl)

theorem journalCmd_keeps (s : State) (cls session op seq nC flags : Nat) (body : List Nat) :
    Keeps [.csr, .mem, .freeCtr, .flood, .slu, .hr, .cv, .bus, .rcu, .redun] s (journalCmd s cls session op seq nC flags body) := by
  delta journalCmd
  try lift_lets
  intros
  repeat' first
    | with_reducible apply Keeps.refl
    | with_reducible assumption
    | with_reducible apply Keeps.ite
    | ((with_reducible apply Keeps.step (writeEntries_keeps ..)); exact rfl)
    | intro _
    | split
    | dsimp only
    | ((try with_reducible conv => arg 3; whnf); (with_reducible apply Keeps.upd); (with_reducible exact Or.inl rfl); (iterate 3 (exact Or.inr rfl)); (iterate 3 (with_reducible exact Or.inl rfl)); (iterate 3 (exact Or.inr rfl)); (with_reducible exact Or.inl rfl); (iterate 2 (exact Or.inr rfl)); (with_reducible exact Or.inl rfl); (iterate 2 (exact Or.inr rfl)); (iterate 6 (with_reducible exact Or.inl rfl)); (with_reducible exact rfl); (with_reducible exact rfl))

theorem mirrorCmd_keeps (s : State) (jpos n : Nat) :
    Keeps [.csr, .freeCtr, .flood, .slu, .hr, .cv, .bus, .rcu, .redun] s (mirrorCmd s jpos n) := by
  unfold mirrorCmd
  repeat' first
    | with_reducible apply Keeps.refl
    | with_reducible assumption
    | with_reducible apply Keeps.ite
    | with_reducible apply Keeps.foldl
    | ((with_reducible apply Keeps.step (scanRange_keeps ..)); exact rfl)
    | ((with_reducible apply Keeps.step (linkSend_keeps ..)); exact rfl)
    | intro _
    | split
    | dsimp only
    | ((try with_reducible conv => arg 3; whnf); (with_reducible apply Keeps.upd); (with_reducible exact Or.inl rfl); (exact Or.inr rfl); (with_reducible exact Or.inl rfl); (exact Or.inr rfl); (iterate 3 (with_reducible exact Or.inl rfl)); (iterate 3 (exact Or.inr rfl)); (with_reducible exact Or.inl rfl); (iterate 2 (exact Or.inr rfl)); (with_reducible exact Or.inl rfl); (iterate 2 (exact Or.inr rfl)); (iterate 6 (with_reducible exact Or.inl rfl)); (with_reducible exact rfl); (with_reducible exact rfl))

theorem applyMeterSub_keeps (s : State) (k n : Nat) (b : List Nat) :
    Keeps [.hr] s (applyMeterSub s k n b) := by
  unfold applyMeterSub
  repeat' first
    | with_reducible apply Keeps.refl
    | with_reducible assumption
    | with_reducible apply Keeps.ite
    | ((with_reducible apply Keeps.step (putSession_keeps ..)); exact rfl)
    | intro _
    | split
    | dsimp only
    | ((try with_reducible conv => arg 3; whnf); (with_reducible apply Keeps.upd); (iterate 9 (with_reducible exact Or.inl rfl)); (exact Or.inr rfl); (iterate 12 (with_reducible exact Or.inl rfl)); (with_reducible exact rfl); (with_reducible exact rfl))

theorem applyOpen_keeps (s : State) (k : Nat) (reply : Endpoint) (b : List Nat) :
    Keeps [.hr] s (applyOpen s k reply b) := by
  unfold applyOpen
  repeat' first
    | with_reducible apply Keeps.refl
    | with_reducible assumption
    | with_reducible apply Keeps.ite
    | ((with_reducible apply Keeps.step (putSession_keeps ..)); exact rfl)
    | intro _
    | split
    | dsimp only
    | ((try with_reducible conv => arg 3; whnf); (with_reducible apply Keeps.upd); (iterate 9 (with_reducible exact Or.inl rfl)); (exact Or.inr rfl); (iterate 12 (with_reducible exact Or.inl rfl)); (with_reducible exact rfl); (with_reducible exact rfl))

theorem applyClose_keeps (s : State) (k : Nat) :
    Keeps [.hr] s (applyClose s k) := by
  unfold applyClose
  repeat' first
    | with_reducible apply Keeps.refl
    | with_reducible assumption
    | with_reducible apply Keeps.ite
    | ((with_reducible apply Keeps.step (putSession_keeps ..)); exact rfl)
    | intro _
    | split
    | dsimp only
    | ((try with_reducible conv => arg 3; whnf); (with_reducible apply Keeps.upd); (iterate 9 (with_reducible exact Or.inl rfl)); (exact Or.inr rfl); (iterate 12 (with_reducible exact Or.inl rfl)); (with_reducible exact rfl); (with_reducible exact rfl))

theorem recordAck_keeps (s : State) (k cls : Nat) (a : AckRec) :
    Keeps [.hr] s (recordAck s k cls a) := by
  unfold recordAck
  repeat' first
    | with_reducible apply Keeps.refl
    | with_reducible assumption
    | with_reducible apply Keeps.ite
    | ((with_reducible apply Keeps.step (putSession_keeps ..)); exact rfl)
    | intro _
    | split
    | dsimp only
    | ((try with_reducible conv => arg 3; whnf); (with_reducible apply Keeps.upd); (iterate 9 (with_reducible exact Or.inl rfl)); (exact Or.inr rfl); (iterate 12 (with_reducible exact Or.inl rfl)); (with_reducible exact rfl); (with_reducible exact rfl))

theorem enterGroup_keeps {M : List Part} {ap : State → Nat → Nat → State} (hM : subParts [.slu, .hr] M = true) (hf : ∀ y0 y1 y2, Keeps M y0 (ap y0 y1 y2)) (s : State) (jpos nC : Nat) (ms : List Member) (replayed : Bool) :
    Keeps M s (enterGroup ap s jpos nC ms replayed) := by
  unfold enterGroup
  repeat' first
    | with_reducible apply Keeps.refl
    | with_reducible assumption
    | with_reducible apply Keeps.ite
    | with_reducible apply Keeps.ite_p1
    | with_reducible apply Keeps.ite_p2
    | with_reducible apply Keeps.ite_p22
    | with_reducible apply Keeps.ite_p222
    | with_reducible apply Keeps.foldl
    | with_reducible apply Keeps.foldl_fst
    | with_reducible apply Keeps.foldl_snd
    | with_reducible apply Keeps.foldl_snd2
    | ((with_reducible apply Keeps.step (hf ..)); exact subParts_refl _)
    | ((with_reducible apply Keeps.step (markApplied_keeps ..)); exact (subParts_trans rfl hM))
    | ((with_reducible apply Keeps.step (joinGroup_keeps ..)); exact (subParts_trans rfl hM))
    | intro _
    | split
    | dsimp only
    | ((try with_reducible conv => arg 3; whnf); (with_reducible apply Keeps.upd); (iterate 8 (with_reducible exact Or.inl rfl)); (iterate 2 (exact Or.inr (subParts_trans rfl hM))); (iterate 12 (with_reducible exact Or.inl rfl)); (with_reducible exact rfl); (with_reducible exact rfl))

theorem enterEntry_keeps {M : List Part} {ap : State → Nat → Nat → State} (hM : subParts [.csr, .freeCtr, .slu, .hr] M = true) (hf : ∀ y0 y1 y2, Keeps M y0 (ap y0 y1 y2)) (s : State) (e : Entry) (replayed : Bool) :
    Keeps M s (enterEntry ap s e replayed) := by
  unfold enterEntry
  repeat' first
    | with_reducible apply Keeps.refl
    | with_reducible assumption
    | with_reducible apply Keeps.ite
    | with_reducible apply Keeps.ite_p1
    | with_reducible apply Keeps.ite_p2
    | with_reducible apply Keeps.ite_p22
    | with_reducible apply Keeps.ite_p222
    | ((with_reducible apply Keeps.step (hf ..)); exact subParts_refl _)
    | ((with_reducible apply Keeps.step (applyClose_keeps ..)); exact (subParts_trans rfl hM))
    | ((with_reducible apply Keeps.step (applyOpen_keeps ..)); exact (subParts_trans rfl hM))
    | ((with_reducible apply Keeps.step (applyMeterSub_keeps ..)); exact (subParts_trans rfl hM))
    | ((with_reducible apply Keeps.step (markApplied_keeps ..)); exact (subParts_trans rfl hM))
    | ((with_reducible apply Keeps.step (urgentInTime_keeps ..)); exact (subParts_trans rfl hM))
    | ((with_reducible apply Keeps.step (urgentReceived_keeps ..)); exact (subParts_trans rfl hM))
    | ((with_reducible apply Keeps.step (stick_keeps ..)); exact (subParts_trans rfl hM))
    | ((with_reducible apply Keeps.step (enterGroup_keeps (M := M) ?_ ?_ ..)); (with_reducible exact subParts_refl _); rotate_left; (exact (subParts_trans rfl hM)))
    | intro _
    | split
    | dsimp only
    | ((try with_reducible conv => arg 3; whnf); (with_reducible apply Keeps.upd); (with_reducible exact Or.inl rfl); (exact Or.inr (subParts_trans rfl hM)); (with_reducible exact Or.inl rfl); (exact Or.inr (subParts_trans rfl hM)); (iterate 4 (with_reducible exact Or.inl rfl)); (iterate 2 (exact Or.inr (subParts_trans rfl hM))); (iterate 12 (with_reducible exact Or.inl rfl)); (with_reducible exact rfl); (with_reducible exact rfl))

end Sys2Proof.Machine
end

