-- ==== Sys2Proof/Laws/KeepMintal.lean ====
section
/-! SUPPORT. What each operation of Machine/Mintal.lean may change. -/
namespace Sys2Proof.Machine

theorem putCore_keeps (s : State) (c : Nat) (k : Core) :
    Keeps [.cores] s (putCore s c k) := by
  unfold putCore
  repeat' first
    | with_reducible apply Keeps.refl
    | with_reducible assumption
    | with_reducible apply Keeps.ite
    | intro _
    | split
    | dsimp only
    | ((try with_reducible conv => arg 3; whnf); (with_reducible apply Keeps.upd); (iterate 13 (with_reducible exact Or.inl rfl)); (exact Or.inr rfl); (iterate 8 (with_reducible exact Or.inl rfl)); (with_reducible exact rfl); (with_reducible exact rfl))

theorem raiseFault_keeps (s : State) (c : Nat) (k : Core) (cause : Nat) :
    Keeps [.csr] s (raiseFault s c k cause).1 := by
  unfold raiseFault
  repeat' first
    | with_reducible apply Keeps.refl
    | with_reducible assumption
    | with_reducible apply Keeps.ite
    | with_reducible apply Keeps.ite_p1
    | with_reducible apply Keeps.ite_p2
    | with_reducible apply Keeps.ite_p22
    | with_reducible apply Keeps.ite_p222
    | ((with_reducible apply Keeps.step (stick_keeps ..)); exact rfl)
    | intro _
    | split
    | dsimp only
    | ((try with_reducible conv => arg 3; whnf); (with_reducible apply Keeps.upd); (with_reducible exact Or.inl rfl); (exact Or.inr rfl); (iterate 20 (with_reducible exact Or.inl rfl)); (with_reducible exact rfl); (with_reducible exact rfl))

theorem raiseDebug_keeps (s : State) (c : Nat) (k : Core) (cause : Nat) :
    Keeps [.csr] s (raiseDebug s c k cause).1 := by
  unfold raiseDebug
  repeat' first
    | with_reducible apply Keeps.refl
    | with_reducible assumption
    | with_reducible apply Keeps.ite
    | with_reducible apply Keeps.ite_p1
    | with_reducible apply Keeps.ite_p2
    | with_reducible apply Keeps.ite_p22
    | with_reducible apply Keeps.ite_p222
    | ((with_reducible apply Keeps.step (stick_keeps ..)); exact rfl)
    | intro _
    | split
    | dsimp only
    | ((try with_reducible conv => arg 3; whnf); (with_reducible apply Keeps.upd); (with_reducible exact Or.inl rfl); (exact Or.inr rfl); (iterate 20 (with_reducible exact Or.inl rfl)); (with_reducible exact rfl); (with_reducible exact rfl))

theorem callObject_keeps (s : State) (c j : Nat) :
    Keeps [.freeCtr, .cores] s (callObject s c j) := by
  unfold callObject
  repeat' first
    | with_reducible apply Keeps.refl
    | with_reducible assumption
    | with_reducible apply Keeps.ite
    | with_reducible apply Keeps.ite_p1
    | with_reducible apply Keeps.ite_p2
    | with_reducible apply Keeps.ite_p22
    | with_reducible apply Keeps.ite_p222
    | with_reducible apply Keeps.foldl
    | with_reducible apply Keeps.foldl_fst
    | with_reducible apply Keeps.foldl_snd
    | with_reducible apply Keeps.foldl_snd2
    | ((with_reducible apply Keeps.step (putCore_keeps ..)); exact rfl)
    | ((with_reducible apply Keeps.step (freshMany_keeps ..)); exact rfl)
    | intro _
    | split
    | dsimp only
    | ((try with_reducible conv => arg 3; whnf); (with_reducible apply Keeps.upd); (iterate 3 (with_reducible exact Or.inl rfl)); (exact Or.inr rfl); (iterate 9 (with_reducible exact Or.inl rfl)); (exact Or.inr rfl); (iterate 8 (with_reducible exact Or.inl rfl)); (with_reducible exact rfl); (with_reducible exact rfl))

theorem callFirst_keeps (s : State) (c : Nat) (qs : List (Nat × Nat)) :
    Keeps [.freeCtr, .cores] s (callFirst s c qs) := by
  unfold callFirst
  repeat' first
    | with_reducible apply Keeps.refl
    | with_reducible assumption
    | with_reducible apply Keeps.ite
    | ((with_reducible apply Keeps.step (callObject_keeps ..)); exact rfl)
    | ((with_reducible apply Keeps.step (putCore_keeps ..)); exact rfl)
    | intro _
    | split
    | dsimp only
    | ((try with_reducible conv => arg 3; whnf); (with_reducible apply Keeps.upd); (iterate 3 (with_reducible exact Or.inl rfl)); (exact Or.inr rfl); (iterate 9 (with_reducible exact Or.inl rfl)); (exact Or.inr rfl); (iterate 8 (with_reducible exact Or.inl rfl)); (with_reducible exact rfl); (with_reducible exact rfl))

theorem objectBack_keeps (s : State) (c : Nat) :
    Keeps [.freeCtr, .cores] s (objectBack s c) := by
  unfold objectBack
  repeat' first
    | with_reducible apply Keeps.refl
    | with_reducible assumption
    | with_reducible apply Keeps.ite
    | ((with_reducible apply Keeps.step (callFirst_keeps ..)); exact rfl)
    | intro _
    | split
    | dsimp only
    | ((try with_reducible conv => arg 3; whnf); (with_reducible apply Keeps.upd); (iterate 3 (with_reducible exact Or.inl rfl)); (exact Or.inr rfl); (iterate 9 (with_reducible exact Or.inl rfl)); (exact Or.inr rfl); (iterate 8 (with_reducible exact Or.inl rfl)); (with_reducible exact rfl); (with_reducible exact rfl))

theorem advance_keeps (s : State) (c : Nat) (k : Core) (stalls : Nat) (br : Option Nat) :
    Keeps [.csr, .freeCtr, .cores] s (advance s c k stalls br) := by
  unfold advance
  repeat' first
    | with_reducible apply Keeps.refl
    | with_reducible assumption
    | with_reducible apply Keeps.ite
    | with_reducible apply Keeps.ite_p1
    | with_reducible apply Keeps.ite_p2
    | with_reducible apply Keeps.ite_p22
    | with_reducible apply Keeps.ite_p222
    | ((with_reducible apply Keeps.step (objectBack_keeps ..)); exact rfl)
    | ((with_reducible apply Keeps.step (raiseDebug_keeps ..)); exact rfl)
    | ((with_reducible apply Keeps.step (putCore_keeps ..)); exact rfl)
    | ((with_reducible apply Keeps.step (setF_keeps ..)); exact rfl)
    | intro _
    | split
    | dsimp only
    | ((try with_reducible conv => arg 3; whnf); (with_reducible apply Keeps.upd); (with_reducible exact Or.inl rfl); (exact Or.inr rfl); (with_reducible exact Or.inl rfl); (exact Or.inr rfl); (iterate 9 (with_reducible exact Or.inl rfl)); (exact Or.inr rfl); (iterate 8 (with_reducible exact Or.inl rfl)); (with_reducible exact rfl); (with_reducible exact rfl))

theorem illegal_keeps (s : State) (c : Nat) (k : Core) :
    Keeps [.csr, .cores] s (illegal s c k) := by
  unfold illegal
  repeat' first
    | with_reducible apply Keeps.refl
    | with_reducible assumption
    | with_reducible apply Keeps.ite
    | with_reducible apply Keeps.ite_p1
    | with_reducible apply Keeps.ite_p2
    | with_reducible apply Keeps.ite_p22
    | with_reducible apply Keeps.ite_p222
    | ((with_reducible apply Keeps.step (raiseFault_keeps ..)); exact rfl)
    | ((with_reducible apply Keeps.step (putCore_keeps ..)); exact rfl)
    | intro _
    | split
    | dsimp only
    | ((try with_reducible conv => arg 3; whnf); (with_reducible apply Keeps.upd); (with_reducible exact Or.inl rfl); (exact Or.inr rfl); (iterate 11 (with_reducible exact Or.inl rfl)); (exact Or.inr rfl); (iterate 8 (with_reducible exact Or.inl rfl)); (with_reducible exact rfl); (with_reducible exact rfl))

theorem touchLine_keeps (s : State) (sl line : Nat) :
    Keeps [.redun] s (touchLine s sl line) := by
  unfold touchLine
  repeat' first
    | with_reducible apply Keeps.refl
    | with_reducible assumption
    | with_reducible apply Keeps.ite
    | intro _
    | split
    | dsimp only
    | ((try with_reducible conv => arg 3; whnf); (with_reducible apply Keeps.upd); (iterate 15 (with_reducible exact Or.inl rfl)); (exact Or.inr rfl); (iterate 6 (with_reducible exact Or.inl rfl)); (with_reducible exact rfl); (with_reducible exact rfl))

theorem touchAddr_keeps (s : State) (c a : Nat) :
    Keeps [.redun] s (touchAddr s c a) := by
  unfold touchAddr
  repeat' first
    | with_reducible apply Keeps.refl
    | with_reducible assumption
    | with_reducible apply Keeps.ite
    | ((with_reducible apply Keeps.step (touchLine_keeps ..)); exact rfl)
    | intro _
    | split
    | dsimp only
    | ((try with_reducible conv => arg 3; whnf); (with_reducible apply Keeps.upd); (iterate 15 (with_reducible exact Or.inl rfl)); (exact Or.inr rfl); (iterate 6 (with_reducible exact Or.inl rfl)); (with_reducible exact rfl); (with_reducible exact rfl))

theorem doLoad_keeps (c bus : Nat) (m : Move) (r : State × Core) :
    Keeps [.csr, .freeCtr, .flood, .slu, .hr, .cv, .bus, .rcu, .redun] r.1 (doLoad c bus m r).1 := by
  unfold doLoad
  split
  · exact Keeps.refl _ _
  · dsimp only
    split
    · exact Keeps.step (raiseFault_keeps ..) rfl (eccRead_keeps ..)
    · exact eccRead_keeps ..

theorem doStore_keeps (c bus : Nat) (m : Move) (k0 : Core) (r : State × Core) :
    Keeps [.mem, .bus, .redun] r.1 (doStore c bus m k0 r).1 := by
  unfold doStore
  split
  · exact Keeps.refl _ _
  · exact Keeps.step (touchAddr_keeps ..) rfl (Keeps.mono (writeBytes_keeps ..) rfl)

theorem doMoves_keeps (s : State) (c : Nat) (k0 k : Core) (x : Arith) :
    Keeps [.csr, .mem, .freeCtr, .flood, .slu, .hr, .cv, .bus, .rcu, .redun] s (doMoves s c k0 k x).1 := by
  unfold doMoves
  dsimp only
  iterate 3 refine Keeps.step (doStore_keeps ..) rfl ?_
  iterate 2 refine Keeps.step (doLoad_keeps ..) rfl ?_
  exact Keeps.mono (doLoad_keeps c 2 x.mc (s, k)) rfl

theorem issueArith_keeps (s : State) (c : Nat) (x : Arith) (op : ArithOp) :
    Keeps [.csr, .mem, .freeCtr, .flood, .slu, .hr, .cv, .bus, .cores, .rcu, .redun] s (issueArith s c x op) := by
  unfold issueArith
  repeat' first
    | with_reducible apply Keeps.refl
    | with_reducible assumption
    | with_reducible apply Keeps.ite
    | with_reducible apply Keeps.ite_p1
    | with_reducible apply Keeps.ite_p2
    | with_reducible apply Keeps.ite_p22
    | with_reducible apply Keeps.ite_p222
    | ((with_reducible apply Keeps.step (doMoves_keeps ..)); exact rfl)
    | ((with_reducible apply Keeps.step (illegal_keeps ..)); exact rfl)
    | ((with_reducible apply Keeps.step (advance_keeps ..)); exact rfl)
    | intro _
    | split
    | dsimp only
    | ((try with_reducible conv => arg 3; whnf); (with_reducible apply Keeps.upd); (with_reducible exact Or.inl rfl); (iterate 3 (exact Or.inr rfl)); (iterate 3 (with_reducible exact Or.inl rfl)); (iterate 3 (exact Or.inr rfl)); (with_reducible exact Or.inl rfl); (iterate 5 (exact Or.inr rfl)); (iterate 6 (with_reducible exact Or.inl rfl)); (with_reducible exact rfl); (with_reducible exact rfl))

theorem issueCtl_keeps {M : List Part} {s : State} {c : Nat} {f : Core → State} (hM : subParts [.csr, .cores] M = true)
    (hf : ∀ k, Keeps M s (f k)) : Keeps M s (issueCtl s c f) := by
  unfold issueCtl
  split
  · exact Keeps.refl _ _
  · split
    · exact Keeps.mono (illegal_keeps ..) hM
    · exact hf _

theorem issueLoop_keeps (s : State) (c count : Nat) (csrc : Bool) (nsel soff e : Nat) :
    Keeps [.csr, .freeCtr, .cores] s (issueLoop s c count csrc nsel soff e) := by
  unfold issueLoop
  repeat' first
    | with_reducible apply Keeps.refl
    | with_reducible assumption
    | with_reducible apply Keeps.ite
    | with_reducible apply Keeps.ite_p1
    | with_reducible apply Keeps.ite_p2
    | with_reducible apply Keeps.ite_p22
    | with_reducible apply Keeps.ite_p222
    | ((with_reducible apply Keeps.step (illegal_keeps ..)); exact rfl)
    | ((with_reducible apply Keeps.step (advance_keeps ..)); exact rfl)
    | ((with_reducible apply Keeps.step (raiseFault_keeps ..)); exact rfl)
    | ((with_reducible apply Keeps.step (putCore_keeps ..)); exact rfl)
    | ((with_reducible apply Keeps.step (count_keeps ..)); exact rfl)
    | ((with_reducible apply issueCtl_keeps); exact rfl)
    | intro _
    | split
    | dsimp only
    | ((try with_reducible conv => arg 3; whnf); (with_reducible apply Keeps.upd); (with_reducible exact Or.inl rfl); (exact Or.inr rfl); (with_reducible exact Or.inl rfl); (exact Or.inr rfl); (iterate 9 (with_reducible exact Or.inl rfl)); (exact Or.inr rfl); (iterate 8 (with_reducible exact Or.inl rfl)); (with_reducible exact rfl); (with_reducible exact rfl))

theorem stopWait_keeps (s : State) (c : Nat) (k : Core) :
    Keeps [.csr, .cores] s (stopWait s c k) := by
  unfold stopWait
  repeat' first
    | with_reducible apply Keeps.refl
    | with_reducible assumption
    | with_reducible apply Keeps.ite
    | ((with_reducible apply Keeps.step (putCore_keeps ..)); exact rfl)
    | ((with_reducible apply Keeps.step (setF_keeps ..)); exact rfl)
    | intro _
    | split
    | dsimp only
    | ((try with_reducible conv => arg 3; whnf); (with_reducible apply Keeps.upd); (with_reducible exact Or.inl rfl); (exact Or.inr rfl); (iterate 11 (with_reducible exact Or.inl rfl)); (exact Or.inr rfl); (iterate 8 (with_reducible exact Or.inl rfl)); (with_reducible exact rfl); (with_reducible exact rfl))

theorem issueWait_keeps (s : State) (c : Nat) :
    Keeps [.csr, .freeCtr, .cores] s (issueWait s c) := by
  unfold issueWait
  repeat' first
    | with_reducible apply Keeps.refl
    | with_reducible assumption
    | with_reducible apply Keeps.ite
    | ((with_reducible apply Keeps.step (stopWait_keeps ..)); exact rfl)
    | ((with_reducible apply Keeps.step (advance_keeps ..)); exact rfl)
    | ((with_reducible apply Keeps.step (putCore_keeps ..)); exact rfl)
    | intro _
    | split
    | dsimp only
    | ((try with_reducible conv => arg 3; whnf); (with_reducible apply Keeps.upd); (with_reducible exact Or.inl rfl); (exact Or.inr rfl); (with_reducible exact Or.inl rfl); (exact Or.inr rfl); (iterate 9 (with_reducible exact Or.inl rfl)); (exact Or.inr rfl); (iterate 8 (with_reducible exact Or.inl rfl)); (with_reducible exact rfl); (with_reducible exact rfl))

theorem issueWaitx_keeps (s : State) (c : Nat) :
    Keeps [.csr, .freeCtr, .cores] s (issueWaitx s c) := by
  unfold issueWaitx
  repeat' first
    | with_reducible apply Keeps.refl
    | with_reducible assumption
    | with_reducible apply Keeps.ite
    | ((with_reducible apply Keeps.step (advance_keeps ..)); exact rfl)
    | ((with_reducible apply Keeps.step (putCore_keeps ..)); exact rfl)
    | ((with_reducible apply issueCtl_keeps); exact rfl)
    | intro _
    | split
    | dsimp only
    | ((try with_reducible conv => arg 3; whnf); (with_reducible apply Keeps.upd); (with_reducible exact Or.inl rfl); (exact Or.inr rfl); (with_reducible exact Or.inl rfl); (exact Or.inr rfl); (iterate 9 (with_reducible exact Or.inl rfl)); (exact Or.inr rfl); (iterate 8 (with_reducible exact Or.inl rfl)); (with_reducible exact rfl); (with_reducible exact rfl))

theorem startAccess_keeps (s : State) (c : Nat) (k : Core) (x : XAcc) :
    Keeps [.csr] s (startAccess s c k x).1 := by
  unfold startAccess
  repeat' first
    | with_reducible apply Keeps.refl
    | with_reducible assumption
    | with_reducible apply Keeps.ite
    | with_reducible apply Keeps.ite_p1
    | with_reducible apply Keeps.ite_p2
    | with_reducible apply Keeps.ite_p22
    | with_reducible apply Keeps.ite_p222
    | ((with_reducible apply Keeps.step (raiseFault_keeps ..)); exact rfl)
    | ((with_reducible apply Keeps.step (count_keeps ..)); exact rfl)
    | ((with_reducible apply Keeps.step (setF_keeps ..)); exact rfl)
    | intro _
    | split
    | dsimp only
    | ((try with_reducible conv => arg 3; whnf); (with_reducible apply Keeps.upd); (with_reducible exact Or.inl rfl); (exact Or.inr rfl); (iterate 20 (with_reducible exact Or.inl rfl)); (with_reducible exact rfl); (with_reducible exact rfl))

theorem issueX_keeps (s : State) (c : Nat) (load : Bool) (v ck md fmt : Nat) :
    Keeps [.csr, .freeCtr, .cores] s (issueX s c load v ck md fmt) := by
  unfold issueX
  repeat' first
    | with_reducible apply Keeps.refl
    | with_reducible assumption
    | with_reducible apply Keeps.ite
    | with_reducible apply Keeps.ite_p1
    | with_reducible apply Keeps.ite_p2
    | with_reducible apply Keeps.ite_p22
    | with_reducible apply Keeps.ite_p222
    | ((with_reducible apply Keeps.step (startAccess_keeps ..)); exact rfl)
    | ((with_reducible apply Keeps.step (illegal_keeps ..)); exact rfl)
    | ((with_reducible apply Keeps.step (advance_keeps ..)); exact rfl)
    | ((with_reducible apply Keeps.step (putCore_keeps ..)); exact rfl)
    | ((with_reducible apply issueCtl_keeps); exact rfl)
    | intro _
    | split
    | dsimp only
    | ((try with_reducible conv => arg 3; whnf); (with_reducible apply Keeps.upd); (with_reducible exact Or.inl rfl); (exact Or.inr rfl); (with_reducible exact Or.inl rfl); (exact Or.inr rfl); (iterate 9 (with_reducible exact Or.inl rfl)); (exact Or.inr rfl); (iterate 8 (with_reducible exact Or.inl rfl)); (with_reducible exact rfl); (with_reducible exact rfl))

theorem xLand_keeps (s : State) (c : Nat) (load : Bool) (k : Core) (x : XAcc) (a : Nat) :
    Keeps [.csr, .mem, .freeCtr, .flood, .slu, .hr, .prf, .cv, .bus, .rcu, .redun] s (xLand s c load k x a).1 := by
  unfold xLand
  repeat' first
    | with_reducible apply Keeps.refl
    | with_reducible assumption
    | with_reducible apply Keeps.ite
    | with_reducible apply Keeps.ite_p1
    | with_reducible apply Keeps.ite_p2
    | with_reducible apply Keeps.ite_p22
    | with_reducible apply Keeps.ite_p222
    | ((with_reducible apply Keeps.step (touchLine_keeps ..)); exact rfl)
    | ((with_reducible apply Keeps.step (raiseFault_keeps ..)); exact rfl)
    | ((with_reducible apply Keeps.step (granted_keeps ..)); exact rfl)
    | ((with_reducible apply Keeps.step (memAccess_keeps ..)); exact rfl)
    | intro _
    | split
    | dsimp only
    | ((try with_reducible conv => arg 3; whnf); (with_reducible apply Keeps.upd); (with_reducible exact Or.inl rfl); (iterate 3 (exact Or.inr rfl)); (iterate 3 (with_reducible exact Or.inl rfl)); (iterate 6 (exact Or.inr rfl)); (with_reducible exact Or.inl rfl); (iterate 2 (exact Or.inr rfl)); (iterate 6 (with_reducible exact Or.inl rfl)); (with_reducible exact rfl); (with_reducible exact rfl))

theorem xNinth_keeps (r : State × Core) (c : Nat) : Keeps [.csr] r.1 (xNinth r c).1 := by
  unfold xNinth
  split
  · exact startAccess_keeps ..
  · exact Keeps.refl _ _

theorem completeX_keeps (s : State) (c : Nat) (load : Bool) (lat : Nat) :
    Keeps [.csr, .mem, .freeCtr, .flood, .slu, .hr, .prf, .cv, .bus, .cores, .rcu, .redun] s (completeX s c load lat) := by
  delta completeX
  try lift_lets
  intros
  repeat' first
    | with_reducible apply Keeps.refl
    | with_reducible assumption
    | with_reducible apply Keeps.ite
    | with_reducible apply Keeps.ite_p1
    | with_reducible apply Keeps.ite_p2
    | with_reducible apply Keeps.ite_p22
    | with_reducible apply Keeps.ite_p222
    | ((with_reducible apply Keeps.step (xNinth_keeps ..)); exact rfl)
    | ((with_reducible apply Keeps.step (xLand_keeps ..)); exact rfl)
    | ((with_reducible apply Keeps.step (stopWait_keeps ..)); exact rfl)
    | ((with_reducible apply Keeps.step (putCore_keeps ..)); exact rfl)
    | ((with_reducible apply Keeps.step (setF_keeps ..)); exact rfl)
    | intro _
    | split
    | dsimp only
    | ((try with_reducible conv => arg 3; whnf); (with_reducible apply Keeps.upd); (with_reducible exact Or.inl rfl); (iterate 3 (exact Or.inr rfl)); (iterate 3 (with_reducible exact Or.inl rfl)); (iterate 9 (exact Or.inr rfl)); (iterate 6 (with_reducible exact Or.inl rfl)); (with_reducible exact rfl); (with_reducible exact rfl))

theorem interruptEntry_keeps (s : State) (c : Nat) :
    Keeps [.csr, .cores] s (interruptEntry s c) := by
  unfold interruptEntry
  repeat' first
    | with_reducible apply Keeps.refl
    | with_reducible assumption
    | with_reducible apply Keeps.ite
    | ((with_reducible apply Keeps.step (putCore_keeps ..)); exact rfl)
    | ((with_reducible apply Keeps.step (stick_keeps ..)); exact rfl)
    | ((with_reducible apply Keeps.step (setF_keeps ..)); exact rfl)
    | intro _
    | split
    | dsimp only
    | ((try with_reducible conv => arg 3; whnf); (with_reducible apply Keeps.upd); (with_reducible exact Or.inl rfl); (exact Or.inr rfl); (iterate 11 (with_reducible exact Or.inl rfl)); (exact Or.inr rfl); (iterate 8 (with_reducible exact Or.inl rfl)); (with_reducible exact rfl); (with_reducible exact rfl))

theorem holdCore_keeps (s : State) (c : Nat) :
    Keeps [.csr, .cores] s (holdCore s c) := by
  unfold holdCore
  repeat' first
    | with_reducible apply Keeps.refl
    | with_reducible assumption
    | with_reducible apply Keeps.ite
    | ((with_reducible apply Keeps.step (putCore_keeps ..)); exact rfl)
    | ((with_reducible apply Keeps.step (setF_keeps ..)); exact rfl)
    | intro _
    | split
    | dsimp only
    | ((try with_reducible conv => arg 3; whnf); (with_reducible apply Keeps.upd); (with_reducible exact Or.inl rfl); (exact Or.inr rfl); (iterate 11 (with_reducible exact Or.inl rfl)); (exact Or.inr rfl); (iterate 8 (with_reducible exact Or.inl rfl)); (with_reducible exact rfl); (with_reducible exact rfl))

theorem releaseCore_keeps (s : State) (c : Nat) :
    Keeps [.csr, .cores] s (releaseCore s c) := by
  unfold releaseCore
  repeat' first
    | with_reducible apply Keeps.refl
    | with_reducible assumption
    | with_reducible apply Keeps.ite
    | ((with_reducible apply Keeps.step (putCore_keeps ..)); exact rfl)
    | ((with_reducible apply Keeps.step (setF_keeps ..)); exact rfl)
    | intro _
    | split
    | dsimp only
    | ((try with_reducible conv => arg 3; whnf); (with_reducible apply Keeps.upd); (with_reducible exact Or.inl rfl); (exact Or.inr rfl); (iterate 11 (with_reducible exact Or.inl rfl)); (exact Or.inr rfl); (iterate 8 (with_reducible exact Or.inl rfl)); (with_reducible exact rfl); (with_reducible exact rfl))

theorem mintalCtlWrite_keeps (s : State) (c v : Nat) :
    Keeps [.csr, .cores] s (mintalCtlWrite s c v) := by
  unfold mintalCtlWrite
  repeat' first
    | with_reducible apply Keeps.refl
    | with_reducible assumption
    | with_reducible apply Keeps.ite
    | ((with_reducible apply Keeps.step (holdCore_keeps ..)); exact rfl)
    | ((with_reducible apply Keeps.step (putCore_keeps ..)); exact rfl)
    | ((with_reducible apply Keeps.step (setF_keeps ..)); exact rfl)
    | intro _
    | split
    | dsimp only
    | ((try with_reducible conv => arg 3; whnf); (with_reducible apply Keeps.upd); (with_reducible exact Or.inl rfl); (exact Or.inr rfl); (iterate 11 (with_reducible exact Or.inl rfl)); (exact Or.inr rfl); (iterate 8 (with_reducible exact Or.inl rfl)); (with_reducible exact rfl); (with_reducible exact rfl))

theorem mintalXWrite_keeps (s : State) (c off : Nat) (v : Word) :
    Keeps [.csr] s (mintalXWrite s c off v) := by
  unfold mintalXWrite
  repeat' first
    | with_reducible apply Keeps.refl
    | with_reducible assumption
    | with_reducible apply Keeps.ite
    | ((with_reducible apply Keeps.step (csrWrite_keeps ..)); exact rfl)
    | intro _
    | split
    | dsimp only
    | ((try with_reducible conv => arg 3; whnf); (with_reducible apply Keeps.upd); (with_reducible exact Or.inl rfl); (exact Or.inr rfl); (iterate 20 (with_reducible exact Or.inl rfl)); (with_reducible exact rfl); (with_reducible exact rfl))

end Sys2Proof.Machine
end

