-- ==== Sys2Proof/Laws/KeepRestart.lean ====
section
/-! SUPPORT. What each operation of Machine/Restart.lean may change. -/
namespace Sys2Proof.Machine

theorem holdAll_keeps (s : State) :
    Keeps [.csr, .cores, .rst] s (holdAll s) := by
  unfold holdAll
  repeat' first
    | with_reducible apply Keeps.refl
    | with_reducible assumption
    | with_reducible apply Keeps.ite
    | with_reducible apply Keeps.foldl
    | with_reducible apply Keeps.foldl_fst
    | with_reducible apply Keeps.foldl_snd
    | with_reducible apply Keeps.foldl_snd2
    | ((with_reducible apply Keeps.step (holdCore_keeps ..)); exact rfl)
    | intro _
    | split
    | dsimp only
    | ((try with_reducible conv => arg 3; whnf); (with_reducible apply Keeps.upd); (with_reducible exact Or.inl rfl); (exact Or.inr rfl); (iterate 11 (with_reducible exact Or.inl rfl)); (exact Or.inr rfl); (iterate 2 (with_reducible exact Or.inl rfl)); (exact Or.inr rfl); (iterate 5 (with_reducible exact Or.inl rfl)); (with_reducible exact rfl); (with_reducible exact rfl))

theorem journalLost_keeps (s : State) :
    Keeps [.csr, .hr] s (journalLost s) := by
  unfold journalLost
  repeat' first
    | with_reducible apply Keeps.refl
    | with_reducible assumption
    | with_reducible apply Keeps.ite
    | ((with_reducible apply Keeps.step (stick_keeps ..)); exact rfl)
    | intro _
    | split
    | dsimp only
    | ((try with_reducible conv => arg 3; whnf); (with_reducible apply Keeps.upd); (with_reducible exact Or.inl rfl); (exact Or.inr rfl); (iterate 7 (with_reducible exact Or.inl rfl)); (exact Or.inr rfl); (iterate 12 (with_reducible exact Or.inl rfl)); (with_reducible exact rfl); (with_reducible exact rfl))

theorem replayAll_keeps {M : List Part} {ap : State → Nat → Nat → State} (hM : subParts [.csr, .freeCtr, .slu, .hr] M = true) (hf : ∀ y0 y1 y2, Keeps M y0 (ap y0 y1 y2)) (s : State) :
    Keeps M s (replayAll ap s) := by
  unfold replayAll
  repeat' first
    | with_reducible apply Keeps.refl
    | with_reducible assumption
    | with_reducible apply Keeps.ite
    | with_reducible apply Keeps.foldl
    | with_reducible apply Keeps.foldl_fst
    | with_reducible apply Keeps.foldl_snd
    | with_reducible apply Keeps.foldl_snd2
    | ((with_reducible apply Keeps.step (hf ..)); exact subParts_refl _)
    | ((with_reducible apply Keeps.step (stick_keeps ..)); exact (subParts_trans rfl hM))
    | ((with_reducible apply Keeps.step (setF_keeps ..)); exact (subParts_trans rfl hM))
    | ((with_reducible apply Keeps.step (enterEntry_keeps (M := M) ?_ ?_ ..)); (with_reducible exact subParts_refl _); rotate_left; (exact (subParts_trans rfl hM)))
    | intro _
    | split
    | dsimp only
    | ((try with_reducible conv => arg 3; whnf); (with_reducible apply Keeps.upd); (with_reducible exact Or.inl rfl); (exact Or.inr (subParts_trans rfl hM)); (with_reducible exact Or.inl rfl); (exact Or.inr (subParts_trans rfl hM)); (iterate 4 (with_reducible exact Or.inl rfl)); (iterate 2 (exact Or.inr (subParts_trans rfl hM))); (iterate 12 (with_reducible exact Or.inl rfl)); (with_reducible exact rfl); (with_reducible exact rfl))

theorem restageReplay_keeps {M : List Part} {ap : State → Nat → Nat → State} (hM : subParts [.csr, .mem, .freeCtr, .dsp, .mix, .flood, .slu, .hr, .cv, .bus, .rcu, .redun] M = true) (hf : ∀ y0 y1 y2, Keeps M y0 (ap y0 y1 y2)) (s : State) :
    Keeps M s (restageReplay ap s) := by
  unfold restageReplay
  repeat' first
    | with_reducible apply Keeps.refl
    | with_reducible assumption
    | with_reducible apply Keeps.ite
    | ((with_reducible apply Keeps.step (hf ..)); exact subParts_refl _)
    | ((with_reducible apply Keeps.step (restageAll_keeps ..)); exact (subParts_trans rfl hM))
    | ((with_reducible apply Keeps.step (restoreDirty_keeps ..)); exact (subParts_trans rfl hM))
    | ((with_reducible apply Keeps.step (replayAll_keeps (M := M) ?_ ?_ ..)); (with_reducible exact subParts_refl _); rotate_left; (exact (subParts_trans rfl hM)))
    | intro _
    | split
    | dsimp only
    | ((try with_reducible conv => arg 3; whnf); (with_reducible apply Keeps.upd); (with_reducible exact Or.inl rfl); (iterate 3 (exact Or.inr (subParts_trans rfl hM))); (with_reducible exact Or.inl rfl); (iterate 5 (exact Or.inr (subParts_trans rfl hM))); (with_reducible exact Or.inl rfl); (iterate 2 (exact Or.inr (subParts_trans rfl hM))); (with_reducible exact Or.inl rfl); (iterate 2 (exact Or.inr (subParts_trans rfl hM))); (iterate 6 (with_reducible exact Or.inl rfl)); (with_reducible exact rfl); (with_reducible exact rfl))

theorem mergeGroup_keeps {M : List Part} {ap : State → Nat → Nat → State} (hM : subParts [.csr, .mem, .freeCtr, .dsp, .mix, .flood, .slu, .hr, .cv, .bus, .rcu, .redun] M = true) (hf : ∀ y0 y1 y2, Keeps M y0 (ap y0 y1 y2)) (n : Nat) (s : State) (g : Group) :
    Keeps M s (mergeGroup ap n s g) := by
  unfold mergeGroup
  repeat' first
    | with_reducible apply Keeps.refl
    | with_reducible assumption
    | with_reducible apply Keeps.ite
    | with_reducible apply Keeps.ite_p1
    | with_reducible apply Keeps.ite_p2
    | with_reducible apply Keeps.ite_p22
    | with_reducible apply Keeps.ite_p222
    | with_reducible apply Keeps.foldl
    | with_reducible apply Keeps.foldl_fst
    | with_reducible apply Keeps.foldl_snd
    | with_reducible apply Keeps.foldl_snd2
    | ((with_reducible apply Keeps.step (hf ..)); exact subParts_refl _)
    | ((with_reducible apply Keeps.step (settleCells_keeps ..)); exact (subParts_trans rfl hM))
    | ((with_reducible apply Keeps.step (captureMember_keeps ..)); exact (subParts_trans rfl hM))
    | ((with_reducible apply Keeps.step (markApplied_keeps ..)); exact (subParts_trans rfl hM))
    | ((with_reducible apply Keeps.step (flipWords_keeps ..)); exact (subParts_trans rfl hM))
    | ((with_reducible apply Keeps.step (stageMember_keeps ..)); exact (subParts_trans rfl hM))
    | ((with_reducible apply Keeps.step (stageCols_keeps ..)); exact (subParts_trans rfl hM))
    | ((with_reducible apply Keeps.step (stageWrites_keeps ..)); exact (subParts_trans rfl hM))
    | ((with_reducible apply Keeps.step (count_keeps ..)); exact (subParts_trans rfl hM))
    | ((with_reducible apply Keeps.step (stick_keeps ..)); exact (subParts_trans rfl hM))
    | intro _
    | split
    | dsimp only
    | ((try with_reducible conv => arg 3; whnf); (with_reducible apply Keeps.upd); (with_reducible exact Or.inl rfl); (iterate 3 (exact Or.inr (subParts_trans rfl hM))); (with_reducible exact Or.inl rfl); (iterate 5 (exact Or.inr (subParts_trans rfl hM))); (with_reducible exact Or.inl rfl); (iterate 2 (exact Or.inr (subParts_trans rfl hM))); (with_reducible exact Or.inl rfl); (iterate 2 (exact Or.inr (subParts_trans rfl hM))); (iterate 6 (with_reducible exact Or.inl rfl)); (with_reducible exact rfl); (with_reducible exact rfl))

theorem mergeDue_keeps {M : List Part} {ap : State → Nat → Nat → State} (hM : subParts [.csr, .mem, .freeCtr, .dsp, .mix, .flood, .slu, .hr, .cv, .bus, .rcu, .redun] M = true) (hf : ∀ y0 y1 y2, Keeps M y0 (ap y0 y1 y2)) (s : State) (n : Nat) :
    Keeps M s (mergeDue ap s n) := by
  unfold mergeDue
  repeat' first
    | with_reducible apply Keeps.refl
    | with_reducible assumption
    | with_reducible apply Keeps.ite
    | with_reducible apply Keeps.foldl
    | with_reducible apply Keeps.foldl_fst
    | with_reducible apply Keeps.foldl_snd
    | with_reducible apply Keeps.foldl_snd2
    | ((with_reducible apply Keeps.step (hf ..)); exact subParts_refl _)
    | ((with_reducible apply Keeps.step (stick_keeps ..)); exact (subParts_trans rfl hM))
    | ((with_reducible apply Keeps.step (mergeGroup_keeps (M := M) ?_ ?_ ..)); (with_reducible exact subParts_refl _); rotate_left; (exact (subParts_trans rfl hM)))
    | intro _
    | split
    | dsimp only
    | ((try with_reducible conv => arg 3; whnf); (with_reducible apply Keeps.upd); (with_reducible exact Or.inl rfl); (iterate 3 (exact Or.inr (subParts_trans rfl hM))); (with_reducible exact Or.inl rfl); (iterate 5 (exact Or.inr (subParts_trans rfl hM))); (with_reducible exact Or.inl rfl); (iterate 2 (exact Or.inr (subParts_trans rfl hM))); (with_reducible exact Or.inl rfl); (iterate 2 (exact Or.inr (subParts_trans rfl hM))); (iterate 6 (with_reducible exact Or.inl rfl)); (with_reducible exact rfl); (with_reducible exact rfl))

theorem freeCores_keeps (s : State) :
    Keeps [.csr] s (freeCores s) := by
  unfold freeCores
  repeat' first
    | with_reducible apply Keeps.refl
    | with_reducible assumption
    | with_reducible apply Keeps.ite
    | with_reducible apply Keeps.foldl
    | with_reducible apply Keeps.foldl_fst
    | with_reducible apply Keeps.foldl_snd
    | with_reducible apply Keeps.foldl_snd2
    | ((with_reducible apply Keeps.step (setF_keeps ..)); exact rfl)
    | intro _
    | split
    | dsimp only
    | ((try with_reducible conv => arg 3; whnf); (with_reducible apply Keeps.upd); (with_reducible exact Or.inl rfl); (exact Or.inr rfl); (iterate 20 (with_reducible exact Or.inl rfl)); (with_reducible exact rfl); (with_reducible exact rfl))

theorem releaseAll_keeps (s : State) :
    Keeps [.csr, .cores, .rst] s (releaseAll s) := by
  unfold releaseAll
  repeat' first
    | with_reducible apply Keeps.refl
    | with_reducible assumption
    | with_reducible apply Keeps.ite
    | with_reducible apply Keeps.foldl
    | with_reducible apply Keeps.foldl_fst
    | with_reducible apply Keeps.foldl_snd
    | with_reducible apply Keeps.foldl_snd2
    | ((with_reducible apply Keeps.step (releaseCore_keeps ..)); exact rfl)
    | intro _
    | split
    | dsimp only
    | ((try with_reducible conv => arg 3; whnf); (with_reducible apply Keeps.upd); (with_reducible exact Or.inl rfl); (exact Or.inr rfl); (iterate 11 (with_reducible exact Or.inl rfl)); (exact Or.inr rfl); (iterate 2 (with_reducible exact Or.inl rfl)); (exact Or.inr rfl); (iterate 5 (with_reducible exact Or.inl rfl)); (with_reducible exact rfl); (with_reducible exact rfl))

theorem coresRestart_keeps {M : List Part} {ap : State → Nat → Nat → State} (hM : subParts [.csr, .mem, .freeCtr, .dsp, .mix, .flood, .slu, .hr, .cv, .bus, .cores, .rcu, .redun, .rst] M = true) (hf : ∀ y0 y1 y2, Keeps M y0 (ap y0 y1 y2)) (s : State) :
    Keeps M s (coresRestart ap s) := by
  unfold coresRestart
  repeat' first
    | with_reducible apply Keeps.refl
    | with_reducible assumption
    | with_reducible apply Keeps.ite
    | ((with_reducible apply Keeps.step (hf ..)); exact subParts_refl _)
    | ((with_reducible apply Keeps.step (releaseAll_keeps ..)); exact (subParts_trans rfl hM))
    | ((with_reducible apply Keeps.step (freeCores_keeps ..)); exact (subParts_trans rfl hM))
    | ((with_reducible apply Keeps.step (resetGens_keeps ..)); exact (subParts_trans rfl hM))
    | ((with_reducible apply Keeps.step (reloadPrng_keeps ..)); exact (subParts_trans rfl hM))
    | ((with_reducible apply Keeps.step (loneRole_keeps ..)); exact (subParts_trans rfl hM))
    | ((with_reducible apply Keeps.step (setRole_keeps ..)); exact (subParts_trans rfl hM))
    | ((with_reducible apply Keeps.step (sendEvent_keeps ..)); exact (subParts_trans rfl hM))
    | ((with_reducible apply Keeps.step (mergeDue_keeps (M := M) ?_ ?_ ..)); (with_reducible exact subParts_refl _); rotate_left; (exact (subParts_trans rfl hM)))
    | intro _
    | split
    | dsimp only
    | ((try with_reducible conv => arg 3; whnf); (with_reducible apply Keeps.upd); (with_reducible exact Or.inl rfl); (iterate 3 (exact Or.inr (subParts_trans rfl hM))); (with_reducible exact Or.inl rfl); (iterate 5 (exact Or.inr (subParts_trans rfl hM))); (with_reducible exact Or.inl rfl); (iterate 6 (exact Or.inr (subParts_trans rfl hM))); (iterate 5 (with_reducible exact Or.inl rfl)); (with_reducible exact rfl); (with_reducible exact rfl))

end Sys2Proof.Machine
end

