-- ==== Sys2Proof/Laws/KeepRedun.lean ====
section
/-! SUPPORT. What each operation of Machine/Redun.lean may change. -/
namespace Sys2Proof.Machine

theorem helloSend_keeps (s : State) :
    Keeps [.redun] s (helloSend s) := by
  unfold helloSend
  repeat' first
    | with_reducible apply Keeps.refl
    | with_reducible assumption
    | with_reducible apply Keeps.ite
    | ((with_reducible apply Keeps.step (linkSend_keeps ..)); exact rfl)
    | intro _
    | split
    | dsimp only
    | ((try with_reducible conv => arg 3; whnf); (with_reducible apply Keeps.upd); (iterate 15 (with_reducible exact Or.inl rfl)); (exact Or.inr rfl); (iterate 6 (with_reducible exact Or.inl rfl)); (with_reducible exact rfl); (with_reducible exact rfl))

theorem statusSend_keeps (s : State) :
    Keeps [.redun] s (statusSend s) := by
  unfold statusSend
  repeat' first
    | with_reducible apply Keeps.refl
    | with_reducible assumption
    | with_reducible apply Keeps.ite
    | ((with_reducible apply Keeps.step (linkSend_keeps ..)); exact rfl)
    | intro _
    | split
    | dsimp only
    | ((try with_reducible conv => arg 3; whnf); (with_reducible apply Keeps.upd); (iterate 15 (with_reducible exact Or.inl rfl)); (exact Or.inr rfl); (iterate 6 (with_reducible exact Or.inl rfl)); (with_reducible exact rfl); (with_reducible exact rfl))

theorem copyCell_keeps (s : State) (c : Nat) :
    Keeps [.csr, .freeCtr, .flood, .slu, .hr, .cv, .bus, .rcu, .redun] s (copyCell s c) := by
  unfold copyCell
  repeat' first
    | with_reducible apply Keeps.refl
    | with_reducible assumption
    | with_reducible apply Keeps.ite
    | ((with_reducible apply Keeps.step (scanRange_keeps ..)); exact rfl)
    | ((with_reducible apply Keeps.step (linkSend_keeps ..)); exact rfl)
    | intro _
    | split
    | dsimp only
    | ((try with_reducible conv => arg 3; whnf); (with_reducible apply Keeps.upd); (with_reducible exact Or.inl rfl); (exact Or.inr rfl); (with_reducible exact Or.inl rfl); (exact Or.inr rfl); (iterate 3 (with_reducible exact Or.inl rfl)); (iterate 3 (exact Or.inr rfl)); (with_reducible exact Or.inl rfl); (iterate 2 (exact Or.inr rfl)); (with_reducible exact Or.inl rfl); (iterate 2 (exact Or.inr rfl)); (iterate 6 (with_reducible exact Or.inl rfl)); (with_reducible exact rfl); (with_reducible exact rfl))

theorem startCopy_keeps (s : State) :
    Keeps [.csr, .freeCtr, .flood, .slu, .hr, .cv, .bus, .rcu, .redun] s (startCopy s) := by
  unfold startCopy
  repeat' first
    | with_reducible apply Keeps.refl
    | with_reducible assumption
    | with_reducible apply Keeps.ite
    | with_reducible apply Keeps.ite_p1
    | with_reducible apply Keeps.ite_p2
    | with_reducible apply Keeps.ite_p22
    | with_reducible apply Keeps.ite_p222
    | with_reducible apply Keeps.foldl
    | with_reducible apply Keeps.foldl_fst
    | with_reducible apply Keeps.foldl_snd
    | with_reducible apply Keeps.foldl_snd2
    | ((with_reducible apply Keeps.step (copyCell_keeps ..)); exact rfl)
    | ((with_reducible apply Keeps.step (scanRange_keeps ..)); exact rfl)
    | ((with_reducible apply Keeps.step (linkSend_keeps ..)); exact rfl)
    | intro _
    | split
    | dsimp only
    | ((try with_reducible conv => arg 3; whnf); (with_reducible apply Keeps.upd); (with_reducible exact Or.inl rfl); (exact Or.inr rfl); (with_reducible exact Or.inl rfl); (exact Or.inr rfl); (iterate 3 (with_reducible exact Or.inl rfl)); (iterate 3 (exact Or.inr rfl)); (with_reducible exact Or.inl rfl); (iterate 2 (exact Or.inr rfl)); (with_reducible exact Or.inl rfl); (iterate 2 (exact Or.inr rfl)); (iterate 6 (with_reducible exact Or.inl rfl)); (with_reducible exact rfl); (with_reducible exact rfl))

theorem copyChanged_keeps (s : State) (cs : List Nat) :
    Keeps [.csr, .freeCtr, .flood, .slu, .hr, .cv, .bus, .rcu, .redun] s (copyChanged s cs) := by
  unfold copyChanged
  repeat' first
    | with_reducible apply Keeps.refl
    | with_reducible assumption
    | with_reducible apply Keeps.ite
    | with_reducible apply Keeps.foldl
    | with_reducible apply Keeps.foldl_fst
    | with_reducible apply Keeps.foldl_snd
    | with_reducible apply Keeps.foldl_snd2
    | ((with_reducible apply Keeps.step (copyCell_keeps ..)); exact rfl)
    | intro _
    | split
    | dsimp only
    | ((try with_reducible conv => arg 3; whnf); (with_reducible apply Keeps.upd); (with_reducible exact Or.inl rfl); (exact Or.inr rfl); (with_reducible exact Or.inl rfl); (exact Or.inr rfl); (iterate 3 (with_reducible exact Or.inl rfl)); (iterate 3 (exact Or.inr rfl)); (with_reducible exact Or.inl rfl); (iterate 2 (exact Or.inr rfl)); (with_reducible exact Or.inl rfl); (iterate 2 (exact Or.inr rfl)); (iterate 6 (with_reducible exact Or.inl rfl)); (with_reducible exact rfl); (with_reducible exact rfl))

theorem copyComplete_keeps (s : State) :
    Keeps [.redun] s (copyComplete s) := by
  unfold copyComplete
  repeat' first
    | with_reducible apply Keeps.refl
    | with_reducible assumption
    | with_reducible apply Keeps.ite
    | ((with_reducible apply Keeps.step (linkSend_keeps ..)); exact rfl)
    | intro _
    | split
    | dsimp only
    | ((try with_reducible conv => arg 3; whnf); (with_reducible apply Keeps.upd); (iterate 15 (with_reducible exact Or.inl rfl)); (exact Or.inr rfl); (iterate 6 (with_reducible exact Or.inl rfl)); (with_reducible exact rfl); (with_reducible exact rfl))

theorem unitPhase2_keeps (s : State) :
    Keeps [.csr, .slu, .hr, .cores, .redun, .rst] s (unitPhase2 s) := by
  unfold unitPhase2
  repeat' first
    | with_reducible apply Keeps.refl
    | with_reducible assumption
    | with_reducible apply Keeps.ite
    | ((with_reducible apply Keeps.step (holdAll_keeps ..)); exact rfl)
    | intro _
    | split
    | dsimp only
    | ((try with_reducible conv => arg 3; whnf); (with_reducible apply Keeps.upd); (with_reducible exact Or.inl rfl); (exact Or.inr rfl); (iterate 6 (with_reducible exact Or.inl rfl)); (iterate 2 (exact Or.inr rfl)); (iterate 3 (with_reducible exact Or.inl rfl)); (exact Or.inr rfl); (with_reducible exact Or.inl rfl); (iterate 2 (exact Or.inr rfl)); (iterate 5 (with_reducible exact Or.inl rfl)); (with_reducible exact rfl); (with_reducible exact rfl))

theorem linkDone_keeps (s : State) :
    Keeps [.csr, .freeCtr, .flood, .slu, .hr, .cv, .bus, .cores, .rcu, .redun, .rst] s (linkDone s) := by
  unfold linkDone
  repeat' first
    | with_reducible apply Keeps.refl
    | with_reducible assumption
    | with_reducible apply Keeps.ite
    | ((with_reducible apply Keeps.step (unitPhase2_keeps ..)); exact rfl)
    | ((with_reducible apply Keeps.step (startCopy_keeps ..)); exact rfl)
    | intro _
    | split
    | dsimp only
    | ((try with_reducible conv => arg 3; whnf); (with_reducible apply Keeps.upd); (with_reducible exact Or.inl rfl); (exact Or.inr rfl); (with_reducible exact Or.inl rfl); (exact Or.inr rfl); (iterate 3 (with_reducible exact Or.inl rfl)); (iterate 3 (exact Or.inr rfl)); (with_reducible exact Or.inl rfl); (iterate 6 (exact Or.inr rfl)); (iterate 5 (with_reducible exact Or.inl rfl)); (with_reducible exact rfl); (with_reducible exact rfl))

theorem resyncStart_keeps (s : State) :
    Keeps [.csr, .redun] s (resyncStart s) := by
  unfold resyncStart
  repeat' first
    | with_reducible apply Keeps.refl
    | with_reducible assumption
    | with_reducible apply Keeps.ite
    | ((with_reducible apply Keeps.step (setF_keeps ..)); exact rfl)
    | intro _
    | split
    | dsimp only
    | ((try with_reducible conv => arg 3; whnf); (with_reducible apply Keeps.upd); (with_reducible exact Or.inl rfl); (exact Or.inr rfl); (iterate 13 (with_reducible exact Or.inl rfl)); (exact Or.inr rfl); (iterate 6 (with_reducible exact Or.inl rfl)); (with_reducible exact rfl); (with_reducible exact rfl))

theorem autoResync_keeps (s : State) :
    Keeps [.csr, .redun] s (autoResync s) := by
  unfold autoResync
  repeat' first
    | with_reducible apply Keeps.refl
    | with_reducible assumption
    | with_reducible apply Keeps.ite
    | ((with_reducible apply Keeps.step (resyncStart_keeps ..)); exact rfl)
    | intro _
    | split
    | dsimp only
    | ((try with_reducible conv => arg 3; whnf); (with_reducible apply Keeps.upd); (with_reducible exact Or.inl rfl); (exact Or.inr rfl); (iterate 13 (with_reducible exact Or.inl rfl)); (exact Or.inr rfl); (iterate 6 (with_reducible exact Or.inl rfl)); (with_reducible exact rfl); (with_reducible exact rfl))

theorem unitStart_keeps (s : State) :
    Keeps [.csr, .hr, .rcu, .redun] s (unitStart s) := by
  unfold unitStart
  repeat' first
    | with_reducible apply Keeps.refl
    | with_reducible assumption
    | with_reducible apply Keeps.ite
    | ((with_reducible apply Keeps.step (discord_keeps ..)); exact rfl)
    | ((with_reducible apply Keeps.step (reselect_keeps ..)); exact rfl)
    | ((with_reducible apply Keeps.step (setF_keeps ..)); exact rfl)
    | intro _
    | split
    | dsimp only
    | ((try with_reducible conv => arg 3; whnf); (with_reducible apply Keeps.upd); (with_reducible exact Or.inl rfl); (exact Or.inr rfl); (iterate 7 (with_reducible exact Or.inl rfl)); (exact Or.inr rfl); (iterate 4 (with_reducible exact Or.inl rfl)); (iterate 2 (exact Or.inr rfl)); (iterate 6 (with_reducible exact Or.inl rfl)); (with_reducible exact rfl); (with_reducible exact rfl))

theorem statusRx_keeps (s : State) (role sync : Nat) (home test : Bool) (ack0 ack1 : Nat) :
    Keeps [.csr, .freeCtr, .slu, .hr, .rcu, .redun] s (statusRx s role sync home test ack0 ack1) := by
  delta statusRx
  try lift_lets
  intros
  repeat' first
    | with_reducible apply Keeps.refl
    | with_reducible assumption
    | with_reducible apply Keeps.ite
    | ((with_reducible apply Keeps.step (unitStart_keeps ..)); exact rfl)
    | ((with_reducible apply Keeps.step (linkAck_keeps ..)); exact rfl)
    | ((with_reducible apply Keeps.step (resyncFail_keeps ..)); exact rfl)
    | ((with_reducible apply Keeps.step (leaveSynced_keeps ..)); exact rfl)
    | ((with_reducible apply Keeps.step (sendRole_keeps ..)); exact rfl)
    | ((with_reducible apply Keeps.step (stick_keeps ..)); exact rfl)
    | intro _
    | split
    | dsimp only
    | ((try with_reducible conv => arg 3; whnf); (with_reducible apply Keeps.upd); (with_reducible exact Or.inl rfl); (exact Or.inr rfl); (with_reducible exact Or.inl rfl); (exact Or.inr rfl); (iterate 4 (with_reducible exact Or.inl rfl)); (iterate 2 (exact Or.inr rfl)); (iterate 4 (with_reducible exact Or.inl rfl)); (iterate 2 (exact Or.inr rfl)); (iterate 6 (with_reducible exact Or.inl rfl)); (with_reducible exact rfl); (with_reducible exact rfl))

theorem helloRx_keeps (s : State) (h : Hello) :
    Keeps [.csr, .freeCtr, .flood, .slu, .hr, .cv, .bus, .cores, .rcu, .redun, .rst] s (helloRx s h) := by
  unfold helloRx
  repeat' first
    | with_reducible apply Keeps.refl
    | with_reducible assumption
    | with_reducible apply Keeps.ite
    | ((with_reducible apply Keeps.step (linkDone_keeps ..)); exact rfl)
    | ((with_reducible apply Keeps.step (setF_keeps ..)); exact rfl)
    | intro _
    | split
    | dsimp only
    | ((try with_reducible conv => arg 3; whnf); (with_reducible apply Keeps.upd); (with_reducible exact Or.inl rfl); (exact Or.inr rfl); (with_reducible exact Or.inl rfl); (exact Or.inr rfl); (iterate 3 (with_reducible exact Or.inl rfl)); (iterate 3 (exact Or.inr rfl)); (with_reducible exact Or.inl rfl); (iterate 6 (exact Or.inr rfl)); (iterate 5 (with_reducible exact Or.inl rfl)); (with_reducible exact rfl); (with_reducible exact rfl))

theorem restartEvents_keeps (s : State) :
    Keeps [.hr] s (restartEvents s) := by
  unfold restartEvents
  repeat' first
    | with_reducible apply Keeps.refl
    | with_reducible assumption
    | with_reducible apply Keeps.ite
    | intro _
    | split
    | dsimp only
    | ((try with_reducible conv => arg 3; whnf); (with_reducible apply Keeps.upd); (iterate 9 (with_reducible exact Or.inl rfl)); (exact Or.inr rfl); (iterate 12 (with_reducible exact Or.inl rfl)); (with_reducible exact rfl); (with_reducible exact rfl))

theorem warmTake_keeps (s : State) :
    Keeps [.csr, .freeCtr, .flood, .slu, .hr, .rcu, .redun] s (warmTake s) := by
  unfold warmTake
  repeat' first
    | with_reducible apply Keeps.refl
    | with_reducible assumption
    | with_reducible apply Keeps.ite
    | ((with_reducible apply Keeps.step (restartEvents_keeps ..)); exact rfl)
    | ((with_reducible apply Keeps.step (leaveSynced_keeps ..)); exact rfl)
    | ((with_reducible apply Keeps.step (sendRole_keeps ..)); exact rfl)
    | ((with_reducible apply Keeps.step (roleFollows_keeps ..)); exact rfl)
    | ((with_reducible apply Keeps.step (enterRole_keeps ..)); exact rfl)
    | ((with_reducible apply Keeps.step (setRoleAct_keeps ..)); exact rfl)
    | intro _
    | split
    | dsimp only
    | ((try with_reducible conv => arg 3; whnf); (with_reducible apply Keeps.upd); (with_reducible exact Or.inl rfl); (exact Or.inr rfl); (with_reducible exact Or.inl rfl); (exact Or.inr rfl); (iterate 3 (with_reducible exact Or.inl rfl)); (iterate 3 (exact Or.inr rfl)); (iterate 4 (with_reducible exact Or.inl rfl)); (iterate 2 (exact Or.inr rfl)); (iterate 6 (with_reducible exact Or.inl rfl)); (with_reducible exact rfl); (with_reducible exact rfl))

theorem coldTake_keeps {M : List Part} {ap : State → Nat → Nat → State} (hM : subParts [.csr, .mem, .freeCtr, .dsp, .mix, .flood, .slu, .hr, .cv, .bus, .cores, .rcu, .redun, .rst] M = true) (hf : ∀ y0 y1 y2, Keeps M y0 (ap y0 y1 y2)) (s : State) :
    Keeps M s (coldTake ap s) := by
  unfold coldTake
  repeat' first
    | with_reducible apply Keeps.refl
    | with_reducible assumption
    | with_reducible apply Keeps.ite
    | ((with_reducible apply Keeps.step (hf ..)); exact subParts_refl _)
    | ((with_reducible apply Keeps.step (restartEvents_keeps ..)); exact (subParts_trans rfl hM))
    | ((with_reducible apply Keeps.step (journalLost_keeps ..)); exact (subParts_trans rfl hM))
    | ((with_reducible apply Keeps.step (holdAll_keeps ..)); exact (subParts_trans rfl hM))
    | ((with_reducible apply Keeps.step (dropSync_keeps ..)); exact (subParts_trans rfl hM))
    | ((with_reducible apply Keeps.step (sendRole_keeps ..)); exact (subParts_trans rfl hM))
    | ((with_reducible apply Keeps.step (roleFollows_keeps ..)); exact (subParts_trans rfl hM))
    | ((with_reducible apply Keeps.step (enterRole_keeps ..)); exact (subParts_trans rfl hM))
    | ((with_reducible apply Keeps.step (setRoleAct_keeps ..)); exact (subParts_trans rfl hM))
    | ((with_reducible apply Keeps.step (stick_keeps ..)); exact (subParts_trans rfl hM))
    | ((with_reducible apply Keeps.step (restageReplay_keeps (M := M) ?_ ?_ ..)); (with_reducible exact subParts_refl _); rotate_left; (exact (subParts_trans rfl hM)))
    | intro _
    | split
    | dsimp only
    | ((try with_reducible conv => arg 3; whnf); (with_reducible apply Keeps.upd); (with_reducible exact Or.inl rfl); (iterate 3 (exact Or.inr (subParts_trans rfl hM))); (with_reducible exact Or.inl rfl); (iterate 5 (exact Or.inr (subParts_trans rfl hM))); (with_reducible exact Or.inl rfl); (iterate 6 (exact Or.inr (subParts_trans rfl hM))); (iterate 5 (with_reducible exact Or.inl rfl)); (with_reducible exact rfl); (with_reducible exact rfl))

theorem leaseRenew_keeps {M : List Part} {ap : State → Nat → Nat → State} (hM : subParts [.csr, .mem, .freeCtr, .dsp, .mix, .flood, .slu, .hr, .cv, .bus, .cores, .rcu, .redun, .rst] M = true) (hf : ∀ y0 y1 y2, Keeps M y0 (ap y0 y1 y2)) (s : State) (src : Nat) :
    Keeps M s (leaseRenew ap s src) := by
  unfold leaseRenew
  repeat' first
    | with_reducible apply Keeps.refl
    | with_reducible assumption
    | with_reducible apply Keeps.ite
    | ((with_reducible apply Keeps.step (hf ..)); exact subParts_refl _)
    | ((with_reducible apply Keeps.step (warmTake_keeps ..)); exact (subParts_trans rfl hM))
    | ((with_reducible apply Keeps.step (count_keeps ..)); exact (subParts_trans rfl hM))
    | ((with_reducible apply Keeps.step (stick_keeps ..)); exact (subParts_trans rfl hM))
    | ((with_reducible apply Keeps.step (setF_keeps ..)); exact (subParts_trans rfl hM))
    | ((with_reducible apply Keeps.step (coldTake_keeps (M := M) ?_ ?_ ..)); (with_reducible exact subParts_refl _); rotate_left; (exact (subParts_trans rfl hM)))
    | intro _
    | split
    | dsimp only
    | ((try with_reducible conv => arg 3; whnf); (with_reducible apply Keeps.upd); (with_reducible exact Or.inl rfl); (iterate 3 (exact Or.inr (subParts_trans rfl hM))); (with_reducible exact Or.inl rfl); (iterate 5 (exact Or.inr (subParts_trans rfl hM))); (with_reducible exact Or.inl rfl); (iterate 6 (exact Or.inr (subParts_trans rfl hM))); (iterate 5 (with_reducible exact Or.inl rfl)); (with_reducible exact rfl); (with_reducible exact rfl))

theorem leaseExpiry_keeps (s : State) :
    Keeps [.csr, .flood, .hr, .rcu, .redun] s (leaseExpiry s) := by
  unfold leaseExpiry
  repeat' first
    | with_reducible apply Keeps.refl
    | with_reducible assumption
    | with_reducible apply Keeps.ite
    | ((with_reducible apply Keeps.step (setRole_keeps ..)); exact rfl)
    | ((with_reducible apply Keeps.step (setRoleAct_keeps ..)); exact rfl)
    | ((with_reducible apply Keeps.step (stick_keeps ..)); exact rfl)
    | intro _
    | split
    | dsimp only
    | ((try with_reducible conv => arg 3; whnf); (with_reducible apply Keeps.upd); (with_reducible exact Or.inl rfl); (exact Or.inr rfl); (iterate 5 (with_reducible exact Or.inl rfl)); (exact Or.inr rfl); (with_reducible exact Or.inl rfl); (exact Or.inr rfl); (iterate 4 (with_reducible exact Or.inl rfl)); (iterate 2 (exact Or.inr rfl)); (iterate 6 (with_reducible exact Or.inl rfl)); (with_reducible exact rfl); (with_reducible exact rfl))

theorem hbToggle_keeps (s : State) :
    Keeps [.redun] s (hbToggle s) := by
  unfold hbToggle
  repeat' first
    | with_reducible apply Keeps.refl
    | with_reducible assumption
    | with_reducible apply Keeps.ite
    | intro _
    | split
    | dsimp only
    | ((try with_reducible conv => arg 3; whnf); (with_reducible apply Keeps.upd); (iterate 15 (with_reducible exact Or.inl rfl)); (exact Or.inr rfl); (iterate 6 (with_reducible exact Or.inl rfl)); (with_reducible exact rfl); (with_reducible exact rfl))

theorem yieldAs_keeps (s : State) (cause : Nat) :
    Keeps [.csr, .hr, .rcu, .redun] s (yieldAs s cause) := by
  unfold yieldAs
  repeat' first
    | with_reducible apply Keeps.refl
    | with_reducible assumption
    | with_reducible apply Keeps.ite
    | ((with_reducible apply Keeps.step (setRole_keeps ..)); exact rfl)
    | intro _
    | split
    | dsimp only
    | ((try with_reducible conv => arg 3; whnf); (with_reducible apply Keeps.upd); (with_reducible exact Or.inl rfl); (exact Or.inr rfl); (iterate 7 (with_reducible exact Or.inl rfl)); (exact Or.inr rfl); (iterate 4 (with_reducible exact Or.inl rfl)); (iterate 2 (exact Or.inr rfl)); (iterate 6 (with_reducible exact Or.inl rfl)); (with_reducible exact rfl); (with_reducible exact rfl))

theorem redunYield_keeps (s : State) :
    Keeps [.csr, .hr, .rcu, .redun] s (redunYield s) := by
  unfold redunYield
  repeat' first
    | with_reducible apply Keeps.refl
    | with_reducible assumption
    | with_reducible apply Keeps.ite
    | ((with_reducible apply Keeps.step (yieldAs_keeps ..)); exact rfl)
    | ((with_reducible apply Keeps.step (stick_keeps ..)); exact rfl)
    | intro _
    | split
    | dsimp only
    | ((try with_reducible conv => arg 3; whnf); (with_reducible apply Keeps.upd); (with_reducible exact Or.inl rfl); (exact Or.inr rfl); (iterate 7 (with_reducible exact Or.inl rfl)); (exact Or.inr rfl); (iterate 4 (with_reducible exact Or.inl rfl)); (iterate 2 (exact Or.inr rfl)); (iterate 6 (with_reducible exact Or.inl rfl)); (with_reducible exact rfl); (with_reducible exact rfl))

theorem revertYield_keeps (s : State) :
    Keeps [.csr, .hr, .rcu, .redun] s (revertYield s) := by
  unfold revertYield
  repeat' first
    | with_reducible apply Keeps.refl
    | with_reducible assumption
    | with_reducible apply Keeps.ite
    | ((with_reducible apply Keeps.step (yieldAs_keeps ..)); exact rfl)
    | intro _
    | split
    | dsimp only
    | ((try with_reducible conv => arg 3; whnf); (with_reducible apply Keeps.upd); (with_reducible exact Or.inl rfl); (exact Or.inr rfl); (iterate 7 (with_reducible exact Or.inl rfl)); (exact Or.inr rfl); (iterate 4 (with_reducible exact Or.inl rfl)); (iterate 2 (exact Or.inr rfl)); (iterate 6 (with_reducible exact Or.inl rfl)); (with_reducible exact rfl); (with_reducible exact rfl))

theorem redunCtlWrite_keeps (s : State) (v : Nat) :
    Keeps [.csr, .freeCtr, .slu, .hr, .rcu, .redun] s (redunCtlWrite s v) := by
  unfold redunCtlWrite
  repeat' first
    | with_reducible apply Keeps.refl
    | with_reducible assumption
    | with_reducible apply Keeps.ite
    | ((with_reducible apply Keeps.step (redunYield_keeps ..)); exact rfl)
    | ((with_reducible apply Keeps.step (resyncStart_keeps ..)); exact rfl)
    | ((with_reducible apply Keeps.step (resyncFail_keeps ..)); exact rfl)
    | ((with_reducible apply Keeps.step (setF_keeps ..)); exact rfl)
    | intro _
    | split
    | dsimp only
    | ((try with_reducible conv => arg 3; whnf); (with_reducible apply Keeps.upd); (with_reducible exact Or.inl rfl); (exact Or.inr rfl); (with_reducible exact Or.inl rfl); (exact Or.inr rfl); (iterate 4 (with_reducible exact Or.inl rfl)); (iterate 2 (exact Or.inr rfl)); (iterate 4 (with_reducible exact Or.inl rfl)); (iterate 2 (exact Or.inr rfl)); (iterate 6 (with_reducible exact Or.inl rfl)); (with_reducible exact rfl); (with_reducible exact rfl))

theorem fwdLate_keeps (s : State) :
    Keeps [.csr, .freeCtr, .slu, .hr, .redun] s (fwdLate s) := by
  unfold fwdLate
  repeat' first
    | with_reducible apply Keeps.refl
    | with_reducible assumption
    | with_reducible apply Keeps.ite
    | ((with_reducible apply Keeps.step (leaveSynced_keeps ..)); exact rfl)
    | ((with_reducible apply Keeps.step (count_keeps ..)); exact rfl)
    | ((with_reducible apply Keeps.step (stick_keeps ..)); exact rfl)
    | intro _
    | split
    | dsimp only
    | ((try with_reducible conv => arg 3; whnf); (with_reducible apply Keeps.upd); (with_reducible exact Or.inl rfl); (exact Or.inr rfl); (with_reducible exact Or.inl rfl); (exact Or.inr rfl); (iterate 4 (with_reducible exact Or.inl rfl)); (iterate 2 (exact Or.inr rfl)); (iterate 5 (with_reducible exact Or.inl rfl)); (exact Or.inr rfl); (iterate 6 (with_reducible exact Or.inl rfl)); (with_reducible exact rfl); (with_reducible exact rfl))

theorem tickRx_keeps (s : State) (idx tmc : Nat) (phi : Int) (e : PeerEdge) :
    Keeps [.csr, .freeCtr, .slu, .hr, .rcu, .redun, .tally] s (tickRx s idx tmc phi e) := by
  unfold tickRx
  repeat' first
    | with_reducible apply Keeps.refl
    | with_reducible assumption
    | with_reducible apply Keeps.ite
    | ((with_reducible apply Keeps.step (leaveSynced_keeps ..)); exact rfl)
    | ((with_reducible apply Keeps.step (refEdgePin_keeps ..)); exact rfl)
    | ((with_reducible apply Keeps.step (stick_keeps ..)); exact rfl)
    | ((with_reducible apply Keeps.step (setF_keeps ..)); exact rfl)
    | intro _
    | split
    | dsimp only
    | ((try with_reducible conv => arg 3; whnf); (with_reducible apply Keeps.upd); (with_reducible exact Or.inl rfl); (exact Or.inr rfl); (with_reducible exact Or.inl rfl); (exact Or.inr rfl); (iterate 4 (with_reducible exact Or.inl rfl)); (iterate 2 (exact Or.inr rfl)); (iterate 4 (with_reducible exact Or.inl rfl)); (iterate 2 (exact Or.inr rfl)); (with_reducible exact Or.inl rfl); (exact Or.inr rfl); (iterate 4 (with_reducible exact Or.inl rfl)); (with_reducible exact rfl); (with_reducible exact rfl))

theorem ratioRx_keeps (s : State) (n : Nat) (words lost : List (Nat × Nat)) :
    Keeps [.redun, .ser] s (ratioRx s n words lost) := by
  unfold ratioRx
  repeat' first
    | with_reducible apply Keeps.refl
    | with_reducible assumption
    | with_reducible apply Keeps.ite
    | with_reducible apply Keeps.ite_p1
    | with_reducible apply Keeps.ite_p2
    | with_reducible apply Keeps.ite_p22
    | with_reducible apply Keeps.ite_p222
    | intro _
    | split
    | dsimp only
    | ((try with_reducible conv => arg 3; whnf); (with_reducible apply Keeps.upd); (iterate 15 (with_reducible exact Or.inl rfl)); (exact Or.inr rfl); (iterate 3 (with_reducible exact Or.inl rfl)); (exact Or.inr rfl); (iterate 2 (with_reducible exact Or.inl rfl)); (with_reducible exact rfl); (with_reducible exact rfl))

theorem fwdRx_keeps (s : State) (slot ts value : Nat) :
    Keeps [.csr, .mem, .freeCtr, .flood, .slu, .hr, .cv, .bus, .rcu, .redun, .net] s (fwdRx s slot ts value) := by
  unfold fwdRx
  repeat' first
    | with_reducible apply Keeps.refl
    | with_reducible assumption
    | with_reducible apply Keeps.ite
    | ((with_reducible apply Keeps.step (ringStore_keeps ..)); exact rfl)
    | intro _
    | split
    | dsimp only
    | ((try with_reducible conv => arg 3; whnf); (with_reducible apply Keeps.upd); (with_reducible exact Or.inl rfl); (iterate 3 (exact Or.inr rfl)); (iterate 3 (with_reducible exact Or.inl rfl)); (iterate 3 (exact Or.inr rfl)); (with_reducible exact Or.inl rfl); (iterate 2 (exact Or.inr rfl)); (with_reducible exact Or.inl rfl); (iterate 2 (exact Or.inr rfl)); (iterate 2 (with_reducible exact Or.inl rfl)); (exact Or.inr rfl); (iterate 3 (with_reducible exact Or.inl rfl)); (with_reducible exact rfl); (with_reducible exact rfl))

theorem closeRx_keeps (s : State) (n : Nat) (present : List Nat) :
    Keeps [.redun] s (closeRx s n present) := by
  unfold closeRx
  repeat' first
    | with_reducible apply Keeps.refl
    | with_reducible assumption
    | with_reducible apply Keeps.ite
    | intro _
    | split
    | dsimp only
    | ((try with_reducible conv => arg 3; whnf); (with_reducible apply Keeps.upd); (iterate 15 (with_reducible exact Or.inl rfl)); (exact Or.inr rfl); (iterate 6 (with_reducible exact Or.inl rfl)); (with_reducible exact rfl); (with_reducible exact rfl))

theorem enterMirrored_keeps {M : List Part} {ap : State → Nat → Nat → State} (hM : subParts [.csr, .freeCtr, .slu, .hr] M = true)
    (hf : ∀ y0 y1 y2, Keeps M y0 (ap y0 y1 y2)) (s : State) (e : Entry) : Keeps M s (enterMirrored ap s e) := by
  have hf' : ∀ y0 y1 y2, Keeps M y0 (if unitLocal y1 then y0 else ap y0 y1 y2) := fun y0 y1 y2 =>
    Keeps.ite (Keeps.refl _ _) (hf y0 y1 y2)
  unfold enterMirrored
  dsimp only
  refine Keeps.ite (Keeps.ite ?_ ?_) ?_
  · exact Keeps.mono (markApplied_keeps ..) (subParts_trans rfl hM)
  · exact enterGroup_keeps (subParts_trans rfl hM) hf' ..
  · exact enterEntry_keeps (subParts_trans rfl hM) hf' ..

theorem mirrorRecord_keeps (s : State) (e : Entry) :
    Keeps [.hr] s (mirrorRecord s e) := by
  unfold mirrorRecord
  repeat' first
    | with_reducible apply Keeps.refl
    | with_reducible assumption
    | with_reducible apply Keeps.ite
    | ((with_reducible apply Keeps.step (recordAck_keeps ..)); exact rfl)
    | intro _
    | split
    | dsimp only
    | ((try with_reducible conv => arg 3; whnf); (with_reducible apply Keeps.upd); (iterate 9 (with_reducible exact Or.inl rfl)); (exact Or.inr rfl); (iterate 12 (with_reducible exact Or.inl rfl)); (with_reducible exact rfl); (with_reducible exact rfl))

theorem mirrorRx_keeps {M : List Part} {ap : State → Nat → Nat → State} (hM : subParts [.csr, .mem, .freeCtr, .flood, .slu, .hr, .cv, .bus, .rcu, .redun] M = true) (hf : ∀ y0 y1 y2, Keeps M y0 (ap y0 y1 y2)) (s : State) (jpos : Nat) (bytes : List Nat) :
    Keeps M s (mirrorRx ap s jpos bytes) := by
  unfold mirrorRx
  repeat' first
    | with_reducible apply Keeps.refl
    | with_reducible assumption
    | with_reducible apply Keeps.ite
    | ((with_reducible apply Keeps.step (hf ..)); exact subParts_refl _)
    | ((with_reducible apply Keeps.step (mirrorRecord_keeps ..)); exact (subParts_trans rfl hM))
    | ((with_reducible apply Keeps.step (writeEntries_keeps ..)); exact (subParts_trans rfl hM))
    | ((with_reducible apply Keeps.step (linkSend_keeps ..)); exact (subParts_trans rfl hM))
    | ((with_reducible apply Keeps.step (enterMirrored_keeps (M := M) ?_ ?_ ..)); (with_reducible exact subParts_refl _); rotate_left; (exact (subParts_trans rfl hM)))
    | intro _
    | split
    | dsimp only
    | ((try with_reducible conv => arg 3; whnf); (with_reducible apply Keeps.upd); (with_reducible exact Or.inl rfl); (iterate 3 (exact Or.inr (subParts_trans rfl hM))); (iterate 3 (with_reducible exact Or.inl rfl)); (iterate 3 (exact Or.inr (subParts_trans rfl hM))); (with_reducible exact Or.inl rfl); (iterate 2 (exact Or.inr (subParts_trans rfl hM))); (with_reducible exact Or.inl rfl); (iterate 2 (exact Or.inr (subParts_trans rfl hM))); (iterate 6 (with_reducible exact Or.inl rfl)); (with_reducible exact rfl); (with_reducible exact rfl))

theorem copyRx_keeps {M : List Part} {ap : State → Nat → Nat → State} (hM : subParts [.csr, .mem, .freeCtr, .flood, .slu, .hr, .cv, .bus, .rcu, .redun] M = true) (hf : ∀ y0 y1 y2, Keeps M y0 (ap y0 y1 y2)) (s : State) (x : CopyItem) :
    Keeps M s (copyRx ap s x) := by
  unfold copyRx
  repeat' first
    | with_reducible apply Keeps.refl
    | with_reducible assumption
    | with_reducible apply Keeps.ite
    | with_reducible apply Keeps.foldl
    | with_reducible apply Keeps.foldl_fst
    | with_reducible apply Keeps.foldl_snd
    | with_reducible apply Keeps.foldl_snd2
    | ((with_reducible apply Keeps.step (hf ..)); exact subParts_refl _)
    | ((with_reducible apply Keeps.step (mirrorRecord_keeps ..)); exact (subParts_trans rfl hM))
    | ((with_reducible apply Keeps.step (markApplied_keeps ..)); exact (subParts_trans rfl hM))
    | ((with_reducible apply Keeps.step (engineWrite_keeps ..)); exact (subParts_trans rfl hM))
    | ((with_reducible apply Keeps.step (putSession_keeps ..)); exact (subParts_trans rfl hM))
    | ((with_reducible apply Keeps.step (setCell_keeps ..)); exact (subParts_trans rfl hM))
    | ((with_reducible apply Keeps.step (enterMirrored_keeps (M := M) ?_ ?_ ..)); (with_reducible exact subParts_refl _); rotate_left; (exact (subParts_trans rfl hM)))
    | intro _
    | split
    | dsimp only
    | ((try with_reducible conv => arg 3; whnf); (with_reducible apply Keeps.upd); (with_reducible exact Or.inl rfl); (iterate 3 (exact Or.inr (subParts_trans rfl hM))); (iterate 3 (with_reducible exact Or.inl rfl)); (iterate 3 (exact Or.inr (subParts_trans rfl hM))); (with_reducible exact Or.inl rfl); (iterate 2 (exact Or.inr (subParts_trans rfl hM))); (with_reducible exact Or.inl rfl); (iterate 2 (exact Or.inr (subParts_trans rfl hM))); (iterate 6 (with_reducible exact Or.inl rfl)); (with_reducible exact rfl); (with_reducible exact rfl))

theorem alignComplete_keeps (s : State) :
    Keeps [.sched, .redun, .tally] s (alignComplete s) := by
  unfold alignComplete
  repeat' first
    | with_reducible apply Keeps.refl
    | with_reducible assumption
    | with_reducible apply Keeps.ite
    | with_reducible apply Keeps.ite_p1
    | with_reducible apply Keeps.ite_p2
    | with_reducible apply Keeps.ite_p22
    | with_reducible apply Keeps.ite_p222
    | intro _
    | split
    | dsimp only
    | ((try with_reducible conv => arg 3; whnf); (with_reducible apply Keeps.upd); (iterate 4 (with_reducible exact Or.inl rfl)); (exact Or.inr rfl); (iterate 10 (with_reducible exact Or.inl rfl)); (exact Or.inr rfl); (with_reducible exact Or.inl rfl); (exact Or.inr rfl); (iterate 4 (with_reducible exact Or.inl rfl)); (with_reducible exact rfl); (with_reducible exact rfl))

theorem setItems_keeps (s : State) (m : Nat) :
    Keeps [.csr, .redun] s (setItems s m) := by
  unfold setItems
  repeat' first
    | with_reducible apply Keeps.refl
    | with_reducible assumption
    | with_reducible apply Keeps.ite
    | ((with_reducible apply Keeps.step (setF_keeps ..)); exact rfl)
    | intro _
    | split
    | dsimp only
    | ((try with_reducible conv => arg 3; whnf); (with_reducible apply Keeps.upd); (with_reducible exact Or.inl rfl); (exact Or.inr rfl); (iterate 13 (with_reducible exact Or.inl rfl)); (exact Or.inr rfl); (iterate 6 (with_reducible exact Or.inl rfl)); (with_reducible exact rfl); (with_reducible exact rfl))

theorem resyncRelease_keeps {M : List Part} {ap : State → Nat → Nat → State} (hM : subParts [.csr, .mem, .freeCtr, .dsp, .mix, .flood, .slu, .hr, .cv, .bus, .cores, .rcu, .redun, .rst] M = true) (hf : ∀ y0 y1 y2, Keeps M y0 (ap y0 y1 y2)) (s : State) :
    Keeps M s (resyncRelease ap s) := by
  unfold resyncRelease
  repeat' first
    | with_reducible apply Keeps.refl
    | with_reducible assumption
    | with_reducible apply Keeps.ite
    | ((with_reducible apply Keeps.step (hf ..)); exact subParts_refl _)
    | ((with_reducible apply Keeps.step (setItems_keeps ..)); exact (subParts_trans rfl hM))
    | ((with_reducible apply Keeps.step (releaseAll_keeps ..)); exact (subParts_trans rfl hM))
    | ((with_reducible apply Keeps.step (restageAll_keeps ..)); exact (subParts_trans rfl hM))
    | ((with_reducible apply Keeps.step (mergeDue_keeps (M := M) ?_ ?_ ..)); (with_reducible exact subParts_refl _); rotate_left; (exact (subParts_trans rfl hM)))
    | intro _
    | split
    | dsimp only
    | ((try with_reducible conv => arg 3; whnf); (with_reducible apply Keeps.upd); (with_reducible exact Or.inl rfl); (iterate 3 (exact Or.inr (subParts_trans rfl hM))); (with_reducible exact Or.inl rfl); (iterate 5 (exact Or.inr (subParts_trans rfl hM))); (with_reducible exact Or.inl rfl); (iterate 6 (exact Or.inr (subParts_trans rfl hM))); (iterate 5 (with_reducible exact Or.inl rfl)); (with_reducible exact rfl); (with_reducible exact rfl))

theorem verifyAgain_keeps (s : State) :
    Keeps [.csr, .freeCtr, .slu, .hr, .redun] s (verifyAgain s) := by
  unfold verifyAgain
  repeat' first
    | with_reducible apply Keeps.refl
    | with_reducible assumption
    | with_reducible apply Keeps.ite
    | ((with_reducible apply Keeps.step (resyncFail_keeps ..)); exact rfl)
    | ((with_reducible apply Keeps.step (setF_keeps ..)); exact rfl)
    | intro _
    | split
    | dsimp only
    | ((try with_reducible conv => arg 3; whnf); (with_reducible apply Keeps.upd); (with_reducible exact Or.inl rfl); (exact Or.inr rfl); (with_reducible exact Or.inl rfl); (exact Or.inr rfl); (iterate 4 (with_reducible exact Or.inl rfl)); (iterate 2 (exact Or.inr rfl)); (iterate 5 (with_reducible exact Or.inl rfl)); (exact Or.inr rfl); (iterate 6 (with_reducible exact Or.inl rfl)); (with_reducible exact rfl); (with_reducible exact rfl))

theorem verifyStart_keeps (s : State) :
    Keeps [.csr, .freeCtr, .slu, .hr, .redun] s (verifyStart s) := by
  unfold verifyStart
  repeat' first
    | with_reducible apply Keeps.refl
    | with_reducible assumption
    | with_reducible apply Keeps.ite
    | ((with_reducible apply Keeps.step (verifyAgain_keeps ..)); exact rfl)
    | intro _
    | split
    | dsimp only
    | ((try with_reducible conv => arg 3; whnf); (with_reducible apply Keeps.upd); (with_reducible exact Or.inl rfl); (exact Or.inr rfl); (with_reducible exact Or.inl rfl); (exact Or.inr rfl); (iterate 4 (with_reducible exact Or.inl rfl)); (iterate 2 (exact Or.inr rfl)); (iterate 5 (with_reducible exact Or.inl rfl)); (exact Or.inr rfl); (iterate 6 (with_reducible exact Or.inl rfl)); (with_reducible exact rfl); (with_reducible exact rfl))

theorem canaryCompare_keeps (s : State) (n : Nat) (h1 : Nat) (i1 : List Nat) (h2 : Nat) (i2 : List Nat) :
    Keeps [.csr, .freeCtr, .slu, .hr, .redun] s (canaryCompare s n h1 i1 h2 i2) := by
  unfold canaryCompare
  repeat' first
    | with_reducible apply Keeps.refl
    | with_reducible assumption
    | with_reducible apply Keeps.ite
    | with_reducible apply Keeps.ite_p1
    | with_reducible apply Keeps.ite_p2
    | with_reducible apply Keeps.ite_p22
    | with_reducible apply Keeps.ite_p222
    | ((with_reducible apply Keeps.step (verifyAgain_keeps ..)); exact rfl)
    | ((with_reducible apply Keeps.step (stick_keeps ..)); exact rfl)
    | ((with_reducible apply Keeps.step (setF_keeps ..)); exact rfl)
    | intro _
    | split
    | dsimp only
    | ((try with_reducible conv => arg 3; whnf); (with_reducible apply Keeps.upd); (with_reducible exact Or.inl rfl); (exact Or.inr rfl); (with_reducible exact Or.inl rfl); (exact Or.inr rfl); (iterate 4 (with_reducible exact Or.inl rfl)); (iterate 2 (exact Or.inr rfl)); (iterate 5 (with_reducible exact Or.inl rfl)); (exact Or.inr rfl); (iterate 6 (with_reducible exact Or.inl rfl)); (with_reducible exact rfl); (with_reducible exact rfl))

theorem canaryOwn_keeps (s : State) (n h : Nat) (items : List Nat) :
    Keeps [.csr, .freeCtr, .slu, .hr, .redun] s (canaryOwn s n h items) := by
  unfold canaryOwn
  repeat' first
    | with_reducible apply Keeps.refl
    | with_reducible assumption
    | with_reducible apply Keeps.ite
    | with_reducible apply Keeps.ite_p1
    | with_reducible apply Keeps.ite_p2
    | with_reducible apply Keeps.ite_p22
    | with_reducible apply Keeps.ite_p222
    | ((with_reducible apply Keeps.step (canaryCompare_keeps ..)); exact rfl)
    | ((with_reducible apply Keeps.step (linkSend_keeps ..)); exact rfl)
    | intro _
    | split
    | dsimp only
    | ((try with_reducible conv => arg 3; whnf); (with_reducible apply Keeps.upd); (with_reducible exact Or.inl rfl); (exact Or.inr rfl); (with_reducible exact Or.inl rfl); (exact Or.inr rfl); (iterate 4 (with_reducible exact Or.inl rfl)); (iterate 2 (exact Or.inr rfl)); (iterate 5 (with_reducible exact Or.inl rfl)); (exact Or.inr rfl); (iterate 6 (with_reducible exact Or.inl rfl)); (with_reducible exact rfl); (with_reducible exact rfl))

theorem canaryRx_keeps (s : State) (n h : Nat) (items : List Nat) :
    Keeps [.csr, .freeCtr, .slu, .hr, .redun] s (canaryRx s n h items) := by
  unfold canaryRx
  repeat' first
    | with_reducible apply Keeps.refl
    | with_reducible assumption
    | with_reducible apply Keeps.ite
    | with_reducible apply Keeps.ite_p1
    | with_reducible apply Keeps.ite_p2
    | with_reducible apply Keeps.ite_p22
    | with_reducible apply Keeps.ite_p222
    | ((with_reducible apply Keeps.step (canaryCompare_keeps ..)); exact rfl)
    | intro _
    | split
    | dsimp only
    | ((try with_reducible conv => arg 3; whnf); (with_reducible apply Keeps.upd); (with_reducible exact Or.inl rfl); (exact Or.inr rfl); (with_reducible exact Or.inl rfl); (exact Or.inr rfl); (iterate 4 (with_reducible exact Or.inl rfl)); (iterate 2 (exact Or.inr rfl)); (iterate 5 (with_reducible exact Or.inl rfl)); (exact Or.inr rfl); (iterate 6 (with_reducible exact Or.inl rfl)); (with_reducible exact rfl); (with_reducible exact rfl))

theorem canaryMissing_keeps (s : State) (n : Nat) :
    Keeps [.csr, .freeCtr, .slu, .hr, .redun] s (canaryMissing s n) := by
  unfold canaryMissing
  repeat' first
    | with_reducible apply Keeps.refl
    | with_reducible assumption
    | with_reducible apply Keeps.ite
    | with_reducible apply Keeps.ite_p1
    | with_reducible apply Keeps.ite_p2
    | with_reducible apply Keeps.ite_p22
    | with_reducible apply Keeps.ite_p222
    | ((with_reducible apply Keeps.step (verifyAgain_keeps ..)); exact rfl)
    | ((with_reducible apply Keeps.step (count_keeps ..)); exact rfl)
    | intro _
    | split
    | dsimp only
    | ((try with_reducible conv => arg 3; whnf); (with_reducible apply Keeps.upd); (with_reducible exact Or.inl rfl); (exact Or.inr rfl); (with_reducible exact Or.inl rfl); (exact Or.inr rfl); (iterate 4 (with_reducible exact Or.inl rfl)); (iterate 2 (exact Or.inr rfl)); (iterate 5 (with_reducible exact Or.inl rfl)); (exact Or.inr rfl); (iterate 6 (with_reducible exact Or.inl rfl)); (with_reducible exact rfl); (with_reducible exact rfl))

theorem resyncSynced_keeps (s : State) (ms : Nat) :
    Keeps [.csr, .redun] s (resyncSynced s ms) := by
  unfold resyncSynced
  repeat' first
    | with_reducible apply Keeps.refl
    | with_reducible assumption
    | with_reducible apply Keeps.ite
    | ((with_reducible apply Keeps.step (setF_keeps ..)); exact rfl)
    | intro _
    | split
    | dsimp only
    | ((try with_reducible conv => arg 3; whnf); (with_reducible apply Keeps.upd); (with_reducible exact Or.inl rfl); (exact Or.inr rfl); (iterate 13 (with_reducible exact Or.inl rfl)); (exact Or.inr rfl); (iterate 6 (with_reducible exact Or.inl rfl)); (with_reducible exact rfl); (with_reducible exact rfl))

theorem syncTick_keeps (s : State) :
    Keeps [.csr, .freeCtr, .slu, .hr, .redun] s (syncTick s) := by
  unfold syncTick
  repeat' first
    | with_reducible apply Keeps.refl
    | with_reducible assumption
    | with_reducible apply Keeps.ite
    | ((with_reducible apply Keeps.step (leaveSynced_keeps ..)); exact rfl)
    | ((with_reducible apply Keeps.step (stick_keeps ..)); exact rfl)
    | intro _
    | split
    | dsimp only
    | ((try with_reducible conv => arg 3; whnf); (with_reducible apply Keeps.upd); (with_reducible exact Or.inl rfl); (exact Or.inr rfl); (with_reducible exact Or.inl rfl); (exact Or.inr rfl); (iterate 4 (with_reducible exact Or.inl rfl)); (iterate 2 (exact Or.inr rfl)); (iterate 5 (with_reducible exact Or.inl rfl)); (exact Or.inr rfl); (iterate 6 (with_reducible exact Or.inl rfl)); (with_reducible exact rfl); (with_reducible exact rfl))

theorem peerLost_keeps (s : State) :
    Keeps [.csr, .freeCtr, .slu, .hr, .redun] s (peerLost s) := by
  unfold peerLost
  repeat' first
    | with_reducible apply Keeps.refl
    | with_reducible assumption
    | with_reducible apply Keeps.ite
    | ((with_reducible apply Keeps.step (dropSync_keeps ..)); exact rfl)
    | ((with_reducible apply Keeps.step (stick_keeps ..)); exact rfl)
    | intro _
    | split
    | dsimp only
    | ((try with_reducible conv => arg 3; whnf); (with_reducible apply Keeps.upd); (with_reducible exact Or.inl rfl); (exact Or.inr rfl); (with_reducible exact Or.inl rfl); (exact Or.inr rfl); (iterate 4 (with_reducible exact Or.inl rfl)); (iterate 2 (exact Or.inr rfl)); (iterate 5 (with_reducible exact Or.inl rfl)); (exact Or.inr rfl); (iterate 6 (with_reducible exact Or.inl rfl)); (with_reducible exact rfl); (with_reducible exact rfl))

theorem laneUp_keeps (s : State) (l : Nat) :
    Keeps [.csr, .redun] s (laneUp s l) := by
  unfold laneUp
  repeat' first
    | with_reducible apply Keeps.refl
    | with_reducible assumption
    | with_reducible apply Keeps.ite
    | ((with_reducible apply Keeps.step (helloSend_keeps ..)); exact rfl)
    | ((with_reducible apply Keeps.step (setF_keeps ..)); exact rfl)
    | intro _
    | split
    | dsimp only
    | ((try with_reducible conv => arg 3; whnf); (with_reducible apply Keeps.upd); (with_reducible exact Or.inl rfl); (exact Or.inr rfl); (iterate 13 (with_reducible exact Or.inl rfl)); (exact Or.inr rfl); (iterate 6 (with_reducible exact Or.inl rfl)); (with_reducible exact rfl); (with_reducible exact rfl))

theorem laneDown_keeps (s : State) (l : Nat) :
    Keeps [.csr, .redun] s (laneDown s l) := by
  unfold laneDown
  repeat' first
    | with_reducible apply Keeps.refl
    | with_reducible assumption
    | with_reducible apply Keeps.ite
    | ((with_reducible apply Keeps.step (setF_keeps ..)); exact rfl)
    | intro _
    | split
    | dsimp only
    | ((try with_reducible conv => arg 3; whnf); (with_reducible apply Keeps.upd); (with_reducible exact Or.inl rfl); (exact Or.inr rfl); (iterate 13 (with_reducible exact Or.inl rfl)); (exact Or.inr rfl); (iterate 6 (with_reducible exact Or.inl rfl)); (with_reducible exact rfl); (with_reducible exact rfl))

theorem linkResend_keeps (s : State) (l : Nat) :
    Keeps [.csr] s (linkResend s l) := by
  unfold linkResend
  repeat' first
    | with_reducible apply Keeps.refl
    | with_reducible assumption
    | with_reducible apply Keeps.ite
    | with_reducible apply Keeps.ite_p1
    | with_reducible apply Keeps.ite_p2
    | with_reducible apply Keeps.ite_p22
    | with_reducible apply Keeps.ite_p222
    | ((with_reducible apply Keeps.step (count_keeps ..)); exact rfl)
    | intro _
    | split
    | dsimp only
    | ((try with_reducible conv => arg 3; whnf); (with_reducible apply Keeps.upd); (with_reducible exact Or.inl rfl); (exact Or.inr rfl); (iterate 20 (with_reducible exact Or.inl rfl)); (with_reducible exact rfl); (with_reducible exact rfl))

end Sys2Proof.Machine
end

