-- ==== Sys2Proof/Laws/KeepResets.lean ====
section
/-! SUPPORT. What each operation of Machine/Resets.lean may change. -/
namespace Sys2Proof.Machine

theorem csrMap_keeps (f : Nat → Word → Word) (s : State) :
    Keeps [.csr] s (csrMap f s) := by
  unfold csrMap
  repeat' first
    | with_reducible apply Keeps.refl
    | with_reducible assumption
    | with_reducible apply Keeps.ite
    | with_reducible apply Keeps.ite_p1
    | with_reducible apply Keeps.ite_p2
    | with_reducible apply Keeps.ite_p22
    | with_reducible apply Keeps.ite_p222
    | with_reducible apply Keeps.foldl
    | with_reducible apply Keeps.foldl_fst
    | with_reducible apply Keeps.foldl_snd
    | with_reducible apply Keeps.foldl_snd2
    | ((with_reducible apply Keeps.step (csrPut_keeps ..)); exact rfl)
    | intro _
    | split
    | dsimp only
    | ((try with_reducible conv => arg 3; whnf); (with_reducible apply Keeps.upd); (with_reducible exact Or.inl rfl); (exact Or.inr rfl); (iterate 20 (with_reducible exact Or.inl rfl)); (with_reducible exact rfl); (with_reducible exact rfl))

theorem warmParts_keeps (s : State) :
    Keeps [.mem, .sched, .dsp, .mix, .flood, .slu, .hr, .bus, .cores, .redun, .rst, .net, .ser, .boot, .tst] s (warmParts s) :=
  ⟨fun p hp => by cases p <;> first | exact rfl | exact absurd (by decide) hp,
    fun h => ⟨Memory.wf_filter _ h.1, trivial⟩⟩

theorem cdcLost_keeps (s : State) (dom : Nat) :
    Keeps [.csr] s (cdcLost s dom) := by
  unfold cdcLost
  repeat' first
    | with_reducible apply Keeps.refl
    | with_reducible assumption
    | with_reducible apply Keeps.ite
    | ((with_reducible apply Keeps.step (stick_keeps ..)); exact rfl)
    | ((with_reducible apply Keeps.step (setF_keeps ..)); exact rfl)
    | intro _
    | split
    | dsimp only
    | ((try with_reducible conv => arg 3; whnf); (with_reducible apply Keeps.upd); (with_reducible exact Or.inl rfl); (exact Or.inr rfl); (iterate 20 (with_reducible exact Or.inl rfl)); (with_reducible exact rfl); (with_reducible exact rfl))

theorem warmReset_keeps (s : State) (cause : Nat) :
    Keeps [.csr, .mem, .freeCtr, .sched, .dsp, .mix, .flood, .slu, .hr, .cv, .bus, .cores, .rcu, .redun, .rst, .net, .ser, .boot, .tst] s (warmReset s cause) := by
  unfold warmReset
  repeat' first
    | with_reducible apply Keeps.refl
    | with_reducible assumption
    | with_reducible apply Keeps.ite
    | ((with_reducible apply Keeps.step (cdcLost_keeps ..)); exact rfl)
    | ((with_reducible apply Keeps.step (warmParts_keeps ..)); exact rfl)
    | ((with_reducible apply Keeps.step (csrMap_keeps ..)); exact rfl)
    | ((with_reducible apply Keeps.step (settleLost_keeps ..)); exact rfl)
    | ((with_reducible apply Keeps.step (halt_keeps ..)); exact rfl)
    | ((with_reducible apply Keeps.step (cvRevert_keeps ..)); exact rfl)
    | ((with_reducible apply Keeps.step (freshFree_keeps ..)); exact rfl)
    | ((with_reducible apply Keeps.step (count_keeps ..)); exact rfl)
    | ((with_reducible apply Keeps.step (setF_keeps ..)); exact rfl)
    | intro _
    | split
    | dsimp only
    | ((try with_reducible conv => arg 3; whnf); (with_reducible apply Keeps.upd); (with_reducible exact Or.inl rfl); (iterate 9 (exact Or.inr rfl)); (with_reducible exact Or.inl rfl); (iterate 6 (exact Or.inr rfl)); (with_reducible exact Or.inl rfl); (iterate 4 (exact Or.inr rfl)); (with_reducible exact rfl); (with_reducible exact rfl))

theorem coldParts_keeps (s : State) :
    Keeps [.csr, .mem, .freeCtr, .sched, .dsp, .mix, .flood, .slu, .hr, .prf, .cv, .bus, .cores, .rcu, .redun, .rst, .tally, .net, .ser, .boot, .tst] s (coldParts s) :=
  ⟨fun p hp => by cases p <;> first | exact rfl | exact absurd (by decide) hp,
    fun h => ⟨Memory.wf_filter _ h.1, trivial⟩⟩

theorem coldPair_keeps (s : State) :
    Keeps [.redun] s (coldPair s) := by
  unfold coldPair
  repeat' first
    | with_reducible apply Keeps.refl
    | with_reducible assumption
    | with_reducible apply Keeps.ite
    | intro _
    | split
    | dsimp only
    | ((try with_reducible conv => arg 3; whnf); (with_reducible apply Keeps.upd); (iterate 15 (with_reducible exact Or.inl rfl)); (exact Or.inr rfl); (iterate 6 (with_reducible exact Or.inl rfl)); (with_reducible exact rfl); (with_reducible exact rfl))

theorem powerOn_keeps (s : State) (ok hi io33 : Bool) :
    Keeps [.csr, .mem, .freeCtr, .sched, .dsp, .mix, .flood, .slu, .hr, .prf, .cv, .bus, .cores, .rcu, .redun, .rst, .tally, .net, .ser, .boot, .tst] s (powerOn s ok hi io33) := by
  unfold powerOn
  repeat' first
    | with_reducible apply Keeps.refl
    | with_reducible assumption
    | with_reducible apply Keeps.ite
    | ((with_reducible apply Keeps.step (coldPair_keeps ..)); exact rfl)
    | ((with_reducible apply Keeps.step (coldParts_keeps ..)); exact rfl)
    | ((with_reducible apply Keeps.step (cvPowerUp_keeps ..)); exact rfl)
    | ((with_reducible apply Keeps.step (prfPowerUp_keeps ..)); exact rfl)
    | intro _
    | split
    | dsimp only
    | ((try with_reducible conv => arg 3; whnf); (with_reducible apply Keeps.upd); (with_reducible exact Or.inl rfl); (iterate 21 (exact Or.inr rfl)); (with_reducible exact rfl); (with_reducible exact rfl))

theorem coldReset_keeps (s : State) (cause : Nat) :
    Keeps [.csr, .mem, .freeCtr, .sched, .dsp, .mix, .flood, .slu, .hr, .prf, .cv, .bus, .cores, .rcu, .redun, .rst, .tally, .net, .ser, .boot, .tst] s (coldReset s cause) := by
  unfold coldReset
  repeat' first
    | with_reducible apply Keeps.refl
    | with_reducible assumption
    | with_reducible apply Keeps.ite
    | ((with_reducible apply Keeps.step (coldPair_keeps ..)); exact rfl)
    | ((with_reducible apply Keeps.step (coldParts_keeps ..)); exact rfl)
    | ((with_reducible apply Keeps.step (cvRevert_keeps ..)); exact rfl)
    | ((with_reducible apply Keeps.step (prfReload_keeps ..)); exact rfl)
    | ((with_reducible apply Keeps.step (setF_keeps ..)); exact rfl)
    | intro _
    | split
    | dsimp only
    | ((try with_reducible conv => arg 3; whnf); (with_reducible apply Keeps.upd); (with_reducible exact Or.inl rfl); (iterate 21 (exact Or.inr rfl)); (with_reducible exact rfl); (with_reducible exact rfl))

theorem csrClear_keeps (lo hi : Nat) (s : State) :
    Keeps [.csr] s (csrClear lo hi s) := by
  unfold csrClear
  repeat' first
    | with_reducible apply Keeps.refl
    | with_reducible assumption
    | with_reducible apply Keeps.ite
    | ((with_reducible apply Keeps.step (csrMap_keeps ..)); exact rfl)
    | intro _
    | split
    | dsimp only
    | ((try with_reducible conv => arg 3; whnf); (with_reducible apply Keeps.upd); (with_reducible exact Or.inl rfl); (exact Or.inr rfl); (iterate 20 (with_reducible exact Or.inl rfl)); (with_reducible exact rfl); (with_reducible exact rfl))

theorem trkIdle_keeps (s : State) (p : Nat) :
    Keeps [.csr, .ser] s (trkIdle s p) := by
  unfold trkIdle
  repeat' first
    | with_reducible apply Keeps.refl
    | with_reducible assumption
    | with_reducible apply Keeps.ite
    | ((with_reducible apply Keeps.step (putSp_keeps ..)); exact rfl)
    | ((with_reducible apply Keeps.step (setF_keeps ..)); exact rfl)
    | intro _
    | split
    | dsimp only
    | ((try with_reducible conv => arg 3; whnf); (with_reducible apply Keeps.upd); (with_reducible exact Or.inl rfl); (exact Or.inr rfl); (iterate 17 (with_reducible exact Or.inl rfl)); (exact Or.inr rfl); (iterate 2 (with_reducible exact Or.inl rfl)); (with_reducible exact rfl); (with_reducible exact rfl))

theorem holdPorts_keeps (s : State) :
    Keeps [.ser] s (holdPorts s) := by
  unfold holdPorts
  repeat' first
    | with_reducible apply Keeps.refl
    | with_reducible assumption
    | with_reducible apply Keeps.ite
    | intro _
    | split
    | dsimp only
    | ((try with_reducible conv => arg 3; whnf); (with_reducible apply Keeps.upd); (iterate 19 (with_reducible exact Or.inl rfl)); (exact Or.inr rfl); (iterate 2 (with_reducible exact Or.inl rfl)); (with_reducible exact rfl); (with_reducible exact rfl))

theorem domEnter_keeps (s : State) (b : Nat) :
    Keeps [.csr, .redun, .net, .ser] s (domEnter s b) := by
  unfold domEnter
  repeat' first
    | with_reducible apply Keeps.refl
    | with_reducible assumption
    | with_reducible apply Keeps.ite
    | with_reducible apply Keeps.foldl
    | with_reducible apply Keeps.foldl_fst
    | with_reducible apply Keeps.foldl_snd
    | with_reducible apply Keeps.foldl_snd2
    | ((with_reducible apply Keeps.step (holdPorts_keeps ..)); exact rfl)
    | ((with_reducible apply Keeps.step (trkIdle_keeps ..)); exact rfl)
    | ((with_reducible apply Keeps.step (csrClear_keeps ..)); exact rfl)
    | ((with_reducible apply Keeps.step (cdcLost_keeps ..)); exact rfl)
    | ((with_reducible apply Keeps.step (linkDown_keeps ..)); exact rfl)
    | ((with_reducible apply Keeps.step (laneDown_keeps ..)); exact rfl)
    | ((with_reducible apply Keeps.step (putPort_keeps ..)); exact rfl)
    | ((with_reducible apply Keeps.step (setF_keeps ..)); exact rfl)
    | intro _
    | split
    | dsimp only
    | ((try with_reducible conv => arg 3; whnf); (with_reducible apply Keeps.upd); (with_reducible exact Or.inl rfl); (exact Or.inr rfl); (iterate 13 (with_reducible exact Or.inl rfl)); (exact Or.inr rfl); (iterate 2 (with_reducible exact Or.inl rfl)); (iterate 2 (exact Or.inr rfl)); (iterate 2 (with_reducible exact Or.inl rfl)); (with_reducible exact rfl); (with_reducible exact rfl))

theorem domLeave_keeps (s : State) (b : Nat) :
    Keeps [.csr, .ser] s (domLeave s b) := by
  unfold domLeave
  repeat' first
    | with_reducible apply Keeps.refl
    | with_reducible assumption
    | with_reducible apply Keeps.ite
    | ((with_reducible apply Keeps.step (spRateChange_keeps ..)); exact rfl)
    | intro _
    | split
    | dsimp only
    | ((try with_reducible conv => arg 3; whnf); (with_reducible apply Keeps.upd); (with_reducible exact Or.inl rfl); (exact Or.inr rfl); (iterate 17 (with_reducible exact Or.inl rfl)); (exact Or.inr rfl); (iterate 2 (with_reducible exact Or.inl rfl)); (with_reducible exact rfl); (with_reducible exact rfl))

theorem domWrite_keeps (s : State) (v : Nat) (cut : List CutBurst) :
    Keeps [.csr, .mem, .freeCtr, .flood, .slu, .hr, .prf, .cv, .bus, .rcu, .redun, .net, .ser] s (domWrite s v cut) := by
  unfold domWrite
  repeat' first
    | with_reducible apply Keeps.refl
    | with_reducible assumption
    | with_reducible apply Keeps.ite
    | with_reducible apply Keeps.foldl
    | with_reducible apply Keeps.foldl_fst
    | with_reducible apply Keeps.foldl_snd
    | with_reducible apply Keeps.foldl_snd2
    | ((with_reducible apply Keeps.step (domLeave_keeps ..)); exact rfl)
    | ((with_reducible apply Keeps.step (domEnter_keeps ..)); exact rfl)
    | ((with_reducible apply Keeps.step (masterReset_keeps ..)); exact rfl)
    | ((with_reducible apply Keeps.step (csrWrite_keeps ..)); exact rfl)
    | intro _
    | split
    | dsimp only
    | ((try with_reducible conv => arg 3; whnf); (with_reducible apply Keeps.upd); (with_reducible exact Or.inl rfl); (iterate 3 (exact Or.inr rfl)); (iterate 3 (with_reducible exact Or.inl rfl)); (iterate 6 (exact Or.inr rfl)); (with_reducible exact Or.inl rfl); (iterate 2 (exact Or.inr rfl)); (iterate 2 (with_reducible exact Or.inl rfl)); (iterate 2 (exact Or.inr rfl)); (iterate 2 (with_reducible exact Or.inl rfl)); (with_reducible exact rfl); (with_reducible exact rfl))

theorem domSilence_keeps (s : State) :
    Keeps [.dsp, .net, .ser] s (domSilence s) := by
  unfold domSilence
  repeat' first
    | with_reducible apply Keeps.refl
    | with_reducible assumption
    | with_reducible apply Keeps.ite
    | with_reducible apply Keeps.ite_p1
    | with_reducible apply Keeps.ite_p2
    | with_reducible apply Keeps.ite_p22
    | with_reducible apply Keeps.ite_p222
    | ((with_reducible apply Keeps.step (holdPorts_keeps ..)); exact rfl)
    | intro _
    | split
    | dsimp only
    | ((try with_reducible conv => arg 3; whnf); (with_reducible apply Keeps.upd); (iterate 5 (with_reducible exact Or.inl rfl)); (exact Or.inr rfl); (iterate 12 (with_reducible exact Or.inl rfl)); (iterate 2 (exact Or.inr rfl)); (iterate 2 (with_reducible exact Or.inl rfl)); (with_reducible exact rfl); (with_reducible exact rfl))

end Sys2Proof.Machine
end

