-- ==== Sys2Proof/Laws/KeepTally.lean ====
section
/-! SUPPORT. What each operation of Machine/Tally.lean may change. -/
namespace Sys2Proof.Machine

theorem setAddend_keeps (s : State) (a : Nat) :
    Keeps [.csr] s (setAddend s a) := by
  unfold setAddend
  repeat' first
    | with_reducible apply Keeps.refl
    | with_reducible assumption
    | with_reducible apply Keeps.ite
    | ((with_reducible apply Keeps.step (setF_keeps ..)); exact rfl)
    | intro _
    | split
    | dsimp only
    | ((try with_reducible conv => arg 3; whnf); (with_reducible apply Keeps.upd); (with_reducible exact Or.inl rfl); (exact Or.inr rfl); (iterate 20 (with_reducible exact Or.inl rfl)); (with_reducible exact rfl); (with_reducible exact rfl))

theorem tallyRebase_keeps (s : State) (cyc : Nat) :
    Keeps [.tally] s (tallyRebase s cyc) := by
  unfold tallyRebase
  repeat' first
    | with_reducible apply Keeps.refl
    | with_reducible assumption
    | with_reducible apply Keeps.ite
    | intro _
    | split
    | dsimp only
    | ((try with_reducible conv => arg 3; whnf); (with_reducible apply Keeps.upd); (iterate 17 (with_reducible exact Or.inl rfl)); (exact Or.inr rfl); (iterate 4 (with_reducible exact Or.inl rfl)); (with_reducible exact rfl); (with_reducible exact rfl))

theorem tallyTick_keeps (s : State) (cyc : Nat) :
    Keeps [.tally] s (tallyTick s cyc) := by
  unfold tallyTick
  repeat' first
    | with_reducible apply Keeps.refl
    | with_reducible assumption
    | with_reducible apply Keeps.ite
    | intro _
    | split
    | dsimp only
    | ((try with_reducible conv => arg 3; whnf); (with_reducible apply Keeps.upd); (iterate 17 (with_reducible exact Or.inl rfl)); (exact Or.inr rfl); (iterate 4 (with_reducible exact Or.inl rfl)); (with_reducible exact rfl); (with_reducible exact rfl))

theorem tallyRelockStart_keeps (s : State) :
    Keeps [.csr, .freeCtr, .tally] s (tallyRelockStart s) := by
  unfold tallyRelockStart
  repeat' first
    | with_reducible apply Keeps.refl
    | with_reducible assumption
    | with_reducible apply Keeps.ite
    | with_reducible apply Keeps.ite_p1
    | with_reducible apply Keeps.ite_p2
    | with_reducible apply Keeps.ite_p22
    | with_reducible apply Keeps.ite_p222
    | ((with_reducible apply Keeps.step (freshFree_keeps ..)); exact rfl)
    | ((with_reducible apply Keeps.step (setF_keeps ..)); exact rfl)
    | intro _
    | split
    | dsimp only
    | ((try with_reducible conv => arg 3; whnf); (with_reducible apply Keeps.upd); (with_reducible exact Or.inl rfl); (exact Or.inr rfl); (with_reducible exact Or.inl rfl); (exact Or.inr rfl); (iterate 13 (with_reducible exact Or.inl rfl)); (exact Or.inr rfl); (iterate 4 (with_reducible exact Or.inl rfl)); (with_reducible exact rfl); (with_reducible exact rfl))

theorem relocked_keeps (s : State) (xo : Nat) :
    Keeps [.csr, .freeCtr, .hr, .rcu, .tally] s (relocked s xo) := by
  unfold relocked
  repeat' first
    | with_reducible apply Keeps.refl
    | with_reducible assumption
    | with_reducible apply Keeps.ite
    | ((with_reducible apply Keeps.step (tallyTick_keeps ..)); exact rfl)
    | ((with_reducible apply Keeps.step (setAddend_keeps ..)); exact rfl)
    | ((with_reducible apply Keeps.step (rcuRelocked_keeps ..)); exact rfl)
    | intro _
    | split
    | dsimp only
    | ((try with_reducible conv => arg 3; whnf); (with_reducible apply Keeps.upd); (with_reducible exact Or.inl rfl); (exact Or.inr rfl); (with_reducible exact Or.inl rfl); (exact Or.inr rfl); (iterate 5 (with_reducible exact Or.inl rfl)); (exact Or.inr rfl); (iterate 4 (with_reducible exact Or.inl rfl)); (exact Or.inr rfl); (iterate 2 (with_reducible exact Or.inl rfl)); (exact Or.inr rfl); (iterate 4 (with_reducible exact Or.inl rfl)); (with_reducible exact rfl); (with_reducible exact rfl))

theorem tallyFracWrite_keeps (s : State) (v : Nat) :
    Keeps [.tally] s (tallyFracWrite s v) := by
  unfold tallyFracWrite
  repeat' first
    | with_reducible apply Keeps.refl
    | with_reducible assumption
    | with_reducible apply Keeps.ite
    | intro _
    | split
    | dsimp only
    | ((try with_reducible conv => arg 3; whnf); (with_reducible apply Keeps.upd); (iterate 17 (with_reducible exact Or.inl rfl)); (exact Or.inr rfl); (iterate 4 (with_reducible exact Or.inl rfl)); (with_reducible exact rfl); (with_reducible exact rfl))

theorem tallyIntWrite_keeps (s : State) (cyc v : Nat) :
    Keeps [.csr, .tally] s (tallyIntWrite s cyc v) := by
  unfold tallyIntWrite
  repeat' first
    | with_reducible apply Keeps.refl
    | with_reducible assumption
    | with_reducible apply Keeps.ite
    | ((with_reducible apply Keeps.step (tallyRebase_keeps ..)); exact rfl)
    | ((with_reducible apply Keeps.step (setAddend_keeps ..)); exact rfl)
    | ((with_reducible apply Keeps.step (stick_keeps ..)); exact rfl)
    | intro _
    | split
    | dsimp only
    | ((try with_reducible conv => arg 3; whnf); (with_reducible apply Keeps.upd); (with_reducible exact Or.inl rfl); (exact Or.inr rfl); (iterate 15 (with_reducible exact Or.inl rfl)); (exact Or.inr rfl); (iterate 4 (with_reducible exact Or.inl rfl)); (with_reducible exact rfl); (with_reducible exact rfl))

theorem tallyStep_keeps (s : State) :
    Keeps [.csr, .tally] s (tallyStep s) := by
  unfold tallyStep
  repeat' first
    | with_reducible apply Keeps.refl
    | with_reducible assumption
    | with_reducible apply Keeps.ite
    | ((with_reducible apply Keeps.step (stick_keeps ..)); exact rfl)
    | ((with_reducible apply Keeps.step (setF_keeps ..)); exact rfl)
    | intro _
    | split
    | dsimp only
    | ((try with_reducible conv => arg 3; whnf); (with_reducible apply Keeps.upd); (with_reducible exact Or.inl rfl); (exact Or.inr rfl); (iterate 15 (with_reducible exact Or.inl rfl)); (exact Or.inr rfl); (iterate 4 (with_reducible exact Or.inl rfl)); (with_reducible exact rfl); (with_reducible exact rfl))

theorem tallyEpoch_keeps (s : State) :
    Keeps [.csr, .tally] s (tallyEpoch s) := by
  unfold tallyEpoch
  repeat' first
    | with_reducible apply Keeps.refl
    | with_reducible assumption
    | with_reducible apply Keeps.ite
    | ((with_reducible apply Keeps.step (stick_keeps ..)); exact rfl)
    | ((with_reducible apply Keeps.step (setF_keeps ..)); exact rfl)
    | intro _
    | split
    | dsimp only
    | ((try with_reducible conv => arg 3; whnf); (with_reducible apply Keeps.upd); (with_reducible exact Or.inl rfl); (exact Or.inr rfl); (iterate 15 (with_reducible exact Or.inl rfl)); (exact Or.inr rfl); (iterate 4 (with_reducible exact Or.inl rfl)); (with_reducible exact rfl); (with_reducible exact rfl))

theorem tallyCtlWrite_keeps (s : State) (fw : Bool) (v : Nat) :
    Keeps [.csr, .tally] s (tallyCtlWrite s fw v) := by
  unfold tallyCtlWrite
  repeat' first
    | with_reducible apply Keeps.refl
    | with_reducible assumption
    | with_reducible apply Keeps.ite
    | ((with_reducible apply Keeps.step (tallyEpoch_keeps ..)); exact rfl)
    | ((with_reducible apply Keeps.step (tallyStep_keeps ..)); exact rfl)
    | intro _
    | split
    | dsimp only
    | ((try with_reducible conv => arg 3; whnf); (with_reducible apply Keeps.upd); (with_reducible exact Or.inl rfl); (exact Or.inr rfl); (iterate 15 (with_reducible exact Or.inl rfl)); (exact Or.inr rfl); (iterate 4 (with_reducible exact Or.inl rfl)); (with_reducible exact rfl); (with_reducible exact rfl))

theorem tmcTick_keeps (s : State) :
    Keeps [.csr, .tally] s (tmcTick s) := by
  unfold tmcTick
  repeat' first
    | with_reducible apply Keeps.refl
    | with_reducible assumption
    | with_reducible apply Keeps.ite
    | ((with_reducible apply Keeps.step (count_keeps ..)); exact rfl)
    | ((with_reducible apply Keeps.step (stick_keeps ..)); exact rfl)
    | intro _
    | split
    | dsimp only
    | ((try with_reducible conv => arg 3; whnf); (with_reducible apply Keeps.upd); (with_reducible exact Or.inl rfl); (exact Or.inr rfl); (iterate 15 (with_reducible exact Or.inl rfl)); (exact Or.inr rfl); (iterate 4 (with_reducible exact Or.inl rfl)); (with_reducible exact rfl); (with_reducible exact rfl))

end Sys2Proof.Machine
end

