-- ==== Sys2Proof/Laws/KeepRegs.lean ====
section
/-! SUPPORT. What each operation of Machine/Regs.lean may change. -/
namespace Sys2Proof.Machine

theorem relockStart_keeps (s : State) :
    Keeps [.csr, .freeCtr, .redun, .tally] s (relockStart s) := by
  unfold relockStart
  repeat' first
    | with_reducible apply Keeps.refl
    | with_reducible assumption
    | with_reducible apply Keeps.ite
    | with_reducible apply Keeps.foldl
    | with_reducible apply Keeps.foldl_fst
    | with_reducible apply Keeps.foldl_snd
    | with_reducible apply Keeps.foldl_snd2
    | ((with_reducible apply Keeps.step (linkDown_keeps ..)); exact rfl)
    | ((with_reducible apply Keeps.step (laneDown_keeps ..)); exact rfl)
    | ((with_reducible apply Keeps.step (tallyRelockStart_keeps ..)); exact rfl)
    | intro _
    | split
    | dsimp only
    | ((try with_reducible conv => arg 3; whnf); (with_reducible apply Keeps.upd); (with_reducible exact Or.inl rfl); (exact Or.inr rfl); (with_reducible exact Or.inl rfl); (exact Or.inr rfl); (iterate 11 (with_reducible exact Or.inl rfl)); (exact Or.inr rfl); (with_reducible exact Or.inl rfl); (exact Or.inr rfl); (iterate 4 (with_reducible exact Or.inl rfl)); (with_reducible exact rfl); (with_reducible exact rfl))

theorem rcuCtl_keeps (s : State) (v : Word) :
    Keeps [.csr, .freeCtr, .hr, .rcu, .redun, .tally] s (rcuCtl s v) := by
  unfold rcuCtl
  repeat' first
    | with_reducible apply Keeps.refl
    | with_reducible assumption
    | with_reducible apply Keeps.ite
    | with_reducible apply Keeps.ite_p1
    | with_reducible apply Keeps.ite_p2
    | with_reducible apply Keeps.ite_p22
    | with_reducible apply Keeps.ite_p222
    | ((with_reducible apply Keeps.step (relockStart_keeps ..)); exact rfl)
    | ((with_reducible apply Keeps.step (rcuCtlWrite_keeps ..)); exact rfl)
    | intro _
    | split
    | dsimp only
    | ((try with_reducible conv => arg 3; whnf); (with_reducible apply Keeps.upd); (with_reducible exact Or.inl rfl); (exact Or.inr rfl); (with_reducible exact Or.inl rfl); (exact Or.inr rfl); (iterate 5 (with_reducible exact Or.inl rfl)); (exact Or.inr rfl); (iterate 4 (with_reducible exact Or.inl rfl)); (iterate 2 (exact Or.inr rfl)); (with_reducible exact Or.inl rfl); (exact Or.inr rfl); (iterate 4 (with_reducible exact Or.inl rfl)); (with_reducible exact rfl); (with_reducible exact rfl))

theorem wckWrite_keeps (s : State) (k which : Nat) (v : Word) :
    Keeps [.csr, .freeCtr, .rcu] s (wckWrite s k which v) := by
  unfold wckWrite
  repeat' first
    | with_reducible apply Keeps.refl
    | with_reducible assumption
    | with_reducible apply Keeps.ite
    | ((with_reducible apply Keeps.step (wckAlign_keeps ..)); exact rfl)
    | ((with_reducible apply Keeps.step (csrWrite_keeps ..)); exact rfl)
    | intro _
    | split
    | dsimp only
    | ((try with_reducible conv => arg 3; whnf); (with_reducible apply Keeps.upd); (with_reducible exact Or.inl rfl); (exact Or.inr rfl); (with_reducible exact Or.inl rfl); (exact Or.inr rfl); (iterate 10 (with_reducible exact Or.inl rfl)); (exact Or.inr rfl); (iterate 7 (with_reducible exact Or.inl rfl)); (with_reducible exact rfl); (with_reducible exact rfl))

theorem rcuWrite_keeps (o : Origin) (s : State) (off v : Nat) :
    Keeps [.csr, .freeCtr, .hr, .rcu, .redun, .tally] s (rcuWrite o s off v) := by
  unfold rcuWrite
  repeat' first
    | with_reducible apply Keeps.refl
    | with_reducible assumption
    | with_reducible apply Keeps.ite
    | with_reducible apply Keeps.ite_p1
    | with_reducible apply Keeps.ite_p2
    | with_reducible apply Keeps.ite_p22
    | with_reducible apply Keeps.ite_p222
    | ((with_reducible apply Keeps.step (wckWrite_keeps ..)); exact rfl)
    | ((with_reducible apply Keeps.step (rcuCtl_keeps ..)); exact rfl)
    | ((with_reducible apply Keeps.step (inCfgWrite_keeps ..)); exact rfl)
    | ((with_reducible apply Keeps.step (ptpEdge_keeps ..)); exact rfl)
    | ((with_reducible apply Keeps.step (freshFree_keeps ..)); exact rfl)
    | ((with_reducible apply Keeps.step (csrWrite_keeps ..)); exact rfl)
    | intro _
    | split
    | dsimp only
    | ((try with_reducible conv => arg 3; whnf); (with_reducible apply Keeps.upd); (with_reducible exact Or.inl rfl); (exact Or.inr rfl); (with_reducible exact Or.inl rfl); (exact Or.inr rfl); (iterate 5 (with_reducible exact Or.inl rfl)); (exact Or.inr rfl); (iterate 4 (with_reducible exact Or.inl rfl)); (iterate 2 (exact Or.inr rfl)); (with_reducible exact Or.inl rfl); (exact Or.inr rfl); (iterate 4 (with_reducible exact Or.inl rfl)); (with_reducible exact rfl); (with_reducible exact rfl))

theorem wdtReload_keeps (s : State) :
    Keeps [.csr] s (wdtReload s) := by
  unfold wdtReload
  repeat' first
    | with_reducible apply Keeps.refl
    | with_reducible assumption
    | with_reducible apply Keeps.ite
    | ((with_reducible apply Keeps.step (setF_keeps ..)); exact rfl)
    | intro _
    | split
    | dsimp only
    | ((try with_reducible conv => arg 3; whnf); (with_reducible apply Keeps.upd); (with_reducible exact Or.inl rfl); (exact Or.inr rfl); (iterate 20 (with_reducible exact Or.inl rfl)); (with_reducible exact rfl); (with_reducible exact rfl))

theorem wdtKick_keeps (s : State) (v : Nat) :
    Keeps [.csr] s (wdtKick s v) := by
  unfold wdtKick
  repeat' first
    | with_reducible apply Keeps.refl
    | with_reducible assumption
    | with_reducible apply Keeps.ite
    | ((with_reducible apply Keeps.step (wdtReload_keeps ..)); exact rfl)
    | intro _
    | split
    | dsimp only
    | ((try with_reducible conv => arg 3; whnf); (with_reducible apply Keeps.upd); (with_reducible exact Or.inl rfl); (exact Or.inr rfl); (iterate 20 (with_reducible exact Or.inl rfl)); (with_reducible exact rfl); (with_reducible exact rfl))

theorem rstWrite_keeps (o : Origin) (s : State) (off v : Nat) :
    Keeps [.csr, .mem, .freeCtr, .sched, .dsp, .mix, .flood, .slu, .hr, .prf, .cv, .bus, .cores, .rcu, .redun, .rst, .net, .ser, .boot, .tst] s (rstWrite o s off v) := by
  unfold rstWrite
  repeat' first
    | with_reducible apply Keeps.refl
    | with_reducible assumption
    | with_reducible apply Keeps.ite
    | ((with_reducible apply Keeps.step (wdtKick_keeps ..)); exact rfl)
    | ((with_reducible apply Keeps.step (domWrite_keeps ..)); exact rfl)
    | ((with_reducible apply Keeps.step (warmReset_keeps ..)); exact rfl)
    | ((with_reducible apply Keeps.step (csrWrite_keeps ..)); exact rfl)
    | ((with_reducible apply Keeps.step (stick_keeps ..)); exact rfl)
    | intro _
    | split
    | dsimp only
    | ((try with_reducible conv => arg 3; whnf); (with_reducible apply Keeps.upd); (with_reducible exact Or.inl rfl); (iterate 16 (exact Or.inr rfl)); (with_reducible exact Or.inl rfl); (iterate 4 (exact Or.inr rfl)); (with_reducible exact rfl); (with_reducible exact rfl))

theorem preloadWrite_keeps (s : State) (v : Nat) :
    Keeps [.csr, .slu] s (preloadWrite s v) := by
  unfold preloadWrite
  repeat' first
    | with_reducible apply Keeps.refl
    | with_reducible assumption
    | with_reducible apply Keeps.ite
    | ((with_reducible apply Keeps.step (preloadLoad_keeps ..)); exact rfl)
    | ((with_reducible apply Keeps.step (setF_keeps ..)); exact rfl)
    | intro _
    | split
    | dsimp only
    | ((try with_reducible conv => arg 3; whnf); (with_reducible apply Keeps.upd); (with_reducible exact Or.inl rfl); (exact Or.inr rfl); (iterate 6 (with_reducible exact Or.inl rfl)); (exact Or.inr rfl); (iterate 13 (with_reducible exact Or.inl rfl)); (with_reducible exact rfl); (with_reducible exact rfl))

theorem tallyIntFree_keeps (s : State) (v : Nat) :
    Keeps [.csr, .freeCtr, .tally] s (tallyIntFree s v) := by
  unfold tallyIntFree
  repeat' first
    | with_reducible apply Keeps.refl
    | with_reducible assumption
    | with_reducible apply Keeps.ite
    | with_reducible apply Keeps.ite_p1
    | with_reducible apply Keeps.ite_p2
    | with_reducible apply Keeps.ite_p22
    | with_reducible apply Keeps.ite_p222
    | ((with_reducible apply Keeps.step (tallyIntWrite_keeps ..)); exact rfl)
    | ((with_reducible apply Keeps.step (freshFree_keeps ..)); exact rfl)
    | intro _
    | split
    | dsimp only
    | ((try with_reducible conv => arg 3; whnf); (with_reducible apply Keeps.upd); (with_reducible exact Or.inl rfl); (exact Or.inr rfl); (with_reducible exact Or.inl rfl); (exact Or.inr rfl); (iterate 13 (with_reducible exact Or.inl rfl)); (exact Or.inr rfl); (iterate 4 (with_reducible exact Or.inl rfl)); (with_reducible exact rfl); (with_reducible exact rfl))

theorem tallyWrite_keeps (o : Origin) (s : State) (off v : Nat) :
    Keeps [.csr, .freeCtr, .tally] s (tallyWrite o s off v) := by
  unfold tallyWrite
  repeat' first
    | with_reducible apply Keeps.refl
    | with_reducible assumption
    | with_reducible apply Keeps.ite
    | ((with_reducible apply Keeps.step (tallyIntFree_keeps ..)); exact rfl)
    | ((with_reducible apply Keeps.step (tallyCtlWrite_keeps ..)); exact rfl)
    | ((with_reducible apply Keeps.step (tallyFracWrite_keeps ..)); exact rfl)
    | ((with_reducible apply Keeps.step (csrWrite_keeps ..)); exact rfl)
    | intro _
    | split
    | dsimp only
    | ((try with_reducible conv => arg 3; whnf); (with_reducible apply Keeps.upd); (with_reducible exact Or.inl rfl); (exact Or.inr rfl); (with_reducible exact Or.inl rfl); (exact Or.inr rfl); (iterate 13 (with_reducible exact Or.inl rfl)); (exact Or.inr rfl); (iterate 4 (with_reducible exact Or.inl rfl)); (with_reducible exact rfl); (with_reducible exact rfl))

theorem streamWrite_keeps (s : State) (off v : Nat) :
    Keeps [.csr, .net] s (streamWrite s off v) := by
  unfold streamWrite
  repeat' first
    | with_reducible apply Keeps.refl
    | with_reducible assumption
    | with_reducible apply Keeps.ite
    | ((with_reducible apply Keeps.step (ctxWrite_keeps ..)); exact rfl)
    | intro _
    | split
    | dsimp only
    | ((try with_reducible conv => arg 3; whnf); (with_reducible apply Keeps.upd); (with_reducible exact Or.inl rfl); (exact Or.inr rfl); (iterate 16 (with_reducible exact Or.inl rfl)); (exact Or.inr rfl); (iterate 3 (with_reducible exact Or.inl rfl)); (with_reducible exact rfl); (with_reducible exact rfl))

theorem prfRegWrite_keeps (o : Origin) (s : State) (off v : Nat) :
    Keeps [.csr, .prf] s (prfRegWrite o s off v) := by
  unfold prfRegWrite
  repeat' first
    | with_reducible apply Keeps.refl
    | with_reducible assumption
    | with_reducible apply Keeps.ite
    | ((with_reducible apply Keeps.step (prfWrite_keeps ..)); exact rfl)
    | ((with_reducible apply Keeps.step (csrWrite_keeps ..)); exact rfl)
    | intro _
    | split
    | dsimp only
    | ((try with_reducible conv => arg 3; whnf); (with_reducible apply Keeps.upd); (with_reducible exact Or.inl rfl); (exact Or.inr rfl); (iterate 8 (with_reducible exact Or.inl rfl)); (exact Or.inr rfl); (iterate 11 (with_reducible exact Or.inl rfl)); (with_reducible exact rfl); (with_reducible exact rfl))

theorem redunModeWrite_keeps (s : State) (v : Nat) :
    Keeps [.csr, .prf] s (redunModeWrite s v) := by
  unfold redunModeWrite
  repeat' first
    | with_reducible apply Keeps.refl
    | with_reducible assumption
    | with_reducible apply Keeps.ite
    | ((with_reducible apply Keeps.step (prfWrite_keeps ..)); exact rfl)
    | intro _
    | split
    | dsimp only
    | ((try with_reducible conv => arg 3; whnf); (with_reducible apply Keeps.upd); (with_reducible exact Or.inl rfl); (exact Or.inr rfl); (iterate 8 (with_reducible exact Or.inl rfl)); (exact Or.inr rfl); (iterate 11 (with_reducible exact Or.inl rfl)); (with_reducible exact rfl); (with_reducible exact rfl))

theorem mintalRegWrite_keeps (s : State) (off v : Nat) :
    Keeps [.csr, .cores] s (mintalRegWrite s off v) := by
  unfold mintalRegWrite
  repeat' first
    | with_reducible apply Keeps.refl
    | with_reducible assumption
    | with_reducible apply Keeps.ite
    | ((with_reducible apply Keeps.step (mintalXWrite_keeps ..)); exact rfl)
    | ((with_reducible apply Keeps.step (mintalCtlWrite_keeps ..)); exact rfl)
    | ((with_reducible apply Keeps.step (csrWrite_keeps ..)); exact rfl)
    | intro _
    | split
    | dsimp only
    | ((try with_reducible conv => arg 3; whnf); (with_reducible apply Keeps.upd); (with_reducible exact Or.inl rfl); (exact Or.inr rfl); (iterate 11 (with_reducible exact Or.inl rfl)); (exact Or.inr rfl); (iterate 8 (with_reducible exact Or.inl rfl)); (with_reducible exact rfl); (with_reducible exact rfl))

theorem regWriteAssigned_keeps (o : Origin) (s : State) (off v : Nat) :
    Keeps [.csr, .mem, .freeCtr, .sched, .dsp, .mix, .flood, .slu, .hr, .prf, .cv, .bus, .cores, .rcu, .redun, .rst, .tally, .net, .ser, .boot, .tst] s (regWriteAssigned o s off v) := by
  unfold regWriteAssigned
  repeat' first
    | with_reducible apply Keeps.refl
    | with_reducible assumption
    | with_reducible apply Keeps.ite
    | ((with_reducible apply Keeps.step (mintalRegWrite_keeps ..)); exact rfl)
    | ((with_reducible apply Keeps.step (redunModeWrite_keeps ..)); exact rfl)
    | ((with_reducible apply Keeps.step (prfRegWrite_keeps ..)); exact rfl)
    | ((with_reducible apply Keeps.step (streamWrite_keeps ..)); exact rfl)
    | ((with_reducible apply Keeps.step (tallyWrite_keeps ..)); exact rfl)
    | ((with_reducible apply Keeps.step (preloadWrite_keeps ..)); exact rfl)
    | ((with_reducible apply Keeps.step (rstWrite_keeps ..)); exact rfl)
    | ((with_reducible apply Keeps.step (rcuWrite_keeps ..)); exact rfl)
    | ((with_reducible apply Keeps.step (testWrite_keeps ..)); exact rfl)
    | ((with_reducible apply Keeps.step (macCtlWrite_keeps ..)); exact rfl)
    | ((with_reducible apply Keeps.step (schedCtlWrite_keeps ..)); exact rfl)
    | ((with_reducible apply Keeps.step (floodCtlWrite_keeps ..)); exact rfl)
    | ((with_reducible apply Keeps.step (redunCtlWrite_keeps ..)); exact rfl)
    | ((with_reducible apply Keeps.step (mbistWrite_keeps ..)); exact rfl)
    | ((with_reducible apply Keeps.step (handoverWrite_keeps ..)); exact rfl)
    | ((with_reducible apply Keeps.step (sportWrite_keeps ..)); exact rfl)
    | ((with_reducible apply Keeps.step (cvCtlWrite_keeps ..)); exact rfl)
    | ((with_reducible apply Keeps.step (cvOutWrite_keeps ..)); exact rfl)
    | ((with_reducible apply Keeps.step (csrWrite_keeps ..)); exact rfl)
    | intro _
    | split
    | dsimp only
    | ((try with_reducible conv => arg 3; whnf); (with_reducible apply Keeps.upd); (with_reducible exact Or.inl rfl); (iterate 21 (exact Or.inr rfl)); (with_reducible exact rfl); (with_reducible exact rfl))

theorem regWriteAt_keeps (o : Origin) (s : State) (off v : Nat) :
    Keeps [.csr, .mem, .freeCtr, .sched, .dsp, .mix, .flood, .slu, .hr, .prf, .cv, .bus, .cores, .rcu, .redun, .rst, .tally, .net, .ser, .boot, .tst] s (regWriteAt o s off v) := by
  unfold regWriteAt
  repeat' first
    | with_reducible apply Keeps.refl
    | with_reducible assumption
    | with_reducible apply Keeps.ite
    | ((with_reducible apply Keeps.step (regWriteAssigned_keeps ..)); exact rfl)
    | intro _
    | split
    | dsimp only
    | ((try with_reducible conv => arg 3; whnf); (with_reducible apply Keeps.upd); (with_reducible exact Or.inl rfl); (iterate 21 (exact Or.inr rfl)); (with_reducible exact rfl); (with_reducible exact rfl))

theorem regWriteAs_keeps (o : Origin) (s : State) (off v : Nat) :
    Keeps [.csr, .mem, .freeCtr, .sched, .dsp, .mix, .flood, .slu, .hr, .prf, .cv, .bus, .cores, .rcu, .redun, .rst, .tally, .net, .ser, .boot, .tst] s (regWriteAs o s off v) := by
  unfold regWriteAs
  repeat' first
    | with_reducible apply Keeps.refl
    | with_reducible assumption
    | with_reducible apply Keeps.ite
    | ((with_reducible apply Keeps.step (regWriteAt_keeps ..)); exact rfl)
    | intro _
    | split
    | dsimp only
    | ((try with_reducible conv => arg 3; whnf); (with_reducible apply Keeps.upd); (with_reducible exact Or.inl rfl); (iterate 21 (exact Or.inr rfl)); (with_reducible exact rfl); (with_reducible exact rfl))

theorem ap_keeps (s : State) (off v : Nat) :
    Keeps [.csr, .mem, .freeCtr, .sched, .dsp, .mix, .flood, .slu, .hr, .prf, .cv, .bus, .cores, .rcu, .redun, .rst, .tally, .net, .ser, .boot, .tst] s (ap s off v) := by
  unfold ap
  repeat' first
    | with_reducible apply Keeps.refl
    | with_reducible assumption
    | with_reducible apply Keeps.ite
    | ((with_reducible apply Keeps.step (regWriteAs_keeps ..)); exact rfl)
    | intro _
    | split
    | dsimp only
    | ((try with_reducible conv => arg 3; whnf); (with_reducible apply Keeps.upd); (with_reducible exact Or.inl rfl); (iterate 21 (exact Or.inr rfl)); (with_reducible exact rfl); (with_reducible exact rfl))

theorem captureHi_keeps (s : State) (off x : Nat) :
    Keeps [.csr] s (captureHi s off x) := by
  unfold captureHi
  repeat' first
    | with_reducible apply Keeps.refl
    | with_reducible assumption
    | with_reducible apply Keeps.ite
    | ((with_reducible apply Keeps.step (csrPut_keeps ..)); exact rfl)
    | intro _
    | split
    | dsimp only
    | ((try with_reducible conv => arg 3; whnf); (with_reducible apply Keeps.upd); (with_reducible exact Or.inl rfl); (exact Or.inr rfl); (iterate 20 (with_reducible exact Or.inl rfl)); (with_reducible exact rfl); (with_reducible exact rfl))

theorem tallyCapture_keeps (s : State) (cyc : Nat) :
    Keeps [.csr] s (tallyCapture s cyc).2 := by
  unfold tallyCapture
  repeat' first
    | with_reducible apply Keeps.refl
    | with_reducible assumption
    | with_reducible apply Keeps.ite
    | with_reducible apply Keeps.ite_p1
    | with_reducible apply Keeps.ite_p2
    | with_reducible apply Keeps.ite_p22
    | with_reducible apply Keeps.ite_p222
    | ((with_reducible apply Keeps.step (csrPut_keeps ..)); exact rfl)
    | intro _
    | split
    | dsimp only
    | ((try with_reducible conv => arg 3; whnf); (with_reducible apply Keeps.upd); (with_reducible exact Or.inl rfl); (exact Or.inr rfl); (iterate 20 (with_reducible exact Or.inl rfl)); (with_reducible exact rfl); (with_reducible exact rfl))

theorem pdmCapture_keeps (s : State) (k : Nat) :
    Keeps [.csr] s (pdmCapture s k).2 := by
  unfold pdmCapture
  repeat' first
    | with_reducible apply Keeps.refl
    | with_reducible assumption
    | with_reducible apply Keeps.ite
    | with_reducible apply Keeps.ite_p1
    | with_reducible apply Keeps.ite_p2
    | with_reducible apply Keeps.ite_p22
    | with_reducible apply Keeps.ite_p222
    | ((with_reducible apply Keeps.step (csrPut_keeps ..)); exact rfl)
    | intro _
    | split
    | dsimp only
    | ((try with_reducible conv => arg 3; whnf); (with_reducible apply Keeps.upd); (with_reducible exact Or.inl rfl); (exact Or.inr rfl); (iterate 20 (with_reducible exact Or.inl rfl)); (with_reducible exact rfl); (with_reducible exact rfl))

theorem csrReadAt_keeps (s : State) (off cyc : Nat) :
    Keeps [.csr, .freeCtr, .net] s (csrReadAt s off cyc).2 := by
  unfold csrReadAt
  repeat' first
    | with_reducible apply Keeps.refl
    | with_reducible assumption
    | with_reducible apply Keeps.ite
    | with_reducible apply Keeps.ite_p1
    | with_reducible apply Keeps.ite_p2
    | with_reducible apply Keeps.ite_p22
    | with_reducible apply Keeps.ite_p222
    | ((with_reducible apply Keeps.step (pdmCapture_keeps ..)); exact rfl)
    | ((with_reducible apply Keeps.step (tallyCapture_keeps ..)); exact rfl)
    | ((with_reducible apply Keeps.step (captureHi_keeps ..)); exact rfl)
    | ((with_reducible apply Keeps.step (tsqPop_keeps ..)); exact rfl)
    | ((with_reducible apply Keeps.step (freshFree_keeps ..)); exact rfl)
    | intro _
    | split
    | dsimp only
    | ((try with_reducible conv => arg 3; whnf); (with_reducible apply Keeps.upd); (with_reducible exact Or.inl rfl); (exact Or.inr rfl); (with_reducible exact Or.inl rfl); (exact Or.inr rfl); (iterate 14 (with_reducible exact Or.inl rfl)); (exact Or.inr rfl); (iterate 3 (with_reducible exact Or.inl rfl)); (with_reducible exact rfl); (with_reducible exact rfl))

theorem csrRead_keeps (s : State) (off cyc : Nat) :
    Keeps [.csr, .freeCtr, .net] s (csrRead s off cyc).2 := by
  unfold csrRead
  repeat' first
    | with_reducible apply Keeps.refl
    | with_reducible assumption
    | with_reducible apply Keeps.ite
    | with_reducible apply Keeps.ite_p1
    | with_reducible apply Keeps.ite_p2
    | with_reducible apply Keeps.ite_p22
    | with_reducible apply Keeps.ite_p222
    | ((with_reducible apply Keeps.step (csrReadAt_keeps ..)); exact rfl)
    | intro _
    | split
    | dsimp only
    | ((try with_reducible conv => arg 3; whnf); (with_reducible apply Keeps.upd); (with_reducible exact Or.inl rfl); (exact Or.inr rfl); (with_reducible exact Or.inl rfl); (exact Or.inr rfl); (iterate 14 (with_reducible exact Or.inl rfl)); (exact Or.inr rfl); (iterate 3 (with_reducible exact Or.inl rfl)); (with_reducible exact rfl); (with_reducible exact rfl))

theorem csrReads_keeps (cyc n off : Nat) (s : State) : Keeps [.csr, .freeCtr, .net] s (csrReads cyc n off s).2 := by
  induction n generalizing off s with
  | zero => exact Keeps.refl _ _
  | succ n ih => exact Keeps.step (ih _ _) rfl (csrRead_keeps ..)

end Sys2Proof.Machine
end

