-- ==== Sys2Proof/Laws/KeepBoot.lean ====
section
/-! SUPPORT. What each operation of Machine/Boot.lean may change. -/
namespace Sys2Proof.Machine

theorem manifestSet_keeps (s : State) (base k len : Nat) :
    Keeps [.mem, .bus] s (manifestSet s base k len) := by
  unfold manifestSet
  repeat' first
    | with_reducible apply Keeps.refl
    | with_reducible assumption
    | with_reducible apply Keeps.ite
    | ((with_reducible apply Keeps.step (writeBytes_keeps ..)); exact rfl)
    | intro _
    | split
    | dsimp only
    | ((try with_reducible conv => arg 3; whnf); (with_reducible apply Keeps.upd); (iterate 2 (with_reducible exact Or.inl rfl)); (exact Or.inr rfl); (iterate 9 (with_reducible exact Or.inl rfl)); (exact Or.inr rfl); (iterate 9 (with_reducible exact Or.inl rfl)); (with_reducible exact rfl); (with_reducible exact rfl))

theorem showImages_keeps (s : State) (base slot : Nat) :
    Keeps [.csr] s (showImages s base slot) := by
  unfold showImages
  repeat' first
    | with_reducible apply Keeps.refl
    | with_reducible assumption
    | with_reducible apply Keeps.ite
    | with_reducible apply Keeps.foldl
    | with_reducible apply Keeps.foldl_fst
    | with_reducible apply Keeps.foldl_snd
    | with_reducible apply Keeps.foldl_snd2
    | ((with_reducible apply Keeps.step (setF_keeps ..)); exact rfl)
    | intro _
    | split
    | dsimp only
    | ((try with_reducible conv => arg 3; whnf); (with_reducible apply Keeps.upd); (with_reducible exact Or.inl rfl); (exact Or.inr rfl); (iterate 20 (with_reducible exact Or.inl rfl)); (with_reducible exact rfl); (with_reducible exact rfl))

theorem cageWord_keeps (s : State) (off v : Nat) :
    Keeps [.csr] s (cageWord s off v) := by
  unfold cageWord
  repeat' first
    | with_reducible apply Keeps.refl
    | with_reducible assumption
    | with_reducible apply Keeps.ite
    | ((with_reducible apply Keeps.step (csrPut_keeps ..)); exact rfl)
    | intro _
    | split
    | dsimp only
    | ((try with_reducible conv => arg 3; whnf); (with_reducible apply Keeps.upd); (with_reducible exact Or.inl rfl); (exact Or.inr rfl); (iterate 20 (with_reducible exact Or.inl rfl)); (with_reducible exact rfl); (with_reducible exact rfl))

theorem dspLoad_keeps (s : State) (dest : Nat) (d : List Nat) :
    Keeps [.csr, .mem, .bus] s (dspLoad s dest d) := by
  unfold dspLoad
  repeat' first
    | with_reducible apply Keeps.refl
    | with_reducible assumption
    | with_reducible apply Keeps.ite
    | with_reducible apply Keeps.foldl
    | with_reducible apply Keeps.foldl_fst
    | with_reducible apply Keeps.foldl_snd
    | with_reducible apply Keeps.foldl_snd2
    | ((with_reducible apply Keeps.step (cageWord_keeps ..)); exact rfl)
    | ((with_reducible apply Keeps.step (writeBytes_keeps ..)); exact rfl)
    | intro _
    | split
    | dsimp only
    | ((try with_reducible conv => arg 3; whnf); (with_reducible apply Keeps.upd); (with_reducible exact Or.inl rfl); (iterate 2 (exact Or.inr rfl)); (iterate 9 (with_reducible exact Or.inl rfl)); (exact Or.inr rfl); (iterate 9 (with_reducible exact Or.inl rfl)); (with_reducible exact rfl); (with_reducible exact rfl))

theorem dspSections_keeps {a len f o : Nat} {s : State} {tbl : List (Nat × Nat)} {r : State × List (Nat × Nat)}
    (h : dspSections a len f o s tbl = some r) : Keeps [.csr, .mem, .bus] s r.1 := by
  induction f generalizing o s tbl with
  | zero => simp [dspSections] at h
  | succ f ih =>
    simp only [dspSections] at h
    by_cases h1 : o = len
    · rw [if_pos h1] at h; injection h with h; exact h ▸ Keeps.refl _ _
    rw [if_neg h1] at h
    by_cases h2 : len < o + 16
    · rw [if_pos h2] at h; simp at h
    rw [if_neg h2] at h
    generalize (if hdr s (a + o) 12 2 = 1 then 16 else 16 + (hdr s (a + o) 8 4 + 7) / 8 * 8) = skip at h
    generalize (if hdr s (a + o) 12 2 = 1 then List.replicate (hdr s (a + o) 8 4) 0
      else readBytes s (a + o + 16) (hdr s (a + o) 8 4)) = bs at h
    split at h
    · simp at h
    · split at h
      · split at h
        · exact ih h
        · simp at h
      · split at h
        · simp at h
        · exact Keeps.step (ih h) rfl (dspLoad_keeps ..)

theorem loadDsp_keeps {s t : State} {a rate : Nat} (h : loadDsp s a rate = some t) : Keeps [.csr, .mem, .bus, .redun] s t := by
  unfold loadDsp at h
  dsimp only at h
  cases hd : dspSections (a + 512) (hdr s a 32 4) (hdr s a 32 4 + 1) 0 s [] with
  | none => rw [hd] at h; cases h
  | some r =>
    rw [hd] at h
    dsimp only at h
    split at h
    · cases h
    · injection h with h
      subst h
      (with_reducible apply Keeps.upd)
      (with_reducible exact Or.inl rfl); (iterate 2 (exact Or.inr rfl)); (iterate 9 (with_reducible exact Or.inl rfl))
      (exact Or.inr rfl); (iterate 2 (with_reducible exact Or.inl rfl)); (exact Or.inr rfl); (iterate 6 (with_reducible exact Or.inl rfl))
      (with_reducible exact rfl); (with_reducible exact rfl)
      exact Keeps.step (setF_keeps ..) rfl (Keeps.mono (dspSections_keeps hd) rfl)

theorem applyRate_keeps (s : State) (fr : Nat × Nat) :
    Keeps [.csr, .freeCtr, .hr, .rcu, .redun, .tally, .ser] s (applyRate s fr) := by
  unfold applyRate
  repeat' first
    | with_reducible apply Keeps.refl
    | with_reducible assumption
    | with_reducible apply Keeps.ite
    | with_reducible apply Keeps.ite_p1
    | with_reducible apply Keeps.ite_p2
    | with_reducible apply Keeps.ite_p22
    | with_reducible apply Keeps.ite_p222
    | ((with_reducible apply Keeps.step (rcuCtl_keeps ..)); exact rfl)
    | ((with_reducible apply Keeps.step (rateWrite_keeps ..)); exact rfl)
    | ((with_reducible apply Keeps.step (relocked_keeps ..)); exact rfl)
    | ((with_reducible apply Keeps.step (freshFree_keeps ..)); exact rfl)
    | intro _
    | split
    | dsimp only
    | ((try with_reducible conv => arg 3; whnf); (with_reducible apply Keeps.upd); (with_reducible exact Or.inl rfl); (exact Or.inr rfl); (with_reducible exact Or.inl rfl); (exact Or.inr rfl); (iterate 5 (with_reducible exact Or.inl rfl)); (exact Or.inr rfl); (iterate 4 (with_reducible exact Or.inl rfl)); (iterate 2 (exact Or.inr rfl)); (with_reducible exact Or.inl rfl); (exact Or.inr rfl); (with_reducible exact Or.inl rfl); (exact Or.inr rfl); (iterate 2 (with_reducible exact Or.inl rfl)); (with_reducible exact rfl); (with_reducible exact rfl))

theorem writeGlobals_keeps (s : State) :
    Keeps [.mem, .bus] s (writeGlobals s) := by
  unfold writeGlobals
  repeat' first
    | with_reducible apply Keeps.refl
    | with_reducible assumption
    | with_reducible apply Keeps.ite
    | with_reducible apply Keeps.foldl
    | with_reducible apply Keeps.foldl_fst
    | with_reducible apply Keeps.foldl_snd
    | with_reducible apply Keeps.foldl_snd2
    | ((with_reducible apply Keeps.step (pwriteBoth_keeps ..)); exact rfl)
    | intro _
    | split
    | dsimp only
    | ((try with_reducible conv => arg 3; whnf); (with_reducible apply Keeps.upd); (iterate 2 (with_reducible exact Or.inl rfl)); (exact Or.inr rfl); (iterate 9 (with_reducible exact Or.inl rfl)); (exact Or.inr rfl); (iterate 9 (with_reducible exact Or.inl rfl)); (with_reducible exact rfl); (with_reducible exact rfl))

theorem cfgReg_keeps {s t : State} {off v : Nat} (h : cfgReg s off v = some t) :
    Keeps [.csr, .mem, .freeCtr, .sched, .dsp, .mix, .flood, .slu, .hr, .prf, .cv, .bus, .cores, .rcu, .redun, .rst, .tally, .net, .ser, .boot, .tst] s t := by
  unfold cfgReg at h
  split at h
  · dsimp only at h
    split at h
    · cases h
    · cases h
      exact Keeps.step (csrPut_keeps ..) rfl (Keeps.step (handoverComplete_keeps ..) rfl
        (Keeps.step (handoverWrite_keeps ..) rfl (Keeps.mono (setF_keeps ..) rfl)))
  · cases h
    exact regWriteAs_keeps ..

theorem cfgRegs_keeps {off : Nat} {l : List Nat} {s t : State} (h : cfgRegs off l s = some t) :
    Keeps [.csr, .mem, .freeCtr, .sched, .dsp, .mix, .flood, .slu, .hr, .prf, .cv, .bus, .cores, .rcu, .redun, .rst, .tally, .net, .ser, .boot, .tst] s t := by
  induction l generalizing off s with
  | nil => cases h; exact Keeps.refl _ _
  | cons v l ih =>
    simp only [cfgRegs] at h
    split at h
    · rename_i u hu; exact Keeps.step (ih h) rfl (cfgReg_keeps hu)
    · cases h

theorem cfgApply_keeps {reg : CfgRec → Bool} {ps : Bool} {l : List CfgRec} {s t : State} (h : cfgApply reg ps l s = some t) :
    Keeps [.csr, .mem, .freeCtr, .sched, .dsp, .mix, .flood, .slu, .hr, .prf, .cv, .bus, .cores, .rcu, .redun, .rst, .tally, .net, .ser, .boot, .tst] s t := by
  induction l generalizing s with
  | nil => cases h; exact Keeps.refl _ _
  | cons r l ih =>
    simp only [cfgApply] at h
    split at h
    · rename_i u hu
      refine Keeps.step (ih h) rfl ?_
      split at hu
      · split at hu
        · exact cfgRegs_keeps hu
        · cases hu; exact Keeps.refl _ _
      · cases hu
        exact Keeps.ite (Keeps.foldl (fun _ _ => Keeps.mono (pwriteBoth_keeps ..) rfl) (Keeps.refl _ _)) (Keeps.refl _ _)
      · cases hu
        exact Keeps.ite (Keeps.foldl (fun _ _ => Keeps.mono (pwriteBoth_keeps ..) rfl) (Keeps.refl _ _)) (Keeps.refl _ _)
      · cases hu; exact Keeps.refl _ _
    · cases h

theorem cfgScene_keeps (s : State) (rs : List CfgRec) :
    Keeps [.csr, .mem, .freeCtr, .flood, .slu, .hr, .cv, .bus, .rcu, .redun] s (cfgScene s rs) := by
  unfold cfgScene
  repeat' first
    | with_reducible apply Keeps.refl
    | with_reducible assumption
    | with_reducible apply Keeps.ite
    | with_reducible apply Keeps.ite_p1
    | with_reducible apply Keeps.ite_p2
    | with_reducible apply Keeps.ite_p22
    | with_reducible apply Keeps.ite_p222
    | with_reducible apply Keeps.foldl
    | with_reducible apply Keeps.foldl_fst
    | with_reducible apply Keeps.foldl_snd
    | with_reducible apply Keeps.foldl_snd2
    | ((with_reducible apply Keeps.step (loadScene_keeps ..)); exact rfl)
    | ((with_reducible apply Keeps.step (pwriteBoth_keeps ..)); exact rfl)
    | ((with_reducible apply Keeps.step (stick_keeps ..)); exact rfl)
    | intro _
    | split
    | dsimp only
    | ((try with_reducible conv => arg 3; whnf); (with_reducible apply Keeps.upd); (with_reducible exact Or.inl rfl); (iterate 3 (exact Or.inr rfl)); (iterate 3 (with_reducible exact Or.inl rfl)); (iterate 3 (exact Or.inr rfl)); (with_reducible exact Or.inl rfl); (iterate 2 (exact Or.inr rfl)); (with_reducible exact Or.inl rfl); (iterate 2 (exact Or.inr rfl)); (iterate 6 (with_reducible exact Or.inl rfl)); (with_reducible exact rfl); (with_reducible exact rfl))

theorem clearPstore_keeps (s : State) : Keeps [.mem, .slu] s (clearPstore s) :=
  ⟨fun p hp => by cases p <;> first | exact rfl | exact absurd (by decide) hp,
    State.Inv.mem (fun h => Memory.wf_filter _ h) rfl⟩

theorem buildPstore_keeps (s : State) (rs : List CfgRec) :
    Keeps [.csr, .mem, .freeCtr, .sched, .dsp, .mix, .flood, .slu, .hr, .prf, .cv, .bus, .cores, .rcu, .redun, .rst, .tally, .net, .ser, .boot, .tst] s (buildPstore s rs) := by
  unfold buildPstore
  refine Keeps.step (cfgScene_keeps ..) rfl ?_
  have base : Keeps [.csr, .mem, .freeCtr, .sched, .dsp, .mix, .flood, .slu, .hr, .prf, .cv, .bus, .cores, .rcu, .redun, .rst, .tally, .net, .ser, .boot, .tst] s (writeGlobals (clearPstore s)) :=
    Keeps.step (writeGlobals_keeps ..) rfl (Keeps.mono (clearPstore_keeps ..) rfl)
  cases h : cfgApply (fun _ => false) true rs (writeGlobals (clearPstore s)) with
  | none => exact base
  | some t => exact Keeps.step (cfgApply_keeps h) rfl base

theorem warmRate_keeps (s : State) (fr : Nat × Nat) :
    Keeps [.csr, .freeCtr, .sched, .dsp, .flood, .hr, .rcu, .redun, .tally, .net, .ser] s (warmRate s fr) := by
  unfold warmRate
  repeat' first
    | with_reducible apply Keeps.refl
    | with_reducible assumption
    | with_reducible apply Keeps.ite
    | with_reducible apply Keeps.ite_p1
    | with_reducible apply Keeps.ite_p2
    | with_reducible apply Keeps.ite_p22
    | with_reducible apply Keeps.ite_p222
    | ((with_reducible apply Keeps.step (applyRate_keeps ..)); exact rfl)
    | ((with_reducible apply Keeps.step (stopTick_keeps ..)); exact rfl)
    | ((with_reducible apply Keeps.step (setF_keeps ..)); exact rfl)
    | intro _
    | split
    | dsimp only
    | ((try with_reducible conv => arg 3; whnf); (with_reducible apply Keeps.upd); (with_reducible exact Or.inl rfl); (exact Or.inr rfl); (with_reducible exact Or.inl rfl); (iterate 3 (exact Or.inr rfl)); (with_reducible exact Or.inl rfl); (exact Or.inr rfl); (with_reducible exact Or.inl rfl); (exact Or.inr rfl); (iterate 4 (with_reducible exact Or.inl rfl)); (iterate 2 (exact Or.inr rfl)); (with_reducible exact Or.inl rfl); (iterate 3 (exact Or.inr rfl)); (iterate 2 (with_reducible exact Or.inl rfl)); (with_reducible exact rfl); (with_reducible exact rfl))

theorem applyCfg_keeps {s t : State} {rs : List CfgRec} {ds : List Nat} (h : applyCfg s rs ds = some t) :
    Keeps [.csr, .mem, .freeCtr, .sched, .dsp, .mix, .flood, .slu, .hr, .prf, .cv, .bus, .cores, .rcu, .redun, .rst, .tally, .net, .ser, .boot, .tst] s t := by
  unfold applyCfg at h
  dsimp only at h
  split at h
  · obtain ⟨u, hu, rfl⟩ := Option.map_eq_some_iff.1 h
    refine Keeps.step (cfgScene_keeps ..) rfl (Keeps.step (cfgApply_keeps hu) rfl (Keeps.step (applyRate_keeps ..) rfl
      (Keeps.step (writeGlobals_keeps ..) rfl ?_)))
    exact Keeps.all rfl (Inv_of_mem rfl rfl)
  · obtain ⟨u, hu, rfl⟩ := Option.map_eq_some_iff.1 h
    refine Keeps.ite ?_ (Keeps.step (buildPstore_keeps ..) rfl ?_)
    all_goals
      refine Keeps.step (cfgApply_keeps hu) rfl (Keeps.ite (Keeps.step (warmRate_keeps ..) rfl ?_) ?_)
      all_goals exact Keeps.all rfl (Inv_of_mem rfl rfl)

theorem loadSet_keeps {s t : State} {slot : Nat} (h : loadSet s slot = .ok t) :
    Keeps [.csr, .mem, .freeCtr, .sched, .dsp, .mix, .flood, .slu, .hr, .prf, .cv, .bus, .cores, .rcu, .redun, .rst, .tally, .net, .ser, .boot, .tst] s t := by
  unfold loadSet at h
  split at h
  · cases h
  · dsimp only at h
    split at h
    · cases h
    · split at h
      · cases h
      · split at h
        · cases h
        · split at h
          · cases h
          · split at h
            · cases h
            · rename_i d hd
              split at h
              · cases h
              · split at h
                · cases h
                · split at h
                  · cases h
                  · rename_i u hu
                    split at h
                    · cases h
                    · cases h
                      have k : Keeps [.csr, .mem, .freeCtr, .sched, .dsp, .mix, .flood, .slu, .hr, .prf, .cv, .bus, .cores, .rcu, .redun, .rst, .tally, .net, .ser, .boot, .tst] s u :=
                        Keeps.step (applyCfg_keeps hu) rfl (Keeps.mono (loadDsp_keeps hd) rfl)
                      exact Keeps.all (k.only .pending (by decide)) (fun i => ⟨(k.inv i).1, i.1⟩)

theorem noteCause_keeps (s : State) (slot code : Nat) :
    Keeps [.csr] s (noteCause s slot code) := by
  unfold noteCause
  repeat' first
    | with_reducible apply Keeps.refl
    | with_reducible assumption
    | with_reducible apply Keeps.ite
    | ((with_reducible apply Keeps.step (setF_keeps ..)); exact rfl)
    | intro _
    | split
    | dsimp only
    | ((try with_reducible conv => arg 3; whnf); (with_reducible apply Keeps.upd); (with_reducible exact Or.inl rfl); (exact Or.inr rfl); (iterate 20 (with_reducible exact Or.inl rfl)); (with_reducible exact rfl); (with_reducible exact rfl))

theorem fallBack_keeps (s : State) (cause refuse : Nat) :
    Keeps [.csr, .prf] s (fallBack s cause refuse) := by
  unfold fallBack
  repeat' first
    | with_reducible apply Keeps.refl
    | with_reducible assumption
    | with_reducible apply Keeps.ite
    | ((with_reducible apply Keeps.step (prfWrite_keeps ..)); exact rfl)
    | ((with_reducible apply Keeps.step (stick_keeps ..)); exact rfl)
    | intro _
    | split
    | dsimp only
    | ((try with_reducible conv => arg 3; whnf); (with_reducible apply Keeps.upd); (with_reducible exact Or.inl rfl); (exact Or.inr rfl); (iterate 8 (with_reducible exact Or.inl rfl)); (exact Or.inr rfl); (iterate 11 (with_reducible exact Or.inl rfl)); (with_reducible exact rfl); (with_reducible exact rfl))

theorem bootFailed_keeps (s : State) :
    Keeps [.csr, .cores, .rst] s (bootFailed s) := by
  unfold bootFailed
  repeat' first
    | with_reducible apply Keeps.refl
    | with_reducible assumption
    | with_reducible apply Keeps.ite
    | with_reducible apply Keeps.foldl
    | with_reducible apply Keeps.foldl_fst
    | with_reducible apply Keeps.foldl_snd
    | with_reducible apply Keeps.foldl_snd2
    | ((with_reducible apply Keeps.step (holdCore_keeps ..)); exact rfl)
    | intro _
    | split
    | dsimp only
    | ((try with_reducible conv => arg 3; whnf); (with_reducible apply Keeps.upd); (with_reducible exact Or.inl rfl); (exact Or.inr rfl); (iterate 11 (with_reducible exact Or.inl rfl)); (exact Or.inr rfl); (iterate 2 (with_reducible exact Or.inl rfl)); (exact Or.inr rfl); (iterate 5 (with_reducible exact Or.inl rfl)); (with_reducible exact rfl); (with_reducible exact rfl))

theorem release_keeps (s : State) (slot : Nat) (trial : Bool) :
    Keeps [.csr, .rst, .boot] s (release s slot trial) := by
  unfold release
  repeat' first
    | with_reducible apply Keeps.refl
    | with_reducible assumption
    | with_reducible apply Keeps.ite
    | ((with_reducible apply Keeps.step (wdtReload_keeps ..)); exact rfl)
    | ((with_reducible apply Keeps.step (setF_keeps ..)); exact rfl)
    | intro _
    | split
    | dsimp only
    | ((try with_reducible conv => arg 3; whnf); (with_reducible apply Keeps.upd); (with_reducible exact Or.inl rfl); (exact Or.inr rfl); (iterate 14 (with_reducible exact Or.inl rfl)); (exact Or.inr rfl); (iterate 3 (with_reducible exact Or.inl rfl)); (exact Or.inr rfl); (with_reducible exact Or.inl rfl); (with_reducible exact rfl); (with_reducible exact rfl))

theorem bootSlot_keeps {other : State → Nat → State}
    (ho : ∀ t c, Keeps [.csr, .mem, .freeCtr, .sched, .dsp, .mix, .flood, .slu, .hr, .prf, .cv, .bus, .cores, .rcu, .redun, .rst, .tally, .net, .ser, .boot, .tst] t (other t c)) (s : State) (slot : Nat)
    (trial : Bool) : Keeps [.csr, .mem, .freeCtr, .sched, .dsp, .mix, .flood, .slu, .hr, .prf, .cv, .bus, .cores, .rcu, .redun, .rst, .tally, .net, .ser, .boot, .tst] s (bootSlot s slot trial other) := by
  unfold bootSlot
  split
  · rename_i t h; exact Keeps.step (release_keeps ..) rfl (loadSet_keeps h)
  · exact Keeps.step (ho ..) rfl (Keeps.mono (noteCause_keeps ..) rfl)

theorem bootLast_keeps (s : State) (slot : Nat) : Keeps [.csr, .mem, .freeCtr, .sched, .dsp, .mix, .flood, .slu, .hr, .prf, .cv, .bus, .cores, .rcu, .redun, .rst, .tally, .net, .ser, .boot, .tst] s (bootLast s slot) := by
  unfold bootLast
  exact Keeps.step (bootSlot_keeps (fun _ _ => Keeps.mono (bootFailed_keeps ..) rfl) ..) rfl (Keeps.all rfl (Inv_of_mem rfl rfl))

theorem bootRescue_keeps (s : State) (slot : Nat) :
    Keeps [.csr, .mem, .freeCtr, .sched, .dsp, .mix, .flood, .slu, .hr, .prf, .cv, .bus, .cores, .rcu, .redun, .rst, .tally, .net, .ser, .boot, .tst] s (bootRescue s slot) := by
  unfold bootRescue
  repeat' first
    | with_reducible apply Keeps.refl
    | with_reducible assumption
    | with_reducible apply Keeps.ite
    | ((with_reducible apply Keeps.step (bootLast_keeps ..)); exact rfl)
    | ((with_reducible apply Keeps.step (setF_keeps ..)); exact rfl)
    | intro _
    | split
    | dsimp only
    | ((try with_reducible conv => arg 3; whnf); (with_reducible apply Keeps.upd); (with_reducible exact Or.inl rfl); (iterate 21 (exact Or.inr rfl)); (with_reducible exact rfl); (with_reducible exact rfl))

theorem chooseSlot_keeps (s : State) : Keeps [.csr, .mem, .freeCtr, .sched, .dsp, .mix, .flood, .slu, .hr, .prf, .cv, .bus, .cores, .rcu, .redun, .rst, .tally, .net, .ser, .boot, .tst] s (chooseSlot s) := by
  unfold chooseSlot
  dsimp only
  refine Keeps.ite (Keeps.step (bootSlot_keeps (fun _ _ => ?_) ..) rfl ?_) (Keeps.step (bootSlot_keeps (fun _ _ => ?_) ..) rfl ?_)
  · exact Keeps.step (bootLast_keeps ..) rfl (Keeps.mono (fallBack_keeps ..) rfl)
  · exact Keeps.mono (prfWrite_keeps ..) rfl
  · exact bootRescue_keeps ..
  · exact Keeps.ite (Keeps.mono (fallBack_keeps ..) rfl) (Keeps.refl _ _)

theorem bootMarch_keeps (s : State) (i : BootIn) :
    Keeps [.mem, .bus] s (bootMarch s i) := by
  unfold bootMarch
  repeat' first
    | with_reducible apply Keeps.refl
    | with_reducible assumption
    | with_reducible apply Keeps.ite
    | with_reducible apply Keeps.foldl
    | ((with_reducible apply Keeps.step (clearSingles_keeps ..)); exact rfl)
    | ((with_reducible apply Keeps.step (clearRange_keeps ..)); exact rfl)
    | intro _
    | split
    | dsimp only
    | ((try with_reducible conv => arg 3; whnf); (with_reducible apply Keeps.upd); (iterate 2 (with_reducible exact Or.inl rfl)); (exact Or.inr rfl); (iterate 9 (with_reducible exact Or.inl rfl)); (exact Or.inr rfl); (iterate 9 (with_reducible exact Or.inl rfl)); (with_reducible exact rfl); (with_reducible exact rfl))

theorem bootMbist_keeps (s : State) (i : BootIn) :
    Keeps [.csr, .mem, .bus] s (bootMbist s i) := by
  unfold bootMbist
  repeat' first
    | with_reducible apply Keeps.refl
    | with_reducible assumption
    | with_reducible apply Keeps.ite
    | with_reducible apply Keeps.foldl
    | with_reducible apply Keeps.foldl_fst
    | with_reducible apply Keeps.foldl_snd
    | with_reducible apply Keeps.foldl_snd2
    | ((with_reducible apply Keeps.step (bootMarch_keeps ..)); exact rfl)
    | ((with_reducible apply Keeps.step (softRepair_keeps ..)); exact rfl)
    | ((with_reducible apply Keeps.step (markFailed_keeps ..)); exact rfl)
    | ((with_reducible apply Keeps.step (clearRange_keeps ..)); exact rfl)
    | intro _
    | split
    | dsimp only
    | ((try with_reducible conv => arg 3; whnf); (with_reducible apply Keeps.upd); (with_reducible exact Or.inl rfl); (iterate 2 (exact Or.inr rfl)); (iterate 9 (with_reducible exact Or.inl rfl)); (exact Or.inr rfl); (iterate 9 (with_reducible exact Or.inl rfl)); (with_reducible exact rfl); (with_reducible exact rfl))

theorem bootRun_keeps (s : State) (i : BootIn) :
    Keeps [.csr, .mem, .freeCtr, .sched, .dsp, .mix, .flood, .slu, .hr, .prf, .cv, .bus, .cores, .rcu, .redun, .rst, .tally, .net, .ser, .boot, .tst] s (bootRun s i) := by
  unfold bootRun
  repeat' first
    | with_reducible apply Keeps.refl
    | with_reducible assumption
    | with_reducible apply Keeps.ite
    | ((with_reducible apply Keeps.step (bootMbist_keeps ..)); exact rfl)
    | ((with_reducible apply Keeps.step (chooseSlot_keeps ..)); exact rfl)
    | ((with_reducible apply Keeps.step (showImages_keeps ..)); exact rfl)
    | ((with_reducible apply Keeps.step (setF_keeps ..)); exact rfl)
    | intro _
    | split
    | dsimp only
    | ((try with_reducible conv => arg 3; whnf); (with_reducible apply Keeps.upd); (with_reducible exact Or.inl rfl); (iterate 21 (exact Or.inr rfl)); (with_reducible exact rfl); (with_reducible exact rfl))

theorem unloadSet_keeps (s : State) : Keeps [.csr, .mem, .slu, .boot] s (unloadSet s) := by
  unfold unloadSet
  split
  · exact Keeps.refl _ _
  · rename_i x hx
    dsimp only
    generalize ht : List.foldl _ s _ = t
    have k : Keeps [.csr] s t := by
      rw [← ht]
      exact Keeps.foldl (fun _ _ => csrPut_keeps ..) (Keeps.refl _ _)
    refine ⟨fun p hp => Part.same_trans (t := t) (k.only p (fun h => hp (mem_of_subParts rfl h)))
      (by cases p <;> first | exact rfl | exact absurd (by decide) hp), fun i => ⟨?_, trivial⟩⟩
    have := i.2
    unfold Snap.wf at this
    rw [hx] at this
    exact this

theorem firmwareTimeout_keeps (s : State) :
    Keeps [.csr, .mem, .freeCtr, .sched, .dsp, .mix, .flood, .slu, .hr, .prf, .cv, .bus, .cores, .rcu, .redun, .rst, .tally, .net, .ser, .boot, .tst] s (firmwareTimeout s) := by
  unfold firmwareTimeout
  repeat' first
    | with_reducible apply Keeps.refl
    | with_reducible assumption
    | with_reducible apply Keeps.ite
    | ((with_reducible apply Keeps.step (unloadSet_keeps ..)); exact rfl)
    | ((with_reducible apply Keeps.step (bootRescue_keeps ..)); exact rfl)
    | ((with_reducible apply Keeps.step (bootLast_keeps ..)); exact rfl)
    | ((with_reducible apply Keeps.step (bootFailed_keeps ..)); exact rfl)
    | ((with_reducible apply Keeps.step (fallBack_keeps ..)); exact rfl)
    | ((with_reducible apply Keeps.step (noteCause_keeps ..)); exact rfl)
    | intro _
    | split
    | dsimp only
    | ((try with_reducible conv => arg 3; whnf); (with_reducible apply Keeps.upd); (with_reducible exact Or.inl rfl); (iterate 21 (exact Or.inr rfl)); (with_reducible exact rfl); (with_reducible exact rfl))

theorem firmwareReady_keeps (s : State) :
    Keeps [.csr, .mem, .freeCtr, .sched, .dsp, .mix, .flood, .slu, .hr, .prf, .cv, .bus, .cores, .rcu, .redun, .rst, .tally, .net, .ser, .boot, .tst] s (firmwareReady s) := by
  unfold firmwareReady
  split
  · exact Keeps.refl _ _
  · dsimp only
    have base : ∀ (r : Rst) (o : Option Nat), Keeps [.csr, .mem, .freeCtr, .sched, .dsp, .mix, .flood, .slu, .hr, .prf, .cv, .bus, .cores, .rcu, .redun, .rst, .tally, .net, .ser, .boot, .tst] s
        { s with rst := r, boot := { s.boot with snap := none, settings := o } } := fun r o => Keeps.all rfl (fun i => ⟨i.1, trivial⟩)
    have up : ∀ (u : State) (r : Rst), Keeps [.rst] u { u with rst := r } := fun u r =>
      ⟨fun p hp => by cases p <;> first | exact rfl | exact absurd (by decide) hp, Inv_of_mem rfl rfl⟩
    split
    · refine Keeps.step (up _ _) rfl (Keeps.ite ?_ ?_)
      · exact Keeps.step (restageReplay_keeps (M := [.csr, .mem, .freeCtr, .sched, .dsp, .mix, .flood, .slu, .hr, .prf, .cv, .bus, .cores, .rcu, .redun, .rst, .tally, .net, .ser, .boot, .tst])
          rfl (fun _ _ _ => ap_keeps ..) ..) rfl (Keeps.step (setF_keeps ..) rfl (base _ _))
      · exact Keeps.step (restageAll_keeps ..) rfl (Keeps.step (restoreDirty_keeps ..) rfl (Keeps.step (journalLost_keeps ..) rfl
          (Keeps.step (setF_keeps ..) rfl (base _ _))))
    · exact Keeps.step (up _ _) rfl (Keeps.step (restageAll_keeps ..) rfl (base _ _))

theorem waitRefOver_keeps (s : State) :
    Keeps [.boot] s (waitRefOver s) := by
  unfold waitRefOver
  repeat' first
    | with_reducible apply Keeps.refl
    | with_reducible assumption
    | with_reducible apply Keeps.ite
    | intro _
    | split
    | dsimp only
    | ((try with_reducible conv => arg 3; whnf); (with_reducible apply Keeps.upd); (iterate 20 (with_reducible exact Or.inl rfl)); (exact Or.inr rfl); (with_reducible exact Or.inl rfl); (with_reducible exact rfl); (with_reducible exact rfl))

theorem engineStart_keeps (s : State) :
    Keeps [.csr, .freeCtr, .flood, .slu, .hr, .rcu, .redun, .rst] s (engineStart s) := by
  unfold engineStart
  repeat' first
    | with_reducible apply Keeps.refl
    | with_reducible assumption
    | with_reducible apply Keeps.ite
    | ((with_reducible apply Keeps.step (runWrite_keeps ..)); exact rfl)
    | ((with_reducible apply Keeps.step (freeCores_keeps ..)); exact rfl)
    | ((with_reducible apply Keeps.step (setRole_keeps ..)); exact rfl)
    | intro _
    | split
    | dsimp only
    | ((try with_reducible conv => arg 3; whnf); (with_reducible apply Keeps.upd); (with_reducible exact Or.inl rfl); (exact Or.inr rfl); (with_reducible exact Or.inl rfl); (exact Or.inr rfl); (iterate 3 (with_reducible exact Or.inl rfl)); (iterate 3 (exact Or.inr rfl)); (iterate 4 (with_reducible exact Or.inl rfl)); (iterate 3 (exact Or.inr rfl)); (iterate 5 (with_reducible exact Or.inl rfl)); (with_reducible exact rfl); (with_reducible exact rfl))

end Sys2Proof.Machine
end

