-- ==== Sys2Proof/Laws/KeepHeadrace.lean ====
section
/-! SUPPORT. What each operation of Machine/Headrace.lean may change. -/
namespace Sys2Proof.Machine

theorem takeRx_keeps {s t : State} {v : Via} (h : takeRx s v = some t) : Keeps [.hr] s t := by
  unfold takeRx at h
  split at h
  · cases h
    exact ⟨fun p hp => by cases p <;> first | exact rfl | exact absurd (by decide) hp, Inv_of_mem rfl rfl⟩
  · split at h
    · cases h; exact Keeps.refl _ _
    · cases h

theorem noteValid_keeps (s : State) (h : Hdr) :
    Keeps [.hr] s (noteValid s h) := by
  unfold noteValid
  repeat' first
    | with_reducible apply Keeps.refl
    | with_reducible assumption
    | with_reducible apply Keeps.ite
    | ((with_reducible apply Keeps.step (putSession_keeps ..)); exact rfl)
    | intro _
    | split
    | dsimp only
    | ((try with_reducible conv => arg 3; whnf); (with_reducible apply Keeps.upd); (iterate 9 (with_reducible exact Or.inl rfl)); (exact Or.inr rfl); (iterate 12 (with_reducible exact Or.inl rfl)); (with_reducible exact rfl); (with_reducible exact rfl))

theorem arrive_keeps {M : List Part} {serve : State → State} (hM : subParts [.csr, .freeCtr, .hr] M = true) (hf : ∀ y0, Keeps M y0 (serve y0)) (s : State) (h : Hdr) (op : Nat) (b : List Nat) :
    Keeps M s (arrive s h op b serve) := by
  unfold arrive
  repeat' first
    | with_reducible apply Keeps.refl
    | with_reducible assumption
    | with_reducible apply Keeps.ite
    | ((with_reducible apply Keeps.step (hf ..)); exact subParts_refl _)
    | ((with_reducible apply Keeps.step (noteValid_keeps ..)); exact (subParts_trans rfl hM))
    | ((with_reducible apply Keeps.step (takeRx_keeps (by assumption))); exact (subParts_trans rfl hM))
    | ((with_reducible apply Keeps.step (nakBusy_keeps ..)); exact (subParts_trans rfl hM))
    | ((with_reducible apply Keeps.step (nak_keeps ..)); exact (subParts_trans rfl hM))
    | intro _
    | split
    | dsimp only
    | ((try with_reducible conv => arg 3; whnf); (with_reducible apply Keeps.upd); (with_reducible exact Or.inl rfl); (exact Or.inr (subParts_trans rfl hM)); (with_reducible exact Or.inl rfl); (exact Or.inr (subParts_trans rfl hM)); (iterate 5 (with_reducible exact Or.inl rfl)); (exact Or.inr (subParts_trans rfl hM)); (iterate 12 (with_reducible exact Or.inl rfl)); (with_reducible exact rfl); (with_reducible exact rfl))

theorem journalFull_keeps (s : State) (h : Hdr) :
    Keeps [.csr, .freeCtr, .hr] s (journalFull s h) := by
  unfold journalFull
  repeat' first
    | with_reducible apply Keeps.refl
    | with_reducible assumption
    | with_reducible apply Keeps.ite
    | ((with_reducible apply Keeps.step (nak_keeps ..)); exact rfl)
    | ((with_reducible apply Keeps.step (stick_keeps ..)); exact rfl)
    | intro _
    | split
    | dsimp only
    | ((try with_reducible conv => arg 3; whnf); (with_reducible apply Keeps.upd); (with_reducible exact Or.inl rfl); (exact Or.inr rfl); (with_reducible exact Or.inl rfl); (exact Or.inr rfl); (iterate 5 (with_reducible exact Or.inl rfl)); (exact Or.inr rfl); (iterate 12 (with_reducible exact Or.inl rfl)); (with_reducible exact rfl); (with_reducible exact rfl))

theorem ackOrWait_keeps (s : State) (h : Hdr) (last : Nat) (a : AckRec) :
    Keeps [.csr, .hr] s (ackOrWait s h last a) := by
  unfold ackOrWait
  repeat' first
    | with_reducible apply Keeps.refl
    | with_reducible assumption
    | with_reducible apply Keeps.ite
    | ((with_reducible apply Keeps.step (sendAck_keeps ..)); exact rfl)
    | ((with_reducible apply Keeps.step (count_keeps ..)); exact rfl)
    | intro _
    | split
    | dsimp only
    | ((try with_reducible conv => arg 3; whnf); (with_reducible apply Keeps.upd); (with_reducible exact Or.inl rfl); (exact Or.inr rfl); (iterate 7 (with_reducible exact Or.inl rfl)); (exact Or.inr rfl); (iterate 12 (with_reducible exact Or.inl rfl)); (with_reducible exact rfl); (with_reducible exact rfl))

theorem accept_keeps {M : List Part} {effect : State → Nat → State} (hM : subParts [.csr, .mem, .freeCtr, .flood, .slu, .hr, .cv, .bus, .rcu, .redun] M = true) (hf : ∀ y0 y1, Keeps M y0 (effect y0 y1)) (s : State) (h : Hdr) (x : Accept) (b : List Nat) :
    Keeps M s (accept s h x b effect) := by
  unfold accept
  repeat' first
    | with_reducible apply Keeps.refl
    | with_reducible assumption
    | with_reducible apply Keeps.ite
    | ((with_reducible apply Keeps.step (hf ..)); exact subParts_refl _)
    | ((with_reducible apply Keeps.step (ackOrWait_keeps ..)); exact (subParts_trans rfl hM))
    | ((with_reducible apply Keeps.step (recordAck_keeps ..)); exact (subParts_trans rfl hM))
    | ((with_reducible apply Keeps.step (mirrorCmd_keeps ..)); exact (subParts_trans rfl hM))
    | ((with_reducible apply Keeps.step (journalCmd_keeps ..)); exact (subParts_trans rfl hM))
    | ((with_reducible apply Keeps.step (count_keeps ..)); exact (subParts_trans rfl hM))
    | ((with_reducible apply Keeps.step (stick_keeps ..)); exact (subParts_trans rfl hM))
    | intro _
    | split
    | dsimp only
    | ((try with_reducible conv => arg 3; whnf); (with_reducible apply Keeps.upd); (with_reducible exact Or.inl rfl); (iterate 3 (exact Or.inr (subParts_trans rfl hM))); (iterate 3 (with_reducible exact Or.inl rfl)); (iterate 3 (exact Or.inr (subParts_trans rfl hM))); (with_reducible exact Or.inl rfl); (iterate 2 (exact Or.inr (subParts_trans rfl hM))); (with_reducible exact Or.inl rfl); (iterate 2 (exact Or.inr (subParts_trans rfl hM))); (iterate 6 (with_reducible exact Or.inl rfl)); (with_reducible exact rfl); (with_reducible exact rfl))

theorem sluiceNak_keeps (s : State) (h : Hdr) (code detail : Nat) :
    Keeps [.csr, .freeCtr, .hr] s (sluiceNak s h code detail) := by
  unfold sluiceNak
  repeat' first
    | with_reducible apply Keeps.refl
    | with_reducible assumption
    | with_reducible apply Keeps.ite
    | ((with_reducible apply Keeps.step (nak_keeps ..)); exact rfl)
    | ((with_reducible apply Keeps.step (count_keeps ..)); exact rfl)
    | ((with_reducible apply Keeps.step (stick_keeps ..)); exact rfl)
    | intro _
    | split
    | dsimp only
    | ((try with_reducible conv => arg 3; whnf); (with_reducible apply Keeps.upd); (with_reducible exact Or.inl rfl); (exact Or.inr rfl); (with_reducible exact Or.inl rfl); (exact Or.inr rfl); (iterate 5 (with_reducible exact Or.inl rfl)); (exact Or.inr rfl); (iterate 12 (with_reducible exact Or.inl rfl)); (with_reducible exact rfl); (with_reducible exact rfl))

theorem enterUrgent_keeps (s : State) (jpos nC : Nat) (ws : List (Nat × Nat)) :
    Keeps [.csr, .freeCtr, .slu] s (enterUrgent s jpos nC ws) := by
  unfold enterUrgent
  repeat' first
    | with_reducible apply Keeps.refl
    | with_reducible assumption
    | with_reducible apply Keeps.ite
    | with_reducible apply Keeps.ite_p1
    | with_reducible apply Keeps.ite_p2
    | with_reducible apply Keeps.ite_p22
    | with_reducible apply Keeps.ite_p222
    | ((with_reducible apply Keeps.step (urgentInTime_keeps ..)); exact rfl)
    | ((with_reducible apply Keeps.step (stick_keeps ..)); exact rfl)
    | intro _
    | split
    | dsimp only
    | ((try with_reducible conv => arg 3; whnf); (with_reducible apply Keeps.upd); (with_reducible exact Or.inl rfl); (exact Or.inr rfl); (with_reducible exact Or.inl rfl); (exact Or.inr rfl); (iterate 4 (with_reducible exact Or.inl rfl)); (exact Or.inr rfl); (iterate 13 (with_reducible exact Or.inl rfl)); (with_reducible exact rfl); (with_reducible exact rfl))

theorem serveUrgent_keeps (s : State) (h : Hdr) (op : Nat) (b : List Nat) :
    Keeps [.csr, .mem, .freeCtr, .flood, .slu, .hr, .cv, .bus, .rcu, .redun] s (serveUrgent s h op b) := by
  unfold serveUrgent
  dsimp only
  split
  · exact Keeps.mono (sluiceNak_keeps ..) rfl
  · refine Keeps.ite (Keeps.mono (journalFull_keeps ..) rfl) ?_
    exact accept_keeps rfl (fun _ _ => Keeps.mono (enterUrgent_keeps ..) rfl) ..

theorem serveGroup_keeps (s : State) (h : Hdr) (op : Nat) (b : List Nat) :
    Keeps [.csr, .mem, .freeCtr, .sched, .dsp, .mix, .flood, .slu, .hr, .prf, .cv, .bus, .cores, .rcu, .redun, .rst, .tally, .net, .ser, .boot, .tst] s (serveGroup s h op b) := by
  unfold serveGroup
  dsimp only
  split
  · exact Keeps.mono (nak_keeps ..) rfl
  · split
    · exact Keeps.mono (nak_keeps ..) rfl
    · refine Keeps.ite (Keeps.mono (sluiceNak_keeps ..) rfl) ?_
      split
      · exact Keeps.mono (sluiceNak_keeps ..) rfl
      · split
        · exact Keeps.mono (sluiceNak_keeps ..) rfl
        · refine Keeps.ite (Keeps.mono (journalFull_keeps ..) rfl) ?_
          exact accept_keeps rfl (fun _ _ => enterGroup_keeps rfl (fun _ _ _ => ap_keeps ..) ..) ..

theorem serveTable_keeps (s : State) (h : Hdr) (op : Nat) (b : List Nat) {change : State → State} (hf : ∀ t, Keeps [.hr] t (change t)) :
    Keeps [.csr, .mem, .freeCtr, .flood, .slu, .hr, .cv, .bus, .rcu, .redun] s (serveTable s h op b change) := by
  unfold serveTable
  refine Keeps.ite (Keeps.mono (journalFull_keeps ..) rfl) ?_
  exact accept_keeps rfl (fun t _ => Keeps.step (markApplied_keeps ..) rfl (Keeps.mono (hf t) rfl)) ..

theorem serveNew_keeps (s : State) (h : Hdr) (op : Nat) (b : List Nat) :
    Keeps [.csr, .mem, .freeCtr, .sched, .dsp, .mix, .flood, .slu, .hr, .prf, .cv, .bus, .cores, .rcu, .redun, .rst, .tally, .net, .ser, .boot, .tst] s (serveNew s h op b) := by
  unfold serveNew
  dsimp only
  refine Keeps.ite ?_ (Keeps.ite ?_ (Keeps.ite ?_ (serveGroup_keeps ..)))
  · split
    · exact Keeps.mono (nak_keeps ..) rfl
    · exact Keeps.mono (serveTable_keeps _ _ _ _ (fun _ => applyMeterSub_keeps ..)) rfl
  · exact Keeps.mono (serveTable_keeps _ _ _ _ (fun _ => applyClose_keeps ..)) rfl
  · split
    · exact Keeps.mono (nak_keeps ..) rfl
    · exact Keeps.mono (serveUrgent_keeps ..) rfl

theorem serveAgain_keeps (s : State) (h : Hdr) :
    Keeps [.csr, .freeCtr, .hr] s (serveAgain s h) := by
  unfold serveAgain
  repeat' first
    | with_reducible apply Keeps.refl
    | with_reducible assumption
    | with_reducible apply Keeps.ite
    | ((with_reducible apply Keeps.step (nak_keeps ..)); exact rfl)
    | ((with_reducible apply Keeps.step (sendAck_keeps ..)); exact rfl)
    | intro _
    | split
    | dsimp only
    | ((try with_reducible conv => arg 3; whnf); (with_reducible apply Keeps.upd); (with_reducible exact Or.inl rfl); (exact Or.inr rfl); (with_reducible exact Or.inl rfl); (exact Or.inr rfl); (iterate 5 (with_reducible exact Or.inl rfl)); (exact Or.inr rfl); (iterate 12 (with_reducible exact Or.inl rfl)); (with_reducible exact rfl); (with_reducible exact rfl))

theorem serveSequenced_keeps (s : State) (h : Hdr) (op : Nat) (b : List Nat) :
    Keeps [.csr, .mem, .freeCtr, .sched, .dsp, .mix, .flood, .slu, .hr, .prf, .cv, .bus, .cores, .rcu, .redun, .rst, .tally, .net, .ser, .boot, .tst] s (serveSequenced s h op b) := by
  delta serveSequenced
  try lift_lets
  intros
  repeat' first
    | with_reducible apply Keeps.refl
    | with_reducible assumption
    | with_reducible apply Keeps.ite
    | ((with_reducible apply Keeps.step (serveAgain_keeps ..)); exact rfl)
    | ((with_reducible apply Keeps.step (serveNew_keeps ..)); exact rfl)
    | ((with_reducible apply Keeps.step (nak_keeps ..)); exact rfl)
    | ((with_reducible apply Keeps.step (sendNak_keeps ..)); exact rfl)
    | intro _
    | split
    | dsimp only
    | ((try with_reducible conv => arg 3; whnf); (with_reducible apply Keeps.upd); (with_reducible exact Or.inl rfl); (iterate 21 (exact Or.inr rfl)); (with_reducible exact rfl); (with_reducible exact rfl))

theorem serveOpen_keeps (s : State) (h : Hdr) (b : List Nat) :
    Keeps [.csr, .mem, .freeCtr, .flood, .slu, .hr, .cv, .bus, .rcu, .redun] s (serveOpen s h b) := by
  unfold serveOpen
  repeat' first
    | with_reducible apply Keeps.refl
    | with_reducible assumption
    | with_reducible apply Keeps.ite
    | ((with_reducible apply Keeps.step (ackOrWait_keeps ..)); exact rfl)
    | ((with_reducible apply Keeps.step (journalFull_keeps ..)); exact rfl)
    | ((with_reducible apply Keeps.step (applyOpen_keeps ..)); exact rfl)
    | ((with_reducible apply Keeps.step (mirrorCmd_keeps ..)); exact rfl)
    | ((with_reducible apply Keeps.step (journalCmd_keeps ..)); exact rfl)
    | ((with_reducible apply Keeps.step (markApplied_keeps ..)); exact rfl)
    | ((with_reducible apply Keeps.step (nak_keeps ..)); exact rfl)
    | ((with_reducible apply Keeps.step (sendNak_keeps ..)); exact rfl)
    | intro _
    | split
    | dsimp only
    | ((try with_reducible conv => arg 3; whnf); (with_reducible apply Keeps.upd); (with_reducible exact Or.inl rfl); (iterate 3 (exact Or.inr rfl)); (iterate 3 (with_reducible exact Or.inl rfl)); (iterate 3 (exact Or.inr rfl)); (with_reducible exact Or.inl rfl); (iterate 2 (exact Or.inr rfl)); (with_reducible exact Or.inl rfl); (iterate 2 (exact Or.inr rfl)); (iterate 6 (with_reducible exact Or.inl rfl)); (with_reducible exact rfl); (with_reducible exact rfl))

theorem plainAck_keeps (s : State) (h : Hdr) (nC : Nat) (data : List Nat) :
    Keeps [.hr] s (plainAck s h nC data) := by
  unfold plainAck
  repeat' first
    | with_reducible apply Keeps.refl
    | with_reducible assumption
    | with_reducible apply Keeps.ite
    | ((with_reducible apply Keeps.step (sendAck_keeps ..)); exact rfl)
    | intro _
    | split
    | dsimp only
    | ((try with_reducible conv => arg 3; whnf); (with_reducible apply Keeps.upd); (iterate 9 (with_reducible exact Or.inl rfl)); (exact Or.inr rfl); (iterate 12 (with_reducible exact Or.inl rfl)); (with_reducible exact rfl); (with_reducible exact rfl))

theorem serveRead_keeps (s : State) (h : Hdr) (b : List Nat) :
    Keeps [.csr, .freeCtr, .hr, .net] s (serveRead s h b) := by
  unfold serveRead
  repeat' first
    | with_reducible apply Keeps.refl
    | with_reducible assumption
    | with_reducible apply Keeps.ite
    | with_reducible apply Keeps.ite_p1
    | with_reducible apply Keeps.ite_p2
    | with_reducible apply Keeps.ite_p22
    | with_reducible apply Keeps.ite_p222
    | ((with_reducible apply Keeps.step (plainAck_keeps ..)); exact rfl)
    | ((with_reducible apply Keeps.step (csrReads_keeps ..)); exact rfl)
    | ((with_reducible apply Keeps.step (nak_keeps ..)); exact rfl)
    | intro _
    | split
    | dsimp only
    | ((try with_reducible conv => arg 3; whnf); (with_reducible apply Keeps.upd); (with_reducible exact Or.inl rfl); (exact Or.inr rfl); (with_reducible exact Or.inl rfl); (exact Or.inr rfl); (iterate 5 (with_reducible exact Or.inl rfl)); (exact Or.inr rfl); (iterate 8 (with_reducible exact Or.inl rfl)); (exact Or.inr rfl); (iterate 3 (with_reducible exact Or.inl rfl)); (with_reducible exact rfl); (with_reducible exact rfl))

theorem badMessage_keeps (s : State) (src : Endpoint) (m : List Nat) :
    Keeps [.csr, .freeCtr, .hr] s (badMessage s src m) := by
  unfold badMessage
  repeat' first
    | with_reducible apply Keeps.refl
    | with_reducible assumption
    | with_reducible apply Keeps.ite
    | ((with_reducible apply Keeps.step (takeRx_keeps (by assumption))); exact rfl)
    | ((with_reducible apply Keeps.step (rxSump_keeps ..)); exact rfl)
    | ((with_reducible apply Keeps.step (nak_keeps ..)); exact rfl)
    | intro _
    | split
    | dsimp only
    | ((try with_reducible conv => arg 3; whnf); (with_reducible apply Keeps.upd); (with_reducible exact Or.inl rfl); (exact Or.inr rfl); (with_reducible exact Or.inl rfl); (exact Or.inr rfl); (iterate 5 (with_reducible exact Or.inl rfl)); (exact Or.inr rfl); (iterate 12 (with_reducible exact Or.inl rfl)); (with_reducible exact rfl); (with_reducible exact rfl))

theorem surfWrite_keeps (s : State) (m : List Nat) :
    Keeps [.csr, .freeCtr, .hr] s (surfWrite s m) := by
  unfold surfWrite
  repeat' first
    | with_reducible apply Keeps.refl
    | with_reducible assumption
    | with_reducible apply Keeps.ite
    | ((with_reducible apply Keeps.step (queueRx_keeps ..)); exact rfl)
    | ((with_reducible apply Keeps.step (rxSump_keeps ..)); exact rfl)
    | intro _
    | split
    | dsimp only
    | ((try with_reducible conv => arg 3; whnf); (with_reducible apply Keeps.upd); (with_reducible exact Or.inl rfl); (exact Or.inr rfl); (with_reducible exact Or.inl rfl); (exact Or.inr rfl); (iterate 5 (with_reducible exact Or.inl rfl)); (exact Or.inr rfl); (iterate 12 (with_reducible exact Or.inl rfl)); (with_reducible exact rfl); (with_reducible exact rfl))

theorem surfStatus_keeps (s : State) :
    Keeps [.hr] s (surfStatus s) := by
  unfold surfStatus
  repeat' first
    | with_reducible apply Keeps.refl
    | with_reducible assumption
    | with_reducible apply Keeps.ite
    | with_reducible apply Keeps.ite_p1
    | with_reducible apply Keeps.ite_p2
    | with_reducible apply Keeps.ite_p22
    | with_reducible apply Keeps.ite_p222
    | ((with_reducible apply Keeps.step (takeOut_keeps (by assumption))); exact rfl)
    | intro _
    | split
    | dsimp only
    | ((try with_reducible conv => arg 3; whnf); (with_reducible apply Keeps.upd); (iterate 9 (with_reducible exact Or.inl rfl)); (exact Or.inr rfl); (iterate 12 (with_reducible exact Or.inl rfl)); (with_reducible exact rfl); (with_reducible exact rfl))

theorem surfRead_keeps (s : State) (n : Nat) :
    Keeps [.hr] s (surfRead s n) := by
  unfold surfRead
  repeat' first
    | with_reducible apply Keeps.refl
    | with_reducible assumption
    | with_reducible apply Keeps.ite
    | with_reducible apply Keeps.ite_p1
    | with_reducible apply Keeps.ite_p2
    | with_reducible apply Keeps.ite_p22
    | with_reducible apply Keeps.ite_p222
    | ((with_reducible apply Keeps.step (takeOut_keeps (by assumption))); exact rfl)
    | intro _
    | split
    | dsimp only
    | ((try with_reducible conv => arg 3; whnf); (with_reducible apply Keeps.upd); (iterate 9 (with_reducible exact Or.inl rfl)); (exact Or.inr rfl); (iterate 12 (with_reducible exact Or.inl rfl)); (with_reducible exact rfl); (with_reducible exact rfl))

theorem mirrorAck_keeps (s : State) (jpos : Nat) :
    Keeps [.csr, .freeCtr, .slu, .hr] s (mirrorAck s jpos) := by
  unfold mirrorAck
  repeat' first
    | with_reducible apply Keeps.refl
    | with_reducible assumption
    | with_reducible apply Keeps.ite
    | ((with_reducible apply Keeps.step (ackUpTo_keeps ..)); exact rfl)
    | intro _
    | split
    | dsimp only
    | ((try with_reducible conv => arg 3; whnf); (with_reducible apply Keeps.upd); (with_reducible exact Or.inl rfl); (exact Or.inr rfl); (with_reducible exact Or.inl rfl); (exact Or.inr rfl); (iterate 4 (with_reducible exact Or.inl rfl)); (iterate 2 (exact Or.inr rfl)); (iterate 12 (with_reducible exact Or.inl rfl)); (with_reducible exact rfl); (with_reducible exact rfl))

theorem mirrorTimeout_keeps (s : State) :
    Keeps [.csr, .freeCtr, .slu, .hr, .redun] s (mirrorTimeout s) := by
  unfold mirrorTimeout
  repeat' first
    | with_reducible apply Keeps.refl
    | with_reducible assumption
    | with_reducible apply Keeps.ite
    | ((with_reducible apply Keeps.step (peerLost_keeps ..)); exact rfl)
    | ((with_reducible apply Keeps.step (stick_keeps ..)); exact rfl)
    | intro _
    | split
    | dsimp only
    | ((try with_reducible conv => arg 3; whnf); (with_reducible apply Keeps.upd); (with_reducible exact Or.inl rfl); (exact Or.inr rfl); (with_reducible exact Or.inl rfl); (exact Or.inr rfl); (iterate 4 (with_reducible exact Or.inl rfl)); (iterate 2 (exact Or.inr rfl)); (iterate 5 (with_reducible exact Or.inl rfl)); (exact Or.inr rfl); (iterate 6 (with_reducible exact Or.inl rfl)); (with_reducible exact rfl); (with_reducible exact rfl))

end Sys2Proof.Machine
end

