-- ==== Sys2Proof/Laws/KeepXbar.lean ====
section
/-! SUPPORT. What each operation of Machine/Xbar.lean may change. -/
namespace Sys2Proof.Machine

theorem csrWord_keeps (s : State) (off : Nat) :
    Keeps [.csr, .freeCtr, .net] s (csrWord s off).2 := by
  unfold csrWord
  repeat' first
    | with_reducible apply Keeps.refl
    | with_reducible assumption
    | with_reducible apply Keeps.ite
    | with_reducible apply Keeps.ite_p1
    | with_reducible apply Keeps.ite_p2
    | with_reducible apply Keeps.ite_p22
    | with_reducible apply Keeps.ite_p222
    | ((with_reducible apply Keeps.step (csrRead_keeps ..)); exact rfl)
    | ((with_reducible apply Keeps.step (freshFree_keeps ..)); exact rfl)
    | intro _
    | split
    | dsimp only
    | ((try with_reducible conv => arg 3; whnf); (with_reducible apply Keeps.upd); (with_reducible exact Or.inl rfl); (exact Or.inr rfl); (with_reducible exact Or.inl rfl); (exact Or.inr rfl); (iterate 14 (with_reducible exact Or.inl rfl)); (exact Or.inr rfl); (iterate 3 (with_reducible exact Or.inl rfl)); (with_reducible exact rfl); (with_reducible exact rfl))

theorem csrBytes_keeps (n off : Nat) (s : State) : Keeps [.csr, .freeCtr, .net] s (csrBytes n off s).2 := by
  induction n generalizing off s with
  | zero => exact Keeps.refl _ _
  | succ n ih => exact Keeps.step (ih _ _) rfl (csrWord_keeps ..)

theorem csrDo_keeps (s : State) (r : BusReq) :
    Keeps [.csr, .mem, .freeCtr, .sched, .dsp, .mix, .flood, .slu, .hr, .prf, .cv, .bus, .cores, .rcu, .redun, .rst, .tally, .net, .ser, .boot, .tst] s (csrDo s r).st := by
  unfold csrDo
  repeat' first
    | with_reducible apply Keeps.refl
    | with_reducible assumption
    | with_reducible apply Keeps.ite
    | with_reducible apply Keeps.ite_p1
    | with_reducible apply Keeps.ite_p2
    | with_reducible apply Keeps.ite_p22
    | with_reducible apply Keeps.ite_p222
    | with_reducible apply Keeps.foldl
    | with_reducible apply Keeps.foldl_fst
    | with_reducible apply Keeps.foldl_snd
    | with_reducible apply Keeps.foldl_snd2
    | ((with_reducible apply Keeps.step (csrBytes_keeps ..)); exact rfl)
    | ((with_reducible apply Keeps.step (regWriteAs_keeps ..)); exact rfl)
    | intro _
    | split
    | dsimp only
    | ((try with_reducible conv => arg 3; whnf); (with_reducible apply Keeps.upd); (with_reducible exact Or.inl rfl); (iterate 21 (exact Or.inr rfl)); (with_reducible exact rfl); (with_reducible exact rfl))

theorem busAccess_keeps (s : State) (r : BusReq) :
    Keeps [.csr, .mem, .freeCtr, .sched, .dsp, .mix, .flood, .slu, .hr, .prf, .cv, .bus, .cores, .rcu, .redun, .rst, .tally, .net, .ser, .boot, .tst] s (busAccess s r).st := by
  unfold busAccess
  repeat' first
    | with_reducible apply Keeps.refl
    | with_reducible assumption
    | with_reducible apply Keeps.ite
    | ((with_reducible apply Keeps.step (csrDo_keeps ..)); exact rfl)
    | ((with_reducible apply Keeps.step (memAccess_keeps ..)); exact rfl)
    | intro _
    | split
    | dsimp only
    | ((try with_reducible conv => arg 3; whnf); (with_reducible apply Keeps.upd); (with_reducible exact Or.inl rfl); (iterate 21 (exact Or.inr rfl)); (with_reducible exact rfl); (with_reducible exact rfl))

theorem busBurst_keeps (s : State) (r : BusReq) :
    Keeps [.csr, .mem, .freeCtr, .sched, .dsp, .mix, .flood, .slu, .hr, .prf, .cv, .bus, .cores, .rcu, .redun, .rst, .tally, .net, .ser, .boot, .tst] s (busBurst s r).st :=
  atBoundary_keeps busAccess_keeps rfl s r

theorem serveAny_keeps (s : State) (w : BusWait) : Keeps [.csr, .mem, .freeCtr, .sched, .dsp, .mix, .flood, .slu, .hr, .prf, .cv, .bus, .cores, .rcu, .redun, .rst, .tally, .net, .ser, .boot, .tst] s (serveAny s w) := by
  unfold serveAny
  exact Keeps.ite (Keeps.step (Keeps.bus ..) rfl (Keeps.mono (granted_keeps ..) rfl))
    (Keeps.mono (serveBurst_keeps busBurst_keeps rfl ..) rfl)

theorem grantAll_keeps (n : Nat) (s : State) (ws : List BusWait) :
    Keeps [.csr, .mem, .freeCtr, .sched, .dsp, .mix, .flood, .slu, .hr, .prf, .cv, .bus, .cores, .rcu, .redun, .rst, .tally, .net, .ser, .boot, .tst] s (grantAll n s ws) := by
  induction n generalizing s ws with
  | zero => exact Keeps.refl _ _
  | succ n ih =>
    unfold grantAll
    split
    · exact Keeps.refl _ _
    · exact Keeps.step (ih _ _) rfl (Keeps.ite (Keeps.mono (enqueueWait_keeps ..) rfl) (Keeps.mono (serveAny_keeps ..) rfl))

theorem portBLate_keeps (s0 : State) (ws : List BusWait) (s : State) (b : BusWait) :
    Keeps [.csr, .mem, .freeCtr, .flood, .slu, .hr, .prf, .cv, .bus, .rcu, .redun] s (portBLate s0 ws s b) := by
  unfold portBLate
  exact Keeps.step (serveOrWait_keeps ..) rfl (Keeps.ite (Keeps.mono (collide_keeps ..) rfl) (Keeps.refl _ _))

theorem xbarCycle_keeps (s : State) (rs : List BusReq) :
    Keeps [.csr, .mem, .freeCtr, .sched, .dsp, .mix, .flood, .slu, .hr, .prf, .cv, .bus, .cores, .rcu, .redun, .rst, .tally, .net, .ser, .boot, .tst] s (xbarCycle s rs) := by
  unfold xbarCycle
  refine Keeps.step (grantAll_keeps ..) rfl ?_
  refine Keeps.foldl (fun _ _ => Keeps.mono (portBLate_keeps ..) rfl) ?_
  refine Keeps.foldl (fun _ _ => Keeps.mono (serveAny_keeps ..) rfl) ?_
  refine Keeps.foldl (fun _ _ => Keeps.mono (serveOrWait_keeps ..) rfl) ?_
  refine Keeps.foldl (fun _ _ => Keeps.mono (serveOrWait_keeps ..) rfl) ?_
  refine Keeps.foldl (fun _ _ => Keeps.mono (enqueueWait_keeps ..) rfl) ?_
  exact Keeps.mono (Keeps.bus ..) rfl

theorem execPstoreWindowWrite_keeps (m addr : Nat) (v : Word) (s : State) :
    ∃ s', execPstoreWindowWrite m addr v s = .next s' ∧ Keeps [.csr, .mem, .freeCtr, .sched, .dsp, .mix, .flood, .slu, .hr, .prf, .cv, .bus, .cores, .rcu, .redun, .rst, .tally, .net, .ser, .boot, .tst] s s' := by
  unfold execPstoreWindowWrite
  refine ⟨_, rfl, ?_⟩
  repeat' first
    | with_reducible apply Keeps.refl
    | with_reducible assumption
    | with_reducible apply Keeps.ite
    | ((with_reducible apply Keeps.step (xbarCycle_keeps ..)); exact rfl)
    | intro _
    | split
    | dsimp only
    | ((try with_reducible conv => arg 3; whnf); (with_reducible apply Keeps.upd); (with_reducible exact Or.inl rfl); (iterate 21 (exact Or.inr rfl)); (with_reducible exact rfl); (with_reducible exact rfl))

theorem execXbarAccess_keeps (reqs : List BusReq) (s : State) :
    ∃ s', execXbarAccess reqs s = .next s' ∧ Keeps [.csr, .mem, .freeCtr, .sched, .dsp, .mix, .flood, .slu, .hr, .prf, .cv, .bus, .cores, .rcu, .redun, .rst, .tally, .net, .ser, .boot, .tst] s s' := by
  unfold execXbarAccess
  refine ⟨_, rfl, ?_⟩
  repeat' first
    | with_reducible apply Keeps.refl
    | with_reducible assumption
    | with_reducible apply Keeps.ite
    | ((with_reducible apply Keeps.step (xbarCycle_keeps ..)); exact rfl)
    | intro _
    | split
    | dsimp only
    | ((try with_reducible conv => arg 3; whnf); (with_reducible apply Keeps.upd); (with_reducible exact Or.inl rfl); (iterate 21 (exact Or.inr rfl)); (with_reducible exact rfl); (with_reducible exact rfl))

theorem execXbarLockedRead_keeps (m a n : Nat) (s : State) :
    ∃ s', execXbarLockedRead m a n s = .next s' ∧ Keeps [.csr, .mem, .freeCtr, .flood, .slu, .hr, .prf, .cv, .bus, .rcu, .redun] s s' := by
  unfold execXbarLockedRead
  refine ⟨_, rfl, ?_⟩
  repeat' first
    | with_reducible apply Keeps.refl
    | with_reducible assumption
    | with_reducible apply Keeps.ite
    | ((with_reducible apply Keeps.step (lockedRead_keeps ..)); exact rfl)
    | intro _
    | split
    | dsimp only
    | ((try with_reducible conv => arg 3; whnf); (with_reducible apply Keeps.upd); (with_reducible exact Or.inl rfl); (iterate 3 (exact Or.inr rfl)); (iterate 3 (with_reducible exact Or.inl rfl)); (iterate 6 (exact Or.inr rfl)); (with_reducible exact Or.inl rfl); (iterate 2 (exact Or.inr rfl)); (iterate 6 (with_reducible exact Or.inl rfl)); (with_reducible exact rfl); (with_reducible exact rfl))

theorem execXbarUnlockWrite_keeps (m a : Nat) (data : List Nat) (s : State) :
    ∃ s', execXbarUnlockWrite m a data s = .next s' ∧ Keeps [.csr, .mem, .freeCtr, .flood, .slu, .hr, .prf, .cv, .bus, .rcu, .redun] s s' := by
  unfold execXbarUnlockWrite
  refine ⟨_, rfl, ?_⟩
  repeat' first
    | with_reducible apply Keeps.refl
    | with_reducible assumption
    | with_reducible apply Keeps.ite
    | ((with_reducible apply Keeps.step (unlockWrite_keeps ..)); exact rfl)
    | intro _
    | split
    | dsimp only
    | ((try with_reducible conv => arg 3; whnf); (with_reducible apply Keeps.upd); (with_reducible exact Or.inl rfl); (iterate 3 (exact Or.inr rfl)); (iterate 3 (with_reducible exact Or.inl rfl)); (iterate 6 (exact Or.inr rfl)); (with_reducible exact Or.inl rfl); (iterate 2 (exact Or.inr rfl)); (iterate 6 (with_reducible exact Or.inl rfl)); (with_reducible exact rfl); (with_reducible exact rfl))

theorem execRsvEccWriteback_keeps (addr : Nat) (s : State) :
    ∃ s', execRsvEccWriteback addr s = .next s' ∧ Keeps [.bus] s s' := by
  unfold execRsvEccWriteback
  refine ⟨_, rfl, ?_⟩
  repeat' first
    | with_reducible apply Keeps.refl
    | with_reducible assumption
    | with_reducible apply Keeps.ite
    | ((with_reducible apply Keeps.step (eccWriteback_keeps ..)); exact rfl)
    | intro _
    | split
    | dsimp only
    | ((try with_reducible conv => arg 3; whnf); (with_reducible apply Keeps.upd); (iterate 12 (with_reducible exact Or.inl rfl)); (exact Or.inr rfl); (iterate 9 (with_reducible exact Or.inl rfl)); (with_reducible exact rfl); (with_reducible exact rfl))

theorem execScratchEccWriteback_keeps (addr : Nat) (s : State) :
    ∃ s', execScratchEccWriteback addr s = .next s' ∧ Keeps [.bus] s s' := by
  unfold execScratchEccWriteback
  refine ⟨_, rfl, ?_⟩
  repeat' first
    | with_reducible apply Keeps.refl
    | with_reducible assumption
    | with_reducible apply Keeps.ite
    | ((with_reducible apply Keeps.step (eccWriteback_keeps ..)); exact rfl)
    | intro _
    | split
    | dsimp only
    | ((try with_reducible conv => arg 3; whnf); (with_reducible apply Keeps.upd); (iterate 12 (with_reducible exact Or.inl rfl)); (exact Or.inr rfl); (iterate 9 (with_reducible exact Or.inl rfl)); (with_reducible exact rfl); (with_reducible exact rfl))

theorem execScrubRead_keeps (busy : List Nat) (s : State) :
    ∃ s', execScrubRead busy s = .next s' ∧ Keeps [.csr, .freeCtr, .flood, .slu, .hr, .cv, .bus, .rcu, .redun] s s' := by
  unfold execScrubRead
  refine ⟨_, rfl, ?_⟩
  repeat' first
    | with_reducible apply Keeps.refl
    | with_reducible assumption
    | with_reducible apply Keeps.ite
    | ((with_reducible apply Keeps.step (scrubRead_keeps ..)); exact rfl)
    | intro _
    | split
    | dsimp only
    | ((try with_reducible conv => arg 3; whnf); (with_reducible apply Keeps.upd); (with_reducible exact Or.inl rfl); (exact Or.inr rfl); (with_reducible exact Or.inl rfl); (exact Or.inr rfl); (iterate 3 (with_reducible exact Or.inl rfl)); (iterate 3 (exact Or.inr rfl)); (with_reducible exact Or.inl rfl); (iterate 2 (exact Or.inr rfl)); (with_reducible exact Or.inl rfl); (iterate 2 (exact Or.inr rfl)); (iterate 6 (with_reducible exact Or.inl rfl)); (with_reducible exact rfl); (with_reducible exact rfl))

theorem execRsvHandoverWrite_keeps (v : Word) (s : State) :
    ∃ s', execRsvHandoverWrite v s = .next s' ∧ Keeps [.csr, .bus] s s' := by
  unfold execRsvHandoverWrite
  refine ⟨_, rfl, ?_⟩
  repeat' first
    | with_reducible apply Keeps.refl
    | with_reducible assumption
    | with_reducible apply Keeps.ite
    | ((with_reducible apply Keeps.step (handoverWrite_keeps ..)); exact rfl)
    | intro _
    | split
    | dsimp only
    | ((try with_reducible conv => arg 3; whnf); (with_reducible apply Keeps.upd); (with_reducible exact Or.inl rfl); (exact Or.inr rfl); (iterate 10 (with_reducible exact Or.inl rfl)); (exact Or.inr rfl); (iterate 9 (with_reducible exact Or.inl rfl)); (with_reducible exact rfl); (with_reducible exact rfl))

theorem execHandoverComplete_keeps (s : State) :
    ∃ s', execHandoverComplete s = .next s' ∧ Keeps [.csr, .mem, .freeCtr, .flood, .slu, .hr, .prf, .cv, .bus, .rcu, .redun] s s' := by
  unfold execHandoverComplete
  refine ⟨_, rfl, ?_⟩
  repeat' first
    | with_reducible apply Keeps.refl
    | with_reducible assumption
    | with_reducible apply Keeps.ite
    | ((with_reducible apply Keeps.step (handoverComplete_keeps ..)); exact rfl)
    | intro _
    | split
    | dsimp only
    | ((try with_reducible conv => arg 3; whnf); (with_reducible apply Keeps.upd); (with_reducible exact Or.inl rfl); (iterate 3 (exact Or.inr rfl)); (iterate 3 (with_reducible exact Or.inl rfl)); (iterate 6 (exact Or.inr rfl)); (with_reducible exact Or.inl rfl); (iterate 2 (exact Or.inr rfl)); (iterate 6 (with_reducible exact Or.inl rfl)); (with_reducible exact rfl); (with_reducible exact rfl))

theorem execRsvMbistGo_keeps (v : Word) (s : State) :
    ∃ s', execRsvMbistGo v s = .next s' ∧ Keeps [.csr, .bus] s s' := by
  unfold execRsvMbistGo
  refine ⟨_, rfl, ?_⟩
  repeat' first
    | with_reducible apply Keeps.refl
    | with_reducible assumption
    | with_reducible apply Keeps.ite
    | ((with_reducible apply Keeps.step (mbistWrite_keeps ..)); exact rfl)
    | intro _
    | split
    | dsimp only
    | ((try with_reducible conv => arg 3; whnf); (with_reducible apply Keeps.upd); (with_reducible exact Or.inl rfl); (exact Or.inr rfl); (iterate 10 (with_reducible exact Or.inl rfl)); (exact Or.inr rfl); (iterate 9 (with_reducible exact Or.inl rfl)); (with_reducible exact rfl); (with_reducible exact rfl))

theorem execMbistComplete_keeps (rows cols : Nat) (bad : Bool) (s : State) :
    ∃ s', execMbistComplete rows cols bad s = .next s' ∧ Keeps [.csr, .mem, .bus] s s' := by
  unfold execMbistComplete
  refine ⟨_, rfl, ?_⟩
  repeat' first
    | with_reducible apply Keeps.refl
    | with_reducible assumption
    | with_reducible apply Keeps.ite
    | ((with_reducible apply Keeps.step (mbistComplete_keeps ..)); exact rfl)
    | intro _
    | split
    | dsimp only
    | ((try with_reducible conv => arg 3; whnf); (with_reducible apply Keeps.upd); (with_reducible exact Or.inl rfl); (iterate 2 (exact Or.inr rfl)); (iterate 9 (with_reducible exact Or.inl rfl)); (exact Or.inr rfl); (iterate 9 (with_reducible exact Or.inl rfl)); (with_reducible exact rfl); (with_reducible exact rfl))

end Sys2Proof.Machine
end

