-- ==== Sys2Proof/Laws/KeepBulk.lean ====
section
/-! SUPPORT. What each operation of Machine/Bulk.lean may change. -/
namespace Sys2Proof.Machine

theorem flashErase_keeps (s : State) (a n : Nat) : Keeps [.mem] s (flashErase s a n) :=
  ⟨fun p hp => by cases p <;> first | exact rfl | exact absurd (by decide) hp,
    State.Inv.mem (fun h => Memory.wf_filter _ h) rfl⟩

theorem putUpd_keeps (s : State) (u : Upd) :
    Keeps [.boot] s (putUpd s u) := by
  unfold putUpd
  repeat' first
    | with_reducible apply Keeps.refl
    | with_reducible assumption
    | with_reducible apply Keeps.ite
    | intro _
    | split
    | dsimp only
    | ((try with_reducible conv => arg 3; whnf); (with_reducible apply Keeps.upd); (iterate 20 (with_reducible exact Or.inl rfl)); (exact Or.inr rfl); (with_reducible exact Or.inl rfl); (with_reducible exact rfl); (with_reducible exact rfl))

theorem bulkAck_keeps (s : State) (h : Hdr) :
    Keeps [.hr] s (bulkAck s h) := by
  unfold bulkAck
  repeat' first
    | with_reducible apply Keeps.refl
    | with_reducible assumption
    | with_reducible apply Keeps.ite
    | ((with_reducible apply Keeps.step (plainAck_keeps ..)); exact rfl)
    | intro _
    | split
    | dsimp only
    | ((try with_reducible conv => arg 3; whnf); (with_reducible apply Keeps.upd); (iterate 9 (with_reducible exact Or.inl rfl)); (exact Or.inr rfl); (iterate 12 (with_reducible exact Or.inl rfl)); (with_reducible exact rfl); (with_reducible exact rfl))

theorem bulkNak_keeps (s : State) (h : Hdr) (reason : Nat) :
    Keeps [.csr, .freeCtr, .hr] s (bulkNak s h reason) := by
  unfold bulkNak
  repeat' first
    | with_reducible apply Keeps.refl
    | with_reducible assumption
    | with_reducible apply Keeps.ite
    | ((with_reducible apply Keeps.step (nak_keeps ..)); exact rfl)
    | intro _
    | split
    | dsimp only
    | ((try with_reducible conv => arg 3; whnf); (with_reducible apply Keeps.upd); (with_reducible exact Or.inl rfl); (exact Or.inr rfl); (with_reducible exact Or.inl rfl); (exact Or.inr rfl); (iterate 5 (with_reducible exact Or.inl rfl)); (exact Or.inr rfl); (iterate 12 (with_reducible exact Or.inl rfl)); (with_reducible exact rfl); (with_reducible exact rfl))

theorem bulkDo_keeps {M : List Part} {f : State → State} (hM : subParts [.csr, .freeCtr, .hr] M = true) (hf : ∀ y0, Keeps M y0 (f y0)) (s : State) (h : Hdr) (refuse : Option Nat) :
    Keeps M s (bulkDo s h refuse f) := by
  unfold bulkDo
  repeat' first
    | with_reducible apply Keeps.refl
    | with_reducible assumption
    | with_reducible apply Keeps.ite
    | ((with_reducible apply Keeps.step (hf ..)); exact subParts_refl _)
    | ((with_reducible apply Keeps.step (bulkNak_keeps ..)); exact (subParts_trans rfl hM))
    | ((with_reducible apply Keeps.step (bulkAck_keeps ..)); exact (subParts_trans rfl hM))
    | intro _
    | split
    | dsimp only
    | ((try with_reducible conv => arg 3; whnf); (with_reducible apply Keeps.upd); (with_reducible exact Or.inl rfl); (exact Or.inr (subParts_trans rfl hM)); (with_reducible exact Or.inl rfl); (exact Or.inr (subParts_trans rfl hM)); (iterate 5 (with_reducible exact Or.inl rfl)); (exact Or.inr (subParts_trans rfl hM)); (iterate 12 (with_reducible exact Or.inl rfl)); (with_reducible exact rfl); (with_reducible exact rfl))

theorem bulkClone_keeps (s : State) (h : Hdr) :
    Keeps [.csr, .freeCtr, .hr, .boot] s (bulkClone s h) := by
  unfold bulkClone
  repeat' first
    | with_reducible apply Keeps.refl
    | with_reducible assumption
    | with_reducible apply Keeps.ite
    | ((with_reducible apply Keeps.step (putUpd_keeps ..)); exact rfl)
    | ((with_reducible apply bulkDo_keeps); exact rfl)
    | intro _
    | split
    | dsimp only
    | ((try with_reducible conv => arg 3; whnf); (with_reducible apply Keeps.upd); (with_reducible exact Or.inl rfl); (exact Or.inr rfl); (with_reducible exact Or.inl rfl); (exact Or.inr rfl); (iterate 5 (with_reducible exact Or.inl rfl)); (exact Or.inr rfl); (iterate 10 (with_reducible exact Or.inl rfl)); (exact Or.inr rfl); (with_reducible exact Or.inl rfl); (with_reducible exact rfl); (with_reducible exact rfl))

theorem bulkBegin_keeps (s : State) (h : Hdr) (x : BulkHdr) :
    Keeps [.csr, .mem, .freeCtr, .hr, .bus, .boot] s (bulkBegin s h x) := by
  unfold bulkBegin
  repeat' first
    | with_reducible apply Keeps.refl
    | with_reducible assumption
    | with_reducible apply Keeps.ite
    | ((with_reducible apply Keeps.step (putUpd_keeps ..)); exact rfl)
    | ((with_reducible apply Keeps.step (flashErase_keeps ..)); exact rfl)
    | ((with_reducible apply Keeps.step (manifestSet_keeps ..)); exact rfl)
    | ((with_reducible apply bulkDo_keeps); exact rfl)
    | intro _
    | split
    | dsimp only
    | ((try with_reducible conv => arg 3; whnf); (with_reducible apply Keeps.upd); (with_reducible exact Or.inl rfl); (iterate 3 (exact Or.inr rfl)); (iterate 5 (with_reducible exact Or.inl rfl)); (exact Or.inr rfl); (iterate 2 (with_reducible exact Or.inl rfl)); (exact Or.inr rfl); (iterate 7 (with_reducible exact Or.inl rfl)); (exact Or.inr rfl); (with_reducible exact Or.inl rfl); (with_reducible exact rfl); (with_reducible exact rfl))

theorem bulkData_keeps (s : State) (h : Hdr) (x : BulkHdr) (d : List Nat) (drained : Nat) :
    Keeps [.csr, .mem, .freeCtr, .hr, .bus, .boot] s (bulkData s h x d drained) := by
  unfold bulkData
  repeat' first
    | with_reducible apply Keeps.refl
    | with_reducible assumption
    | with_reducible apply Keeps.ite
    | ((with_reducible apply Keeps.step (putUpd_keeps ..)); exact rfl)
    | ((with_reducible apply Keeps.step (writeBytes_keeps ..)); exact rfl)
    | ((with_reducible apply bulkDo_keeps); exact rfl)
    | intro _
    | split
    | dsimp only
    | ((try with_reducible conv => arg 3; whnf); (with_reducible apply Keeps.upd); (with_reducible exact Or.inl rfl); (iterate 3 (exact Or.inr rfl)); (iterate 5 (with_reducible exact Or.inl rfl)); (exact Or.inr rfl); (iterate 2 (with_reducible exact Or.inl rfl)); (exact Or.inr rfl); (iterate 7 (with_reducible exact Or.inl rfl)); (exact Or.inr rfl); (with_reducible exact Or.inl rfl); (with_reducible exact rfl); (with_reducible exact rfl))

theorem bulkEnd_keeps (s : State) (h : Hdr) (x : BulkHdr) :
    Keeps [.csr, .freeCtr, .hr, .boot] s (bulkEnd s h x) := by
  unfold bulkEnd
  repeat' first
    | with_reducible apply Keeps.refl
    | with_reducible assumption
    | with_reducible apply Keeps.ite
    | ((with_reducible apply Keeps.step (putUpd_keeps ..)); exact rfl)
    | ((with_reducible apply bulkDo_keeps); exact rfl)
    | intro _
    | split
    | dsimp only
    | ((try with_reducible conv => arg 3; whnf); (with_reducible apply Keeps.upd); (with_reducible exact Or.inl rfl); (exact Or.inr rfl); (with_reducible exact Or.inl rfl); (exact Or.inr rfl); (iterate 5 (with_reducible exact Or.inl rfl)); (exact Or.inr rfl); (iterate 10 (with_reducible exact Or.inl rfl)); (exact Or.inr rfl); (with_reducible exact Or.inl rfl); (with_reducible exact rfl); (with_reducible exact rfl))

theorem bulkAbort_keeps (s : State) (h : Hdr) (x : BulkHdr) :
    Keeps [.csr, .freeCtr, .hr, .boot] s (bulkAbort s h x) := by
  unfold bulkAbort
  repeat' first
    | with_reducible apply Keeps.refl
    | with_reducible assumption
    | with_reducible apply Keeps.ite
    | ((with_reducible apply Keeps.step (putUpd_keeps ..)); exact rfl)
    | ((with_reducible apply bulkDo_keeps); exact rfl)
    | intro _
    | split
    | dsimp only
    | ((try with_reducible conv => arg 3; whnf); (with_reducible apply Keeps.upd); (with_reducible exact Or.inl rfl); (exact Or.inr rfl); (with_reducible exact Or.inl rfl); (exact Or.inr rfl); (iterate 5 (with_reducible exact Or.inl rfl)); (exact Or.inr rfl); (iterate 10 (with_reducible exact Or.inl rfl)); (exact Or.inr rfl); (with_reducible exact Or.inl rfl); (with_reducible exact rfl); (with_reducible exact rfl))

theorem bulkArm_keeps (s : State) (h : Hdr) (tries : Nat) :
    Keeps [.csr, .freeCtr, .hr, .prf] s (bulkArm s h tries) := by
  unfold bulkArm
  repeat' first
    | with_reducible apply Keeps.refl
    | with_reducible assumption
    | with_reducible apply Keeps.ite
    | ((with_reducible apply Keeps.step (prfWrite_keeps ..)); exact rfl)
    | ((with_reducible apply bulkDo_keeps); exact rfl)
    | intro _
    | split
    | dsimp only
    | ((try with_reducible conv => arg 3; whnf); (with_reducible apply Keeps.upd); (with_reducible exact Or.inl rfl); (exact Or.inr rfl); (with_reducible exact Or.inl rfl); (exact Or.inr rfl); (iterate 5 (with_reducible exact Or.inl rfl)); (iterate 2 (exact Or.inr rfl)); (iterate 11 (with_reducible exact Or.inl rfl)); (with_reducible exact rfl); (with_reducible exact rfl))

theorem bulkConfirm_keeps (s : State) (h : Hdr) :
    Keeps [.csr, .freeCtr, .hr, .prf, .boot] s (bulkConfirm s h) := by
  unfold bulkConfirm
  repeat' first
    | with_reducible apply Keeps.refl
    | with_reducible assumption
    | with_reducible apply Keeps.ite
    | ((with_reducible apply Keeps.step (prfWrite_keeps ..)); exact rfl)
    | ((with_reducible apply Keeps.step (setF_keeps ..)); exact rfl)
    | ((with_reducible apply bulkDo_keeps); exact rfl)
    | intro _
    | split
    | dsimp only
    | ((try with_reducible conv => arg 3; whnf); (with_reducible apply Keeps.upd); (with_reducible exact Or.inl rfl); (exact Or.inr rfl); (with_reducible exact Or.inl rfl); (exact Or.inr rfl); (iterate 5 (with_reducible exact Or.inl rfl)); (iterate 2 (exact Or.inr rfl)); (iterate 9 (with_reducible exact Or.inl rfl)); (exact Or.inr rfl); (with_reducible exact Or.inl rfl); (with_reducible exact rfl); (with_reducible exact rfl))

theorem bulkRollback_keeps (s : State) (h : Hdr) :
    Keeps [.csr, .freeCtr, .hr, .boot] s (bulkRollback s h) := by
  unfold bulkRollback
  repeat' first
    | with_reducible apply Keeps.refl
    | with_reducible assumption
    | with_reducible apply Keeps.ite
    | ((with_reducible apply Keeps.step (stick_keeps ..)); exact rfl)
    | ((with_reducible apply bulkDo_keeps); exact rfl)
    | intro _
    | split
    | dsimp only
    | ((try with_reducible conv => arg 3; whnf); (with_reducible apply Keeps.upd); (with_reducible exact Or.inl rfl); (exact Or.inr rfl); (with_reducible exact Or.inl rfl); (exact Or.inr rfl); (iterate 5 (with_reducible exact Or.inl rfl)); (exact Or.inr rfl); (iterate 10 (with_reducible exact Or.inl rfl)); (exact Or.inr rfl); (with_reducible exact Or.inl rfl); (with_reducible exact rfl); (with_reducible exact rfl))

theorem bulkRestart_keeps (s : State) (h : Hdr) :
    Keeps [.csr, .freeCtr, .hr, .rst] s (bulkRestart s h) := by
  unfold bulkRestart
  repeat' first
    | with_reducible apply Keeps.refl
    | with_reducible assumption
    | with_reducible apply Keeps.ite
    | ((with_reducible apply bulkDo_keeps); exact rfl)
    | intro _
    | split
    | dsimp only
    | ((try with_reducible conv => arg 3; whnf); (with_reducible apply Keeps.upd); (with_reducible exact Or.inl rfl); (exact Or.inr rfl); (with_reducible exact Or.inl rfl); (exact Or.inr rfl); (iterate 5 (with_reducible exact Or.inl rfl)); (exact Or.inr rfl); (iterate 6 (with_reducible exact Or.inl rfl)); (exact Or.inr rfl); (iterate 5 (with_reducible exact Or.inl rfl)); (with_reducible exact rfl); (with_reducible exact rfl))

theorem cloneImage_keeps (s : State) (k : Nat) :
    Keeps [.mem, .bus] s (cloneImage s k) := by
  unfold cloneImage
  repeat' first
    | with_reducible apply Keeps.refl
    | with_reducible assumption
    | with_reducible apply Keeps.ite
    | ((with_reducible apply Keeps.step (flashErase_keeps ..)); exact rfl)
    | ((with_reducible apply Keeps.step (manifestSet_keeps ..)); exact rfl)
    | ((with_reducible apply Keeps.step (writeBytes_keeps ..)); exact rfl)
    | intro _
    | split
    | dsimp only
    | ((try with_reducible conv => arg 3; whnf); (with_reducible apply Keeps.upd); (iterate 2 (with_reducible exact Or.inl rfl)); (exact Or.inr rfl); (iterate 9 (with_reducible exact Or.inl rfl)); (exact Or.inr rfl); (iterate 9 (with_reducible exact Or.inl rfl)); (with_reducible exact rfl); (with_reducible exact rfl))

theorem workDone_keeps (s : State) (ok : Bool) :
    Keeps [.csr, .mem, .bus, .boot] s (workDone s ok) := by
  unfold workDone
  repeat' first
    | with_reducible apply Keeps.refl
    | with_reducible assumption
    | with_reducible apply Keeps.ite
    | with_reducible apply Keeps.foldl
    | with_reducible apply Keeps.foldl_fst
    | with_reducible apply Keeps.foldl_snd
    | with_reducible apply Keeps.foldl_snd2
    | ((with_reducible apply Keeps.step (cloneImage_keeps ..)); exact rfl)
    | ((with_reducible apply Keeps.step (putUpd_keeps ..)); exact rfl)
    | ((with_reducible apply Keeps.step (manifestSet_keeps ..)); exact rfl)
    | ((with_reducible apply Keeps.step (stick_keeps ..)); exact rfl)
    | ((with_reducible apply Keeps.step (setF_keeps ..)); exact rfl)
    | intro _
    | split
    | dsimp only
    | ((try with_reducible conv => arg 3; whnf); (with_reducible apply Keeps.upd); (with_reducible exact Or.inl rfl); (iterate 2 (exact Or.inr rfl)); (iterate 9 (with_reducible exact Or.inl rfl)); (exact Or.inr rfl); (iterate 7 (with_reducible exact Or.inl rfl)); (exact Or.inr rfl); (with_reducible exact Or.inl rfl); (with_reducible exact rfl); (with_reducible exact rfl))

theorem bulk_keeps {M : List Part} {f : State → State} (hM : subParts [.csr, .freeCtr, .hr] M = true)
    (hf : ∀ y0, Keeps M y0 (f y0)) (s : State) (h : Hdr) (body : List Nat) : Keeps M s (bulk s h body f) := by
  unfold bulk
  exact arrive_keeps hM (fun _ => Keeps.ite (hf _) (Keeps.mono (nak_keeps ..) hM)) ..

theorem execBulkClone_keeps (h : Hdr) (x : BulkHdr) (s : State) :
    ∃ s', execBulkClone h x s = .next s' ∧ Keeps [.csr, .freeCtr, .hr, .boot] s s' := by
  unfold execBulkClone
  refine ⟨_, rfl, ?_⟩
  repeat' first
    | with_reducible apply Keeps.refl
    | with_reducible assumption
    | with_reducible apply Keeps.ite
    | ((with_reducible apply Keeps.step (bulkClone_keeps ..)); exact rfl)
    | ((with_reducible apply bulk_keeps); exact rfl)
    | intro _
    | split
    | dsimp only
    | ((try with_reducible conv => arg 3; whnf); (with_reducible apply Keeps.upd); (with_reducible exact Or.inl rfl); (exact Or.inr rfl); (with_reducible exact Or.inl rfl); (exact Or.inr rfl); (iterate 5 (with_reducible exact Or.inl rfl)); (exact Or.inr rfl); (iterate 10 (with_reducible exact Or.inl rfl)); (exact Or.inr rfl); (with_reducible exact Or.inl rfl); (with_reducible exact rfl); (with_reducible exact rfl))

theorem execBulkBegin_keeps (h : Hdr) (x : BulkHdr) (s : State) :
    ∃ s', execBulkBegin h x s = .next s' ∧ Keeps [.csr, .mem, .freeCtr, .hr, .bus, .boot] s s' := by
  unfold execBulkBegin
  refine ⟨_, rfl, ?_⟩
  repeat' first
    | with_reducible apply Keeps.refl
    | with_reducible assumption
    | with_reducible apply Keeps.ite
    | ((with_reducible apply Keeps.step (bulkBegin_keeps ..)); exact rfl)
    | ((with_reducible apply bulk_keeps); exact rfl)
    | intro _
    | split
    | dsimp only
    | ((try with_reducible conv => arg 3; whnf); (with_reducible apply Keeps.upd); (with_reducible exact Or.inl rfl); (iterate 3 (exact Or.inr rfl)); (iterate 5 (with_reducible exact Or.inl rfl)); (exact Or.inr rfl); (iterate 2 (with_reducible exact Or.inl rfl)); (exact Or.inr rfl); (iterate 7 (with_reducible exact Or.inl rfl)); (exact Or.inr rfl); (with_reducible exact Or.inl rfl); (with_reducible exact rfl); (with_reducible exact rfl))

theorem execBulkData_keeps (h : Hdr) (x : BulkHdr) (data : List Nat) (drained : Nat) (s : State) :
    ∃ s', execBulkData h x data drained s = .next s' ∧ Keeps [.csr, .mem, .freeCtr, .hr, .bus, .boot] s s' := by
  unfold execBulkData
  refine ⟨_, rfl, ?_⟩
  repeat' first
    | with_reducible apply Keeps.refl
    | with_reducible assumption
    | with_reducible apply Keeps.ite
    | ((with_reducible apply Keeps.step (bulkData_keeps ..)); exact rfl)
    | ((with_reducible apply bulk_keeps); exact rfl)
    | intro _
    | split
    | dsimp only
    | ((try with_reducible conv => arg 3; whnf); (with_reducible apply Keeps.upd); (with_reducible exact Or.inl rfl); (iterate 3 (exact Or.inr rfl)); (iterate 5 (with_reducible exact Or.inl rfl)); (exact Or.inr rfl); (iterate 2 (with_reducible exact Or.inl rfl)); (exact Or.inr rfl); (iterate 7 (with_reducible exact Or.inl rfl)); (exact Or.inr rfl); (with_reducible exact Or.inl rfl); (with_reducible exact rfl); (with_reducible exact rfl))

theorem execBulkEnd_keeps (h : Hdr) (x : BulkHdr) (s : State) :
    ∃ s', execBulkEnd h x s = .next s' ∧ Keeps [.csr, .freeCtr, .hr, .boot] s s' := by
  unfold execBulkEnd
  refine ⟨_, rfl, ?_⟩
  repeat' first
    | with_reducible apply Keeps.refl
    | with_reducible assumption
    | with_reducible apply Keeps.ite
    | ((with_reducible apply Keeps.step (bulkEnd_keeps ..)); exact rfl)
    | ((with_reducible apply bulk_keeps); exact rfl)
    | intro _
    | split
    | dsimp only
    | ((try with_reducible conv => arg 3; whnf); (with_reducible apply Keeps.upd); (with_reducible exact Or.inl rfl); (exact Or.inr rfl); (with_reducible exact Or.inl rfl); (exact Or.inr rfl); (iterate 5 (with_reducible exact Or.inl rfl)); (exact Or.inr rfl); (iterate 10 (with_reducible exact Or.inl rfl)); (exact Or.inr rfl); (with_reducible exact Or.inl rfl); (with_reducible exact rfl); (with_reducible exact rfl))

theorem execBulkAbort_keeps (h : Hdr) (x : BulkHdr) (s : State) :
    ∃ s', execBulkAbort h x s = .next s' ∧ Keeps [.csr, .freeCtr, .hr, .boot] s s' := by
  unfold execBulkAbort
  refine ⟨_, rfl, ?_⟩
  repeat' first
    | with_reducible apply Keeps.refl
    | with_reducible assumption
    | with_reducible apply Keeps.ite
    | ((with_reducible apply Keeps.step (bulkAbort_keeps ..)); exact rfl)
    | ((with_reducible apply bulk_keeps); exact rfl)
    | intro _
    | split
    | dsimp only
    | ((try with_reducible conv => arg 3; whnf); (with_reducible apply Keeps.upd); (with_reducible exact Or.inl rfl); (exact Or.inr rfl); (with_reducible exact Or.inl rfl); (exact Or.inr rfl); (iterate 5 (with_reducible exact Or.inl rfl)); (exact Or.inr rfl); (iterate 10 (with_reducible exact Or.inl rfl)); (exact Or.inr rfl); (with_reducible exact Or.inl rfl); (with_reducible exact rfl); (with_reducible exact rfl))

theorem execBulkArm_keeps (h : Hdr) (x : BulkHdr) (tries : Nat) (s : State) :
    ∃ s', execBulkArm h x tries s = .next s' ∧ Keeps [.csr, .freeCtr, .hr, .prf] s s' := by
  unfold execBulkArm
  refine ⟨_, rfl, ?_⟩
  repeat' first
    | with_reducible apply Keeps.refl
    | with_reducible assumption
    | with_reducible apply Keeps.ite
    | ((with_reducible apply Keeps.step (bulkArm_keeps ..)); exact rfl)
    | ((with_reducible apply bulk_keeps); exact rfl)
    | intro _
    | split
    | dsimp only
    | ((try with_reducible conv => arg 3; whnf); (with_reducible apply Keeps.upd); (with_reducible exact Or.inl rfl); (exact Or.inr rfl); (with_reducible exact Or.inl rfl); (exact Or.inr rfl); (iterate 5 (with_reducible exact Or.inl rfl)); (iterate 2 (exact Or.inr rfl)); (iterate 11 (with_reducible exact Or.inl rfl)); (with_reducible exact rfl); (with_reducible exact rfl))

theorem execBulkConfirm_keeps (h : Hdr) (x : BulkHdr) (s : State) :
    ∃ s', execBulkConfirm h x s = .next s' ∧ Keeps [.csr, .freeCtr, .hr, .prf, .boot] s s' := by
  unfold execBulkConfirm
  refine ⟨_, rfl, ?_⟩
  repeat' first
    | with_reducible apply Keeps.refl
    | with_reducible assumption
    | with_reducible apply Keeps.ite
    | ((with_reducible apply Keeps.step (bulkConfirm_keeps ..)); exact rfl)
    | ((with_reducible apply bulk_keeps); exact rfl)
    | intro _
    | split
    | dsimp only
    | ((try with_reducible conv => arg 3; whnf); (with_reducible apply Keeps.upd); (with_reducible exact Or.inl rfl); (exact Or.inr rfl); (with_reducible exact Or.inl rfl); (exact Or.inr rfl); (iterate 5 (with_reducible exact Or.inl rfl)); (iterate 2 (exact Or.inr rfl)); (iterate 9 (with_reducible exact Or.inl rfl)); (exact Or.inr rfl); (with_reducible exact Or.inl rfl); (with_reducible exact rfl); (with_reducible exact rfl))

theorem execBulkRollback_keeps (h : Hdr) (x : BulkHdr) (s : State) :
    ∃ s', execBulkRollback h x s = .next s' ∧ Keeps [.csr, .freeCtr, .hr, .boot] s s' := by
  unfold execBulkRollback
  refine ⟨_, rfl, ?_⟩
  repeat' first
    | with_reducible apply Keeps.refl
    | with_reducible assumption
    | with_reducible apply Keeps.ite
    | ((with_reducible apply Keeps.step (bulkRollback_keeps ..)); exact rfl)
    | ((with_reducible apply bulk_keeps); exact rfl)
    | intro _
    | split
    | dsimp only
    | ((try with_reducible conv => arg 3; whnf); (with_reducible apply Keeps.upd); (with_reducible exact Or.inl rfl); (exact Or.inr rfl); (with_reducible exact Or.inl rfl); (exact Or.inr rfl); (iterate 5 (with_reducible exact Or.inl rfl)); (exact Or.inr rfl); (iterate 10 (with_reducible exact Or.inl rfl)); (exact Or.inr rfl); (with_reducible exact Or.inl rfl); (with_reducible exact rfl); (with_reducible exact rfl))

theorem execBulkRestart_keeps (h : Hdr) (x : BulkHdr) (s : State) :
    ∃ s', execBulkRestart h x s = .next s' ∧ Keeps [.csr, .freeCtr, .hr, .rst] s s' := by
  unfold execBulkRestart
  refine ⟨_, rfl, ?_⟩
  repeat' first
    | with_reducible apply Keeps.refl
    | with_reducible assumption
    | with_reducible apply Keeps.ite
    | ((with_reducible apply Keeps.step (bulkRestart_keeps ..)); exact rfl)
    | ((with_reducible apply bulk_keeps); exact rfl)
    | intro _
    | split
    | dsimp only
    | ((try with_reducible conv => arg 3; whnf); (with_reducible apply Keeps.upd); (with_reducible exact Or.inl rfl); (exact Or.inr rfl); (with_reducible exact Or.inl rfl); (exact Or.inr rfl); (iterate 5 (with_reducible exact Or.inl rfl)); (exact Or.inr rfl); (iterate 6 (with_reducible exact Or.inl rfl)); (exact Or.inr rfl); (iterate 5 (with_reducible exact Or.inl rfl)); (with_reducible exact rfl); (with_reducible exact rfl))

theorem execBulkWorkDone_keeps (ok : Bool) (s : State) :
    ∃ s', execBulkWorkDone ok s = .next s' ∧ Keeps [.csr, .mem, .bus, .boot] s s' := by
  unfold execBulkWorkDone
  refine ⟨_, rfl, ?_⟩
  repeat' first
    | with_reducible apply Keeps.refl
    | with_reducible assumption
    | with_reducible apply Keeps.ite
    | ((with_reducible apply Keeps.step (workDone_keeps ..)); exact rfl)
    | intro _
    | split
    | dsimp only
    | ((try with_reducible conv => arg 3; whnf); (with_reducible apply Keeps.upd); (with_reducible exact Or.inl rfl); (iterate 2 (exact Or.inr rfl)); (iterate 9 (with_reducible exact Or.inl rfl)); (exact Or.inr rfl); (iterate 7 (with_reducible exact Or.inl rfl)); (exact Or.inr rfl); (with_reducible exact Or.inl rfl); (with_reducible exact rfl); (with_reducible exact rfl))

theorem cutAll_keeps (s : State) (cut : List CutBurst) :
    Keeps [.csr, .mem, .freeCtr, .sched, .dsp, .mix, .flood, .slu, .hr, .prf, .cv, .bus, .cores, .rcu, .redun, .rst, .tally, .net, .ser, .boot, .tst] s (cutAll s cut) := by
  unfold cutAll
  repeat' first
    | with_reducible apply Keeps.refl
    | with_reducible assumption
    | with_reducible apply Keeps.ite
    | with_reducible apply Keeps.foldl
    | ((with_reducible apply Keeps.step (csrDo_keeps ..)); exact rfl)
    | ((with_reducible apply Keeps.step (masterReset_keeps ..)); exact rfl)
    | intro _
    | split
    | dsimp only
    | ((try with_reducible conv => arg 3; whnf); (with_reducible apply Keeps.upd); (with_reducible exact Or.inl rfl); (iterate 21 (exact Or.inr rfl)); (with_reducible exact rfl); (with_reducible exact rfl))

theorem warmBy_keeps (s : State) (cut : List CutBurst) (cause : Nat) :
    Keeps [.csr, .mem, .freeCtr, .sched, .dsp, .mix, .flood, .slu, .hr, .prf, .cv, .bus, .cores, .rcu, .redun, .rst, .tally, .net, .ser, .boot, .tst] s (warmBy s cut cause) := by
  unfold warmBy
  repeat' first
    | with_reducible apply Keeps.refl
    | with_reducible assumption
    | with_reducible apply Keeps.ite
    | ((with_reducible apply Keeps.step (cutAll_keeps ..)); exact rfl)
    | ((with_reducible apply Keeps.step (warmReset_keeps ..)); exact rfl)
    | intro _
    | split
    | dsimp only
    | ((try with_reducible conv => arg 3; whnf); (with_reducible apply Keeps.upd); (with_reducible exact Or.inl rfl); (iterate 21 (exact Or.inr rfl)); (with_reducible exact rfl); (with_reducible exact rfl))

theorem execPowerOn_keeps (cv : CvSupply) (io33 : Bool) (s : State) :
    ∃ s', execPowerOn cv io33 s = .next s' ∧ Keeps [.csr, .mem, .freeCtr, .sched, .dsp, .mix, .flood, .slu, .hr, .prf, .cv, .bus, .cores, .rcu, .redun, .rst, .tally, .net, .ser, .boot, .tst] s s' := by
  unfold execPowerOn
  refine ⟨_, rfl, ?_⟩
  repeat' first
    | with_reducible apply Keeps.refl
    | with_reducible assumption
    | with_reducible apply Keeps.ite
    | ((with_reducible apply Keeps.step (powerOn_keeps ..)); exact rfl)
    | intro _
    | split
    | dsimp only
    | ((try with_reducible conv => arg 3; whnf); (with_reducible apply Keeps.upd); (with_reducible exact Or.inl rfl); (iterate 21 (exact Or.inr rfl)); (with_reducible exact rfl); (with_reducible exact rfl))

theorem execPorstNAssert_keeps (s : State) :
    ∃ s', execPorstNAssert s = .next s' ∧ Keeps [.csr, .mem, .freeCtr, .sched, .dsp, .mix, .flood, .slu, .hr, .prf, .cv, .bus, .cores, .rcu, .redun, .rst, .tally, .net, .ser, .boot, .tst] s s' := by
  unfold execPorstNAssert
  refine ⟨_, rfl, ?_⟩
  repeat' first
    | with_reducible apply Keeps.refl
    | with_reducible assumption
    | with_reducible apply Keeps.ite
    | ((with_reducible apply Keeps.step (coldReset_keeps ..)); exact rfl)
    | intro _
    | split
    | dsimp only
    | ((try with_reducible conv => arg 3; whnf); (with_reducible apply Keeps.upd); (with_reducible exact Or.inl rfl); (iterate 21 (exact Or.inr rfl)); (with_reducible exact rfl); (with_reducible exact rfl))

theorem execSupplyLoss_keeps (s : State) :
    ∃ s', execSupplyLoss s = .next s' ∧ Keeps [.csr, .mem, .freeCtr, .sched, .dsp, .mix, .flood, .slu, .hr, .prf, .cv, .bus, .cores, .rcu, .redun, .rst, .tally, .net, .ser, .boot, .tst] s s' := by
  unfold execSupplyLoss
  refine ⟨_, rfl, ?_⟩
  repeat' first
    | with_reducible apply Keeps.refl
    | with_reducible assumption
    | with_reducible apply Keeps.ite
    | ((with_reducible apply Keeps.step (coldReset_keeps ..)); exact rfl)
    | ((with_reducible apply Keeps.step (freshFree_keeps ..)); exact rfl)
    | intro _
    | split
    | dsimp only
    | ((try with_reducible conv => arg 3; whnf); (with_reducible apply Keeps.upd); (with_reducible exact Or.inl rfl); (iterate 21 (exact Or.inr rfl)); (with_reducible exact rfl); (with_reducible exact rfl))

theorem execResetNAssert_keeps (cut : List CutBurst) (s : State) :
    ∃ s', execResetNAssert cut s = .next s' ∧ Keeps [.csr, .mem, .freeCtr, .sched, .dsp, .mix, .flood, .slu, .hr, .prf, .cv, .bus, .cores, .rcu, .redun, .rst, .tally, .net, .ser, .boot, .tst] s s' := by
  unfold execResetNAssert
  refine ⟨_, rfl, ?_⟩
  repeat' first
    | with_reducible apply Keeps.refl
    | with_reducible assumption
    | with_reducible apply Keeps.ite
    | ((with_reducible apply Keeps.step (warmBy_keeps ..)); exact rfl)
    | intro _
    | split
    | dsimp only
    | ((try with_reducible conv => arg 3; whnf); (with_reducible apply Keeps.upd); (with_reducible exact Or.inl rfl); (iterate 21 (exact Or.inr rfl)); (with_reducible exact rfl); (with_reducible exact rfl))

theorem execResetRelease_keeps (i : BootIn) (s : State) :
    ∃ s', execResetRelease i s = .next s' ∧ Keeps [.csr, .mem, .freeCtr, .sched, .dsp, .mix, .flood, .slu, .hr, .prf, .cv, .bus, .cores, .rcu, .redun, .rst, .tally, .net, .ser, .boot, .tst] s s' := by
  unfold execResetRelease
  refine ⟨_, rfl, ?_⟩
  repeat' first
    | with_reducible apply Keeps.refl
    | with_reducible assumption
    | with_reducible apply Keeps.ite
    | ((with_reducible apply Keeps.step (bootRun_keeps ..)); exact rfl)
    | intro _
    | split
    | dsimp only
    | ((try with_reducible conv => arg 3; whnf); (with_reducible apply Keeps.upd); (with_reducible exact Or.inl rfl); (iterate 21 (exact Or.inr rfl)); (with_reducible exact rfl); (with_reducible exact rfl))

theorem execFirmwareReady_keeps (s : State) :
    ∃ s', execFirmwareReady s = .next s' ∧ Keeps [.csr, .mem, .freeCtr, .sched, .dsp, .mix, .flood, .slu, .hr, .prf, .cv, .bus, .cores, .rcu, .redun, .rst, .tally, .net, .ser, .boot, .tst] s s' := by
  unfold execFirmwareReady
  refine ⟨_, rfl, ?_⟩
  repeat' first
    | with_reducible apply Keeps.refl
    | with_reducible assumption
    | with_reducible apply Keeps.ite
    | ((with_reducible apply Keeps.step (firmwareReady_keeps ..)); exact rfl)
    | intro _
    | split
    | dsimp only
    | ((try with_reducible conv => arg 3; whnf); (with_reducible apply Keeps.upd); (with_reducible exact Or.inl rfl); (iterate 21 (exact Or.inr rfl)); (with_reducible exact rfl); (with_reducible exact rfl))

theorem execFirmwareReadyTimeout_keeps (s : State) :
    ∃ s', execFirmwareReadyTimeout s = .next s' ∧ Keeps [.csr, .mem, .freeCtr, .sched, .dsp, .mix, .flood, .slu, .hr, .prf, .cv, .bus, .cores, .rcu, .redun, .rst, .tally, .net, .ser, .boot, .tst] s s' := by
  unfold execFirmwareReadyTimeout
  refine ⟨_, rfl, ?_⟩
  repeat' first
    | with_reducible apply Keeps.refl
    | with_reducible assumption
    | with_reducible apply Keeps.ite
    | ((with_reducible apply Keeps.step (firmwareTimeout_keeps ..)); exact rfl)
    | intro _
    | split
    | dsimp only
    | ((try with_reducible conv => arg 3; whnf); (with_reducible apply Keeps.upd); (with_reducible exact Or.inl rfl); (iterate 21 (exact Or.inr rfl)); (with_reducible exact rfl); (with_reducible exact rfl))

theorem execWaitRefTimeout_keeps (s : State) :
    ∃ s', execWaitRefTimeout s = .next s' ∧ Keeps [.boot] s s' := by
  unfold execWaitRefTimeout
  refine ⟨_, rfl, ?_⟩
  repeat' first
    | with_reducible apply Keeps.refl
    | with_reducible assumption
    | with_reducible apply Keeps.ite
    | ((with_reducible apply Keeps.step (waitRefOver_keeps ..)); exact rfl)
    | intro _
    | split
    | dsimp only
    | ((try with_reducible conv => arg 3; whnf); (with_reducible apply Keeps.upd); (iterate 20 (with_reducible exact Or.inl rfl)); (exact Or.inr rfl); (with_reducible exact Or.inl rfl); (with_reducible exact rfl); (with_reducible exact rfl))

theorem execEngineStart_keeps (s : State) :
    ∃ s', execEngineStart s = .next s' ∧ Keeps [.csr, .freeCtr, .flood, .slu, .hr, .rcu, .redun, .rst] s s' := by
  unfold execEngineStart
  refine ⟨_, rfl, ?_⟩
  repeat' first
    | with_reducible apply Keeps.refl
    | with_reducible assumption
    | with_reducible apply Keeps.ite
    | ((with_reducible apply Keeps.step (engineStart_keeps ..)); exact rfl)
    | intro _
    | split
    | dsimp only
    | ((try with_reducible conv => arg 3; whnf); (with_reducible apply Keeps.upd); (with_reducible exact Or.inl rfl); (exact Or.inr rfl); (with_reducible exact Or.inl rfl); (exact Or.inr rfl); (iterate 3 (with_reducible exact Or.inl rfl)); (iterate 3 (exact Or.inr rfl)); (iterate 4 (with_reducible exact Or.inl rfl)); (iterate 3 (exact Or.inr rfl)); (iterate 5 (with_reducible exact Or.inl rfl)); (with_reducible exact rfl); (with_reducible exact rfl))

theorem execCoresRestart_keeps (s : State) :
    ∃ s', execCoresRestart s = .next s' ∧ Keeps [.csr, .mem, .freeCtr, .sched, .dsp, .mix, .flood, .slu, .hr, .prf, .cv, .bus, .cores, .rcu, .redun, .rst, .tally, .net, .ser, .boot, .tst] s s' := by
  unfold execCoresRestart
  refine ⟨_, rfl, ?_⟩
  repeat' first
    | with_reducible apply Keeps.refl
    | with_reducible assumption
    | with_reducible apply Keeps.ite
    | ((with_reducible apply Keeps.step (ap_keeps ..)); exact rfl)
    | ((with_reducible apply Keeps.step (fatalFault_keeps ..)); exact rfl)
    | ((with_reducible apply Keeps.step (coresRestart_keeps (M := [.csr, .mem, .freeCtr, .sched, .dsp, .mix, .flood, .slu, .hr, .prf, .cv, .bus, .cores, .rcu, .redun, .rst, .tally, .net, .ser, .boot, .tst]) ?_ ?_ ..)); (with_reducible exact subParts_refl _); rotate_left; (exact rfl))
    | intro _
    | split
    | dsimp only
    | ((try with_reducible conv => arg 3; whnf); (with_reducible apply Keeps.upd); (with_reducible exact Or.inl rfl); (iterate 21 (exact Or.inr rfl)); (with_reducible exact rfl); (with_reducible exact rfl))

theorem execFatalResetDelay_keeps (cut : List CutBurst) (s : State) :
    ∃ s', execFatalResetDelay cut s = .next s' ∧ Keeps [.csr, .mem, .freeCtr, .sched, .dsp, .mix, .flood, .slu, .hr, .prf, .cv, .bus, .cores, .rcu, .redun, .rst, .tally, .net, .ser, .boot, .tst] s s' := by
  unfold execFatalResetDelay
  refine ⟨_, rfl, ?_⟩
  repeat' first
    | with_reducible apply Keeps.refl
    | with_reducible assumption
    | with_reducible apply Keeps.ite
    | ((with_reducible apply Keeps.step (warmBy_keeps ..)); exact rfl)
    | intro _
    | split
    | dsimp only
    | ((try with_reducible conv => arg 3; whnf); (with_reducible apply Keeps.upd); (with_reducible exact Or.inl rfl); (iterate 21 (exact Or.inr rfl)); (with_reducible exact rfl); (with_reducible exact rfl))

theorem execBulkRestartReset_keeps (cut : List CutBurst) (s : State) :
    ∃ s', execBulkRestartReset cut s = .next s' ∧ Keeps [.csr, .mem, .freeCtr, .sched, .dsp, .mix, .flood, .slu, .hr, .prf, .cv, .bus, .cores, .rcu, .redun, .rst, .tally, .net, .ser, .boot, .tst] s s' := by
  unfold execBulkRestartReset
  refine ⟨_, rfl, ?_⟩
  repeat' first
    | with_reducible apply Keeps.refl
    | with_reducible assumption
    | with_reducible apply Keeps.ite
    | ((with_reducible apply Keeps.step (warmBy_keeps ..)); exact rfl)
    | intro _
    | split
    | dsimp only
    | ((try with_reducible conv => arg 3; whnf); (with_reducible apply Keeps.upd); (with_reducible exact Or.inl rfl); (iterate 21 (exact Or.inr rfl)); (with_reducible exact rfl); (with_reducible exact rfl))

theorem execRstCtlWarm_keeps (o : Origin) (v : Word) (cut : List CutBurst) (s : State) :
    ∃ s', execRstCtlWarm o v cut s = .next s' ∧ Keeps [.csr, .mem, .freeCtr, .sched, .dsp, .mix, .flood, .slu, .hr, .prf, .cv, .bus, .cores, .rcu, .redun, .rst, .tally, .net, .ser, .boot, .tst] s s' := by
  unfold execRstCtlWarm
  refine ⟨_, rfl, ?_⟩
  repeat' first
    | with_reducible apply Keeps.refl
    | with_reducible assumption
    | with_reducible apply Keeps.ite
    | ((with_reducible apply Keeps.step (warmBy_keeps ..)); exact rfl)
    | ((with_reducible apply Keeps.step (rstWrite_keeps ..)); exact rfl)
    | intro _
    | split
    | dsimp only
    | ((try with_reducible conv => arg 3; whnf); (with_reducible apply Keeps.upd); (with_reducible exact Or.inl rfl); (iterate 21 (exact Or.inr rfl)); (with_reducible exact rfl); (with_reducible exact rfl))

theorem execRstDomWrite_keeps (v : Word) (cut : List CutBurst) (s : State) :
    ∃ s', execRstDomWrite v cut s = .next s' ∧ Keeps [.csr, .mem, .freeCtr, .flood, .slu, .hr, .prf, .cv, .bus, .rcu, .redun, .net, .ser] s s' := by
  unfold execRstDomWrite
  refine ⟨_, rfl, ?_⟩
  repeat' first
    | with_reducible apply Keeps.refl
    | with_reducible assumption
    | with_reducible apply Keeps.ite
    | ((with_reducible apply Keeps.step (domWrite_keeps ..)); exact rfl)
    | intro _
    | split
    | dsimp only
    | ((try with_reducible conv => arg 3; whnf); (with_reducible apply Keeps.upd); (with_reducible exact Or.inl rfl); (iterate 3 (exact Or.inr rfl)); (iterate 3 (with_reducible exact Or.inl rfl)); (iterate 6 (exact Or.inr rfl)); (with_reducible exact Or.inl rfl); (iterate 2 (exact Or.inr rfl)); (iterate 2 (with_reducible exact Or.inl rfl)); (iterate 2 (exact Or.inr rfl)); (iterate 2 (with_reducible exact Or.inl rfl)); (with_reducible exact rfl); (with_reducible exact rfl))

theorem execWdtKick_keeps (m : Nat) (v : Word) (s : State) :
    ∃ s', execWdtKick m v s = .next s' ∧ Keeps [.csr] s s' := by
  unfold execWdtKick
  refine ⟨_, rfl, ?_⟩
  repeat' first
    | with_reducible apply Keeps.refl
    | with_reducible assumption
    | with_reducible apply Keeps.ite
    | ((with_reducible apply Keeps.step (wdtKick_keeps ..)); exact rfl)
    | intro _
    | split
    | dsimp only
    | ((try with_reducible conv => arg 3; whnf); (with_reducible apply Keeps.upd); (with_reducible exact Or.inl rfl); (exact Or.inr rfl); (iterate 20 (with_reducible exact Or.inl rfl)); (with_reducible exact rfl); (with_reducible exact rfl))

theorem execWatchdogExpiry_keeps (cut : List CutBurst) (s : State) :
    ∃ s', execWatchdogExpiry cut s = .next s' ∧ Keeps [.csr, .mem, .freeCtr, .sched, .dsp, .mix, .flood, .slu, .hr, .prf, .cv, .bus, .cores, .rcu, .redun, .rst, .tally, .net, .ser, .boot, .tst] s s' := by
  unfold execWatchdogExpiry
  refine ⟨_, rfl, ?_⟩
  repeat' first
    | with_reducible apply Keeps.refl
    | with_reducible assumption
    | with_reducible apply Keeps.ite
    | ((with_reducible apply Keeps.step (warmBy_keeps ..)); exact rfl)
    | ((with_reducible apply Keeps.step (stick_keeps ..)); exact rfl)
    | intro _
    | split
    | dsimp only
    | ((try with_reducible conv => arg 3; whnf); (with_reducible apply Keeps.upd); (with_reducible exact Or.inl rfl); (iterate 21 (exact Or.inr rfl)); (with_reducible exact rfl); (with_reducible exact rfl))

end Sys2Proof.Machine
end

