-- ==== Sys2Proof/Laws/KeepCmdCv.lean ====
section
/-! SUPPORT. What each operation of Machine/CmdCv.lean may change. -/
namespace Sys2Proof.Machine

theorem execCvOutWrite_keeps (k : Nat) (v : Word) (s : State) :
    ∃ s', execCvOutWrite k v s = .next s' ∧ Keeps [.csr, .cv] s s' := by
  unfold execCvOutWrite
  refine ⟨_, rfl, ?_⟩
  repeat' first
    | with_reducible apply Keeps.refl
    | with_reducible assumption
    | with_reducible apply Keeps.ite
    | ((with_reducible apply Keeps.step (cvOutWrite_keeps ..)); exact rfl)
    | intro _
    | split
    | dsimp only
    | ((try with_reducible conv => arg 3; whnf); (with_reducible apply Keeps.upd); (with_reducible exact Or.inl rfl); (exact Or.inr rfl); (iterate 9 (with_reducible exact Or.inl rfl)); (exact Or.inr rfl); (iterate 10 (with_reducible exact Or.inl rfl)); (with_reducible exact rfl); (with_reducible exact rfl))

theorem execCvTickLatch_keeps (s : State) :
    ∃ s', execCvTickLatch s = .next s' ∧ Keeps [.cv] s s' := by
  unfold execCvTickLatch
  refine ⟨_, rfl, ?_⟩
  repeat' first
    | with_reducible apply Keeps.refl
    | with_reducible assumption
    | with_reducible apply Keeps.ite
    | ((with_reducible apply Keeps.step (cvTickLatch_keeps ..)); exact rfl)
    | intro _
    | split
    | dsimp only
    | ((try with_reducible conv => arg 3; whnf); (with_reducible apply Keeps.upd); (iterate 11 (with_reducible exact Or.inl rfl)); (exact Or.inr rfl); (iterate 10 (with_reducible exact Or.inl rfl)); (with_reducible exact rfl); (with_reducible exact rfl))

theorem execCvCtlWrite_keeps (v : Word) (s : State) :
    ∃ s', execCvCtlWrite v s = .next s' ∧ Keeps [.csr, .cv] s s' := by
  unfold execCvCtlWrite
  refine ⟨_, rfl, ?_⟩
  repeat' first
    | with_reducible apply Keeps.refl
    | with_reducible assumption
    | with_reducible apply Keeps.ite
    | ((with_reducible apply Keeps.step (cvCtlWrite_keeps ..)); exact rfl)
    | intro _
    | split
    | dsimp only
    | ((try with_reducible conv => arg 3; whnf); (with_reducible apply Keeps.upd); (with_reducible exact Or.inl rfl); (exact Or.inr rfl); (iterate 9 (with_reducible exact Or.inl rfl)); (exact Or.inr rfl); (iterate 10 (with_reducible exact Or.inl rfl)); (with_reducible exact rfl); (with_reducible exact rfl))

theorem execCvParkEnd_keeps (k : Nat) (s : State) :
    ∃ s', execCvParkEnd k s = .next s' ∧ Keeps [.cv] s s' := by
  unfold execCvParkEnd
  refine ⟨_, rfl, ?_⟩
  repeat' first
    | with_reducible apply Keeps.refl
    | with_reducible assumption
    | with_reducible apply Keeps.ite
    | ((with_reducible apply Keeps.step (cvParkEnd_keeps ..)); exact rfl)
    | intro _
    | split
    | dsimp only
    | ((try with_reducible conv => arg 3; whnf); (with_reducible apply Keeps.upd); (iterate 11 (with_reducible exact Or.inl rfl)); (exact Or.inr rfl); (iterate 10 (with_reducible exact Or.inl rfl)); (with_reducible exact rfl); (with_reducible exact rfl))

theorem execVddCvLoss_keeps (s : State) :
    ∃ s', execVddCvLoss s = .next s' ∧ Keeps [.csr, .cv] s s' := by
  unfold execVddCvLoss
  refine ⟨_, rfl, ?_⟩
  repeat' first
    | with_reducible apply Keeps.refl
    | with_reducible assumption
    | with_reducible apply Keeps.ite
    | ((with_reducible apply Keeps.step (cvLoss_keeps ..)); exact rfl)
    | intro _
    | split
    | dsimp only
    | ((try with_reducible conv => arg 3; whnf); (with_reducible apply Keeps.upd); (with_reducible exact Or.inl rfl); (exact Or.inr rfl); (iterate 9 (with_reducible exact Or.inl rfl)); (exact Or.inr rfl); (iterate 10 (with_reducible exact Or.inl rfl)); (with_reducible exact rfl); (with_reducible exact rfl))

theorem execVddCvRestore_keeps (hi : Bool) (s : State) :
    ∃ s', execVddCvRestore hi s = .next s' ∧ Keeps [.csr, .cv] s s' := by
  unfold execVddCvRestore
  refine ⟨_, rfl, ?_⟩
  repeat' first
    | with_reducible apply Keeps.refl
    | with_reducible assumption
    | with_reducible apply Keeps.ite
    | ((with_reducible apply Keeps.step (cvRestore_keeps ..)); exact rfl)
    | intro _
    | split
    | dsimp only
    | ((try with_reducible conv => arg 3; whnf); (with_reducible apply Keeps.upd); (with_reducible exact Or.inl rfl); (exact Or.inr rfl); (iterate 9 (with_reducible exact Or.inl rfl)); (exact Or.inr rfl); (iterate 10 (with_reducible exact Or.inl rfl)); (with_reducible exact rfl); (with_reducible exact rfl))

theorem execVddCvHiFall_keeps (s : State) :
    ∃ s', execVddCvHiFall s = .next s' ∧ Keeps [.csr, .cv] s s' := by
  unfold execVddCvHiFall
  refine ⟨_, rfl, ?_⟩
  repeat' first
    | with_reducible apply Keeps.refl
    | with_reducible assumption
    | with_reducible apply Keeps.ite
    | ((with_reducible apply Keeps.step (cvHiFall_keeps ..)); exact rfl)
    | intro _
    | split
    | dsimp only
    | ((try with_reducible conv => arg 3; whnf); (with_reducible apply Keeps.upd); (with_reducible exact Or.inl rfl); (exact Or.inr rfl); (iterate 9 (with_reducible exact Or.inl rfl)); (exact Or.inr rfl); (iterate 10 (with_reducible exact Or.inl rfl)); (with_reducible exact rfl); (with_reducible exact rfl))

theorem execPrfWordWrite_keeps (host : Bool) (w : Nat) (v : Word) (s : State) :
    ∃ s', execPrfWordWrite host w v s = .next s' ∧ Keeps [.csr, .prf] s s' := by
  unfold execPrfWordWrite
  refine ⟨_, rfl, ?_⟩
  repeat' first
    | with_reducible apply Keeps.refl
    | with_reducible assumption
    | with_reducible apply Keeps.ite
    | ((with_reducible apply Keeps.step (prfWrite_keeps ..)); exact rfl)
    | intro _
    | split
    | dsimp only
    | ((try with_reducible conv => arg 3; whnf); (with_reducible apply Keeps.upd); (with_reducible exact Or.inl rfl); (exact Or.inr rfl); (iterate 8 (with_reducible exact Or.inl rfl)); (exact Or.inr rfl); (iterate 11 (with_reducible exact Or.inl rfl)); (with_reducible exact rfl); (with_reducible exact rfl))

theorem execPrfWriteDone_keeps (s : State) :
    ∃ s', execPrfWriteDone s = .next s' ∧ Keeps [.csr, .prf] s s' := by
  unfold execPrfWriteDone
  refine ⟨_, rfl, ?_⟩
  repeat' first
    | with_reducible apply Keeps.refl
    | with_reducible assumption
    | with_reducible apply Keeps.ite
    | ((with_reducible apply Keeps.step (prfDone_keeps ..)); exact rfl)
    | intro _
    | split
    | dsimp only
    | ((try with_reducible conv => arg 3; whnf); (with_reducible apply Keeps.upd); (with_reducible exact Or.inl rfl); (exact Or.inr rfl); (iterate 8 (with_reducible exact Or.inl rfl)); (exact Or.inr rfl); (iterate 11 (with_reducible exact Or.inl rfl)); (with_reducible exact rfl); (with_reducible exact rfl))

theorem execPrfPowerFail_keeps (s : State) :
    ∃ s', execPrfPowerFail s = .next s' ∧ Keeps [.prf] s s' := by
  unfold execPrfPowerFail
  refine ⟨_, rfl, ?_⟩
  repeat' first
    | with_reducible apply Keeps.refl
    | with_reducible assumption
    | with_reducible apply Keeps.ite
    | ((with_reducible apply Keeps.step (prfFail_keeps ..)); exact rfl)
    | intro _
    | split
    | dsimp only
    | ((try with_reducible conv => arg 3; whnf); (with_reducible apply Keeps.upd); (iterate 10 (with_reducible exact Or.inl rfl)); (exact Or.inr rfl); (iterate 11 (with_reducible exact Or.inl rfl)); (with_reducible exact rfl); (with_reducible exact rfl))

theorem execTestUnlockWrite_keeps (v : Word) (s : State) :
    ∃ s', execTestUnlockWrite v s = .next s' ∧ Keeps [.csr, .sched, .bus, .tst] s s' := by
  unfold execTestUnlockWrite
  refine ⟨_, rfl, ?_⟩
  repeat' first
    | with_reducible apply Keeps.refl
    | with_reducible assumption
    | with_reducible apply Keeps.ite
    | ((with_reducible apply Keeps.step (testWrite_keeps ..)); exact rfl)
    | intro _
    | split
    | dsimp only
    | ((try with_reducible conv => arg 3; whnf); (with_reducible apply Keeps.upd); (with_reducible exact Or.inl rfl); (exact Or.inr rfl); (iterate 2 (with_reducible exact Or.inl rfl)); (exact Or.inr rfl); (iterate 7 (with_reducible exact Or.inl rfl)); (exact Or.inr rfl); (iterate 8 (with_reducible exact Or.inl rfl)); (exact Or.inr rfl); (with_reducible exact rfl); (with_reducible exact rfl))

theorem execTestCfgLock_keeps (v : Word) (s : State) :
    ∃ s', execTestCfgLock v s = .next s' ∧ Keeps [.csr, .sched, .bus, .tst] s s' := by
  unfold execTestCfgLock
  refine ⟨_, rfl, ?_⟩
  repeat' first
    | with_reducible apply Keeps.refl
    | with_reducible assumption
    | with_reducible apply Keeps.ite
    | ((with_reducible apply Keeps.step (testWrite_keeps ..)); exact rfl)
    | intro _
    | split
    | dsimp only
    | ((try with_reducible conv => arg 3; whnf); (with_reducible apply Keeps.upd); (with_reducible exact Or.inl rfl); (exact Or.inr rfl); (iterate 2 (with_reducible exact Or.inl rfl)); (exact Or.inr rfl); (iterate 7 (with_reducible exact Or.inl rfl)); (exact Or.inr rfl); (iterate 8 (with_reducible exact Or.inl rfl)); (exact Or.inr rfl); (with_reducible exact rfl); (with_reducible exact rfl))

theorem execTestAutoLock_keeps (s : State) :
    ∃ s', execTestAutoLock s = .next s' ∧ Keeps [.csr, .sched] s s' := by
  unfold execTestAutoLock
  refine ⟨_, rfl, ?_⟩
  repeat' first
    | with_reducible apply Keeps.refl
    | with_reducible assumption
    | with_reducible apply Keeps.ite
    | ((with_reducible apply Keeps.step (testAutoLock_keeps ..)); exact rfl)
    | intro _
    | split
    | dsimp only
    | ((try with_reducible conv => arg 3; whnf); (with_reducible apply Keeps.upd); (with_reducible exact Or.inl rfl); (exact Or.inr rfl); (iterate 2 (with_reducible exact Or.inl rfl)); (exact Or.inr rfl); (iterate 17 (with_reducible exact Or.inl rfl)); (with_reducible exact rfl); (with_reducible exact rfl))

theorem execTestXbarDlyWrite_keeps (v : Word) (s : State) :
    ∃ s', execTestXbarDlyWrite v s = .next s' ∧ Keeps [.csr, .sched, .bus, .tst] s s' := by
  unfold execTestXbarDlyWrite
  refine ⟨_, rfl, ?_⟩
  repeat' first
    | with_reducible apply Keeps.refl
    | with_reducible assumption
    | with_reducible apply Keeps.ite
    | ((with_reducible apply Keeps.step (testWrite_keeps ..)); exact rfl)
    | intro _
    | split
    | dsimp only
    | ((try with_reducible conv => arg 3; whnf); (with_reducible apply Keeps.upd); (with_reducible exact Or.inl rfl); (exact Or.inr rfl); (iterate 2 (with_reducible exact Or.inl rfl)); (exact Or.inr rfl); (iterate 7 (with_reducible exact Or.inl rfl)); (exact Or.inr rfl); (iterate 8 (with_reducible exact Or.inl rfl)); (exact Or.inr rfl); (with_reducible exact rfl); (with_reducible exact rfl))

theorem execTestMacBpWrite_keeps (v : Word) (s : State) :
    ∃ s', execTestMacBpWrite v s = .next s' ∧ Keeps [.csr, .sched, .bus, .tst] s s' := by
  unfold execTestMacBpWrite
  refine ⟨_, rfl, ?_⟩
  repeat' first
    | with_reducible apply Keeps.refl
    | with_reducible assumption
    | with_reducible apply Keeps.ite
    | ((with_reducible apply Keeps.step (testWrite_keeps ..)); exact rfl)
    | intro _
    | split
    | dsimp only
    | ((try with_reducible conv => arg 3; whnf); (with_reducible apply Keeps.upd); (with_reducible exact Or.inl rfl); (exact Or.inr rfl); (iterate 2 (with_reducible exact Or.inl rfl)); (exact Or.inr rfl); (iterate 7 (with_reducible exact Or.inl rfl)); (exact Or.inr rfl); (iterate 8 (with_reducible exact Or.inl rfl)); (exact Or.inr rfl); (with_reducible exact rfl); (with_reducible exact rfl))

theorem execTestAsrcJitWrite_keeps (which : Nat) (v : Word) (s : State) :
    ∃ s', execTestAsrcJitWrite which v s = .next s' ∧ Keeps [.csr, .sched, .bus, .tst] s s' := by
  unfold execTestAsrcJitWrite
  refine ⟨_, rfl, ?_⟩
  repeat' first
    | with_reducible apply Keeps.refl
    | with_reducible assumption
    | with_reducible apply Keeps.ite
    | ((with_reducible apply Keeps.step (testWrite_keeps ..)); exact rfl)
    | intro _
    | split
    | dsimp only
    | ((try with_reducible conv => arg 3; whnf); (with_reducible apply Keeps.upd); (with_reducible exact Or.inl rfl); (exact Or.inr rfl); (iterate 2 (with_reducible exact Or.inl rfl)); (exact Or.inr rfl); (iterate 7 (with_reducible exact Or.inl rfl)); (exact Or.inr rfl); (iterate 8 (with_reducible exact Or.inl rfl)); (exact Or.inr rfl); (with_reducible exact rfl); (with_reducible exact rfl))

theorem execTestTickGo_keeps (v : Word) (s : State) :
    ∃ s', execTestTickGo v s = .next s' ∧ Keeps [.csr, .sched, .bus, .tst] s s' := by
  unfold execTestTickGo
  refine ⟨_, rfl, ?_⟩
  repeat' first
    | with_reducible apply Keeps.refl
    | with_reducible assumption
    | with_reducible apply Keeps.ite
    | ((with_reducible apply Keeps.step (testWrite_keeps ..)); exact rfl)
    | intro _
    | split
    | dsimp only
    | ((try with_reducible conv => arg 3; whnf); (with_reducible apply Keeps.upd); (with_reducible exact Or.inl rfl); (exact Or.inr rfl); (iterate 2 (with_reducible exact Or.inl rfl)); (exact Or.inr rfl); (iterate 7 (with_reducible exact Or.inl rfl)); (exact Or.inr rfl); (iterate 8 (with_reducible exact Or.inl rfl)); (exact Or.inr rfl); (with_reducible exact rfl); (with_reducible exact rfl))

theorem execTestCdcWrite_keeps (v : Word) (s : State) :
    ∃ s', execTestCdcWrite v s = .next s' ∧ Keeps [.csr, .sched, .bus, .tst] s s' := by
  unfold execTestCdcWrite
  refine ⟨_, rfl, ?_⟩
  repeat' first
    | with_reducible apply Keeps.refl
    | with_reducible assumption
    | with_reducible apply Keeps.ite
    | ((with_reducible apply Keeps.step (testWrite_keeps ..)); exact rfl)
    | intro _
    | split
    | dsimp only
    | ((try with_reducible conv => arg 3; whnf); (with_reducible apply Keeps.upd); (with_reducible exact Or.inl rfl); (exact Or.inr rfl); (iterate 2 (with_reducible exact Or.inl rfl)); (exact Or.inr rfl); (iterate 7 (with_reducible exact Or.inl rfl)); (exact Or.inr rfl); (iterate 8 (with_reducible exact Or.inl rfl)); (exact Or.inr rfl); (with_reducible exact rfl); (with_reducible exact rfl))

theorem execTestEccGo_keeps (v : Word) (s : State) :
    ∃ s', execTestEccGo v s = .next s' ∧ Keeps [.csr, .sched, .bus, .tst] s s' := by
  unfold execTestEccGo
  refine ⟨_, rfl, ?_⟩
  repeat' first
    | with_reducible apply Keeps.refl
    | with_reducible assumption
    | with_reducible apply Keeps.ite
    | ((with_reducible apply Keeps.step (testWrite_keeps ..)); exact rfl)
    | intro _
    | split
    | dsimp only
    | ((try with_reducible conv => arg 3; whnf); (with_reducible apply Keeps.upd); (with_reducible exact Or.inl rfl); (exact Or.inr rfl); (iterate 2 (with_reducible exact Or.inl rfl)); (exact Or.inr rfl); (iterate 7 (with_reducible exact Or.inl rfl)); (exact Or.inr rfl); (iterate 8 (with_reducible exact Or.inl rfl)); (exact Or.inr rfl); (with_reducible exact rfl); (with_reducible exact rfl))

theorem execTestLeaseWrite_keeps (v : Word) (s : State) :
    ∃ s', execTestLeaseWrite v s = .next s' ∧ Keeps [.csr, .sched, .bus, .tst] s s' := by
  unfold execTestLeaseWrite
  refine ⟨_, rfl, ?_⟩
  repeat' first
    | with_reducible apply Keeps.refl
    | with_reducible assumption
    | with_reducible apply Keeps.ite
    | ((with_reducible apply Keeps.step (testWrite_keeps ..)); exact rfl)
    | intro _
    | split
    | dsimp only
    | ((try with_reducible conv => arg 3; whnf); (with_reducible apply Keeps.upd); (with_reducible exact Or.inl rfl); (exact Or.inr rfl); (iterate 2 (with_reducible exact Or.inl rfl)); (exact Or.inr rfl); (iterate 7 (with_reducible exact Or.inl rfl)); (exact Or.inr rfl); (iterate 8 (with_reducible exact Or.inl rfl)); (exact Or.inr rfl); (with_reducible exact rfl); (with_reducible exact rfl))

theorem execTestSirlosGo_keeps (v : Word) (s : State) :
    ∃ s', execTestSirlosGo v s = .next s' ∧ Keeps [.csr, .sched, .bus, .tst] s s' := by
  unfold execTestSirlosGo
  refine ⟨_, rfl, ?_⟩
  repeat' first
    | with_reducible apply Keeps.refl
    | with_reducible assumption
    | with_reducible apply Keeps.ite
    | ((with_reducible apply Keeps.step (testWrite_keeps ..)); exact rfl)
    | intro _
    | split
    | dsimp only
    | ((try with_reducible conv => arg 3; whnf); (with_reducible apply Keeps.upd); (with_reducible exact Or.inl rfl); (exact Or.inr rfl); (iterate 2 (with_reducible exact Or.inl rfl)); (exact Or.inr rfl); (iterate 7 (with_reducible exact Or.inl rfl)); (exact Or.inr rfl); (iterate 8 (with_reducible exact Or.inl rfl)); (exact Or.inr rfl); (with_reducible exact rfl); (with_reducible exact rfl))

theorem execTestSirlosEnd_keeps (s : State) :
    ∃ s', execTestSirlosEnd s = .next s' ∧ Keeps [.csr] s s' := by
  unfold execTestSirlosEnd
  refine ⟨_, rfl, ?_⟩
  repeat' first
    | with_reducible apply Keeps.refl
    | with_reducible assumption
    | with_reducible apply Keeps.ite
    | ((with_reducible apply Keeps.step (testSirlosEnd_keeps ..)); exact rfl)
    | intro _
    | split
    | dsimp only
    | ((try with_reducible conv => arg 3; whnf); (with_reducible apply Keeps.upd); (with_reducible exact Or.inl rfl); (exact Or.inr rfl); (iterate 20 (with_reducible exact Or.inl rfl)); (with_reducible exact rfl); (with_reducible exact rfl))

end Sys2Proof.Machine
end

