-- ==== Sys2Proof/Laws/KeepCmdPair.lean ====
section
/-! SUPPORT. What each operation of Machine/CmdPair.lean may change. -/
namespace Sys2Proof.Machine

theorem onFrame_keeps {M : List Part} {f : State → State} (hM : subParts [.csr, .redun] M = true) (hf : ∀ y0, Keeps M y0 (f y0)) (s : State) (h : LinkHdr) :
    Keeps M s (onFrame s h f) := by
  unfold onFrame
  repeat' first
    | with_reducible apply Keeps.refl
    | with_reducible assumption
    | with_reducible apply Keeps.ite
    | with_reducible apply Keeps.ite_p1
    | with_reducible apply Keeps.ite_p2
    | with_reducible apply Keeps.ite_p22
    | with_reducible apply Keeps.ite_p222
    | ((with_reducible apply Keeps.step (hf ..)); exact subParts_refl _)
    | ((with_reducible apply Keeps.step (linkAccept_keeps ..)); exact (subParts_trans rfl hM))
    | intro _
    | split
    | dsimp only
    | ((try with_reducible conv => arg 3; whnf); (with_reducible apply Keeps.upd); (with_reducible exact Or.inl rfl); (exact Or.inr (subParts_trans rfl hM)); (iterate 13 (with_reducible exact Or.inl rfl)); (exact Or.inr (subParts_trans rfl hM)); (iterate 6 (with_reducible exact Or.inl rfl)); (with_reducible exact rfl); (with_reducible exact rfl))

theorem bulkRole_keeps (s t : State) : Keeps [.boot] t (bulkRole s t) := by
  unfold bulkRole
  split
  · exact Keeps.refl _ _
  · exact ⟨fun p hp => by cases p <;> first | exact rfl | exact absurd (by decide) hp, Inv_of_mem rfl rfl⟩

theorem execLeaseRenew_keeps (src : Nat) (s : State) :
    ∃ s', execLeaseRenew src s = .next s' ∧ Keeps [.csr, .mem, .freeCtr, .sched, .dsp, .mix, .flood, .slu, .hr, .prf, .cv, .bus, .cores, .rcu, .redun, .rst, .tally, .net, .ser, .boot, .tst] s s' := by
  unfold execLeaseRenew
  refine ⟨_, rfl, ?_⟩
  repeat' first
    | with_reducible apply Keeps.refl
    | with_reducible assumption
    | with_reducible apply Keeps.ite
    | ((with_reducible apply Keeps.step (bulkRole_keeps ..)); exact rfl)
    | ((with_reducible apply Keeps.step (ap_keeps ..)); exact rfl)
    | ((with_reducible apply Keeps.step (leaseRenew_keeps (M := [.csr, .mem, .freeCtr, .sched, .dsp, .mix, .flood, .slu, .hr, .prf, .cv, .bus, .cores, .rcu, .redun, .rst, .tally, .net, .ser, .boot, .tst]) ?_ ?_ ..)); (with_reducible exact subParts_refl _); rotate_left; (exact rfl))
    | intro _
    | split
    | dsimp only
    | ((try with_reducible conv => arg 3; whnf); (with_reducible apply Keeps.upd); (with_reducible exact Or.inl rfl); (iterate 21 (exact Or.inr rfl)); (with_reducible exact rfl); (with_reducible exact rfl))

theorem execLeaseExpiry_keeps (s : State) :
    ∃ s', execLeaseExpiry s = .next s' ∧ Keeps [.csr, .flood, .hr, .rcu, .redun, .boot] s s' := by
  unfold execLeaseExpiry
  refine ⟨_, rfl, ?_⟩
  repeat' first
    | with_reducible apply Keeps.refl
    | with_reducible assumption
    | with_reducible apply Keeps.ite
    | ((with_reducible apply Keeps.step (bulkRole_keeps ..)); exact rfl)
    | ((with_reducible apply Keeps.step (leaseExpiry_keeps ..)); exact rfl)
    | intro _
    | split
    | dsimp only
    | ((try with_reducible conv => arg 3; whnf); (with_reducible apply Keeps.upd); (with_reducible exact Or.inl rfl); (exact Or.inr rfl); (iterate 5 (with_reducible exact Or.inl rfl)); (exact Or.inr rfl); (with_reducible exact Or.inl rfl); (exact Or.inr rfl); (iterate 4 (with_reducible exact Or.inl rfl)); (iterate 2 (exact Or.inr rfl)); (iterate 4 (with_reducible exact Or.inl rfl)); (exact Or.inr rfl); (with_reducible exact Or.inl rfl); (with_reducible exact rfl); (with_reducible exact rfl))

theorem execLeaseHbToggle_keeps (s : State) :
    ∃ s', execLeaseHbToggle s = .next s' ∧ Keeps [.redun] s s' := by
  unfold execLeaseHbToggle
  refine ⟨_, rfl, ?_⟩
  repeat' first
    | with_reducible apply Keeps.refl
    | with_reducible assumption
    | with_reducible apply Keeps.ite
    | ((with_reducible apply Keeps.step (hbToggle_keeps ..)); exact rfl)
    | intro _
    | split
    | dsimp only
    | ((try with_reducible conv => arg 3; whnf); (with_reducible apply Keeps.upd); (iterate 15 (with_reducible exact Or.inl rfl)); (exact Or.inr rfl); (iterate 6 (with_reducible exact Or.inl rfl)); (with_reducible exact rfl); (with_reducible exact rfl))

theorem execRedunModeWrite_keeps (v : Word) (s : State) :
    ∃ s', execRedunModeWrite v s = .next s' ∧ Keeps [.csr, .prf] s s' := by
  unfold execRedunModeWrite
  refine ⟨_, rfl, ?_⟩
  repeat' first
    | with_reducible apply Keeps.refl
    | with_reducible assumption
    | with_reducible apply Keeps.ite
    | ((with_reducible apply Keeps.step (redunModeWrite_keeps ..)); exact rfl)
    | intro _
    | split
    | dsimp only
    | ((try with_reducible conv => arg 3; whnf); (with_reducible apply Keeps.upd); (with_reducible exact Or.inl rfl); (exact Or.inr rfl); (iterate 8 (with_reducible exact Or.inl rfl)); (exact Or.inr rfl); (iterate 11 (with_reducible exact Or.inl rfl)); (with_reducible exact rfl); (with_reducible exact rfl))

theorem execRedunYield_keeps (s : State) :
    ∃ s', execRedunYield s = .next s' ∧ Keeps [.csr, .hr, .rcu, .redun] s s' := by
  unfold execRedunYield
  refine ⟨_, rfl, ?_⟩
  repeat' first
    | with_reducible apply Keeps.refl
    | with_reducible assumption
    | with_reducible apply Keeps.ite
    | ((with_reducible apply Keeps.step (redunYield_keeps ..)); exact rfl)
    | intro _
    | split
    | dsimp only
    | ((try with_reducible conv => arg 3; whnf); (with_reducible apply Keeps.upd); (with_reducible exact Or.inl rfl); (exact Or.inr rfl); (iterate 7 (with_reducible exact Or.inl rfl)); (exact Or.inr rfl); (iterate 4 (with_reducible exact Or.inl rfl)); (iterate 2 (exact Or.inr rfl)); (iterate 6 (with_reducible exact Or.inl rfl)); (with_reducible exact rfl); (with_reducible exact rfl))

theorem execRevertYield_keeps (s : State) :
    ∃ s', execRevertYield s = .next s' ∧ Keeps [.csr, .hr, .rcu, .redun] s s' := by
  unfold execRevertYield
  refine ⟨_, rfl, ?_⟩
  repeat' first
    | with_reducible apply Keeps.refl
    | with_reducible assumption
    | with_reducible apply Keeps.ite
    | ((with_reducible apply Keeps.step (revertYield_keeps ..)); exact rfl)
    | intro _
    | split
    | dsimp only
    | ((try with_reducible conv => arg 3; whnf); (with_reducible apply Keeps.upd); (with_reducible exact Or.inl rfl); (exact Or.inr rfl); (iterate 7 (with_reducible exact Or.inl rfl)); (exact Or.inr rfl); (iterate 4 (with_reducible exact Or.inl rfl)); (iterate 2 (exact Or.inr rfl)); (iterate 6 (with_reducible exact Or.inl rfl)); (with_reducible exact rfl); (with_reducible exact rfl))

theorem execRedunResyncReq_keeps (s : State) :
    ∃ s', execRedunResyncReq s = .next s' ∧ Keeps [.csr, .redun] s s' := by
  unfold execRedunResyncReq
  refine ⟨_, rfl, ?_⟩
  repeat' first
    | with_reducible apply Keeps.refl
    | with_reducible assumption
    | with_reducible apply Keeps.ite
    | ((with_reducible apply Keeps.step (resyncStart_keeps ..)); exact rfl)
    | intro _
    | split
    | dsimp only
    | ((try with_reducible conv => arg 3; whnf); (with_reducible apply Keeps.upd); (with_reducible exact Or.inl rfl); (exact Or.inr rfl); (iterate 13 (with_reducible exact Or.inl rfl)); (exact Or.inr rfl); (iterate 6 (with_reducible exact Or.inl rfl)); (with_reducible exact rfl); (with_reducible exact rfl))

theorem execRedunResyncAbort_keeps (s : State) :
    ∃ s', execRedunResyncAbort s = .next s' ∧ Keeps [.csr, .freeCtr, .slu, .hr, .redun] s s' := by
  unfold execRedunResyncAbort
  refine ⟨_, rfl, ?_⟩
  repeat' first
    | with_reducible apply Keeps.refl
    | with_reducible assumption
    | with_reducible apply Keeps.ite
    | ((with_reducible apply Keeps.step (resyncFail_keeps ..)); exact rfl)
    | intro _
    | split
    | dsimp only
    | ((try with_reducible conv => arg 3; whnf); (with_reducible apply Keeps.upd); (with_reducible exact Or.inl rfl); (exact Or.inr rfl); (with_reducible exact Or.inl rfl); (exact Or.inr rfl); (iterate 4 (with_reducible exact Or.inl rfl)); (iterate 2 (exact Or.inr rfl)); (iterate 5 (with_reducible exact Or.inl rfl)); (exact Or.inr rfl); (iterate 6 (with_reducible exact Or.inl rfl)); (with_reducible exact rfl); (with_reducible exact rfl))

theorem execAutoResyncStart_keeps (s : State) :
    ∃ s', execAutoResyncStart s = .next s' ∧ Keeps [.csr, .redun] s s' := by
  unfold execAutoResyncStart
  refine ⟨_, rfl, ?_⟩
  repeat' first
    | with_reducible apply Keeps.refl
    | with_reducible assumption
    | with_reducible apply Keeps.ite
    | ((with_reducible apply Keeps.step (autoResync_keeps ..)); exact rfl)
    | intro _
    | split
    | dsimp only
    | ((try with_reducible conv => arg 3; whnf); (with_reducible apply Keeps.upd); (with_reducible exact Or.inl rfl); (exact Or.inr rfl); (iterate 13 (with_reducible exact Or.inl rfl)); (exact Or.inr rfl); (iterate 6 (with_reducible exact Or.inl rfl)); (with_reducible exact rfl); (with_reducible exact rfl))

theorem execSirlosStatusRx_keeps (h : LinkHdr) (role sync : Nat) (home test : Bool) (ack0 ack1 : Nat) (s : State) :
    ∃ s', execSirlosStatusRx h role sync home test ack0 ack1 s = .next s' ∧ Keeps [.csr, .freeCtr, .slu, .hr, .rcu, .redun] s s' := by
  unfold execSirlosStatusRx
  refine ⟨_, rfl, ?_⟩
  repeat' first
    | with_reducible apply Keeps.refl
    | with_reducible assumption
    | with_reducible apply Keeps.ite
    | ((with_reducible apply Keeps.step (statusRx_keeps ..)); exact rfl)
    | ((with_reducible apply onFrame_keeps); exact rfl)
    | intro _
    | split
    | dsimp only
    | ((try with_reducible conv => arg 3; whnf); (with_reducible apply Keeps.upd); (with_reducible exact Or.inl rfl); (exact Or.inr rfl); (with_reducible exact Or.inl rfl); (exact Or.inr rfl); (iterate 4 (with_reducible exact Or.inl rfl)); (iterate 2 (exact Or.inr rfl)); (iterate 4 (with_reducible exact Or.inl rfl)); (iterate 2 (exact Or.inr rfl)); (iterate 6 (with_reducible exact Or.inl rfl)); (with_reducible exact rfl); (with_reducible exact rfl))

theorem execSirlosHelloRx_keeps (h : LinkHdr) (x : Hello) (s : State) :
    ∃ s', execSirlosHelloRx h x s = .next s' ∧ Keeps [.csr, .freeCtr, .flood, .slu, .hr, .cv, .bus, .cores, .rcu, .redun, .rst] s s' := by
  unfold execSirlosHelloRx
  refine ⟨_, rfl, ?_⟩
  repeat' first
    | with_reducible apply Keeps.refl
    | with_reducible assumption
    | with_reducible apply Keeps.ite
    | ((with_reducible apply Keeps.step (helloRx_keeps ..)); exact rfl)
    | ((with_reducible apply onFrame_keeps); exact rfl)
    | intro _
    | split
    | dsimp only
    | ((try with_reducible conv => arg 3; whnf); (with_reducible apply Keeps.upd); (with_reducible exact Or.inl rfl); (exact Or.inr rfl); (with_reducible exact Or.inl rfl); (exact Or.inr rfl); (iterate 3 (with_reducible exact Or.inl rfl)); (iterate 3 (exact Or.inr rfl)); (with_reducible exact Or.inl rfl); (iterate 6 (exact Or.inr rfl)); (iterate 5 (with_reducible exact Or.inl rfl)); (with_reducible exact rfl); (with_reducible exact rfl))

theorem execHelloSend_keeps (s : State) :
    ∃ s', execHelloSend s = .next s' ∧ Keeps [.redun] s s' := by
  unfold execHelloSend
  refine ⟨_, rfl, ?_⟩
  repeat' first
    | with_reducible apply Keeps.refl
    | with_reducible assumption
    | with_reducible apply Keeps.ite
    | ((with_reducible apply Keeps.step (helloSend_keeps ..)); exact rfl)
    | intro _
    | split
    | dsimp only
    | ((try with_reducible conv => arg 3; whnf); (with_reducible apply Keeps.upd); (iterate 15 (with_reducible exact Or.inl rfl)); (exact Or.inr rfl); (iterate 6 (with_reducible exact Or.inl rfl)); (with_reducible exact rfl); (with_reducible exact rfl))

theorem execStatusSend_keeps (s : State) :
    ∃ s', execStatusSend s = .next s' ∧ Keeps [.redun] s s' := by
  unfold execStatusSend
  refine ⟨_, rfl, ?_⟩
  repeat' first
    | with_reducible apply Keeps.refl
    | with_reducible assumption
    | with_reducible apply Keeps.ite
    | ((with_reducible apply Keeps.step (statusSend_keeps ..)); exact rfl)
    | intro _
    | split
    | dsimp only
    | ((try with_reducible conv => arg 3; whnf); (with_reducible apply Keeps.upd); (iterate 15 (with_reducible exact Or.inl rfl)); (exact Or.inr rfl); (iterate 6 (with_reducible exact Or.inl rfl)); (with_reducible exact rfl); (with_reducible exact rfl))

theorem execSirlosTickRx_keeps (h : LinkHdr) (idx tmc : Nat) (phi : Int) (e : PeerEdge) (s : State) :
    ∃ s', execSirlosTickRx h idx tmc phi e s = .next s' ∧ Keeps [.csr, .freeCtr, .slu, .hr, .rcu, .redun, .tally] s s' := by
  unfold execSirlosTickRx
  refine ⟨_, rfl, ?_⟩
  repeat' first
    | with_reducible apply Keeps.refl
    | with_reducible assumption
    | with_reducible apply Keeps.ite
    | ((with_reducible apply Keeps.step (tickRx_keeps ..)); exact rfl)
    | ((with_reducible apply onFrame_keeps); exact rfl)
    | intro _
    | split
    | dsimp only
    | ((try with_reducible conv => arg 3; whnf); (with_reducible apply Keeps.upd); (with_reducible exact Or.inl rfl); (exact Or.inr rfl); (with_reducible exact Or.inl rfl); (exact Or.inr rfl); (iterate 4 (with_reducible exact Or.inl rfl)); (iterate 2 (exact Or.inr rfl)); (iterate 4 (with_reducible exact Or.inl rfl)); (iterate 2 (exact Or.inr rfl)); (with_reducible exact Or.inl rfl); (exact Or.inr rfl); (iterate 4 (with_reducible exact Or.inl rfl)); (with_reducible exact rfl); (with_reducible exact rfl))

theorem execSirlosCanaryRx_keeps (h : LinkHdr) (n hash : Nat) (items : List Nat) (s : State) :
    ∃ s', execSirlosCanaryRx h n hash items s = .next s' ∧ Keeps [.csr, .freeCtr, .slu, .hr, .redun] s s' := by
  unfold execSirlosCanaryRx
  refine ⟨_, rfl, ?_⟩
  repeat' first
    | with_reducible apply Keeps.refl
    | with_reducible assumption
    | with_reducible apply Keeps.ite
    | ((with_reducible apply Keeps.step (canaryRx_keeps ..)); exact rfl)
    | ((with_reducible apply onFrame_keeps); exact rfl)
    | intro _
    | split
    | dsimp only
    | ((try with_reducible conv => arg 3; whnf); (with_reducible apply Keeps.upd); (with_reducible exact Or.inl rfl); (exact Or.inr rfl); (with_reducible exact Or.inl rfl); (exact Or.inr rfl); (iterate 4 (with_reducible exact Or.inl rfl)); (iterate 2 (exact Or.inr rfl)); (iterate 5 (with_reducible exact Or.inl rfl)); (exact Or.inr rfl); (iterate 6 (with_reducible exact Or.inl rfl)); (with_reducible exact rfl); (with_reducible exact rfl))

theorem execCanaryMissing_keeps (n : Nat) (s : State) :
    ∃ s', execCanaryMissing n s = .next s' ∧ Keeps [.csr, .freeCtr, .slu, .hr, .redun] s s' := by
  unfold execCanaryMissing
  refine ⟨_, rfl, ?_⟩
  repeat' first
    | with_reducible apply Keeps.refl
    | with_reducible assumption
    | with_reducible apply Keeps.ite
    | ((with_reducible apply Keeps.step (canaryMissing_keeps ..)); exact rfl)
    | intro _
    | split
    | dsimp only
    | ((try with_reducible conv => arg 3; whnf); (with_reducible apply Keeps.upd); (with_reducible exact Or.inl rfl); (exact Or.inr rfl); (with_reducible exact Or.inl rfl); (exact Or.inr rfl); (iterate 4 (with_reducible exact Or.inl rfl)); (iterate 2 (exact Or.inr rfl)); (iterate 5 (with_reducible exact Or.inl rfl)); (exact Or.inr rfl); (iterate 6 (with_reducible exact Or.inl rfl)); (with_reducible exact rfl); (with_reducible exact rfl))

theorem execSirlosMirrorRx_keeps (h : LinkHdr) (jpos : Nat) (entries : List Nat) (s : State) :
    ∃ s', execSirlosMirrorRx h jpos entries s = .next s' ∧ Keeps [.csr, .mem, .freeCtr, .sched, .dsp, .mix, .flood, .slu, .hr, .prf, .cv, .bus, .cores, .rcu, .redun, .rst, .tally, .net, .ser, .boot, .tst] s s' := by
  unfold execSirlosMirrorRx
  refine ⟨_, rfl, ?_⟩
  repeat' first
    | with_reducible apply Keeps.refl
    | with_reducible assumption
    | with_reducible apply Keeps.ite
    | ((with_reducible apply Keeps.step (ap_keeps ..)); exact rfl)
    | ((with_reducible apply onFrame_keeps); exact rfl)
    | ((with_reducible apply Keeps.step (mirrorRx_keeps (M := [.csr, .mem, .freeCtr, .sched, .dsp, .mix, .flood, .slu, .hr, .prf, .cv, .bus, .cores, .rcu, .redun, .rst, .tally, .net, .ser, .boot, .tst]) ?_ ?_ ..)); (with_reducible exact subParts_refl _); rotate_left; (exact rfl))
    | intro _
    | split
    | dsimp only
    | ((try with_reducible conv => arg 3; whnf); (with_reducible apply Keeps.upd); (with_reducible exact Or.inl rfl); (iterate 21 (exact Or.inr rfl)); (with_reducible exact rfl); (with_reducible exact rfl))

theorem execSirlosRatioRx_keeps (h : LinkHdr) (n : Nat) (words lost : List (Nat × Nat)) (s : State) :
    ∃ s', execSirlosRatioRx h n words lost s = .next s' ∧ Keeps [.csr, .redun, .ser] s s' := by
  unfold execSirlosRatioRx
  refine ⟨_, rfl, ?_⟩
  repeat' first
    | with_reducible apply Keeps.refl
    | with_reducible assumption
    | with_reducible apply Keeps.ite
    | with_reducible apply Keeps.ite_p1
    | with_reducible apply Keeps.ite_p2
    | with_reducible apply Keeps.ite_p22
    | with_reducible apply Keeps.ite_p222
    | ((with_reducible apply Keeps.step (ratioRx_keeps ..)); exact rfl)
    | ((with_reducible apply onFrame_keeps); exact rfl)
    | intro _
    | split
    | dsimp only
    | ((try with_reducible conv => arg 3; whnf); (with_reducible apply Keeps.upd); (with_reducible exact Or.inl rfl); (exact Or.inr rfl); (iterate 13 (with_reducible exact Or.inl rfl)); (exact Or.inr rfl); (iterate 3 (with_reducible exact Or.inl rfl)); (exact Or.inr rfl); (iterate 2 (with_reducible exact Or.inl rfl)); (with_reducible exact rfl); (with_reducible exact rfl))

theorem execSirlosFwdRx_keeps (h : LinkHdr) (slot ts value : Nat) (s : State) :
    ∃ s', execSirlosFwdRx h slot ts value s = .next s' ∧ Keeps [.csr, .mem, .freeCtr, .flood, .slu, .hr, .cv, .bus, .rcu, .redun, .net] s s' := by
  unfold execSirlosFwdRx
  refine ⟨_, rfl, ?_⟩
  repeat' first
    | with_reducible apply Keeps.refl
    | with_reducible assumption
    | with_reducible apply Keeps.ite
    | ((with_reducible apply Keeps.step (fwdRx_keeps ..)); exact rfl)
    | ((with_reducible apply onFrame_keeps); exact rfl)
    | intro _
    | split
    | dsimp only
    | ((try with_reducible conv => arg 3; whnf); (with_reducible apply Keeps.upd); (with_reducible exact Or.inl rfl); (iterate 3 (exact Or.inr rfl)); (iterate 3 (with_reducible exact Or.inl rfl)); (iterate 3 (exact Or.inr rfl)); (with_reducible exact Or.inl rfl); (iterate 2 (exact Or.inr rfl)); (with_reducible exact Or.inl rfl); (iterate 2 (exact Or.inr rfl)); (iterate 2 (with_reducible exact Or.inl rfl)); (exact Or.inr rfl); (iterate 3 (with_reducible exact Or.inl rfl)); (with_reducible exact rfl); (with_reducible exact rfl))

theorem execSirlosCloseRx_keeps (h : LinkHdr) (n : Nat) (present : List Nat) (s : State) :
    ∃ s', execSirlosCloseRx h n present s = .next s' ∧ Keeps [.csr, .redun] s s' := by
  unfold execSirlosCloseRx
  refine ⟨_, rfl, ?_⟩
  repeat' first
    | with_reducible apply Keeps.refl
    | with_reducible assumption
    | with_reducible apply Keeps.ite
    | ((with_reducible apply Keeps.step (closeRx_keeps ..)); exact rfl)
    | ((with_reducible apply onFrame_keeps); exact rfl)
    | intro _
    | split
    | dsimp only
    | ((try with_reducible conv => arg 3; whnf); (with_reducible apply Keeps.upd); (with_reducible exact Or.inl rfl); (exact Or.inr rfl); (iterate 13 (with_reducible exact Or.inl rfl)); (exact Or.inr rfl); (iterate 6 (with_reducible exact Or.inl rfl)); (with_reducible exact rfl); (with_reducible exact rfl))

theorem execFwdRecordLate_keeps (s : State) :
    ∃ s', execFwdRecordLate s = .next s' ∧ Keeps [.csr, .freeCtr, .slu, .hr, .redun] s s' := by
  unfold execFwdRecordLate
  refine ⟨_, rfl, ?_⟩
  repeat' first
    | with_reducible apply Keeps.refl
    | with_reducible assumption
    | with_reducible apply Keeps.ite
    | ((with_reducible apply Keeps.step (fwdLate_keeps ..)); exact rfl)
    | intro _
    | split
    | dsimp only
    | ((try with_reducible conv => arg 3; whnf); (with_reducible apply Keeps.upd); (with_reducible exact Or.inl rfl); (exact Or.inr rfl); (with_reducible exact Or.inl rfl); (exact Or.inr rfl); (iterate 4 (with_reducible exact Or.inl rfl)); (iterate 2 (exact Or.inr rfl)); (iterate 5 (with_reducible exact Or.inl rfl)); (exact Or.inr rfl); (iterate 6 (with_reducible exact Or.inl rfl)); (with_reducible exact rfl); (with_reducible exact rfl))

theorem execSirlosResend_keeps (lane : Nat) (s : State) :
    ∃ s', execSirlosResend lane s = .next s' ∧ Keeps [.csr] s s' := by
  unfold execSirlosResend
  refine ⟨_, rfl, ?_⟩
  repeat' first
    | with_reducible apply Keeps.refl
    | with_reducible assumption
    | with_reducible apply Keeps.ite
    | ((with_reducible apply Keeps.step (linkResend_keeps ..)); exact rfl)
    | intro _
    | split
    | dsimp only
    | ((try with_reducible conv => arg 3; whnf); (with_reducible apply Keeps.upd); (with_reducible exact Or.inl rfl); (exact Or.inr rfl); (iterate 20 (with_reducible exact Or.inl rfl)); (with_reducible exact rfl); (with_reducible exact rfl))

theorem execPeerLost_keeps (s : State) :
    ∃ s', execPeerLost s = .next s' ∧ Keeps [.csr, .freeCtr, .slu, .hr, .redun] s s' := by
  unfold execPeerLost
  refine ⟨_, rfl, ?_⟩
  repeat' first
    | with_reducible apply Keeps.refl
    | with_reducible assumption
    | with_reducible apply Keeps.ite
    | ((with_reducible apply Keeps.step (peerLost_keeps ..)); exact rfl)
    | intro _
    | split
    | dsimp only
    | ((try with_reducible conv => arg 3; whnf); (with_reducible apply Keeps.upd); (with_reducible exact Or.inl rfl); (exact Or.inr rfl); (with_reducible exact Or.inl rfl); (exact Or.inr rfl); (iterate 4 (with_reducible exact Or.inl rfl)); (iterate 2 (exact Or.inr rfl)); (iterate 5 (with_reducible exact Or.inl rfl)); (exact Or.inr rfl); (iterate 6 (with_reducible exact Or.inl rfl)); (with_reducible exact rfl); (with_reducible exact rfl))

theorem execSirlosCopyRx_keeps (h : LinkHdr) (x : CopyItem) (s : State) :
    ∃ s', execSirlosCopyRx h x s = .next s' ∧ Keeps [.csr, .mem, .freeCtr, .sched, .dsp, .mix, .flood, .slu, .hr, .prf, .cv, .bus, .cores, .rcu, .redun, .rst, .tally, .net, .ser, .boot, .tst] s s' := by
  unfold execSirlosCopyRx
  refine ⟨_, rfl, ?_⟩
  repeat' first
    | with_reducible apply Keeps.refl
    | with_reducible assumption
    | with_reducible apply Keeps.ite
    | ((with_reducible apply Keeps.step (ap_keeps ..)); exact rfl)
    | ((with_reducible apply onFrame_keeps); exact rfl)
    | ((with_reducible apply Keeps.step (copyRx_keeps (M := [.csr, .mem, .freeCtr, .sched, .dsp, .mix, .flood, .slu, .hr, .prf, .cv, .bus, .cores, .rcu, .redun, .rst, .tally, .net, .ser, .boot, .tst]) ?_ ?_ ..)); (with_reducible exact subParts_refl _); rotate_left; (exact rfl))
    | intro _
    | split
    | dsimp only
    | ((try with_reducible conv => arg 3; whnf); (with_reducible apply Keeps.upd); (with_reducible exact Or.inl rfl); (iterate 21 (exact Or.inr rfl)); (with_reducible exact rfl); (with_reducible exact rfl))

theorem execCopyComplete_keeps (s : State) :
    ∃ s', execCopyComplete s = .next s' ∧ Keeps [.redun] s s' := by
  unfold execCopyComplete
  refine ⟨_, rfl, ?_⟩
  repeat' first
    | with_reducible apply Keeps.refl
    | with_reducible assumption
    | with_reducible apply Keeps.ite
    | ((with_reducible apply Keeps.step (copyComplete_keeps ..)); exact rfl)
    | intro _
    | split
    | dsimp only
    | ((try with_reducible conv => arg 3; whnf); (with_reducible apply Keeps.upd); (iterate 15 (with_reducible exact Or.inl rfl)); (exact Or.inr rfl); (iterate 6 (with_reducible exact Or.inl rfl)); (with_reducible exact rfl); (with_reducible exact rfl))

theorem execAlignComplete_keeps (s : State) :
    ∃ s', execAlignComplete s = .next s' ∧ Keeps [.sched, .redun, .tally] s s' := by
  unfold execAlignComplete
  refine ⟨_, rfl, ?_⟩
  repeat' first
    | with_reducible apply Keeps.refl
    | with_reducible assumption
    | with_reducible apply Keeps.ite
    | ((with_reducible apply Keeps.step (alignComplete_keeps ..)); exact rfl)
    | intro _
    | split
    | dsimp only
    | ((try with_reducible conv => arg 3; whnf); (with_reducible apply Keeps.upd); (iterate 4 (with_reducible exact Or.inl rfl)); (exact Or.inr rfl); (iterate 10 (with_reducible exact Or.inl rfl)); (exact Or.inr rfl); (with_reducible exact Or.inl rfl); (exact Or.inr rfl); (iterate 4 (with_reducible exact Or.inl rfl)); (with_reducible exact rfl); (with_reducible exact rfl))

theorem execResyncCoreRelease_keeps (s : State) :
    ∃ s', execResyncCoreRelease s = .next s' ∧ Keeps [.csr, .mem, .freeCtr, .sched, .dsp, .mix, .flood, .slu, .hr, .prf, .cv, .bus, .cores, .rcu, .redun, .rst, .tally, .net, .ser, .boot, .tst] s s' := by
  unfold execResyncCoreRelease
  refine ⟨_, rfl, ?_⟩
  repeat' first
    | with_reducible apply Keeps.refl
    | with_reducible assumption
    | with_reducible apply Keeps.ite
    | ((with_reducible apply Keeps.step (ap_keeps ..)); exact rfl)
    | ((with_reducible apply Keeps.step (resyncRelease_keeps (M := [.csr, .mem, .freeCtr, .sched, .dsp, .mix, .flood, .slu, .hr, .prf, .cv, .bus, .cores, .rcu, .redun, .rst, .tally, .net, .ser, .boot, .tst]) ?_ ?_ ..)); (with_reducible exact subParts_refl _); rotate_left; (exact rfl))
    | intro _
    | split
    | dsimp only
    | ((try with_reducible conv => arg 3; whnf); (with_reducible apply Keeps.upd); (with_reducible exact Or.inl rfl); (iterate 21 (exact Or.inr rfl)); (with_reducible exact rfl); (with_reducible exact rfl))

theorem execSweepFinalPass_keeps (item : Nat) (s : State) :
    ∃ s', execSweepFinalPass item s = .next s' ∧ Keeps [.csr, .freeCtr, .flood, .slu, .hr, .cv, .bus, .rcu, .redun] s s' := by
  unfold execSweepFinalPass
  refine ⟨_, rfl, ?_⟩
  repeat' first
    | with_reducible apply Keeps.refl
    | with_reducible assumption
    | with_reducible apply Keeps.ite
    | ((with_reducible apply Keeps.step (sweepFinal_keeps ..)); exact rfl)
    | intro _
    | split
    | dsimp only
    | ((try with_reducible conv => arg 3; whnf); (with_reducible apply Keeps.upd); (with_reducible exact Or.inl rfl); (exact Or.inr rfl); (with_reducible exact Or.inl rfl); (exact Or.inr rfl); (iterate 3 (with_reducible exact Or.inl rfl)); (iterate 3 (exact Or.inr rfl)); (with_reducible exact Or.inl rfl); (iterate 2 (exact Or.inr rfl)); (with_reducible exact Or.inl rfl); (iterate 2 (exact Or.inr rfl)); (iterate 6 (with_reducible exact Or.inl rfl)); (with_reducible exact rfl); (with_reducible exact rfl))

theorem execSirlosSweepRx_keeps (h : LinkHdr) (item ns : Nat) (x : SweepData) (s : State) :
    ∃ s', execSirlosSweepRx h item ns x s = .next s' ∧ Keeps [.csr, .mem, .freeCtr, .dsp, .mix, .flood, .slu, .hr, .cv, .bus, .rcu, .redun] s s' := by
  unfold execSirlosSweepRx
  refine ⟨_, rfl, ?_⟩
  repeat' first
    | with_reducible apply Keeps.refl
    | with_reducible assumption
    | with_reducible apply Keeps.ite
    | ((with_reducible apply Keeps.step (sweepRx_keeps ..)); exact rfl)
    | ((with_reducible apply onFrame_keeps); exact rfl)
    | intro _
    | split
    | dsimp only
    | ((try with_reducible conv => arg 3; whnf); (with_reducible apply Keeps.upd); (with_reducible exact Or.inl rfl); (iterate 3 (exact Or.inr rfl)); (with_reducible exact Or.inl rfl); (iterate 5 (exact Or.inr rfl)); (with_reducible exact Or.inl rfl); (iterate 2 (exact Or.inr rfl)); (with_reducible exact Or.inl rfl); (iterate 2 (exact Or.inr rfl)); (iterate 6 (with_reducible exact Or.inl rfl)); (with_reducible exact rfl); (with_reducible exact rfl))

theorem execSirlosSwackRx_keeps (h : LinkHdr) (item : Nat) (ok : Bool) (s : State) :
    ∃ s', execSirlosSwackRx h item ok s = .next s' ∧ Keeps [.csr, .redun] s s' := by
  unfold execSirlosSwackRx
  refine ⟨_, rfl, ?_⟩
  repeat' first
    | with_reducible apply Keeps.refl
    | with_reducible assumption
    | with_reducible apply Keeps.ite
    | ((with_reducible apply Keeps.step (swackRx_keeps ..)); exact rfl)
    | ((with_reducible apply onFrame_keeps); exact rfl)
    | intro _
    | split
    | dsimp only
    | ((try with_reducible conv => arg 3; whnf); (with_reducible apply Keeps.upd); (with_reducible exact Or.inl rfl); (exact Or.inr rfl); (iterate 13 (with_reducible exact Or.inl rfl)); (exact Or.inr rfl); (iterate 6 (with_reducible exact Or.inl rfl)); (with_reducible exact rfl); (with_reducible exact rfl))

theorem execSweepItemDeadline_keeps (item : Nat) (s : State) :
    ∃ s', execSweepItemDeadline item s = .next s' ∧ Keeps [.redun] s s' := by
  unfold execSweepItemDeadline
  refine ⟨_, rfl, ?_⟩
  repeat' first
    | with_reducible apply Keeps.refl
    | with_reducible assumption
    | with_reducible apply Keeps.ite
    | ((with_reducible apply Keeps.step (sweepDeadline_keeps ..)); exact rfl)
    | intro _
    | split
    | dsimp only
    | ((try with_reducible conv => arg 3; whnf); (with_reducible apply Keeps.upd); (iterate 15 (with_reducible exact Or.inl rfl)); (exact Or.inr rfl); (iterate 6 (with_reducible exact Or.inl rfl)); (with_reducible exact rfl); (with_reducible exact rfl))

theorem execResyncItemTimeout_keeps (s : State) :
    ∃ s', execResyncItemTimeout s = .next s' ∧ Keeps [.csr, .freeCtr, .slu, .hr, .redun] s s' := by
  unfold execResyncItemTimeout
  refine ⟨_, rfl, ?_⟩
  repeat' first
    | with_reducible apply Keeps.refl
    | with_reducible assumption
    | with_reducible apply Keeps.ite
    | ((with_reducible apply Keeps.step (itemTimeout_keeps ..)); exact rfl)
    | intro _
    | split
    | dsimp only
    | ((try with_reducible conv => arg 3; whnf); (with_reducible apply Keeps.upd); (with_reducible exact Or.inl rfl); (exact Or.inr rfl); (with_reducible exact Or.inl rfl); (exact Or.inr rfl); (iterate 4 (with_reducible exact Or.inl rfl)); (iterate 2 (exact Or.inr rfl)); (iterate 5 (with_reducible exact Or.inl rfl)); (exact Or.inr rfl); (iterate 6 (with_reducible exact Or.inl rfl)); (with_reducible exact rfl); (with_reducible exact rfl))

theorem execVerifyStart_keeps (s : State) :
    ∃ s', execVerifyStart s = .next s' ∧ Keeps [.csr, .freeCtr, .slu, .hr, .redun] s s' := by
  unfold execVerifyStart
  refine ⟨_, rfl, ?_⟩
  repeat' first
    | with_reducible apply Keeps.refl
    | with_reducible assumption
    | with_reducible apply Keeps.ite
    | ((with_reducible apply Keeps.step (verifyStart_keeps ..)); exact rfl)
    | intro _
    | split
    | dsimp only
    | ((try with_reducible conv => arg 3; whnf); (with_reducible apply Keeps.upd); (with_reducible exact Or.inl rfl); (exact Or.inr rfl); (with_reducible exact Or.inl rfl); (exact Or.inr rfl); (iterate 4 (with_reducible exact Or.inl rfl)); (iterate 2 (exact Or.inr rfl)); (iterate 5 (with_reducible exact Or.inl rfl)); (exact Or.inr rfl); (iterate 6 (with_reducible exact Or.inl rfl)); (with_reducible exact rfl); (with_reducible exact rfl))

theorem execResyncSynced_keeps (ms : Nat) (s : State) :
    ∃ s', execResyncSynced ms s = .next s' ∧ Keeps [.csr, .redun] s s' := by
  unfold execResyncSynced
  refine ⟨_, rfl, ?_⟩
  repeat' first
    | with_reducible apply Keeps.refl
    | with_reducible assumption
    | with_reducible apply Keeps.ite
    | ((with_reducible apply Keeps.step (resyncSynced_keeps ..)); exact rfl)
    | intro _
    | split
    | dsimp only
    | ((try with_reducible conv => arg 3; whnf); (with_reducible apply Keeps.upd); (with_reducible exact Or.inl rfl); (exact Or.inr rfl); (iterate 13 (with_reducible exact Or.inl rfl)); (exact Or.inr rfl); (iterate 6 (with_reducible exact Or.inl rfl)); (with_reducible exact rfl); (with_reducible exact rfl))

theorem execSirlosLaneUp_keeps (lane : Nat) (s : State) :
    ∃ s', execSirlosLaneUp lane s = .next s' ∧ Keeps [.csr, .redun] s s' := by
  unfold execSirlosLaneUp
  refine ⟨_, rfl, ?_⟩
  repeat' first
    | with_reducible apply Keeps.refl
    | with_reducible assumption
    | with_reducible apply Keeps.ite
    | ((with_reducible apply Keeps.step (laneUp_keeps ..)); exact rfl)
    | intro _
    | split
    | dsimp only
    | ((try with_reducible conv => arg 3; whnf); (with_reducible apply Keeps.upd); (with_reducible exact Or.inl rfl); (exact Or.inr rfl); (iterate 13 (with_reducible exact Or.inl rfl)); (exact Or.inr rfl); (iterate 6 (with_reducible exact Or.inl rfl)); (with_reducible exact rfl); (with_reducible exact rfl))

theorem execSirlosLaneDown_keeps (lane : Nat) (s : State) :
    ∃ s', execSirlosLaneDown lane s = .next s' ∧ Keeps [.csr, .redun] s s' := by
  unfold execSirlosLaneDown
  refine ⟨_, rfl, ?_⟩
  repeat' first
    | with_reducible apply Keeps.refl
    | with_reducible assumption
    | with_reducible apply Keeps.ite
    | ((with_reducible apply Keeps.step (laneDown_keeps ..)); exact rfl)
    | intro _
    | split
    | dsimp only
    | ((try with_reducible conv => arg 3; whnf); (with_reducible apply Keeps.upd); (with_reducible exact Or.inl rfl); (exact Or.inr rfl); (iterate 13 (with_reducible exact Or.inl rfl)); (exact Or.inr rfl); (iterate 6 (with_reducible exact Or.inl rfl)); (with_reducible exact rfl); (with_reducible exact rfl))

end Sys2Proof.Machine
end

