-- ==== Sys2Proof/Laws/KeepWindows.lean ====
section
/-! SUPPORT. What each operation of Machine/Windows.lean may change. -/
namespace Sys2Proof.Machine

theorem wake_keeps (s : State) (c : Nat) :
    Keeps [.cores] s (wake s c) := by
  unfold wake
  repeat' first
    | with_reducible apply Keeps.refl
    | with_reducible assumption
    | with_reducible apply Keeps.ite
    | ((with_reducible apply Keeps.step (putCore_keeps ..)); exact rfl)
    | intro _
    | split
    | dsimp only
    | ((try with_reducible conv => arg 3; whnf); (with_reducible apply Keeps.upd); (iterate 13 (with_reducible exact Or.inl rfl)); (exact Or.inr rfl); (iterate 8 (with_reducible exact Or.inl rfl)); (with_reducible exact rfl); (with_reducible exact rfl))

theorem releaseCores_keeps (s : State) (w : Window) (cs : List Nat) :
    Keeps [.csr, .cores] s (releaseCores s w cs).1 := by
  unfold releaseCores
  repeat' first
    | with_reducible apply Keeps.refl
    | with_reducible assumption
    | with_reducible apply Keeps.ite
    | with_reducible apply Keeps.ite_p1
    | with_reducible apply Keeps.ite_p2
    | with_reducible apply Keeps.ite_p22
    | with_reducible apply Keeps.ite_p222
    | with_reducible apply Keeps.foldl
    | with_reducible apply Keeps.foldl_fst
    | with_reducible apply Keeps.foldl_snd
    | with_reducible apply Keeps.foldl_snd2
    | ((with_reducible apply Keeps.step (wake_keeps ..)); exact rfl)
    | ((with_reducible apply Keeps.step (count_keeps ..)); exact rfl)
    | intro _
    | split
    | dsimp only
    | ((try with_reducible conv => arg 3; whnf); (with_reducible apply Keeps.upd); (with_reducible exact Or.inl rfl); (exact Or.inr rfl); (iterate 11 (with_reducible exact Or.inl rfl)); (exact Or.inr rfl); (iterate 8 (with_reducible exact Or.inl rfl)); (with_reducible exact rfl); (with_reducible exact rfl))

theorem openFx_keeps (s : State) :
    Keeps [.csr, .freeCtr, .sched, .cores] s (openFx s) := by
  unfold openFx
  repeat' first
    | with_reducible apply Keeps.refl
    | with_reducible assumption
    | with_reducible apply Keeps.ite
    | with_reducible apply Keeps.ite_p1
    | with_reducible apply Keeps.ite_p2
    | with_reducible apply Keeps.ite_p22
    | with_reducible apply Keeps.ite_p222
    | with_reducible apply Keeps.foldl
    | ((with_reducible apply Keeps.step (releaseCores_keeps ..)); exact rfl)
    | ((with_reducible apply Keeps.step (callFirst_keeps ..)); exact rfl)
    | intro _
    | split
    | dsimp only
    | ((try with_reducible conv => arg 3; whnf); (with_reducible apply Keeps.upd); (with_reducible exact Or.inl rfl); (exact Or.inr rfl); (with_reducible exact Or.inl rfl); (iterate 2 (exact Or.inr rfl)); (iterate 8 (with_reducible exact Or.inl rfl)); (exact Or.inr rfl); (iterate 8 (with_reducible exact Or.inl rfl)); (with_reducible exact rfl); (with_reducible exact rfl))

theorem openWindow_keeps (s : State) (w : Window) :
    Keeps [.csr, .mem, .sched, .mix, .bus, .cores] s (openWindow s w) := by
  unfold openWindow
  repeat' first
    | with_reducible apply Keeps.refl
    | with_reducible assumption
    | with_reducible apply Keeps.ite
    | with_reducible apply Keeps.ite_p1
    | with_reducible apply Keeps.ite_p2
    | with_reducible apply Keeps.ite_p22
    | with_reducible apply Keeps.ite_p222
    | ((with_reducible apply Keeps.step (releaseCores_keeps ..)); exact rfl)
    | ((with_reducible apply Keeps.step (exchange_keeps ..)); exact rfl)
    | ((with_reducible apply Keeps.step (confluence_keeps ..)); exact rfl)
    | intro _
    | split
    | dsimp only
    | ((try with_reducible conv => arg 3; whnf); (with_reducible apply Keeps.upd); (with_reducible exact Or.inl rfl); (iterate 2 (exact Or.inr rfl)); (with_reducible exact Or.inl rfl); (exact Or.inr rfl); (with_reducible exact Or.inl rfl); (exact Or.inr rfl); (iterate 5 (with_reducible exact Or.inl rfl)); (iterate 2 (exact Or.inr rfl)); (iterate 8 (with_reducible exact Or.inl rfl)); (with_reducible exact rfl); (with_reducible exact rfl))

theorem overrun_keeps (code : Nat) (s : State) (c : Nat) :
    Keeps [.csr, .freeCtr, .sched, .flood, .slu, .hr, .cv, .cores, .rcu, .redun] s (overrun code s c) := by
  unfold overrun
  repeat' first
    | with_reducible apply Keeps.refl
    | with_reducible assumption
    | with_reducible apply Keeps.ite
    | ((with_reducible apply Keeps.step (putCore_keeps ..)); exact rfl)
    | ((with_reducible apply Keeps.step (fatalFault_keeps ..)); exact rfl)
    | ((with_reducible apply Keeps.step (sendEvent_keeps ..)); exact rfl)
    | ((with_reducible apply Keeps.step (count_keeps ..)); exact rfl)
    | ((with_reducible apply Keeps.step (stick_keeps ..)); exact rfl)
    | ((with_reducible apply Keeps.step (setF_keeps ..)); exact rfl)
    | intro _
    | split
    | dsimp only
    | ((try with_reducible conv => arg 3; whnf); (with_reducible apply Keeps.upd); (with_reducible exact Or.inl rfl); (exact Or.inr rfl); (with_reducible exact Or.inl rfl); (iterate 2 (exact Or.inr rfl)); (iterate 2 (with_reducible exact Or.inl rfl)); (iterate 3 (exact Or.inr rfl)); (with_reducible exact Or.inl rfl); (exact Or.inr rfl); (with_reducible exact Or.inl rfl); (iterate 3 (exact Or.inr rfl)); (iterate 6 (with_reducible exact Or.inl rfl)); (with_reducible exact rfl); (with_reducible exact rfl))

theorem noteLast_keeps (s : State) (n code : Nat) (l : List Nat) : Keeps [.csr] s (noteLast s n code l) := by
  unfold noteLast
  split
  · exact Keeps.refl _ _
  · exact Keeps.step (setF_keeps ..) rfl (Keeps.step (setF_keeps ..) rfl (setF_keeps ..))

theorem metWindow_keeps (s : State) (c : Nat) :
    Keeps [.sched] s (metWindow s c) := by
  unfold metWindow
  repeat' first
    | with_reducible apply Keeps.refl
    | with_reducible assumption
    | with_reducible apply Keeps.ite
    | intro _
    | split
    | dsimp only
    | ((try with_reducible conv => arg 3; whnf); (with_reducible apply Keeps.upd); (iterate 4 (with_reducible exact Or.inl rfl)); (exact Or.inr rfl); (iterate 17 (with_reducible exact Or.inl rfl)); (with_reducible exact rfl); (with_reducible exact rfl))

theorem coreDone_keeps (n : Nat) (w : Window) (s : State) (c : Nat) :
    Keeps [.csr, .mem, .dsp, .mix, .bus] s (coreDone n w s c) := by
  unfold coreDone
  repeat' first
    | with_reducible apply Keeps.refl
    | with_reducible assumption
    | with_reducible apply Keeps.ite
    | with_reducible apply Keeps.foldl
    | with_reducible apply Keeps.foldl_fst
    | with_reducible apply Keeps.foldl_snd
    | with_reducible apply Keeps.foldl_snd2
    | ((with_reducible apply Keeps.step (shellReturns_keeps ..)); exact rfl)
    | ((with_reducible apply Keeps.step (runMixTile_keeps ..)); exact rfl)
    | ((with_reducible apply Keeps.step (putTile_keeps ..)); exact rfl)
    | ((with_reducible apply Keeps.step (mixCore_keeps ..)); exact rfl)
    | ((with_reducible apply Keeps.step (runInputTile_keeps ..)); exact rfl)
    | intro _
    | split
    | dsimp only
    | ((try with_reducible conv => arg 3; whnf); (with_reducible apply Keeps.upd); (with_reducible exact Or.inl rfl); (iterate 2 (exact Or.inr rfl)); (iterate 2 (with_reducible exact Or.inl rfl)); (iterate 2 (exact Or.inr rfl)); (iterate 5 (with_reducible exact Or.inl rfl)); (exact Or.inr rfl); (iterate 9 (with_reducible exact Or.inl rfl)); (with_reducible exact rfl); (with_reducible exact rfl))

theorem zeroInputTile_keeps (s : State) (t : Nat) :
    Keeps [.csr, .dsp] s (zeroInputTile s t) := by
  unfold zeroInputTile
  repeat' first
    | with_reducible apply Keeps.refl
    | with_reducible assumption
    | with_reducible apply Keeps.ite
    | with_reducible apply Keeps.foldl
    | with_reducible apply Keeps.foldl_fst
    | with_reducible apply Keeps.foldl_snd
    | with_reducible apply Keeps.foldl_snd2
    | ((with_reducible apply Keeps.step (zeroInput_keeps ..)); exact rfl)
    | intro _
    | split
    | dsimp only
    | ((try with_reducible conv => arg 3; whnf); (with_reducible apply Keeps.upd); (with_reducible exact Or.inl rfl); (exact Or.inr rfl); (iterate 3 (with_reducible exact Or.inl rfl)); (exact Or.inr rfl); (iterate 16 (with_reducible exact Or.inl rfl)); (with_reducible exact rfl); (with_reducible exact rfl))

theorem coreFails_keeps (n : Nat) (done : List Nat) (w : Window) (s : State) (c : Nat) :
    Keeps [.csr, .mem, .dsp, .mix, .bus] s (coreFails n done w s c) := by
  unfold coreFails
  repeat' first
    | with_reducible apply Keeps.refl
    | with_reducible assumption
    | with_reducible apply Keeps.ite
    | with_reducible apply Keeps.foldl
    | with_reducible apply Keeps.foldl_fst
    | with_reducible apply Keeps.foldl_snd
    | with_reducible apply Keeps.foldl_snd2
    | ((with_reducible apply Keeps.step (zeroInputTile_keeps ..)); exact rfl)
    | ((with_reducible apply Keeps.step (zeroMixTile_keeps ..)); exact rfl)
    | ((with_reducible apply Keeps.step (runMixTile_keeps ..)); exact rfl)
    | ((with_reducible apply Keeps.step (putTile_keeps ..)); exact rfl)
    | ((with_reducible apply Keeps.step (zeroLeaves_keeps ..)); exact rfl)
    | ((with_reducible apply Keeps.step (runInputTile_keeps ..)); exact rfl)
    | intro _
    | split
    | dsimp only
    | ((try with_reducible conv => arg 3; whnf); (with_reducible apply Keeps.upd); (with_reducible exact Or.inl rfl); (iterate 2 (exact Or.inr rfl)); (iterate 2 (with_reducible exact Or.inl rfl)); (iterate 2 (exact Or.inr rfl)); (iterate 5 (with_reducible exact Or.inl rfl)); (exact Or.inr rfl); (iterate 9 (with_reducible exact Or.inl rfl)); (with_reducible exact rfl); (with_reducible exact rfl))

theorem judgeWindow_keeps (s : State) (n : Nat) (w : Window) (done rel late : List Nat) :
    Keeps [.csr, .mem, .freeCtr, .sched, .dsp, .mix, .flood, .slu, .hr, .cv, .bus, .cores, .rcu, .redun] s (judgeWindow s n w done rel late) := by
  unfold judgeWindow
  repeat' first
    | with_reducible apply Keeps.refl
    | with_reducible assumption
    | with_reducible apply Keeps.ite
    | with_reducible apply Keeps.foldl
    | with_reducible apply Keeps.foldl_fst
    | with_reducible apply Keeps.foldl_snd
    | with_reducible apply Keeps.foldl_snd2
    | ((with_reducible apply Keeps.step (coreFails_keeps ..)); exact rfl)
    | ((with_reducible apply Keeps.step (coreDone_keeps ..)); exact rfl)
    | ((with_reducible apply Keeps.step (metWindow_keeps ..)); exact rfl)
    | ((with_reducible apply Keeps.step (noteLast_keeps ..)); exact rfl)
    | ((with_reducible apply Keeps.step (overrun_keeps ..)); exact rfl)
    | ((with_reducible apply Keeps.step (runInputTile_keeps ..)); exact rfl)
    | intro _
    | split
    | dsimp only
    | ((try with_reducible conv => arg 3; whnf); (with_reducible apply Keeps.upd); (with_reducible exact Or.inl rfl); (iterate 9 (exact Or.inr rfl)); (with_reducible exact Or.inl rfl); (iterate 5 (exact Or.inr rfl)); (iterate 6 (with_reducible exact Or.inl rfl)); (with_reducible exact rfl); (with_reducible exact rfl))

theorem closeWindow_keeps (s : State) (w : Window) (done : List Nat) :
    Keeps [.csr, .mem, .freeCtr, .sched, .dsp, .mix, .flood, .slu, .hr, .cv, .bus, .cores, .rcu, .redun, .net] s (closeWindow s w done) := by
  unfold closeWindow
  repeat' first
    | with_reducible apply Keeps.refl
    | with_reducible assumption
    | with_reducible apply Keeps.ite
    | ((with_reducible apply Keeps.step (judgeWindow_keeps ..)); exact rfl)
    | ((with_reducible apply Keeps.step (outflow_keeps ..)); exact rfl)
    | ((with_reducible apply Keeps.step (intake_keeps ..)); exact rfl)
    | intro _
    | split
    | dsimp only
    | ((try with_reducible conv => arg 3; whnf); (with_reducible apply Keeps.upd); (with_reducible exact Or.inl rfl); (iterate 9 (exact Or.inr rfl)); (with_reducible exact Or.inl rfl); (iterate 5 (exact Or.inr rfl)); (iterate 2 (with_reducible exact Or.inl rfl)); (exact Or.inr rfl); (iterate 3 (with_reducible exact Or.inl rfl)); (with_reducible exact rfl); (with_reducible exact rfl))

theorem execWindowRelease_keeps (w : Window) (s : State) :
    ∃ s', execWindowRelease w s = .next s' ∧ Keeps [.csr, .mem, .sched, .mix, .bus, .cores] s s' := by
  unfold execWindowRelease
  refine ⟨_, rfl, ?_⟩
  repeat' first
    | with_reducible apply Keeps.refl
    | with_reducible assumption
    | with_reducible apply Keeps.ite
    | ((with_reducible apply Keeps.step (openWindow_keeps ..)); exact rfl)
    | intro _
    | split
    | dsimp only
    | ((try with_reducible conv => arg 3; whnf); (with_reducible apply Keeps.upd); (with_reducible exact Or.inl rfl); (iterate 2 (exact Or.inr rfl)); (with_reducible exact Or.inl rfl); (exact Or.inr rfl); (with_reducible exact Or.inl rfl); (exact Or.inr rfl); (iterate 5 (with_reducible exact Or.inl rfl)); (iterate 2 (exact Or.inr rfl)); (iterate 8 (with_reducible exact Or.inl rfl)); (with_reducible exact rfl); (with_reducible exact rfl))

theorem execWindowEnd_keeps (w : Window) (tiles : List Nat) (s : State) :
    ∃ s', execWindowEnd w tiles s = .next s' ∧ Keeps [.csr, .mem, .freeCtr, .sched, .dsp, .mix, .flood, .slu, .hr, .cv, .bus, .cores, .rcu, .redun, .net] s s' := by
  unfold execWindowEnd
  refine ⟨_, rfl, ?_⟩
  repeat' first
    | with_reducible apply Keeps.refl
    | with_reducible assumption
    | with_reducible apply Keeps.ite
    | ((with_reducible apply Keeps.step (closeWindow_keeps ..)); exact rfl)
    | intro _
    | split
    | dsimp only
    | ((try with_reducible conv => arg 3; whnf); (with_reducible apply Keeps.upd); (with_reducible exact Or.inl rfl); (iterate 9 (exact Or.inr rfl)); (with_reducible exact Or.inl rfl); (iterate 5 (exact Or.inr rfl)); (iterate 2 (with_reducible exact Or.inl rfl)); (exact Or.inr rfl); (iterate 3 (with_reducible exact Or.inl rfl)); (with_reducible exact rfl); (with_reducible exact rfl))

theorem execConflLatePartial_keeps (s : State) :
    ∃ s', execConflLatePartial s = .next s' ∧ Keeps [.csr] s s' := by
  unfold execConflLatePartial
  refine ⟨_, rfl, ?_⟩
  repeat' first
    | with_reducible apply Keeps.refl
    | with_reducible assumption
    | with_reducible apply Keeps.ite
    | ((with_reducible apply Keeps.step (latePartial_keeps ..)); exact rfl)
    | intro _
    | split
    | dsimp only
    | ((try with_reducible conv => arg 3; whnf); (with_reducible apply Keeps.upd); (with_reducible exact Or.inl rfl); (exact Or.inr rfl); (iterate 20 (with_reducible exact Or.inl rfl)); (with_reducible exact rfl); (with_reducible exact rfl))

end Sys2Proof.Machine
end

