-- ==== Sys2Proof/Machine/MintalWord.lean ====
section
/-! DEFINITION. The 64-bit instruction words of the Mintal core (R177 to R179): the command that a word at a core's pc gives, and the
word of an instruction. -/
namespace Sys2Proof.Machine

/-- A move field (R177). With KIND = 0 its other bits are ignored. -/
def moveOf (n : Nat) : Move :=
  if bits n 12 11 = 0 then ⟨0, 0, 0, 0, 0⟩
  else ⟨BitVec.ofNat 2 (bits n 12 11), BitVec.ofNat 3 (bits n 10 8), BitVec.ofNat 4 (bits n 7 4), BitVec.ofNat 2 (bits n 3 2),
    BitVec.ofNat 2 (bits n 1 0)⟩

/-- The fields of the arithmetic format (R177). -/
def arithOf (w : Nat) : Arith :=
  ⟨w.testBit 57, BitVec.ofNat 4 (bits w 56 53), BitVec.ofNat 4 (bits w 52 49), BitVec.ofNat 4 (bits w 48 45),
    BitVec.ofNat 6 (bits w 44 39), moveOf (bits w 38 26), moveOf (bits w 25 13), moveOf (bits w 12 0)⟩

/-- The command of the word that core `c` fetches (R178, R179): opcodes 0x18 to 0x2F and 0x3F are illegal, and bits that a control
instruction does not name are ignored. -/
def mintalDecode (c : Nat) (word : BitVec 64) : Instr :=
  let w := word.toNat
  let x := arithOf w
  let f := fun (n hi lo : Nat) => BitVec.ofNat n (bits w hi lo)
  match bits w 63 58 with
  | 0x00 => .nop c x
  | 0x01 => .mov c x
  | 0x02 => .add c x
  | 0x03 => .sub c x
  | 0x04 => .neg c x
  | 0x05 => .abs c x
  | 0x06 => .min c x
  | 0x07 => .max c x
  | 0x08 => .shl c x
  | 0x09 => .shr c x
  | 0x0A => .and c x
  | 0x0B => .or c x
  | 0x0C => .xor c x
  | 0x0D => .cmpge c x
  | 0x0E => .rot c x
  | 0x0F => .bcast c x
  | 0x10 => .mpy c x
  | 0x11 => .mac c x
  | 0x12 => .msu c x
  | 0x13 => .mpyl c x
  | 0x14 => .ext c x
  | 0x15 => .aclr c x
  | 0x16 => .aload c x
  | 0x17 => .ahsum c x
  | 0x30 => .loop c (f 16 57 42) (w.testBit 41) (f 4 40 37) (f 3 36 34) (f 12 33 22)
  | 0x31 => .br c (f 4 57 54) (f 4 53 50) (f 12 11 0)
  | 0x32 => .call c (f 12 11 0)
  | 0x33 => .ret c
  | 0x34 => .wait c
  | 0x35 => .waitx c
  | 0x36 => .xld c (f 4 57 54) (f 2 53 52) (f 2 51 50) (f 3 49 47)
  | 0x37 => .xst c (f 4 57 54) (f 2 53 52) (f 2 51 50) (f 3 49 47)
  | 0x38 => .ldi c (f 6 57 52) (f 32 31 0)
  | 0x39 => .movr c (f 6 57 52) (f 6 51 46)
  | 0x3A => .movcv c (f 4 57 54) (f 6 51 46)
  | 0x3B => .movvc c (f 6 57 52) (f 4 51 48)
  | 0x3C => .vldi c (f 4 57 54) (f 32 31 0)
  | 0x3D => .rti c
  | 0x3E => .brk c
  | _ => .illegalInstruction c false

/-- The word of a move. -/
def moveWord (m : Move) : Nat := m.kind.toNat * 2 ^ 11 + m.fmt.toNat * 2 ^ 8 + m.v.toNat * 2 ^ 4 + m.ar.toNat * 2 ^ 2 + m.md.toNat

/-- The word of an arithmetic instruction with opcode `op`. -/
def arithWord (op : Nat) (x : Arith) : Nat :=
  op * 2 ^ 58 + x.s.toNat * 2 ^ 57 + x.d.toNat * 2 ^ 53 + x.a.toNat * 2 ^ 49 + x.b.toNat * 2 ^ 45 + x.e.toNat * 2 ^ 39 +
    moveWord x.mx * 2 ^ 26 + moveWord x.my * 2 ^ 13 + moveWord x.mc

end Sys2Proof.Machine
end

