-- ==== Sys2Proof/WellFormed.lean ====
section
/-! DEFINITION. Well-formed commands: the instance numbers, addresses and bytes that a command names exist (00_scope.md; the
tables of each block's file). -/
namespace Sys2Proof

/-- An instance number below the number of instances. -/
def inst (n i : Nat) : Bool := decide (i < n)
/-- A list of bytes. -/
def allBytes (l : List Nat) : Bool := l.all (fun b => decide (b < 256))
/-- A CSR offset lies below 0x20_0000 (R19); its bits [1:0] are ignored (R3). -/
def csrOff (o : Nat) : Bool := decide (o < 0x200000)
/-- A media port is one of four. -/
def viaOk : Via → Bool
  | .mac p => decide (p < 4)
  | .mgmt => true
  | .surface => true
/-- LENGTH is a 16-bit field. -/
def hdrOk (h : Hdr) : Bool := viaOk h.src.via && decide (h.len < 65536)
/-- A lane of two, a 32-bit sequence number. -/
def linkOk (h : LinkHdr) : Bool := decide (h.lane < 2) && decide (h.seq < 2 ^ 32)
/-- A burst of a crossbar master or a port B path, at a 40-bit address, its length that of its data. -/
def reqOk (r : BusReq) : Bool :=
  (decide (r.master < 18) || (decide (32 ≤ r.master) && decide (r.master < 35))) && decide (r.addr < 2 ^ 40) &&
    (match r.data with
     | some d => d.length == r.len && allBytes d
     | none => true)
def cutOk (b : CutBurst) : Bool := decide (b.master < 18) && decide (b.addr < 2 ^ 40) && allBytes b.data
/-- A 32-bit two's complement word. -/
def word32 (x : Int) : Bool := decide (-2 ^ 31 ≤ x) && decide (x < 2 ^ 31)

/-- The command is well-formed. -/
def wellFormed (i : Instr) : Bool :=
  match i with
  | .powerOn _ _ => true
  | .porstNAssert => true
  | .supplyLoss => true
  | .resetNAssert cut => cut.all cutOk
  | .resetRelease _ => true
  | .firmwareReady => true
  | .firmwareReadyTimeout => true
  | .waitRefTimeout => true
  | .engineStart => true
  | .coresRestart => true
  | .tick _ => true
  | .windowRelease _ => true
  | .conflLatePartial => true
  | .windowEnd _ tiles => tiles.all (inst 89)
  | .fatalResetDelay cut => cut.all cutOk
  | .crossfadeEnd _ => true
  | .sendXfadeEnd col => inst 384 col
  | .meterReport k sub => inst 64 k && inst 4 sub
  | .groupStaged => true
  | .groupSettleDone => true
  | .sceneStoreDone _ => true
  | .preloadDone => true
  | .setParam h _ _ _ => hdrOk h
  | .setBlock h _ _ _ _ => hdrOk h
  | .rampParam h _ _ _ _ => hdrOk h
  | .urgentCommand h _ _ => hdrOk h
  | .recallScene h _ _ _ _ => hdrOk h
  | .storeScene h _ _ _ _ _ => hdrOk h
  | .commitAt h _ _ inner => hdrOk h && allBytes inner
  | .regRead h _ _ => hdrOk h
  | .regWrite h _ _ _ => hdrOk h
  | .meterSub h _ _ _ _ _ => hdrOk h
  | .meterSubEventMask h _ => hdrOk h
  | .sessionOpen h _ _ _ => hdrOk h
  | .sessionClose h => hdrOk h
  | .headraceBadMessage src bytes => allBytes bytes && viaOk src.via
  | .bulkClone h _ => hdrOk h
  | .bulkBegin h _ => hdrOk h
  | .bulkData h _ data _ => hdrOk h && allBytes data
  | .bulkEnd h _ => hdrOk h
  | .bulkAbort h _ => hdrOk h
  | .bulkArm h _ tries => hdrOk h && inst 256 tries
  | .bulkConfirm h _ => hdrOk h
  | .bulkRollback h _ => hdrOk h
  | .bulkRestart h _ => hdrOk h
  | .bulkRestartReset cut => cut.all cutOk
  | .bulkWorkDone _ => true
  | .surfWriteMsg bytes => allBytes bytes
  | .surfStatus => true
  | .surfReadMsg _ => true
  | .mirrorAck h _ => linkOk h
  | .mirrorTimeout => true
  | .sessionExpiry k => inst 64 k
  | .schedRateWrite _ => true
  | .schedRunSet _ => true
  | .schedRunClear _ => true
  | .schedWinArm _ => true
  | .schedIdxLoRead => true
  | .floodCloseIdxLoRead => true
  | .sluiceHeadIdxLoRead => true
  | .sluiceTailIdxLoRead => true
  | .sluiceLastFlipLoRead => true
  | .headraceJheadLoRead => true
  | .headraceJappliedLoRead => true
  | .rcuSwitchIdxLoRead => true
  | .streamTmcLoRead => true
  | .redunDivIdxLoRead => true
  | .redunHashLoRead => true
  | .tallySecLoRead _ => true
  | .pdmCaptIdxRead k => inst 3 k
  | .macTsqNsRead p => inst 5 p
  | .registerWrite _ off _ => csrOff off
  | .floodPinLatchWrite _ => true
  | .floodPinRel => true
  | .muteNChange _ => true
  | .sluicePreloadLoad _ => true
  | .pstoreWindowWrite m _ _ => inst 18 m
  | .xbarAccess reqs => reqs.all reqOk
  | .xbarLockedRead m _ _ => inst 18 m
  | .xbarUnlockWrite m _ data => allBytes data && inst 18 m
  | .rsvEccWriteback _ => true
  | .scratchEccWriteback _ => true
  | .scrubRead busy => busy.all (inst 160)
  | .rsvHandoverWrite _ => true
  | .handoverComplete => true
  | .rsvMbistGo _ => true
  | .mbistComplete _ _ _ => true
  | .rcuFamilyWrite _ => true
  | .relockDone _ _ => true
  | .rcuHoldWrite _ => true
  | .rcuPtpErrWrite _ _ => true
  | .rcuInCfgWrite k _ => inst 8 k
  | .rcuWckWrite k which _ => inst 4 k && inst 2 which
  | .xoLoss => true
  | .refEdge k _ _ _ => inst 8 k
  | .refLoss k => inst 8 k
  | .measIntervalEnd k _ => inst 8 k
  | .lockTimerExpiry => true
  | .switchBusyTimeout => true
  | .revertWtrExpiry k => inst 8 k
  | .holdoverSample _ => true
  | .tallyAddendFracWrite _ => true
  | .tallyAddendIntWrite _ _ => true
  | .tallyStep => true
  | .tallyEpochReset => true
  | .macCtlWrite p _ => inst 5 p
  | .macLinkUp p _ => inst 5 p
  | .macLinkDown p => inst 5 p
  | .macRxFrame p bytes _ _ _ _ => inst 5 p && allBytes bytes
  | .macTxFrame d _ _ _ => inst 5 d.port
  | .segDescriptor p tmpl payload => inst 5 p && allBytes tmpl && allBytes payload
  | .streamCtxWrite off _ => csrOff off
  | .streamRxEnable c _ => inst 256 c
  | .streamTxEnable c _ => inst 256 c
  | .streamRxInactive c => inst 256 c
  | .sportWrite off _ => csrOff off
  | .sportFrameHandoff p _ _ words => inst 32 p && words.all word32
  | .sportFrameMissing p => inst 32 p
  | .sportFsEdge p _ => inst 32 p
  | .sportAsyncFrameDone p words => inst 32 p && words.all word32
  | .asrcCtRouteWrite l which _ => inst 2 which && inst 64 l
  | .asrcTrackerUnlock p => inst 32 p
  | .asrcTrackerAcquire p => inst 32 p
  | .asrcTrackerLock p => inst 32 p
  | .pdmChWrite c _ => inst 128 c
  | .pdmClkinUnlock k => inst 2 k
  | .pdmClkinLock k => inst 2 k
  | .leaseRenew src => inst 4 src
  | .leaseExpiry => true
  | .leaseHbToggle => true
  | .redunModeWrite _ => true
  | .redunYield => true
  | .revertYield => true
  | .redunResyncReq => true
  | .redunResyncAbort => true
  | .autoResyncStart => true
  | .sirlosStatusRx h _ _ _ _ _ _ => linkOk h
  | .sirlosHelloRx h _ => linkOk h
  | .helloSend => true
  | .statusSend => true
  | .sirlosTickRx h _ _ _ _ => linkOk h
  | .sirlosCanaryRx h _ _ _ => linkOk h
  | .canaryMissing _ => true
  | .sirlosMirrorRx h _ entries => linkOk h && allBytes entries
  | .sirlosRatioRx h _ _ _ => linkOk h
  | .sirlosFwdRx h _ _ _ => linkOk h
  | .sirlosCloseRx h _ _ => linkOk h
  | .fwdRecordLate => true
  | .sirlosResend lane => inst 2 lane
  | .peerLost => true
  | .sirlosCopyRx h _ => linkOk h
  | .copyComplete => true
  | .alignComplete => true
  | .resyncCoreRelease => true
  | .sweepFinalPass item => inst 154 item
  | .sirlosSweepRx h item _ _ => inst 154 item && linkOk h
  | .sirlosSwackRx h item _ => inst 154 item && linkOk h
  | .sweepItemDeadline item => inst 154 item
  | .resyncItemTimeout => true
  | .verifyStart => true
  | .resyncSynced _ => true
  | .cvOutWrite k _ => inst 16 k
  | .cvTickLatch => true
  | .cvCtlWrite _ => true
  | .cvParkEnd k => inst 16 k
  | .vddCvLoss => true
  | .vddCvRestore _ => true
  | .vddCvHiFall => true
  | .prfWordWrite _ w _ => inst 1024 w
  | .prfWriteDone => true
  | .prfPowerFail => true
  | .rstCtlWarm _ _ cut => cut.all cutOk
  | .rstDomWrite _ cut => cut.all cutOk
  | .wdtKick m _ => inst 18 m
  | .watchdogExpiry cut => cut.all cutOk
  | .testUnlockWrite _ => true
  | .testCfgLock _ => true
  | .testAutoLock => true
  | .testXbarDlyWrite _ => true
  | .testMacBpWrite _ => true
  | .testAsrcJitWrite which _ => inst 2 which
  | .testTickGo _ => true
  | .testCdcWrite _ => true
  | .testEccGo _ => true
  | .testLeaseWrite _ => true
  | .testSirlosGo _ => true
  | .testSirlosEnd => true
  | .mintalResetWrite c _ cut => inst 64 c && cut.all cutOk
  | .coreRelease c => inst 64 c
  | .mintalHaltReq c _ => inst 64 c
  | .mintalStep c _ => inst 64 c
  | .mintalClrStats c _ => inst 64 c
  | .mintalXwindowWrite c which _ => inst 64 c && inst 3 which
  | .interruptEntry c => inst 64 c
  | .loopBack c => inst 64 c
  | .xldComplete c _ => inst 64 c
  | .nop c _ => inst 64 c
  | .mov c _ => inst 64 c
  | .add c _ => inst 64 c
  | .sub c _ => inst 64 c
  | .neg c _ => inst 64 c
  | .abs c _ => inst 64 c
  | .min c _ => inst 64 c
  | .max c _ => inst 64 c
  | .shl c _ => inst 64 c
  | .shr c _ => inst 64 c
  | .and c _ => inst 64 c
  | .or c _ => inst 64 c
  | .xor c _ => inst 64 c
  | .cmpge c _ => inst 64 c
  | .rot c _ => inst 64 c
  | .bcast c _ => inst 64 c
  | .mpy c _ => inst 64 c
  | .mac c _ => inst 64 c
  | .msu c _ => inst 64 c
  | .mpyl c _ => inst 64 c
  | .ext c _ => inst 64 c
  | .aclr c _ => inst 64 c
  | .aload c _ => inst 64 c
  | .ahsum c _ => inst 64 c
  | .loop c _ _ _ _ _ => inst 64 c
  | .br c _ _ _ => inst 64 c
  | .call c _ => inst 64 c
  | .ret c => inst 64 c
  | .wait c => inst 64 c
  | .waitx c => inst 64 c
  | .xld c _ _ _ _ => inst 64 c
  | .xst c _ _ _ _ => inst 64 c
  | .ldi c _ _ => inst 64 c
  | .movr c _ _ => inst 64 c
  | .movcv c _ _ => inst 64 c
  | .movvc c _ _ => inst 64 c
  | .vldi c _ _ => inst 64 c
  | .rti c => inst 64 c
  | .brk c => inst 64 c
  | .illegalInstruction c _ => inst 64 c
  | .xstComplete c _ => inst 64 c
  | .sirlosLaneUp lane => inst 2 lane
  | .sirlosLaneDown lane => inst 2 lane
  | .macPauseExpiry d => inst 5 d.port

end Sys2Proof
end

