-- ==== Sys2Proof/Tests/Slice0.lean ====
section
/-! SUPPORT. Witnesses of the hypotheses of the statements, a smoke test of the well-formedness checks, and tests of single
steps on small states, whose expected values come from spec/. -/
namespace Sys2Proof.Tests
open Sys2Proof Sys2Proof.Machine
set_option Elab.async false

/-! The states that the tests start from. -/

/-- A lone engine whose firmware runs, its tick stopped. -/
def lone : State := { State.reset with rst := { Rst.reset with stage := .running, coresHeld := false } }
/-- The same with RUN set and the tick running. -/
def live : State := { setF lone R.F_SCHED_CTL_RUN 1 with sched := { Sched.reset with running := true, idx := 100 } }
/-- One engine of a pair, both lanes in block lock. -/
def pair (role sync : Nat) (act : Bool) : State :=
  { live with redun := { Redun.reset with
      paired := true, role := role, sync := sync, roleAct := act, lane0 := true, lane1 := true, peer := ⟨1, sync, false, false⟩ } }
/-- The unit of a resync in a phase, and the active engine of one. -/
def resyncUnit (phase : Nat) : State :=
  { pair 1 3 false with redun := { (pair 1 3 false).redun with unit := true, phase := phase } }
def resyncing (phase : Nat) : State := { pair 2 3 true with redun := { (pair 2 3 true).redun with phase := phase } }
/-- Core 0 released. -/
def core0 : Core := { coreInit with held := false, regs := [(52, 1)] }
def withCore (k : Core) : State := { live with cores := [(0, k)] }
def coreLive : State := withCore core0
/-- A frame of the given lane with the next number, as `linkAccept` counts it in. -/
def frame : LinkHdr := ⟨0, 0, true⟩
def counted (s : State) : State := (linkAccept s frame).2
/-- The surface port as source, and a header: session 3, class, number, length of the body. -/
def surf : Endpoint := ⟨.surface, 0, 0, 0, 0, 0⟩
def head (cls : BitVec 2) (seq : BitVec 48) (len : Nat) : Hdr := ⟨surf, 3, cls, seq, len, 0⟩
/-- Session 3 open, expecting number 5, with the surface port enabled. -/
def sess (exp : Nat) : Session :=
  { closedSession with isOpen := true, client := 7, reply := surf, norm := ⟨exp, [⟨4, 1, 90, 0, false, false, true, []⟩]⟩ }
def served (s : State) : State := setF s R.F_HEADRACE_CTL_SURF_EN 1
def opened (s : State) (exp : Nat) : State := putSession (served s) 3 (sess exp)
def field (s : State) (f : Fld) (x : Nat) : State := setF s f x
def noMove : Move := ⟨0, 0, 0, 0, 0⟩
def arith (d a b : BitVec 4) (e : BitVec 6) : Arith := ⟨true, d, a, b, e, noMove, noMove, noMove⟩
/-- The state that a command answers. -/
def after (c : Instr) (s : State) : State := match exec c s with
  | .next t => t
  | .fault _ => s
  | .refused _ => s

/-! Witnesses: for each statement with hypotheses, values that meet them, clause by clause. -/

theorem witness_StepRunsTheFrontCommand :
    ({ State.reset with pending := [.leaseHbToggle] } : State).pending = .leaseHbToggle :: [] ∧ State.reset.pending = [] := by decide
theorem witness_StepKeepsInvariant : State.reset.Inv := ⟨by decide, trivial⟩
theorem witness_UnassignedRegisters : regAt (0x1B0002 - 0x1B0002 % 4) = none ∧ 0x1B0000 ≤ 0x1B0000 ∧ 0x1FFFFF ≤ 0x1FFFFF := by decide
theorem witness_WriteByFieldType : R.BOOT_IE % 4 = 0 ∧ (regAt R.BOOT_IE).isSome = true ∧
    R.BOOT_IE / 0x10000 ∈ [0x00, 0x04, 0x06, 0x07, 0x11, 0x12, 0x16, 0x1A] := by decide
theorem witness_CapturingReads : 2 < 3 ∧
    (getPort (putPort lone 4 { emptyPort with tsq := [(1, 2, 3)] }) 4).tsq = (1, 2, 3) :: [] := by decide
theorem witness_SchedControlWrites :
    (isSet lone R.F_SCHED_CTL_RUN = false ∧ bits (0x10 : Word).toNat 5 4 ≠ rateCode lone ∧ (0x10 : Word).toNat % 4 = 0) ∧
    (isSet live R.F_SCHED_CTL_RUN = true ∧ bits (0x11 : Word).toNat 5 4 ≠ rateCode live ∧ (0x11 : Word).toNat % 4 = 1) ∧
    (isSet lone R.F_SCHED_CTL_RUN = false ∧ bits (0x31 : Word).toNat 5 4 = rateCode lone ∧ (0x31 : Word).toNat.testBit 1 = false) ∧
    (rateFamily (rateCode lone) = getF lone R.F_RCU_STAT_FAMILY ∧
      rateFamily (rateCode lone) ≠ getF (field lone R.F_RCU_STAT_FAMILY 1) R.F_RCU_STAT_FAMILY) ∧
    (live.redun.paired = false ∧ isSet live R.F_SCHED_CTL_RUN = true ∧ bits (0x30 : Word).toNat 5 4 = rateCode live) := by decide
theorem witness_WindowArm :
    (isSet live R.F_SCHED_CTL_RUN = true ∧ bits (0x33 : Word).toNat 5 4 = rateCode live ∧ (0x33 : Word).toNat.testBit 0 = true) ∧
    (live.sched.idx.toNat < winIdx (field live R.F_SCHED_WIN_IDX_LO_IDX 101) ∧ ¬ live.sched.idx.toNat < winIdx live) ∧
    (isSet lone R.F_SCHED_CTL_RUN = false ∧ bits (0x32 : Word).toNat 5 4 = rateCode lone ∧ (0x32 : Word).toNat.testBit 0 = false) := by
  decide
theorem witness_MutePin : pinActive (after (.muteNChange false) lone) = true ∧ pinActive lone = false ∧
    pinActive (after (.floodPinLatchWrite 1) { lone with flood := { lone.flood with pin := false } }) = true := by decide
theorem witness_MintalVectorResults : (begin? coreLive 0).isSome = true ∧ badMoves (arith 1 2 3 0) = false ∧
    satInt 40 (2 ^ 39) ≠ 2 ^ 39 ∧ ((begin? coreLive 0).getD coreInit).skip = none := by decide
theorem witness_MintalAccumulatorResults : (begin? coreLive 0).isSome = true ∧ badMoves (arith 0 15 15 3) = false ∧
    satInt 80 (2 ^ 79) ≠ 2 ^ 79 := by decide
theorem witness_MintalMoves : (begin? coreLive 0).isSome = true ∧ shellNext ((begin? coreLive 0).getD coreInit) = false ∧
    badMoves (arith 1 2 3 0) = false ∧
    moveKind noMove = 0 ∧ moveKind ⟨1, 0, 2, 0, 1⟩ = 1 ∧ moveKind ⟨2, 0, 2, 3, 3⟩ = 2 ∧ coreLive.bus.ecc = [] := by decide
theorem witness_ResultsLand :
    (({ core0 with slot := 5, flight := [⟨5, .v 3 0, [1, 2]⟩] } : Core).flight = [⟨5, .v 3 0, [1, 2]⟩] ∧ 5 ≤ 5 ∧ 5 < 6) ∧
    ({ core0 with slot := 5, flight := [⟨5, .reg 8, [1]⟩, ⟨5, .reg 8, [2]⟩] } : Core).flight =
      [⟨5, .reg 8, [1]⟩, ⟨5, .reg 8, [2]⟩] := by decide
theorem witness_MintalRegisterMoves : (begin? coreLive 0).isSome = true ∧
    atLoopEnd ((begin? coreLive 0).getD coreInit) ((begin? coreLive 0).getD coreInit).pc = false ∧
    shellNext ((begin? coreLive 0).getD coreInit) = false ∧ stHnd ((begin? coreLive 0).getD coreInit) = false ∧ (55 : BitVec 6).toNat ≤ 55 ∧ ¬ (56 : BitVec 6).toNat ≤ 55 ∧
    (56 : BitVec 6).toNat ≤ 56 ∧ ¬ (57 : BitVec 6).toNat ≤ 56 := by decide
/-- Core 0 past the end (3) of a loop of level 0 from 2 with count `n`, and inside two levels. -/
def coreLoop (n : Nat) : Core :=
  { core0 with pc := 4, loopDue := true, regs := [(48, n), (50, 2), (51, 3), (52, 0x11)] }
/-- Core 0 in the delay slot of the RET of its object `j`, which entered at 7. -/
def inObject (j : Nat) : State := withCore { core0 with obj := some (j, 7, true) }
def coreDeep : Core := { core0 with regs := [(48, 1), (49, 1), (51, 0x90007), (52, 0x21)] }
theorem witness_MintalControlFlow :
    (let k := (begin? coreLive 0).getD coreInit
     begin? coreLive 0 = some k ∧ atLoopEnd k k.pc = false ∧ k.skip = none ∧ shellNext k = false ∧ condHolds 1 (vLane k 0 0) = some false ∧
      condHolds 0 (vLane k 0 0) = some true ∧ branchOk k 100 = true ∧ inBody k k.pc = false ∧ stLvl k < 2 ∧
      k.pc + 1 + 0 ≤ 5 ∧ ¬ k.pc + 1 + 7 ≤ 5) ∧
    (let k := (begin? (withCore coreDeep) 0).getD coreInit
     begin? (withCore coreDeep) 0 = some k ∧ atLoopEnd k k.pc = false ∧ shellNext k = false ∧ stLvl k = 2 ∧ stHnd k = false) ∧
    (∀ n ∈ [1, 2], let k := getCore (withCore (coreLoop n)) 0
     k.loopDue = true ∧ innermost k = some 0 ∧ loopCnt k 0 = n ∧ k.pc = (loopEnd k 0 + 1) % 4096) ∧
    (∀ j ∈ [0, 1], let k := (begin? (inObject j) 0).getD coreInit
     begin? (inObject j) 0 = some k ∧ k.obj = some (j, 7, true) ∧ atLoopEnd k k.pc = false) := by decide
/-- A loaded core with FX slots calls the next object, and is done after the last one. -/
theorem witness_MintalControlFlow_objects :
    (fxSlots (inObject 0) 0).find? (fun q => decide (0 < q.2) && callsObject (inObject 0) q.1) = none ∧
    (let s : State := { setF (inObject 0) (R.F_SCHED_CORE_COUNT 0) 2 with
       dsp := { Dsp.reset with fxHold := [(1, ⟨1, none, 0, 0, 0, 0, true⟩)] } }
     (fxSlots s 0).find? (fun q => decide (0 < q.2) && callsObject s q.1) = some (1, 1)) := by decide

/-- One store in the queue of core 0, and a load. -/
def xacc (load : Bool) (off : Nat) : XAcc := ⟨load, 1, 0, off, if load then [] else [1, 2, 3, 4], 0⟩
def coreX (q : List XAcc) : Core := { core0 with xq := q }
theorem witness_MintalStops :
    (begin? coreLive 0).isSome = true ∧ shellNext ((begin? coreLive 0).getD coreInit) = false ∧
    ((begin? coreLive 0).getD coreInit).xq = [] ∧
    ((begin? (withCore (coreX [xacc true 0])) 0).getD coreInit).xq ≠ [] ∧
    atLoopEnd ((begin? coreLive 0).getD coreInit) 0 = false ∧ ((begin? coreLive 0).getD coreInit).step = false ∧
    isSet coreLive (R.F_MINTAL_CTL_DBG_HALT 0) = false ∧ isSet coreLive (R.F_MINTAL_BKPT_EN 0) = false ∧
    (let k : Core := { core0 with fault := some 2 }
     dueCause k = some 2 ∧ k.held = false ∧ k.waiting = false ∧ k.waitPend = false ∧ k.xstall = false ∧ k.ninth = none ∧
      k.stopped = false ∧ k.halted = false ∧ k.fault ≠ none) ∧
    (let s := setF (withCore { core0 with debug := some 8, branch := none }) (R.F_MINTAL_CTL_DBG_HALT 0) 1
     dueCause (getCore s 0) = some 8 ∧ isSet s (R.F_MINTAL_CTL_DBG_HALT 0) = true ∧ (getCore s 0).branch = none ∧
      isSet (withCore core0) (R.F_MINTAL_CTL_DBG_HALT 0) = false) := by decide
/-- Core 0 with a window of 64 bytes at Reservoir address 0, its bank of class FX pool. -/
def fxLive (q : List XAcc) : State := setOwner (setF (withCore (coreX q)) (R.F_MINTAL_XLEN_LEN 0) 64) 0 3
theorem witness_MintalCrossbarPort :
    (begin? (fxLive []) 0).isSome = true ∧ atLoopEnd ((begin? (fxLive []) 0).getD coreInit) 0 = false ∧
    32 * regVal ((begin? (fxLive []) 0).getD coreInit) 8 < xLen (fxLive []) 0 ∧ xLen coreLive 0 ≤ 0 ∧
    ((begin? (fxLive (List.replicate 8 (xacc true 0))) 0).getD coreInit).xq.length = 8 ∧
    (landed (getCore (fxLive [xacc true 0]) 0)).xq = xacc true 0 :: [] ∧
    (landed (getCore (fxLive [xacc false 0]) 0)).xq = xacc false 0 :: [] ∧
    (getCore (fxLive [xacc true 0]) 0).ninth = none ∧ (getCore (fxLive [xacc true 0]) 0).waitPend = false ∧
    shellNext ((begin? (fxLive []) 0).getD coreInit) = false ∧
    mustWait (fxLive [xacc true 0]) ⟨17, xBase (fxLive []) 0 + 0, 32, none, false⟩ = false ∧
    (fxLive []).bus.ecc = [] ∧ xBase (fxLive []) 0 + 0 < 0x05000000 ∧ ownerOf (fxLive []) 0 = 3 := by decide
theorem witness_MintalControlRegister :
    (0 : Word).toNat.testBit 0 = false ∧ (1 : Word).toNat.testBit 0 = true ∧ (getCore coreLive 0).held = false ∧
    mayRelease live 0 = false ∧ mayRelease (field live (R.F_MINTAL_CTL_RESET 0) 0) 0 = true ∧
    (2 : Word).toNat.testBit 1 = true ∧ isSet (field live (R.F_MINTAL_CTL_RESET 0) 0) (R.F_MINTAL_CTL_RESET 0) = false ∧
    isSet live (R.F_MINTAL_CTL_RESET 0) = true ∧
    (let s := withCore { core0 with halted := true }
     isSet s (R.F_MINTAL_CTL_HALT_REQ 0) = false ∧ (getCore s 0).halted = true) ∧
    ownerOf (fxLive []) (0 / 0x80000) = 3 := by decide

/-- A read of 4 bytes and a write of 4 bytes by a master. -/
def rd (m a : Nat) : BusReq := { master := m, addr := a, len := 4, data := none, dead := false }
def wr (m a : Nat) : BusReq := { master := m, addr := a, len := 4, data := some [1, 2, 3, 4], dead := false }
def locked (m : Nat) : State := { live with bus := { Bus.reset with locks := [(0, m)] } }
def ecc (a mark : Nat) : State := { live with bus := { Bus.reset with ecc := [(eccWord a, mark)] } }
theorem witness_CrossbarBursts :
    (5 ≤ 5 ∧ 0x02001FFFFC % 4 = 0 ∧ mustWait live ⟨5, 0x02001FFFFC, 4, some (leBytes 4 7), false⟩ = false ∧
      (let bank := pstoreAddr (1 - cellBsel live (0x7FFFF / 16)) 0x7FFFF / 0x80000
       bankAdmits live bank 5 true = true ∧ bankAdmits (setOwner live bank 8) bank 5 true = false)) ∧
    (mustWait live (rd 4 0x04FFFFFC) = false ∧ portA (ownerOf live (0 / 0x80000)) 4 true = true ∧
      portA (ownerOf live (0 / 0x80000)) 15 false = false ∧ live.bus.ecc = []) ∧
    (xbarTarget 0x05000000 = 0xFF ∧ mustWait live (rd 0 0x05000000) = false ∧ 0x05000000 % 256 + burstLen (rd 0 0x05000000) ≤ 256) ∧
    (mustWait live (rd 3 0xFE) = false ∧ portA (ownerOf live (0xFE / 0x80000)) 3 false = true ∧
      256 - 0xFE % 256 < burstLen (rd 3 0xFE)) := by decide
/-- A read of a register whose clock has stopped. -/
def deadRead : BusReq := { rd 4 0x03000D0000 with dead := true }
theorem witness_CrossbarLocks :
    (live.bus.locks = [] ∧ live.bus.handover = none ∧ live.bus.waits = []) ∧
    (hangs deadRead = true ∧ live.bus.csrHung = false ∧ xbarTarget (rd 4 0x0300000000).addr = 10) ∧
    ((locked 3).bus.locks = [(0, 3)] ∧ 0 ≠ 0x800000 / 0x800000 ∧ (locked 3).bus.locks = [(0x7FFFFC / 0x800000, 3)]) ∧
    (lockOf (locked 3) (xbarTarget (rd 16 0).addr) = some 3 ∧ 3 ≠ (rd 16 0).master) := by decide
theorem witness_EccWritebackAndScrub :
    smapFind (ecc 0 257).bus.ecc (eccWord 0) = some 257 ∧ smapFind (ecc 0x0100FFFFFC 3).bus.ecc (eccWord 0x0100FFFFFC) = some 3 ∧
    isSet (field live R.F_RSV_SCRUB_CTL_EN 0) R.F_RSV_SCRUB_CTL_EN = false ∧
    isSet (field live R.F_RSV_SCRUB_CTL_EN 1) R.F_RSV_SCRUB_CTL_EN = true ∧ live.bus.ecc = [] := by decide
theorem witness_BankHandover :
    (live.bus.handover = none ∧ ¬ 160 ≤ 159 ∧ isSet live R.F_SCHED_CTL_RUN = true ∧ 160 ≤ bits (160 : Word).toNat 7 0) ∧
    (let s : State := { live with bus := { Bus.reset with handover := some ⟨159, 9⟩ } }
     s.bus.handover = some ⟨159, 9⟩ ∧ lockOf s (159 / 16) = none ∧ s.bus.waits = []) := by decide
/-- Bank 0 belongs to the memory test. -/
def testBank : State := setOwner live 0 8
theorem witness_MemoryTest :
    ((0x80000000 : Word).toNat.testBit 31 = true ∧ bits (0x80000000 : Word).toNat 29 28 = 0 ∧ testBank.bus.mbist = none ∧
      ownerOf testBank 0 = 8 ∧ ownerOf live 0 ≠ 8 ∧ testBank.bus.handover = none) ∧
    (let m : Mbist := ⟨1, 0, 63, 3⟩
     let s : State := { live with bus := { Bus.reset with mbist := some m } }
     s.bus.mbist = some m ∧ m.target ≤ 2 ∧ m.bank < 160 ∧ m.core < 64 ∧ m.bank < 4 ∧
      sparesExceeded s (mbistKey m) 4 1 = false ∧ sparesExceeded s (mbistKey m) 5 0 = true ∧
      sparesExceeded s (mbistKey m) 0 2 = true) := by decide

/-- CV with the supply and the comparison given. -/
def cvs (ok hi fault : Bool) : State := { live with cv := ⟨ok, hi, [], false⟩, flood := { Flood.reset with fault := fault } }
theorem witness_CvOutputs : 15 < 16 ∧ (cvs true true true).flood.fault = true ∧ (cvs true true false).flood.fault = false ∧
    (cvs true false false).cv.hi = false ∧ bits (0x80010000 : Word).toNat 17 16 = 1 ∧ bits (0x80010000 : Word).toNat 31 31 = 1 ∧
    bits (0x3FFFF : Word).toNat 17 16 = 3 ∧ bits (0x3FFFF : Word).toNat 31 31 = 0 ∧ (1 : Word).toNat.testBit 0 = true := by decide
theorem witness_CvSupply : (cvs false false false).cv.ok = false ∧ (cvs true true false).cv.ok = true := by decide

/-- The persistent file with `n` writes queued. -/
def prfs (n : Nat) (pf : Bool) : State :=
  { live with prf := { Prf.reset with queue := List.replicate n (0x10, 7), busy := n != 0, pf := pf } }
theorem witness_PersistentFile : (0x11 ≤ 0x11 ∧ 0x3FF < 0x400) ∧ 8 ≤ (prfs 8 false).prf.queue.length ∧
    (prfs 7 true).prf.queue.length < 8 ∧ (prfs 7 true).prf.pf = true ∧ (prfs 7 false).prf.pf = false ∧
    (prfs 1 false).prf.queue = (0x10, 7) :: [] ∧ (prfs 1 false).prf.busy = true := by decide
theorem witness_PrfQueueBounded : (prfs 8 false).prf.queue.length ≤ 8 ∧
    (prfs 8 false).prf.busy = !(prfs 8 false).prf.queue.isEmpty ∧ (prfs 0 false).prf.busy = !(prfs 0 false).prf.queue.isEmpty := by
  decide

/-- TEST after the first key, and open. -/
def keyed : State := { live with tst := ⟨true⟩ }
def tstOpen : State := setF live R.F_TEST_STAT_OPEN 1
theorem witness_TestUnlock : live.tst.first = false ∧ keyed.tst.first = true ∧ testOpen live = false ∧ testOpen tstOpen = true ∧
    getF (field tstOpen R.F_TEST_CFG_AUTO_LOCK 0) R.F_TEST_CFG_AUTO_LOCK = 0 ∧
    getF (field tstOpen R.F_TEST_CFG_AUTO_LOCK 9) R.F_TEST_CFG_AUTO_LOCK ≠ 0 := by decide
theorem witness_TestPerturbations : testOpen live = false ∧ testOpen tstOpen = true ∧ bits (0xC1000000 : Word).toNat 29 28 = 0 ∧
    getF (field tstOpen R.F_TEST_ECC_ADDR_ADDR 0x04FFFFFF) R.F_TEST_ECC_ADDR_ADDR < 0x05000000 := by decide

theorem witness_RcuControlWrites :
    (bits (1 : Word).toNat 0 0 ≠ getF live R.F_RCU_CTL_FAMILY ∧ isSet live R.F_SCHED_CTL_RUN = true ∧
      isSet lone R.F_SCHED_CTL_RUN = false) ∧
    (bits (4 : Word).toNat 0 0 = getF live R.F_RCU_CTL_FAMILY ∧ (4 : Word).toNat.testBit 2 = true ∧ dpll live = 0 ∧
      dpll (setF live R.F_RCU_STAT_DPLL 2) ≠ 0 ∧ dpll (setF live R.F_RCU_STAT_DPLL 2) ≠ 3 ∧ isSet (setF live R.F_RCU_STAT_DPLL 2) R.F_RCU_STAT_HOLD_READY = false ∧
      isSet (setF live R.F_RCU_STAT_HOLD_READY 1) R.F_RCU_STAT_HOLD_READY = true) ∧
    isSet live R.F_RCU_STAT_RELOCKING = false ∧ isSet (setF lone R.F_RCU_STAT_RELOCKING 1) R.F_RCU_STAT_RELOCKING = true := by decide
/-- Input 5 enabled at 48 kHz with a present signal, in a state. -/
def inCfg (st : Nat) : State := setInState (setF (setF (setF live (R.F_RCU_IN_CFG_EN 5) 1) (R.F_RCU_IN_CFG_NOM_HZ 5) 48000)
  (R.F_RCU_IN_STAT_PRESENT 5) 1) 5 st
theorem witness_ReferenceInputs :
    (7 < 8 ∧ inState (inCfg 2) 5 ≠ 0 ∧ (0x80000000 : Word).toNat.testBit 31 = true ∧ nomOk (inCfg 2) 5 = true ∧
      getF (setF live (R.F_RCU_IN_HIT_HIT_THR 5) 0) (R.F_RCU_IN_HIT_HIT_THR 5) = 0 ∧ getF live (R.F_RCU_IN_HIT_HIT_THR 5) ≠ 0 ∧ nomOk (setF live (R.F_RCU_IN_CFG_NOM_HZ 5) 0) 5 = false) ∧
    isHit live 6 0 = false ∧
    (let s := putIn live 6 { getIn live 6 with last := some 0 }
     isHit (setF (setF s (R.F_RCU_IN_CFG_EN 6) 1) (R.F_RCU_IN_CFG_NOM_HZ 6) 1) 6 1500000000 = true) ∧
    (inState (inCfg 1) 5 = 1 ∧ max 10 (min 500 (getF (inCfg 1) (R.F_RCU_IN_QUAL_WINDOW 5))) * 1000 < (500001 : Int).natAbs ∧
      (0 : Int).natAbs ≤ 10000) ∧
    (let s := putIn (inCfg 0) 5 { getIn (inCfg 0) 5 with edges := intervalPeriods (inHz (inCfg 0) 5) }
     isSet s (R.F_RCU_IN_CFG_EN 5) = true ∧ nomOk s 5 = true ∧ (getIn s 5).edges = intervalPeriods (inHz s 5) ∧
      (getIn s 5).hitBad = false ∧ inState s 5 = 0) := by decide
/-- Inputs 5 and 6 are candidates, 5 is selected. -/
def rcus (d : Nat) : State := setInState (setF (setF (setF (setF (setF (inCfg 2) R.F_RCU_STAT_SEL 5) R.F_RCU_STAT_DPLL d)
  (R.F_RCU_IN_CFG_PRIO 5) 1) (R.F_RCU_IN_CFG_PRIO 6) 0) (R.F_RCU_IN_CFG_EN 6) 1) 6 2
theorem witness_DpllAndWordClocks :
    (dpll (rcus 1) = 1 ∧ isSet (rcus 1) R.F_RCU_CTL_HOLD = false ∧ (candidates (rcus 1)).contains (selIn (rcus 1)) = true ∧
      betterWaited (rcus 1) = []) ∧
    dpll (rcus 2) ≠ 1 ∧ isSet live R.F_RCU_STAT_SWITCH_BUSY = false ∧
    (let s := setF (rcus 2) R.F_RCU_STAT_SWITCH_BUSY 1
     isSet s R.F_RCU_STAT_SWITCH_BUSY = true ∧ isSet s R.F_RCU_CTL_HOLD = false ∧ (candidates s).contains (selIn s) = true ∧
      betterWaited s = []) ∧
    (let s := setF (rcus 2) R.F_RCU_CTL_REVERT 1
     isSet s R.F_RCU_CTL_HOLD = false ∧ (candidates s).contains (selIn s) = true ∧ (candidates s).contains 6 = true ∧
      prio s 6 < prio s (selIn s) ∧ isSet s R.F_RCU_CTL_REVERT = true ∧ isSet s R.F_RCU_STAT_SWITCH_BUSY = false ∧
      betterWaited s = []) ∧
    (let s := setF (rcus 2) R.F_RCU_CTL_REVERT 0
     (candidates s).contains 6 = true ∧ isSet s R.F_RCU_CTL_HOLD = false ∧ (candidates s).contains (selIn s) = true ∧
      isSet s R.F_RCU_CTL_REVERT = false) ∧
    (candidates live).contains 6 = false ∧ dpll (rcus 2) = 2 ∧ 3 < 4 ∧ 1 < 2 ∧ live.rst.xo = true := by
  decide +kernel
theorem witness_TallyWrites : live.tally.held.getD 0 < 4294967296 ∧ isSet live R.F_TALLY_STAT_STEP_USED = false ∧
    getF (field live R.F_TALLY_STEP_NS_NS 999999999) R.F_TALLY_STEP_NS_NS ≤ 999999999 ∧
    999999999 < getF (field live R.F_TALLY_STEP_NS_NS 1000000000) R.F_TALLY_STEP_NS_NS := by decide

/-- Port 0 enabled with its link up. -/
def linked : State := setF (setF live (R.F_MAC_CTL_EN 0) 1) (R.F_MAC_STAT_LINK 0) 1
/-- A frame with a destination, an EtherType, 44 zeros or more after it, and its FCS. -/
def ether (dst ety : Nat) (body : List Nat) : List Nat :=
  withFcs (beBytes 6 dst ++ beBytes 6 0 ++ beBytes 2 ety ++ body ++ List.replicate (46 - body.length) 0)
/-- An IPv4 UDP frame from 10.0.0.1 to the address given, without a UDP checksum; `wrong` spoils the header checksum. -/
def udpTo (mac : Nat) (dst : List Nat) (flags dport wrong : Nat) (pay : List Nat) : List Nat :=
  let ips := [10, 0, 0, 1] ++ dst
  let ip := [0x45, 0] ++ beBytes 2 (28 + pay.length) ++ [0, 0, flags, 0, 64, 17]
  ether mac 0x0800 (ip ++ beBytes 2 (onesCheck (ip ++ [0, 0] ++ ips) ^^^ wrong) ++ ips ++
    beBytes 2 5004 ++ beBytes 2 dport ++ beBytes 2 (8 + pay.length) ++ [0, 0] ++ pay)
/-- To 239.0.0.1. -/
def udpFrame : Nat → Nat → List Nat → List Nat := udpTo 0x01005E000001 [239, 0, 0, 1] 0x40
/-- Context 0 receives one channel of L16 at 239.0.0.1:5004 on port 0. -/
def ctxLive : State :=
  setF (setF (setF (setF (setF (setF linked (R.F_STREAM_RX_CTL_EN 0) 1) (R.F_STREAM_RX_CTL_ENC 0) 1) (R.F_STREAM_RX_POOL_CHANNELS 0) 1)
    (R.F_STREAM_RX_DST_IP_DST_IP 0) 0xEF000001) (R.F_STREAM_RX_PORT_UDP_PORT 0) 5004) R.F_HEADRACE_CTL_MAC_EN 1
def rtp (n : Nat) : List Nat := [0x80, 0] ++ beBytes 2 1 ++ beBytes 4 0 ++ beBytes 4 0 ++ List.replicate n 0

theorem witness_MacControl : 4 < 5 ∧ (1 : Word).toNat.testBit 0 = true ∧ domHeld live 4 = false ∧
    isSet (setF live (R.F_MAC_CTL_EN 4) 1) (R.F_MAC_CTL_EN 4) = true ∧ isSet live (R.F_MAC_STAT_LINK 4) = false ∧
    isSet live R.F_RCU_STAT_RELOCKING = false ∧ isSet (setF live R.F_RCU_STAT_RELOCKING 1) R.F_RCU_STAT_RELOCKING = true ∧
    (let s := setF linked (R.F_MAC_CTL_PAUSE_EN 0) 1
     isSet s (R.F_MAC_STAT_LINK 0) = true ∧ isSet s (R.F_MAC_CTL_PAUSE_EN 0) = true ∧ isSet linked (R.F_MAC_CTL_PAUSE_EN 0) = false) ∧
    isSet live (R.F_MAC_CTL_EN 4) = false ∧ ([1] : List Nat).length ≠ 0 ∧ ([1] : List Nat).length ≤ 262144 := by decide
theorem witness_MacReceive :
    (isSet live (R.F_MAC_STAT_LINK 0) = false) ∧
    (let f := ether 0x0180C2000001 0x8808 ([0, 1] ++ beBytes 2 7)
     domHeld linked 0 = false ∧ isSet linked (R.F_MAC_STAT_LINK 0) = true ∧
      isSet (setF linked (R.F_MAC_CTL_PAUSE_EN 0) 1) (R.F_MAC_CTL_PAUSE_EN 0) = true ∧ f.length = 64 ∧ 64 ≤ maxFrame linked 0 ∧
      fcsOk f = true ∧ isPause f = true ∧ isSet linked (R.F_MAC_CTL_PAUSE_EN 0) = false ∧ fcsOk (f.map (fun b => b ^^^ 1)) = false) := by
  decide +kernel
theorem witness_MacReceive_host :
    (let f := ether 0xFFFFFFFFFFFF 0x0806 []
     f.length = 64 ∧ fcsOk f = true ∧ isPause f = false ∧ classify linked 0 f = 5 ∧ addrOk linked 0 false f = true ∧
      addrOk linked 0 false (ether 2 0x0806 []) = false ∧ rxUsed linked 0 false + f.length ≤ fwShare 0 ∧ parseUdp f = none) ∧
    (let f := ether 0x011B19000000 0x88F7 [0]
     fcsOk f = true ∧ classify linked 0 f = 1 ∧ parseUdp f = none ∧ rxUsed linked 0 true + f.length ≤ 0x20000) := by decide +kernel
theorem witness_MacReceive_hr :
    (let f := udpFrame (getF ctxLive R.F_HEADRACE_CTL_UDP_PORT) 0 (List.replicate 20 0)
     classify ctxLive 0 f = 4 ∧ f.length = 66 ∧ fcsOk f = true ∧ rxUsed ctxLive 0 false + f.length ≤ fwShare 0 ∧
      (parseUdp f).isSome = true ∧ ((parseUdp f).all (fun u => u.ipOk && u.udpOk && u.lenOk && sentToMany f u)) = true) ∧
    (let f := udpTo 0x020000000001 [10, 0, 0, 2] 0x40 (getF ctxLive R.F_HEADRACE_CTL_UDP_PORT) 0 (List.replicate 20 0)
     classify ctxLive 0 f = 4 ∧ f.length = 66 ∧ fcsOk f = true ∧ isPause f = false ∧
      (parseUdp f).isSome = true ∧ ((parseUdp f).all (fun u => u.ipOk && u.udpOk && u.lenOk && !u.frag && !sentToMany f u)) = true) ∧
    (let f := udpTo 0x020000000001 [10, 0, 0, 2] 0x20 (getF ctxLive R.F_HEADRACE_CTL_UDP_PORT) 0 (List.replicate 20 0)
     classify ctxLive 0 f = 4 ∧ ((parseUdp f).all (fun u => u.frag && u.ipOk && u.udpOk)) = true ∧ (parseUdp f).isSome = true) ∧
    (∀ c ∈ [0, 1, 2, 3], queueFull ctxLive c = false) ∧ ctxLive.bus.ecc = [] := by decide +kernel
theorem witness_MacReceive_room : ctxLive.hr.rxQ = [] ∧ ctxLive.hr.waitAck = [] := by decide
theorem witness_MacReceive_media :
    (let f := udpFrame 5004 0 (rtp 0)
     classify ctxLive 0 f = 2 ∧ 64 ≤ f.length ∧ ((parseUdp f).all (fun u => u.ipOk && u.udpOk &&
      (findCtx ctxLive 0 (parseL2 f) u == some (0, false)) && !rtpOk ctxLive 0 (parseRtp u.payload))) = true) ∧
    (let f := udpFrame 5004 1 (rtp 0)
     classify ctxLive 0 f = 2 ∧ (parseUdp f).all (fun u => !u.ipOk) = true) ∧
    rtpOk ctxLive 0 (parseRtp (rtp (2 * rxPtime ctxLive 0))) = true := by decide +kernel

/-- Port 0 with a frame in one queue: 0 PTP event, 1 media, 2 HOST, 3 BULK. -/
def queuedOn (q : Nat) (x : TxFrame) : State :=
  putPort linked 0 { emptyPort with
    txP := if q = 0 then [x] else [], txM := if q = 1 then [x] else [], txH := if q = 2 then [x] else [], txB := if q = 3 then [x] else [] }
def sync1 : TxFrame := ⟨true, 0xFFFF, ether 0x011B19000000 0x88F7 [0]⟩
theorem witness_MacTransmit :
    (domHeld live 0 = false ∧ isSet live (R.F_MAC_STAT_LINK 0) = false) ∧
    (domHeld (queuedOn 0 sync1) 0 = false ∧ isSet (queuedOn 0 sync1) (R.F_MAC_STAT_LINK 0) = true ∧
      (getPort (queuedOn 0 sync1) 0).txP = sync1 :: [] ∧ sync1.tag ≠ 0x10000 ∧ sync1.oneStep = true ∧
      isSet (setF (queuedOn 0 sync1) (R.F_MAC_CTL_ONESTEP 0) 1) (R.F_MAC_CTL_ONESTEP 0) = true ∧ syncAt sync1.bytes = some 14 ∧
      isSet (queuedOn 0 sync1) (R.F_MAC_CTL_ONESTEP 0) = false ∧ (getPort (queuedOn 0 sync1) 0).tsq.length < 64) ∧
    (getPort (queuedOn 1 sync1) 0).txM = sync1 :: [] ∧ (getPort (queuedOn 2 sync1) 0).txH = sync1 :: [] ∧
    (getPort (queuedOn 3 sync1) 0).txH = [] ∧ (getPort (queuedOn 3 sync1) 0).txB = sync1 :: [] := by decide +kernel
theorem witness_MacTransmit_cut :
    takeOut linked (viaOf 0) = none ∧
    (let o : OutMsg := ⟨⟨.mac 0, 0, 0, 0, 0, 0⟩, [1]⟩
     ({ linked with hr := { Headrace.reset with txQ := [o] } } : State).hr.txQ.find? (fun q => q.dst.via = viaOf 0) = some o) ∧
    (let s := setF (setF linked (R.F_MAC_CTL_CUT 0) 1) (R.F_MAC_CT_THR_THR 0) 63
     isSet s (R.F_MAC_CTL_CUT 0) = true ∧ getF s (R.F_MAC_CT_THR_THR 0) < sync1.bytes.length) ∧
    isSet linked (R.F_MAC_CTL_CUT 0) = false := by decide +kernel
theorem witness_StreamContexts :
    255 < 256 ∧ ctxOn live 255 = false ∧ ctxOn ctxLive 0 = true ∧ ctxTxOn live 255 = false ∧
    ctxTxOn (setF live (R.F_STREAM_TX_CTL_EN 255) 1) 255 = true ∧ getF ctxLive (R.F_STREAM_RX_CTL_ENC 0) ≠ bits (1 : Word).toNat
      (R.F_STREAM_RX_CTL_ENC 0).hi (R.F_STREAM_RX_CTL_ENC 0).lo ∧ rxCheck ctxLive 0 ≠ 1 ∧ rxCheck live 0 = 1 := by decide +kernel

/-- Port 31 in a mode (0 master, 1 slave, 2 ASYNC), accepted and running. -/
def spCfg (mode : Nat) : SpCfg := ⟨1 + 16 * mode, 1, 1, 0, 0⟩
def ported (mode : Nat) (inFrame : Bool) : State :=
  putSp (setF (setF live (R.F_SPORT_CTL_EN 31) 1) (R.F_SPORT_CTL_MODE 31) mode) 31
    { noSport with
      ok := true, prev := some (spCfg mode), cur := some (spCfg mode), run := true, runPrev := inFrame,
      inFrame := if inFrame then some (spCfg mode) else none }
theorem witness_SerialPorts :
    31 < 32 ∧ live.bus.csrHung = false ∧ (getSp (ported 2 true) 31).inQ.length < 4 ∧ (getSp (ported 2 true) 31).run = true ∧
    (getSp (ported 1 true) 31).runPrev = true ∧ (getSp (ported 1 false) 31).runPrev = false ∧
    ctlGang (spCtl (ported 1 false) 31) = 0 ∧ (getSp (ported 1 false) 31).missed = false ∧ (0 : Int) ≤ 32 ∧
    asyncCfg (getSp (ported 2 false) 31).cur = some (spCfg 2) ∧ (ported 2 false).sched.running = true ∧
    trkState (ported 2 true) 31 = 0 ∧ trkState (setF (ported 2 true) (R.F_ASRC_TRK_STAT_STATE 31) 1) 31 ≠ 0 ∧
    syncCfg (getSp (ported 1 false) 31).prev = some (spCfg 1) ∧ (getSp (ported 1 false) 31).seen = false ∧
    syncCfg (getSp (ported 0 false) 31).prev = some (spCfg 0) ∧ (getSp (ported 1 false) 31).cur = some (spCfg 1) ∧
    ctlMode (spCfg 1).ctl = 1 ∧ (getSp (ported 1 false) 31).run = true ∧ ctlMode (spCfg 2).ctl = 2 ∧
    (getSp (ported 2 false) 31).cur = some (spCfg 2) ∧ (getSp (ported 2 true) 31).prev = some (spCfg 2) ∧
    (getSp (ported 2 true) 31).inFrame = some (spCfg 2) := by decide
theorem witness_ConvertersAndModulators :
    63 < 64 ∧ trkRuns (ported 2 false) 31 = true ∧ getF (ported 2 false) (R.F_ASRC_TRK_STAT_STATE 31) = 0 ∧
    getF (setF (ported 2 false) (R.F_ASRC_TRK_STAT_STATE 31) 1) (R.F_ASRC_TRK_STAT_STATE 31) = 1 ∧ domHeld live 8 = false ∧
    domHeld live 9 = false ∧ clkinState live 0 = 0 ∧ clkinState (setF live R.F_PDM_STAT_CLKIN1 2) 1 ≠ 0 := by decide
theorem witness_ConvertersAndModulators_range : 2 ^ 25 = 33554432 ∧ 268435456 ≤ 2 ^ 31 := by decide
theorem witness_ConvertersAndModulators_acquire : 33554432 ≤ (getSp (putSp (ported 2 false) 31
    { getSp (ported 2 false) 31 with track := 268435456 }) 31).track ∧ trkRuns (putSp (ported 2 false) 31
    { getSp (ported 2 false) 31 with track := 268435456 }) 31 = true := by decide

/-- A state with changed fields of its link and pair part. -/
def inPair (s : State) (f : Redun → Redun) : State := { s with redun := f s.redun }
/-- REDUN_MODE as the persistent file reads it. -/
def moded (s : State) (m : Nat) : State := { s with prf := { Prf.reset with queue := [(0x20, m)], busy := true } }
theorem witness_Lease :
    (2 % 4 - (2 % 4 &&& (csrGet (pair 2 4 true) R.TEST_LEASE).toNat % 4) = 2 ∧
      3 % 4 - (3 % 4 &&& (csrGet (field live R.F_TEST_LEASE_SUPP_A 1) R.TEST_LEASE).toNat % 4) ≠ 3) ∧
    (live.redun.paired = false ∧ (pair 2 4 true).redun.paired = true ∧ (pair 3 4 true).redun.role = 3 ∧
      (pair 4 4 true).redun.role = 4 ∧ (pair 1 4 false).redun.sync = 4 ∧ (pair 1 2 false).redun.sync ≠ 4) ∧
    (inPair (pair 2 4 true) (fun r => { r with leaseHeld := true })).redun.leaseHeld = true ∧
    (prfs 8 false).prf.queue.length = 8 ∧ (prfs 7 false).prf.pf = false ∧
    ((pair 2 4 true).redun.peer.role = 1) ∧
    (let s := moded (inPair (pair 2 4 true) (fun r => { r with peer := ⟨1, 4, true, false⟩ })) 2
     revertBit s = true ∧ homeBit s = false ∧ s.redun.peer.home = true ∧ s.redun.role = 2 ∧ s.redun.sync = 4) := by decide
def hello0 : Hello := localHello (pair 1 2 false)
theorem witness_SirlosLink :
    (∀ k ∈ [0, 1], (linkAccept (pair 1 4 false) ⟨k, 0, true⟩).1 = true) ∧ (linkAccept (pair 1 4 false) ⟨0, 0, false⟩).1 = false ∧
    (linkAccept (pair 1 4 false) ⟨0, 1, true⟩).1 = false ∧ (linkAccept live frame).1 = false ∧
    domHeld (pair 1 4 false) 5 = false ∧ isSet (pair 1 4 false) R.F_RCU_STAT_RELOCKING = false ∧
    ((inPair (pair 2 4 true) (fun r => { r with tx := [(1, 0, .hello hello0)] })).redun.tx.any (fun f => f.1 == 1)) = true ∧
    (pair 2 4 true).redun.sync ≠ 0 ∧ (pair 2 4 true).redun.lane0 = true := by decide
theorem witness_SirlosLink_rx :
    (linkAccept (pair 1 2 false) frame = (true, counted (pair 1 2 false)) ∧ (pair 1 2 false).redun.sync = 2 ∧
      (pair 1 1 false).redun.sync = 1) ∧
    (linkAccept (pair 2 4 true) frame = (true, counted (pair 2 4 true)) ∧ (pair 2 4 true).redun.peer.sync = 4 ∧
      (pair 2 4 true).redun.reason ≠ 11) := by decide
theorem witness_StandbyReceives :
    (linkAccept (pair 1 4 false) frame = (true, counted (pair 1 4 false)) ∧ follows (pair 1 4 false) = true ∧
      follows (pair 2 4 true) = false ∧ isHit (pair 1 4 false) 7 0 = false ∧ nowIdx (pair 1 4 false) = 100 ∧ (pair 1 4 false).redun.roleAct = false) ∧
    (linkAccept (pair 2 4 true) frame = (true, counted (pair 2 4 true)) ∧ (pair 2 4 true).redun.roleAct = true) ∧
    ((pair 1 3 false).redun.sync = 3 ∧ (pair 1 3 false).redun.copied = none ∧ (List.replicate 32 255).length = 32 ∧
      (∀ x ∈ List.replicate 32 255, x < 256) ∧ (pair 1 3 false).bus.ecc = [] ∧
      bankAdmits (pair 1 3 false) (journalAddr 65535 / 0x80000) 16 true = true) ∧
    (2047 < 2048 ∧ (pair 1 4 false).bus.ecc = [] ∧ bankAdmits (pair 1 4 false) (ringAddr 2047 255 / 0x80000) 32 true = true ∧
      bankAdmits (setOwner (pair 1 4 false) 154 8) (ringAddr 2047 255 / 0x80000) 32 true = false) ∧
    ((pair 1 2 false).redun.sync ≠ 4 ∧ (pair 1 2 false).redun.sync ≠ 3) := by decide
theorem witness_ResyncCopy :
    ((pair 2 2 true).redun.paired = true ∧ (pair 2 2 true).redun.role = 2 ∧ (pair 2 2 true).redun.sync = 2 ∧
      (pair 2 2 true).redun.peer.sync = 2 ∧ (pair 2 2 true).redun.reason = 0 ∧
      isSet (field (pair 2 2 true) R.F_REDUN_CTL_AUTO_RESYNC 1) R.F_REDUN_CTL_AUTO_RESYNC = true ∧
      isSet (field live R.F_REDUN_CTL_AUTO_RESYNC 0) R.F_REDUN_CTL_AUTO_RESYNC = false) ∧
    (linkAccept (resyncUnit 2) frame = (true, counted (resyncUnit 2)) ∧ (resyncUnit 2).redun.unit = true ∧
      (resyncUnit 2).redun.phase = 2 ∧ (List.replicate 16 1).length = 16 ∧ (resyncUnit 2).bus.ecc = [] ∧
      (∀ h < 2, bankAdmits (resyncUnit 2) (pstoreAddr h (16 * 0x3FFF) / 0x80000) 14 true = true) ∧
      bankAdmits (resyncUnit 2) (journalAddr 65535 / 0x80000) 14 true = true) ∧
    (let s := inPair (resyncing 2) (fun r => { r with feeding := true })
     s.redun.roleAct = true ∧ s.redun.sync = 3 ∧ s.redun.feeding = true ∧ s.redun.copied = none) ∧
    (inPair (resyncUnit 2) (fun r => { r with tickRec := some (5, 6, 0) })).redun.tickRec = some (5, 6, 0) ∧
    (inPair (resyncing 2) (fun r => { r with copied := some 90 })).redun.copied ≠ none ∧
    (inPair (resyncUnit 2) (fun r => { r with copied := some 90 })).redun.aligned = false := by decide
def fxItem : SweepData := .fx [] [] []
def engItem : SweepData := .engine 1 [] [] [] [] [] [] [] []
theorem witness_SweepItems :
    (let s := inPair (resyncing 3) (fun r => { r with items := 2 ^ 153 + 1, passes := [(7, 100)] })
     s.redun.unit = false ∧ s.redun.phase = 3 ∧ s.redun.items.testBit 153 = true ∧ (∀ p ∈ s.redun.passes, p.1 ≠ 153) ∧
      s.redun.items.testBit 0 = true ∧ ({ s with sched := { s.sched with window := some .a } } : State).sched.window = some .a ∧
      s.redun.lane1 = true ∧ s.redun.items ≠ 0 ∧ linkAccept s frame = (true, counted s) ∧ s.bus.ecc = [] ∧
      itemIdle s 153 = true ∧ fxQuiet s (153 - 106) = true ∧
      fxQuiet (inPair s (fun r => { r with dirty := [(47, List.replicate 17 0)] })) 47 = false ∧
      itemIdle { s with sched := { s.sched with window := some .a } } 1 = false) ∧
    (let s := resyncUnit 3
     linkAccept s frame = (true, counted s) ∧ s.redun.unit = true ∧ s.redun.phase = 3 ∧ itemFits 153 fxItem = true ∧
      itemFits 0 engItem = true ∧ itemFits 153 (.lines []) = true ∧ isLines fxItem = false ∧ isLines (.lines []) = true ∧
      inTime s 153 100 = true ∧ inTime s 153 98 = false ∧ idxAge (nowIdx s) 100 < 16 ∧ s.bus.ecc = []) ∧
    live.redun.sync ≠ 3 := by decide
theorem witness_VerifyAndCanary :
    (let s := inPair (pair 1 4 false) (fun r => { r with own := [(99, 5, [1])] })
     linkAccept s frame = (true, counted s) ∧ s.redun.own.find? (fun e => e.1 == 98) = none ∧
      s.redun.own.find? (fun e => e.1 == 99) = some (99, 5, [1]) ∧ s.redun.verify = none ∧ s.redun.sync = 4 ∧
      s.redun.own.any (fun e => e.1 == 99) = true) ∧
    (let s := inPair (resyncUnit 4) (fun r => { r with own := [(99, 5, [1])], verify := some 192000 })
     s.redun.own.find? (fun e => e.1 == 99) = some (99, 5, [1]) ∧ s.redun.verify = some 192000 ∧ s.redun.sync = 3 ∧
      getF s R.F_REDUN_RESYNC_TRIES < 3 ∧ 3 ≤ getF (field s R.F_REDUN_RESYNC_TRIES 3) R.F_REDUN_RESYNC_TRIES ∧ fsHz s ≤ 192000 ∧
      ¬ fsHz s ≤ 47999) ∧
    (let s := inPair (resyncing 3) (fun r => { r with n0 := some 90 })
     s.redun.n0 = some 90 ∧ s.redun.sync = 3 ∧ s.redun.phase = 3 ∧ s.redun.items = 0 ∧
      idxDue (nowIdx s) (idxAdd 90 (max 8192 s.redun.convLen)) = false ∧ getF s R.F_REDUN_RESYNC_TRIES < 3 ∧
      idxDue 8282 (idxAdd 90 (max 8192 s.redun.convLen)) = true) := by decide

/-- The banks from `lo` to below `hi` take the accesses of master `m`, found by looking at each. -/
theorem banksOpen_of {s : State} {lo hi m : Nat} (he : s.bus.ecc = [])
    (h : (List.range hi).all (fun b => decide (b < lo) || (bankAdmits s b m true && bankAdmits s b m false)) = true) :
    BanksOpen s lo hi m := by
  refine ⟨he, fun b h1 h2 => ?_⟩
  have := List.all_eq_true.1 h b (List.mem_range.2 h2)
  simp [Nat.not_lt.2 h1] at this
  exact this

def rec0 : Hdr := head 1 5 16
def okMembers (x : Except Refuse (List Member)) : Bool := match x with
  | .ok _ => true
  | .error _ => false
/-- The members of a command, empty where a check refuses it. -/
def msOf (x : Except Refuse (List Member)) : List Member := match x with
  | .ok m => m
  | .error _ => []
theorem witness_CommandsAccepted :
    let s := opened live 5
    let b := paramBody 0 0x100 7
    Served s rec0 0x10 b ∧ Current s rec0 ∧ rec0.cls = 1 ∧ s.sched.running = true ∧ fieldsRefuse 0x10 [(0, 0x10, b)] = none ∧
    okMembers (membersOf s (s.hr.jhead + 1) 0x10 [(0, 0x10, b)] []) = true ∧
    (∃ i, evaluate s 0 0 (msOf (membersOf s (s.hr.jhead + 1) 0x10 [(0, 0x10, b)] [])) = .form i) ∧
    evaluate s 0 0x10000000 (msOf (membersOf s (s.hr.jhead + 1) 0x10 [(0, 0x10, b)] [])) = .refuse 0x000C ∧
    needs b.length ≤ journalFree s ∧ JournalOpen s := by
  unfold Served Current
  refine ⟨?_, ?_, ?_, ?_, ?_, ?_, ⟨_, rfl⟩, ?_, ?_, banksOpen_of rfl ?_⟩ <;> decide +kernel
theorem witness_CommandsAccepted_parts : partsOf 0x10 (paramBody 0 0x100 7) = .ok [(0, 0x10, paramBody 0 0x100 7)] ∧
    partsOf 0x31 (paramBody 0 0 7) = .ok [(0, 0x31, paramBody 0 0 7)] := ⟨rfl, rfl⟩
theorem witness_CommandsAccepted_urgent :
    let s := opened live 5
    let h : Hdr := head 0 1 16
    let b := urgentBytes 0 (.param 0x3C101 9)
    Served s h 0x10 b ∧ Current s h ∧ fieldsRefuse 0x10 [(0, 0x10, b)] = none ∧
    (∀ w ∈ urgentWords 0x10 b, w.1 = pidFloodCmd ∨ w.1 = pidFloodRamp) ∧ needs b.length ≤ journalFree s ∧
    (urgentWords 0x10 (urgentBytes 0 (.param 0x3C102 9))).find? (fun w => w.1 != pidFloodCmd && w.1 != pidFloodRamp) =
      some (0x3C102, 9) ∧ JournalOpen s := by
  unfold Served Current
  refine ⟨?_, ?_, ?_, ?_, ?_, ?_, banksOpen_of rfl ?_⟩ <;> decide +kernel
theorem witness_SessionCommands :
    (let h := head 1 0 16
     Served (served live) h 0x70 (openBody 7 0 0) ∧ h.seq = 0 ∧ (getSession (served live) 3).isOpen = false ∧
      (getSession (opened live 5) 3).client = 7 ∧ (getSession (opened live 5) 3).client ≠ 8) ∧
    (let s := opened live 5
     Served s (head 1 5 0) 0x71 [] ∧ Current s (head 1 5 0) ∧ 2 ≤ journalFree s ∧ s.hr.expiring = [] ∧
      getF (field s R.F_HEADRACE_CFG_SESS_TMO 1) R.F_HEADRACE_CFG_SESS_TMO ≠ 0 ∧
      journalFree { s with hr := { s.hr with jhead := 65536 } } = 0) ∧
    (let s := opened live 5
     let h := head 1 5 8
     Served s h 0x40 (meterBody 0 3 2 5695 1) ∧ Current s h ∧ meterRefuse (noteValid s h) 3 (meterBody 0 3 2 5695 1) = none ∧
      meterRefuse (noteValid s h) 3 (meterBody 0 3 2 5695 2) = some 0x000B ∧ Served s h 0x40 (maskBody 5)) := by
  unfold Served Current
  decide +kernel
theorem witness_SessionCommands_journal : JournalOpen (served live) ∧ JournalOpen (opened live 5) ∧ 2 ≤ journalFree (served live) :=
  ⟨banksOpen_of rfl (by decide +kernel), banksOpen_of rfl (by decide +kernel), by decide +kernel⟩
theorem witness_SequenceNumbers :
    let s := opened live 5
    let h := rec0
    Served s h 0x10 (paramBody 0 1 2) ∧ Served (served live) h 0x10 (paramBody 0 1 2) ∧
    (getSession (served live) 3).isOpen = false ∧ expectedOf s h = 5 ∧ s.redun.paired = false ∧ s.rst.stage ≠ .restart ∧
    (getSession s 3).norm.acks.find? (fun a => a.seq == 4) = some ⟨4, 1, 90, 0, false, false, true, []⟩ ∧
    (getSession s 3).norm.acks.find? (fun a => a.seq == 3) = none ∧ 1 ≤ 3 ∧ 5 ≤ 3 + 32 ∧
    expectedOf (opened live 40) h = 40 ∧ (pair 1 4 false).redun.roleAct = false ∧
    Served { s with rst := { s.rst with stage := .restart } } h 0x10 (paramBody 0 1 2) ∧
    Served (opened (pair 3 4 true) 5) h 0x10 (paramBody 0 1 2) := by
  unfold Served
  decide +kernel
def noForm : List Nat := List.replicate 16 0
def wrongVer : List Nat := beBytes 2 0x5A48 ++ [2, 0, 1, 0x10, 0, 0, 0, 0, 0, 0, 0, 0]
theorem witness_ReadsAndSurface :
    (Served (opened live 5) (head 1 5 8) 0x30 (readBody 0x30040 64) ∧ (getSession (opened live 5) 3).isOpen = true ∧
      (opened live 5).bus.csrHung = false ∧ (64 : BitVec 16).toNat ≤ 64 ∧ 0x1FFF00 + 4 * (64 - 1) < 0x200000) ∧
    (answers (served live) = true ∧ viaOn (served live) .surface = true ∧ op8 noForm 0 2 ≠ 0x5A48) ∧
    (let m := wrongVer ++ beBytes 2 (crc16 wrongVer)
     16 ≤ m.length ∧ m.length = 16 + op8 m 6 2 ∧ op8 m 0 2 = 0x5A48 ∧ op8 m 4 1 < 0x80 ∧ checkOk .surface m = true ∧
      op8 m 2 1 ≠ 1) ∧
    (let full (m : List Nat) : State := { served live with hr := { (served live).hr with rxQ := List.replicate 8 ⟨.mac 0, m⟩ } }
     let m := beBytes 2 0x5A48 ++ [1, 0, 0, 0x30, 0, 0, 0, 0, 0, 0, 0, 0]
     let good := m ++ beBytes 2 (crc16 m)
     queueFull (full good) 0 = true ∧ surfHeld (full good) < 4 ∧ answers (full good) = true ∧ good.length = 16 ∧
      op8 good 0 2 = 0x5A48 ∧ op8 good 4 1 < 0x80 ∧ checkOk .surface good = true ∧ checkOk .surface (m ++ [0, 0]) = false ∧
      queueFull (served live) 0 = false) ∧
    (isSet (served live) R.F_HEADRACE_CTL_SURF_EN = true ∧ surfHeld (served live) < 4 ∧ takeOut (served live) .surface = none) ∧
    (let o : OutMsg := ⟨surf, [1]⟩
     ({ live with hr := { Headrace.reset with txQ := [o] } } : State).hr.txQ.find? (fun q => q.dst.via = .surface) = some o) := by
  unfold Served
  decide +kernel
theorem witness_Mirror :
    (linkAccept (pair 2 4 true) frame = (true, counted (pair 2 4 true)) ∧ feeds (pair 2 4 true) = true ∧
      feeds (pair 1 4 false) = false) ∧
    (let s : State := { pair 2 4 true with hr := { Headrace.reset with jhead := 2, mack := 1 } }
     feeds s = true ∧ s.hr.mack < s.hr.jhead ∧ s.redun.sync ≠ 0 ∧ s.hr.waitAck = [] ∧ (pair 2 4 true).hr.jhead ≤ (pair 2 4 true).hr.mack) := by decide

/-- A Sluice with one group. -/
def grouped (st : GState) (ms : List Member) (staged : List PWrite) (rest : List Group) : State :=
  { live with slu := { Sluice.reset with groups := ⟨101, st, false, ms, staged, false⟩ :: rest } }
def word7 : PWrite := ⟨0x7FFFF, 7, none, none, 1⟩
theorem witness_SluiceWork :
    (let s := grouped .opn [.words [word7]] [] []
     s.slu.groups = [] ++ ⟨101, .opn, false, [.words [word7]], [], false⟩ :: [] ∧
      (∀ w ∈ [Member.words [word7]].flatMap (memberWrites s), w.pid < 2 ^ 19)) ∧
    (loadScene live 3).1 = false ∧ (grouped .settle [.words [word7]] [word7] []).slu.groups =
      ⟨101, .settle, false, [.words [word7]], [word7], false⟩ :: [] ∧
    (let b : SceneBuf := { SceneBuf.reset with storing := true, scene := 3, storeLen := 64, showBase := 0x0400000000, showSize := 0x100000 }
     let s : State := { live with slu := { Sluice.reset with buf := b } }
     s.slu.buf.storing = true ∧ (showRoom s 64).any (fun off => decide (off < 2 ^ 32)) = true ∧ s.slu.buf.scene < 1024 ∧
      0 < s.slu.buf.storeLen ∧ s.slu.buf.storeLen ≤ 0x200000 ∧ live.slu.buf.storing = false) ∧
    (let b : SceneBuf := { SceneBuf.reset with loading := true, preload := true }
     ({ live with slu := { Sluice.reset with buf := b } } : State).slu.buf.preload = true ∧ live.slu.buf.loading = false ∧
      bufBusy { live with slu := { Sluice.reset with buf := b } } = true ∧ bufBusy live = false) := by
  decide +kernel
theorem witness_SluiceWork_banks : PstoreOpen live ∧ SceneBufOpen live ∧ BanksOpen live 140 144 0 :=
  ⟨banksOpen_of rfl (by decide +kernel), banksOpen_of rfl (by decide +kernel), banksOpen_of rfl (by decide +kernel)⟩
theorem witness_Tick :
    (isSet (setF live R.F_SCHED_CTL_RUN 0) R.F_SCHED_CTL_RUN = false ∧ lone.sched.running = false ∧ live.sched.running = true) ∧
    (isSet live R.F_SCHED_CTL_RUN = true ∧ live.redun.paired = false ∧ live.rst.coresHeld = false ∧ live.slu.urgent = [] ∧
      live.redun.syncNext = false ∧ live.redun.unsyncNext = none ∧ live.bus.ecc = []) ∧
    (let s := grouped .ready [.words [word7]] [word7] []
     isSet s R.F_SCHED_CTL_RUN = true ∧ s.slu.groups = ⟨101, .ready, false, [.words [word7]], [word7], false⟩ :: [] ∧
      idxDue ((nowIdx s + 1) % 2 ^ 64) 101 = true ∧ idxDue ((nowIdx s + 1) % 2 ^ 64) 102 = false ∧ s.bus.ecc = [] ∧ [word7].any (fun w => w.pid / 16 == 0x7FFF) = true) := by decide +kernel
/-- A Ts in which no window is in progress, with work of window B for core 0; and a finished route crossfade. -/
def xfDone : State := { live with dsp := { Dsp.reset with xf := [(5, ⟨80, 20, 0, 1, some 2⟩)] } }
def mixDone : State := { live with mix := { Mix.reset with xf := [(0, ⟨80, 20, some 0⟩)] } }
def subbed : State := putSession (served { live with sched := { live.sched with idx := 96 } }) 3
  { sess 5 with subs := [(0, ⟨32, 0, 718, 90, []⟩)] }
theorem witness_WindowsAndCrossfades :
    (live.sched.running = true ∧ live.sched.window = none ∧ (Window.b ≠ .a ∧ Window.b ≠ .fx)) ∧
    (({ live with sched := { live.sched with fxOpen := true, window := some .b } } : State).sched.fxOpen = true) ∧
    (smapFind xfDone.dsp.xf 5 = some ⟨80, 20, 0, 1, some 2⟩ ∧ 20 ≤ idxAge (nowIdx xfDone) 80 ∧ samePoint 5 2 1 = false ∧
      samePoint 5 1 1 = true ∧ idxAge (nowIdx xfDone) 81 < 20 ∧ smapFind xfDone.dsp.xf 6 = none) ∧
    (0 ∈ colPair (plive mixDone) 0 ∧ smapFind mixDone.mix.xf 0 = some ⟨80, 20, some 0⟩ ∧ colRuns mixDone (nowIdx mixDone) 0 = false ∧
      (let s : State := { mixDone with mix := { mixDone.mix with xf := [(0, ⟨81, 20, none⟩)] } }
       colRuns s (nowIdx s) 0 = true) ∧ (heldCol mixDone.mix 0).map (fun x => x.1) = [] ∧
      heldCol mixDone.mix 0 = colOf (livePlane mixDone.mix 0) 0 ∧
      (let m : Mix := { mixDone.mix with pend := [(256, 5)] }
       heldCol m 0 = [(256, 5)] ∧ heldCol m 0 ≠ colOf (livePlane m 0) 0 ∧ ((heldCol m 0).map (fun x => x.1)).Nodup)) ∧
    (smapFind (getSession subbed 3).subs 0 = some ⟨32, 0, 718, 90, []⟩ ∧ (getSession subbed 3).isOpen = true ∧ nowIdx subbed % 32 = 0 ∧
      idxDue (nowIdx subbed) 90 = true ∧ nowIdx subbed ≠ 90 ∧ sendsEvents subbed = true ∧ (getSession subbed 3).outQ.length < 64) := by decide +kernel

theorem witness_Resets :
    (coldRuns live = false ∧ coldRuns State.reset = true ∧ live.rst.restartDue = false ∧ live.rst.wdt = false ∧
      live.flood.fault = false) ∧
    (let s : State := { live with rst := { live.rst with restartDue := true, wdt := true }, flood := { live.flood with fault := true } }
     s.rst.restartDue = true ∧ s.rst.wdt = true ∧ coldRuns s = false ∧
      isSet (field s R.F_RST_CFG_FATAL_RST 1) R.F_RST_CFG_FATAL_RST = true ∧
      isSet (field s R.F_RST_CFG_FATAL_RST 0) R.F_RST_CFG_FATAL_RST = false) ∧
    ((0x3FF : Word).toNat.testBit 9 = true ∧ domHeld live 9 = false ∧ live.bus.waits = []) ∧
    (xbarTarget (⟨5, 0x04000000, [1]⟩ : CutBurst).addr ≠ 10 ∧ live.slu.groups = [] ∧ live.rst.io33 = false ∧
      ({ live with rst := { live.rst with io33 := true } } : State).rst.io33 = true) ∧
    (3 ≤ 3 ∧ (0x5A54 : Word) = 0x5A54 ∧ (3 < 4)) := by decide
/-- The header of a BULK message with `len` body bytes, and a transfer in progress. -/
def bulkH (len : Nat) : Hdr := head 2 1 len
def bx (kind xfer off total : Nat) : BulkHdr := ⟨BitVec.ofNat 8 kind, BitVec.ofNat 32 xfer, BitVec.ofNat 32 off, BitVec.ofNat 32 total⟩
def bulked (st : Nat) (trial : Bool) : State :=
  { opened live 5 with boot := { Boot.reset with upd := ⟨st, 1, 9, 4, 0, 0⟩, trial := trial } }
theorem witness_HostResets :
    (Served (bulked 0 false) (bulkH 16) 0x80 (bulkBody 9 (bx 0 0 0 0) []) ∧ (getSession (bulked 0 false) 3).isOpen = true) ∧
    ({ live with rst := { live.rst with restartDue := true } } : State).rst.restartDue = true ∧ coldRuns live = false := by
  unfold Served
  decide +kernel
theorem witness_HostResets_hung : live.bus.csrHung = false := by decide
theorem witness_BootAndStart :
    (live.rst.stage ≠ .asserted ∧ State.reset.rst.stage = .asserted ∧ live.rst.stage ≠ .fw) ∧
    (let s : State := { State.reset with rst := { Rst.reset with stage := .fw } }
     s.rst.stage = .fw ∧ s.rst.warm = false ∧ s.boot.restartOk = false ∧ s.boot.trial = false ∧ s.boot.triedBoth = false) ∧
    (let s : State := { State.reset with rst := { Rst.reset with stage := .wait } }
     s.rst.stage = .wait ∧ s.boot.waitRef = none ∧ rateFamily (rateCode s) = getF s R.F_RCU_STAT_FAMILY ∧
      isSet s R.F_SCHED_CTL_RUN = false ∧ dpll s ≠ 1 ∧ dpll s ≠ 2 ∧
      rateFamily (rateCode s) ≠ getF (field s R.F_RCU_STAT_FAMILY 1) R.F_RCU_STAT_FAMILY) ∧
    (let s : State := { live with rst := { live.rst with stage := .restart, warm := true } }
     s.rst.stage = .restart ∧ s.sched.running = true ∧ s.slu.groups = [] ∧ s.rst.xo = true ∧ s.redun.paired = false) := by decide
/-- A flash map with the slots at the start of the flash, 32 MiB each. -/
def flashMap : FlashMap := ⟨⟨0x0400000000, 0x2000000⟩, ⟨0x0402000000, 0x2000000⟩, ⟨0x0404000000, 0x2000000⟩, ⟨0x0406000000, 0x2000000⟩,
  ⟨0x0408000000, 0x2000000⟩⟩
def mapped (st : Nat) : State := { bulked st false with boot := { (bulked st false).boot with map := some flashMap } }
theorem witness_BootAndStart_warm :
    let s : State := { State.reset with rst := { Rst.reset with stage := .fw, warm := true } }
    s.rst.stage = .fw ∧ s.rst.warm = true ∧ s.boot.restartOk = false ∧ PstoreOpen s :=
  ⟨by decide, by decide, by decide, banksOpen_of rfl (by decide +kernel)⟩
theorem witness_FieldUpdate :
    (Served (bulked 0 false) (bulkH 16) 0x80 (bulkBody 1 (bx 0 0 0 0) []) ∧ (bulked 0 false).boot.upd.state = 0 ∧
      (bulked 0 false).boot.trial = false ∧ (bulked 2 true).boot.upd.state = 2 ∧ (bulked 2 true).boot.trial = true) ∧
    ((bx 4 9 0 1).kind.toNat = 4 ∧ (bx 4 9 0 1).total.toNat ≤ imageMax 4 ∧ (bx 4 9 0 1).xfer.toNat = (bulked 2 true).boot.upd.xfer) ∧
    (Served (bulked 2 false) (bulkH 20) 0x80 (bulkBody 3 (bx 1 9 0 4) [1, 2, 3, 4]) ∧
      (bx 1 9 0 4).off.toNat + 4 ≤ (bulked 2 false).boot.upd.total) ∧
    (Served (bulked 0 false) (bulkH 17) 0x80 (bulkBody 6 (bx 0 0 0 0) [3]) ∧ (bulked 0 false).prf.queue.length < 8 ∧
      (bulked 0 false).prf.pf = false) ∧
    (Served (served live) (bulkH 16) 0x80 (bulkBody 9 (bx 0 0 0 0) []) ∧ (getSession (served live) 3).isOpen = false) ∧
    (idleBase (mapped 4) + 0x2000000 ≤ liveBase (mapped 4) ∨
      liveBase (mapped 4) + 0x2000000 ≤ idleBase (mapped 4)) := by
  unfold Served
  decide +kernel

/-! Well-formedness: for each check a command that passes and one that it refuses. -/

theorem test_wf_inst : wellFormed (.cvOutWrite 15 0) = true ∧ wellFormed (.cvOutWrite 16 0) = false ∧
    wellFormed (.nop 63 (arith 0 0 0 0)) = true ∧ wellFormed (.nop 64 (arith 0 0 0 0)) = false ∧ wellFormed (.macLinkDown 5) = false ∧
    wellFormed (.rcuWckWrite 3 2 0) = false ∧ wellFormed (.prfWordWrite true 1024 0) = false ∧
    wellFormed (.sweepFinalPass 153) = true ∧ wellFormed (.sweepFinalPass 154) = false ∧
    wellFormed (.scrubRead [160]) = false ∧ wellFormed (.windowEnd .b [89]) = false := by decide
theorem test_wf_bytes : wellFormed (.surfWriteMsg [0, 255]) = true ∧ wellFormed (.surfWriteMsg [256]) = false ∧
    wellFormed (.commitAt rec0 0 1 [256]) = false ∧ wellFormed (.macRxFrame 0 [256] 0 0 0 false) = false := by decide
theorem test_wf_csrOff : wellFormed (.registerWrite .host 0x1FFFFC 0) = true ∧ wellFormed (.registerWrite .host 0x200000 0) = false := by
  decide
theorem test_wf_hdr : wellFormed (.sessionClose rec0) = true ∧ wellFormed (.sessionClose { rec0 with len := 65536 }) = false ∧
    wellFormed (.sessionClose { rec0 with src := ⟨.mac 4, 0, 0, 0, 0, 0⟩ }) = false ∧
    wellFormed (.headraceBadMessage ⟨.mac 4, 0, 0, 0, 0, 0⟩ []) = false := by decide
theorem test_wf_link : wellFormed (.mirrorAck frame 1) = true ∧ wellFormed (.mirrorAck ⟨2, 0, true⟩ 1) = false ∧
    wellFormed (.mirrorAck ⟨0, 4294967296, true⟩ 1) = false := by decide
theorem test_wf_req : wellFormed (.xbarAccess [rd 17 0, wr 34 0]) = true ∧ wellFormed (.xbarAccess [rd 18 0]) = false ∧
    wellFormed (.xbarAccess [rd 35 0]) = false ∧ wellFormed (.xbarAccess [rd 0 1099511627776]) = false ∧
    wellFormed (.xbarAccess [{ wr 0 0 with len := 5 }]) = false := by decide
theorem test_wf_cut : wellFormed (.resetNAssert [⟨17, 0, [255]⟩]) = true ∧ wellFormed (.resetNAssert [⟨18, 0, []⟩]) = false ∧
    wellFormed (.rstDomWrite 0 [⟨0, 0, [256]⟩]) = false := by decide
theorem test_wf_word32 : wellFormed (.sportAsyncFrameDone 31 [-2147483648, 2147483647]) = true ∧
    wellFormed (.sportAsyncFrameDone 31 [2147483648]) = false ∧ wellFormed (.sportAsyncFrameDone 31 [-2147483649]) = false := by decide
/-- The table gives no row bits: no word spells a command, and `withFetchWord` leaves the state. -/
theorem test_no_word : decodeTableWord 0 0 = none ∧ State.reset.withFetchWord 32 7 = State.reset := by decide

/-! Tests whose expected values are the worked examples of spec/, or follow from its tables by hand. -/

/-- 00_scope.md: the MINTAL register at offset 4 of core 37. -/
theorem test_csr_address : R.MINTAL_STAT 37 = 0x199404 := by decide
/-- 01_engine_at_scale.md: input strip 200 and its send to bus 17. -/
theorem test_pid : pidStrip 200 0 = 0x6400 ∧ pidSend 200 17 = 0x4C811 ∧ pidSend 200 17 / 16 = 0x4C81 := by decide
/-- 03_strips.md: EQ_G_5 of bus 17 (unit 1041), word 54. -/
theorem test_pid_bus : pidStrip 1041 54 = 0x208B6 := by decide
/-- 01_engine_at_scale.md: the scratchpad of core 37. -/
theorem test_scratch : spAddr 37 0 = 0x0100940000 ∧ xbarTarget 0x0100960000 = 16 + 37 := by decide
/-- R113: the G-code converter. -/
theorem test_gcode : lin 0xD400 = 539423503 ∧ conv true 0xD400 0x80000000 = 16856984 ∧ lin 0x8600 = 67909 := by decide +kernel
/-- 02_sample_period.md: H of T = 0x4000; 05_sluice_scenes.md: N of T = 0x3800. -/
theorem test_times : samplesOf 96000 0x4000 = 245 ∧ samplesOf 48000 0x4000 = 122 ∧ nOf 96000 0x3800 = 122 ∧ nOf 48000 0x3800 = 61 := by
  decide +kernel
/-- R64: the weights of a crossfade of 64 samples. -/
theorem test_rho : rho 0 64 = 33038209 ∧ rho 63 64 = 2114445438 := by decide +kernel
/-- R81: the gain of a linked pair's send at the centre. -/
theorem test_pan : panL 0 0x80 = 0x5A827999 ∧ panR 0 0x80 = 0x5A827999 ∧ conv true 0xE000 0x5A827999 = 47453132 ∧
    conv true 0xE000 (panL 0 0) = 0x04000000 ∧ conv true 0xE000 (panR 0 0) = 0 := by decide +kernel
/-- 03_strips.md: the compressor's reduction at half scale. -/
theorem test_compressor : compGr 0xD800 24 6 0x40000000 = 396 := by decide +kernel
/-- 04_sends_buses_confluence.md: the send crossfade of bus 17 at j = 0, 31 and 62. -/
theorem test_send_crossfade : xmix 1073741824 269711744 (rho 0 63) = 1061178854 ∧ xmix 1073741824 269711744 (rho 31 63) = 671726784 ∧
    xmix 1073741824 269711744 (rho 62 63) = 282274714 := by decide +kernel
/-- 04_sends_buses_confluence.md: the Floodgate's ramp with FLOOD_RAMP = 4, and its end at 0. -/
theorem test_floodgate : floodStep 4 = 429496730 ∧ 2147483648 - floodStep 4 = 1717986918 ∧ 429496728 - floodStep 4 = 0 ∧
    truncTo 24 0x33333333 = 0x33333300 := by decide
/-- 05_sluice_scenes.md: the live copy of the FADER word of bus 17. -/
theorem test_live_copy : pidStrip 1041 80 = 0x208D0 ∧ pstoreAddr 1 0x208D0 = 0x04282340 := by decide
/-- 05_sluice_scenes.md: the codes of a fader's ramp of 122 samples. -/
theorem test_ramp : rampCode true 0xE000 0xD400 122 0 = 0xDFE6 ∧ rampCode true 0xE000 0xD400 122 60 = 0xDA00 ∧
    rampCode true 0xE000 0xD400 122 121 = 0xD400 ∧ rampCode true 0 0xE000 122 0 = 0x80C9 := by decide
/-- 07_mintal_core.md: a move from X1 = 4 in a buffer of 1,056 bytes. -/
theorem test_circular : postMod { coreInit with regs := [(1, 4), (13, 0x3FFE0), (37, 0x420)] } 1 1 4 32 = 0x404 := by decide
/-- 07_mintal_core.md: an ADD in slot 12 sees the old V1, one in slot 13 the value of the load of slot 10. -/
theorem test_landing : vLane (landed { coreInit with slot := 12, flight := [⟨13, .v 1 0, [7]⟩] }) 1 0 = 0 ∧
    vLane (landed { coreInit with slot := 13, flight := [⟨13, .v 1 0, [7]⟩] }) 1 0 = 7 := by decide
/-- 09_references_clocks.md: 48,000 Hz is valid in the 48 kHz family and 44,100 Hz is not. -/
theorem test_nominal : nomOk (field live (R.F_RCU_IN_CFG_NOM_HZ 0) 48000) 0 = true ∧
    nomOk (field live (R.F_RCU_IN_CFG_NOM_HZ 0) 44100) 0 = false := by decide
/-- 10_network_tally.md: one cycle after 1,000 s + 999,999,999.5 ns, and a step of −0.25 s. -/
def tallied : State := { live with tally := { Tally.reset with sec := 1000, ns := 999999999, frac := 0x80000000 } }
theorem test_tally_carry : (tallyAt tallied 1).sec = 1001 ∧ (tallyAt tallied 1).ns = 0 ∧
    (tallyAt tallied 1).frac * 100 / 4294967296 = 77 := by decide
theorem test_tally_step : (after .tallyStep (field (field tallied R.F_TALLY_STEP_SEC_SEC 0xFFFFFFFF) R.F_TALLY_STEP_NS_NS 750000000)).tally.sec
      = 1000 ∧
    (after .tallyStep (field (field tallied R.F_TALLY_STEP_SEC_SEC 0xFFFFFFFF) R.F_TALLY_STEP_NS_NS 750000000)).tally.ns = 749999999 := by
  decide
/-- 10_network_tally.md: context 5, 32 channels of L24; at 250 µs enable fails with reason 4. -/
def ctx5 (ptime : Nat) : State := field (field (field (field live (R.F_STREAM_RX_CTL_PTIME 5) ptime) (R.F_STREAM_RX_POOL_CHANNELS 5) 32)
  (R.F_STREAM_RX_POOL_BASE 5) 0x100) (R.F_STREAM_RX_LINK_LINK 5) 48
theorem test_stream_check : rxCheck (ctx5 0) 5 = 0 ∧ rxCheck (ctx5 1) 5 = 4 := by decide +kernel
/-- 11_serial_pdm.md: SPORT_3 with mask 0x0F30: slot 5 is its second enabled slot, slot 8 its third. -/
theorem test_slot_rank : slotRank 0xF30 5 = 1 ∧ slotRank 0xF30 8 = 2 ∧ popCount 0xF30 16 = 6 := by decide
/-- R74: a step of the dither register from 1. -/
theorem test_prng : prngStep 1 = 0x80200003 ∧ prngStep 2 = 1 := by decide
/-- The published check values of the polynomials that 06_headrace.md, 05_sluice_scenes.md and R311 name, over "123456789". -/
theorem test_crc : crc16 (tabulate 9 (fun k => 49 + k)) = 0x29B1 ∧ crc32 (tabulate 9 (fun k => 49 + k)) = 0xCBF43926 ∧
    crc64 (tabulate 9 (fun k => 49 + k)) = 0x6C40DF5F0B497347 := by decide +kernel
/-- The published SHA-384 of "abc", for R340's digests. -/
theorem test_sha384 : sha384 [0x61, 0x62, 0x63] =
    0xcb00753f45a35e8bb5a03d699ac65007272c32ab0eded1631a8b605a43ff5bed8086072ba1e7cc2358baeca134c825a7 := by decide +kernel

/-- R177 to R179: the loop body word of 07_mintal_core.md (A = V1, B = V2, V1 loaded through X1 with MOD 1, V2 through Y1 with
MOD 2), then words written out from the formats: an ADD, an LDI, a LOOP, and opcodes that the table does not give. -/
theorem test_mintal_words :
    mintalDecode 5 0x440240205504C000 = .mac 5 ⟨false, 0, 1, 2, 0, ⟨1, 0, 1, 1, 1⟩, ⟨1, 0, 2, 1, 2⟩, noMove⟩ ∧
    arithWord 0x11 ⟨false, 0, 1, 2, 0, ⟨1, 0, 1, 1, 1⟩, ⟨1, 0, 2, 1, 2⟩, noMove⟩ = 0x440240205504C000 ∧
    mintalDecode 5 0x0860_0000_0000_0000 = .add 5 ⟨false, 3, 0, 0, 0, noMove, noMove, noMove⟩ ∧
    mintalDecode 5 (0x38 * 2 ^ 58 + 12 * 2 ^ 52 + 0xFFFFFFFF) = .ldi 5 12 0xFFFFFFFF ∧
    mintalDecode 5 (0x30 * 2 ^ 58 + 100 * 2 ^ 42 + 1 * 2 ^ 34 + 9 * 2 ^ 22 + 1) = .loop 5 100 false 0 1 9 ∧
    mintalDecode 5 (0x18 * 2 ^ 58) = .illegalInstruction 5 false ∧ mintalDecode 5 (0x3F * 2 ^ 58) = .illegalInstruction 5 false := by
  decide +kernel
/-- R379: without VDD_IO33 the pair pins float; R295: SYNC_OK follows SYNCED. -/
theorem test_pins : leaseHbPin live = .hiZ ∧
    (let s : State := { pair 2 4 true with rst := { live.rst with io33 := true } }
     syncOkPin s = .high ∧ roleActPin s = .high ∧ leaseHbPin s = .low) := by decide

/-! One step each. -/

theorem test_step_takes_the_front : step { lone with pending := [.floodPinRel, .leaseHbToggle] } =
    exec .floodPinRel { lone with pending := [.leaseHbToggle] } := rfl
/-- R54: RUN takes effect at the next tick, which is sample 1; R20. -/
theorem test_run : (after (.schedRunSet 0x31) lone).sched.running = false ∧ isSet (after (.schedRunSet 0x31) lone) R.F_SCHED_CTL_RUN = true := by
  decide
/-- R97: MUTE_N low is seen at the next tick. -/
theorem test_mute : (after (.muteNChange false) live).flood.seen = true ∧ (after (.muteNChange true) live).flood.seen = false := by decide
/-- R5: an unassigned offset ignores a write; R3: bits 1 and 0 of an offset do not count. -/
theorem test_unassigned : after (.registerWrite .host 0x1B0000 7) live = live := by decide
/-- R203: a master that the bank's class does not admit reads zeros, and OWN_S records it. -/
theorem test_owner : isSet (after (.xbarAccess [rd 15 0]) live) R.F_RSV_STAT_OWN_S = true ∧
    (after (.xbarAccess [rd 15 0]) live).bus.rdata = [(15, [0, 0, 0, 0], false)] := by decide
/-- R16, R216: an absent address reads zeros and sets REFUSE_S. -/
theorem test_absent : isSet (after (.xbarAccess [rd 0 0x05000000]) live) R.F_XBAR_STAT_REFUSE_S = true := by decide
/-- A write by Cage reads back, in byte order. -/
theorem test_memory : readBytes (after (.xbarAccess [wr 4 0x100]) live) 0xFF 6 = [0, 1, 2, 3, 4, 0] := by decide
/-- R18: the PSTORE window writes the shadow half and marks the cell. -/
theorem test_pstore : pshadow (after (.pstoreWindowWrite 4 0x0200000040 9) live) 16 = 9 ∧
    plive (after (.pstoreWindowWrite 4 0x0200000040 9) live) 16 = 0 ∧ cellDirty (after (.pstoreWindowWrite 4 0x0200000040 9) live) 1 = true := by
  decide
/-- R204: a handover of bank 160 is rejected. -/
theorem test_handover : isSet (after (.rsvHandoverWrite 0x5A0) live) R.F_RSV_STAT_HANDOVER_REJ_S = true ∧
    (after (.rsvHandoverWrite 0x59F) live).bus.handover = some ⟨159, 5⟩ := by decide
/-- R168: the sum of two lanes saturates at 40 bits. -/
theorem test_add_saturates : (getCore (after (.add 0 (arith 3 1 2 0)) (withCore { core0 with v := [(8, 549755813887), (16, 1)] })) 0).flight.any
    (fun f => f.vals.headD 0 == 549755813887) = true := by decide
/-- R325, R326: 0x6666 in U5V needs VDD_CV_HI; with it the code waits or is driven. -/
theorem test_cv : isSet (after (.cvOutWrite 0 0x80016666) (cvs true false false)) R.F_CV_STAT_SPAN_REJ_S = true ∧
    (getCv (after (.cvOutWrite 0 0x80016666) (cvs true true false)) 0).code = 0x6666 := by decide
/-- R333: the host may not write a BOOT word; word 0x10 may be written. -/
theorem test_prf : isSet (after (.prfWordWrite true 0x30 1) live) R.F_PRF_STAT2_DENY_S = true ∧
    prfRead (after (.prfWordWrite true 0x10 5) live) 0x10 = 5 := by decide
/-- R337: the write that takes a counter past 200,000 sets WEAR_LIMIT_S. -/
theorem test_wear : isSet (after .prfWriteDone { prfs 1 false with prf := { (prfs 1 false).prf with wear := [(0x10, 200000)] } })
    R.F_PRF_STAT_WEAR_LIMIT_S = true := by decide
/-- R368: the two keys open TEST; anything between them does not. -/
theorem test_unlock : testOpen (after (.testUnlockWrite 0xA5AB81A8) (after (.testUnlockWrite 0x5A547E57) live)) = true ∧
    testOpen (after (.testUnlockWrite 0xA5AB81A8) (after (.testUnlockWrite 1) live)) = false := by decide
/-- R294: a renewal makes the synced standby active. -/
theorem test_takeover : (after (.leaseRenew 1) (pair 1 4 false)).redun.role = 2 ∧ (after (.leaseRenew 1) (pair 1 4 false)).redun.sync = 4 := by
  decide +kernel
/-- R296: the lease of the active engine expires. -/
theorem test_expiry : (after .leaseExpiry { pair 2 4 true with redun := { (pair 2 4 true).redun with leaseHeld := true } }).redun.role = 1 := by
  decide +kernel
/-- R144: a command of a session that is not open is answered NO_SESSION, code 4. -/
theorem test_no_session : getF (after (.setParam rec0 0 0 0) (served live)) R.F_HEADRACE_LAST_NAK_CODE = 4 := by decide +kernel
/-- R148: SESSION_OPEN opens session 3 and takes two journal positions. -/
theorem test_session_open : (getSession (after (.sessionOpen (head 1 0 16) 7 0 0) (served live)) 3).client = 7 ∧
    (after (.sessionOpen (head 1 0 16) 7 0 0) (served live)).hr.jhead = 2 := by decide +kernel
/-- R253: a frame of 60 bytes is a runt. -/
theorem test_runt : isSet (after (.macRxFrame 0 (List.replicate 60 0) 0 0 0 false) linked) (R.F_MAC_HIST_RUNT_S 0) = true := by decide
/-- R291: a modulator clock input is lost. -/
theorem test_clkin : isSet (after (.pdmClkinUnlock 1) (setF live R.F_PDM_STAT_CLKIN1 2)) R.F_PDM_STAT_CLKIN1_LOSS_S = true := by decide
/-- R361, R362: RESET_N resets the cores and keeps SMP_IDX. -/
theorem test_warm : coldRuns live = false ∧ (warmParts live).sched.idx = 100 ∧ (warmParts live).rst.coresHeld = true ∧
    (warmParts live).flood.g = 0 := by decide +kernel
/-- R363: the host's write of RST_CTL only sets HOST_REJ_S. -/
theorem test_host_reset : (after (.registerWrite .host R.RST_CTL 0x5A54) live).rst = live.rst ∧
    isSet (after (.registerWrite .host R.RST_CTL 0x5A54) live) R.F_RST_STAT_HOST_REJ_S = true := by decide

end Sys2Proof.Tests
end

section
/-! SUPPORT. The small updates of the state seen through CSR fields (R6, R7). -/
namespace Sys2Proof.Machine

theorem hr_update_keeps (s : State) (x : Headrace) : Keeps [.hr] s { s with hr := x } where
  only p hp := by
    cases p with
    | hr => exact absurd (List.mem_singleton.2 rfl) hp
    | _ => rfl
  inv := Inv_of_mem rfl rfl

theorem csrOnly_trans {offs : List Nat} {s t u : State} (h : csrOnly offs s t) (k : csrOnly offs t u) : csrOnly offs s u :=
  fun o ho => (k o ho).trans (h o ho)

theorem csrOnly_setF {offs : List Nat} (s : State) (f : Fld) (x : Nat) (h : f.off ∈ offs) : csrOnly offs s (setF s f x) :=
  fun _ ho => csrGet_setF_ne s f x _ (fun e => ho (e ▸ h))

theorem csrOnly_stick {offs : List Nat} (s : State) (f : Fld) (h : f.off ∈ offs) : csrOnly offs s (stick s f) :=
  csrOnly_setF s f _ h

theorem csrOnly_count {offs : List Nat} (s : State) (f : Fld) (k : Nat) (h : f.off ∈ offs) : csrOnly offs s (count s f k) :=
  csrOnly_setF s f _ h

theorem getF_of_csr_eq {s t : State} (h : t.csr = s.csr) (f : Fld) : getF t f = getF s f := by
  simp only [getF, csrGet, h]

theorem getF_setF_small (s : State) (f : Fld) {x : Nat} (hf : f.hi < 32) (hx : x < 2 ^ (f.hi + 1 - f.lo)) :
    getF (setF s f x) f = x := by
  rw [getF_setF s f x hf, Nat.mod_eq_of_lt hx]

theorem getF_stick (s : State) (f : Fld) (h : f.hi < 32) : getF (stick s f) f = 2 ^ (f.hi + 1 - f.lo) - 1 :=
  getF_setF_small s f h (Nat.sub_lt (Nat.two_pow_pos _) Nat.one_pos)

theorem getF_stick_ne (s : State) (f g : Fld) (hf : f.hi < 32) (h : g.off ≠ f.off ∨ g.hi < f.lo ∨ f.hi < g.lo) :
    getF (stick s f) g = getF s g :=
  getF_setF_ne s f g _ hf h

/-- A counter saturates at its all-ones value (R7). -/
theorem getF_count (s : State) (f : Fld) (k : Nat) (h : f.hi < 32) :
    getF (count s f k) f = min (getF s f + k) (2 ^ (f.hi + 1 - f.lo) - 1) :=
  getF_setF_small s f h (Nat.lt_of_le_of_lt (Nat.min_le_right _ _) (Nat.sub_lt (Nat.two_pow_pos _) Nat.one_pos))

theorem getF_count_ne (s : State) (f g : Fld) (k : Nat) (hf : f.hi < 32) (h : g.off ≠ f.off ∨ g.hi < f.lo ∨ f.hi < g.lo) :
    getF (count s f k) g = getF s g :=
  getF_setF_ne s f g _ hf h

theorem isSet_iff (s : State) (f : Fld) : isSet s f = true ↔ getF s f = 1 := beq_iff_eq

end Sys2Proof.Machine
end

section
/-! A register's fields and the word that a software write leaves in it (00_scope.md, "Register tables"). -/
namespace Sys2Proof.Machine

/-- The fields stand below bit `top`, each above the next, as a register table lists them. -/
def fieldsDescend (top : Nat) : List FieldDef → Bool
  | [] => true
  | f :: fs => decide (f.lo ≤ f.hi) && decide (f.hi < top) && fieldsDescend f.lo fs

/-- What a field that held `old` holds after a software write of `x` (the types of `fieldsWrite`). -/
def fieldAfter (ty : FieldTy) (old x : Nat) : Nat :=
  match ty with
  | .ro => old
  | .rw => x
  | .rwp => x
  | .w1c => old - (old &&& x)
  | .w1s => old ||| x
  | .wo => 0
  | .cnt => 0

theorem fieldsWrite_cons (old v : Nat) (f : FieldDef) (fs : List FieldDef) :
    fieldsWrite old v (f :: fs) =
      2 ^ f.lo * fieldAfter f.ty (bits old f.hi f.lo) (bits v f.hi f.lo) + fieldsWrite old v fs := by
  rw [Nat.mul_comm]
  rfl

theorem fieldsDescend_cons (top : Nat) (f : FieldDef) (fs : List FieldDef) :
    fieldsDescend top (f :: fs) = true ↔ f.lo ≤ f.hi ∧ f.hi < top ∧ fieldsDescend f.lo fs = true := by
  simp only [fieldsDescend, Bool.and_eq_true, decide_eq_true_eq, and_assoc]

theorem hi_lt_of_fieldsDescend {top : Nat} {fs : List FieldDef} (h : fieldsDescend top fs = true) {g : FieldDef} (hg : g ∈ fs) :
    g.hi < top := by
  induction fs generalizing top with
  | nil => cases hg
  | cons f fs ih =>
    obtain ⟨hle, htop, hfs⟩ := (fieldsDescend_cons ..).1 h
    rcases List.mem_cons.1 hg with rfl | hg
    · exact htop
    · have hlt := ih hfs hg
      omega

theorem fieldAfter_lt (ty : FieldTy) {old x n : Nat} (ho : old < 2 ^ n) (hx : x < 2 ^ n) : fieldAfter ty old x < 2 ^ n := by
  cases ty with
  | ro => exact ho
  | rw => exact hx
  | rwp => exact hx
  | w1c => exact Nat.lt_of_le_of_lt (Nat.sub_le _ _) ho
  | w1s => exact Nat.or_lt_two_pow ho hx
  | wo => exact Nat.two_pow_pos n
  | cnt => exact Nat.two_pow_pos n

theorem fieldsWrite_lt (old v : Nat) {top : Nat} {fs : List FieldDef} (h : fieldsDescend top fs = true) :
    fieldsWrite old v fs < 2 ^ top := by
  induction fs generalizing top with
  | nil => exact Nat.two_pow_pos top
  | cons f fs ih =>
    obtain ⟨hle, htop, hfs⟩ := (fieldsDescend_cons ..).1 h
    have hn := fieldAfter_lt f.ty (bits_lt old f.hi f.lo) (bits_lt v f.hi f.lo)
    rw [fieldsWrite_cons]
    generalize fieldAfter f.ty (bits old f.hi f.lo) (bits v f.hi f.lo) = n at hn
    calc 2 ^ f.lo * n + fieldsWrite old v fs
        < 2 ^ f.lo * (n + 1) := by rw [Nat.mul_succ]; exact Nat.add_lt_add_left (ih hfs) _
      _ ≤ 2 ^ f.lo * 2 ^ (f.hi + 1 - f.lo) := Nat.mul_le_mul_left _ hn
      _ = 2 ^ (f.hi + 1) := by rw [← Nat.pow_add]; congr 1; omega
      _ ≤ 2 ^ top := Nat.pow_le_pow_right (by decide) htop

/-- The written word, bit by bit: the first field's bits stand above those of the fields below it. -/
theorem testBit_fieldsWrite_cons (old v : Nat) (f : FieldDef) {fs : List FieldDef} (h : fieldsDescend f.lo fs = true) (i : Nat) :
    (fieldsWrite old v (f :: fs)).testBit i =
      if i < f.lo then (fieldsWrite old v fs).testBit i
      else (fieldAfter f.ty (bits old f.hi f.lo) (bits v f.hi f.lo)).testBit (i - f.lo) := by
  rw [fieldsWrite_cons, Nat.testBit_two_pow_mul_add _ (fieldsWrite_lt old v h)]

/-- Every field of a written register holds what its type makes of its old value and the bits written. -/
theorem bits_fieldsWrite (old v : Nat) {top : Nat} {fs : List FieldDef} (h : fieldsDescend top fs = true) {g : FieldDef} (hg : g ∈ fs) :
    bits (fieldsWrite old v fs) g.hi g.lo = fieldAfter g.ty (bits old g.hi g.lo) (bits v g.hi g.lo) := by
  induction fs generalizing top with
  | nil => cases hg
  | cons f fs ih =>
    obtain ⟨hle, htop, hfs⟩ := (fieldsDescend_cons ..).1 h
    rcases List.mem_cons.1 hg with rfl | hg
    · have hr := fieldsWrite_lt old v hfs
      have hn := fieldAfter_lt g.ty (bits_lt old g.hi g.lo) (bits_lt v g.hi g.lo)
      rw [fieldsWrite_cons, bits, Nat.shiftRight_eq_div_pow, Nat.mul_add_div (Nat.two_pow_pos _), Nat.div_eq_of_lt hr,
        Nat.add_zero, Nat.mod_eq_of_lt hn]
    · have hlt := hi_lt_of_fieldsDescend hfs hg
      rw [← ih hfs hg]
      apply Nat.eq_of_testBit_eq
      intro i
      rw [testBit_bits, testBit_bits, testBit_fieldsWrite_cons old v f hfs]
      by_cases hi : i < g.hi + 1 - g.lo
      · rw [if_pos (by omega)]
      · simp [hi]

/-- A bit of no field is reserved and reads 0 (R4). -/
theorem testBit_fieldsWrite_reserved (old v : Nat) {top : Nat} {fs : List FieldDef} (h : fieldsDescend top fs = true) {i : Nat}
    (hi : ∀ f ∈ fs, i < f.lo ∨ f.hi < i) : (fieldsWrite old v fs).testBit i = false := by
  induction fs generalizing top with
  | nil => exact Nat.zero_testBit i
  | cons f fs ih =>
    obtain ⟨_, _, hfs⟩ := (fieldsDescend_cons ..).1 h
    obtain ⟨hf, hi⟩ := List.forall_mem_cons.1 hi
    rw [testBit_fieldsWrite_cons old v f hfs]
    split
    · exact ih hfs hi
    · have hn := fieldAfter_lt f.ty (bits_lt old f.hi f.lo) (bits_lt v f.hi f.lo)
      exact Nat.testBit_lt_two_pow (Nat.lt_of_lt_of_le hn (Nat.pow_le_pow_right (by decide) (by omega)))

end Sys2Proof.Machine
end

section
/-! The accesses to CSR space (00_scope.md, R3 to R5). -/
namespace Sys2Proof.Machine

theorem exec_registerWrite (o : Origin) (off : Nat) (v : Word) (s : State) :
    exec (.registerWrite o off v) s = .next (regWriteAs o s off v.toNat) := rfl

theorem wordOff_of_aligned {off : Nat} (h : off % 4 = 0) : wordOff off = off := by
  simp [wordOff, h]

theorem wordOff_aligned (off : Nat) : wordOff off % 4 = 0 := by
  unfold wordOff
  omega

@[simp] theorem wordOff_wordOff (off : Nat) : wordOff (wordOff off) = wordOff off :=
  wordOff_of_aligned (wordOff_aligned off)

/-- No CSR block stands above CONFL's (CSR block map of 00_scope.md). -/
theorem regTable_reserved {blk : Nat} (h : 0x1B ≤ blk) : regTable blk = [] := by
  obtain ⟨k, rfl⟩ := Nat.exists_eq_add_of_le' h
  rfl

theorem regAt_reserved {off : Nat} (h : 0x1B0000 ≤ off) : regAt off = none := by
  unfold regAt
  rw [regTable_reserved (by omega)]
  rfl

theorem regWriteAs_unassigned (o : Origin) (s : State) (off v : Nat) (h : regAt (wordOff off) = none) :
    regWriteAs o s off v = s := by
  simp [regWriteAs, regWriteAt, h]

theorem csrRead_unassigned (s : State) (off cyc : Nat) (h : regAt (wordOff off) = none) :
    csrRead s off cyc = (0, s) := by
  simp [csrRead, csrReadAt, h]

theorem regWriteAs_wordOff (o : Origin) (s : State) (off v : Nat) :
    regWriteAs o s (wordOff off) v = regWriteAs o s off v := by
  simp [regWriteAs]

theorem csrRead_wordOff (s : State) (off cyc : Nat) : csrRead s (wordOff off) cyc = csrRead s off cyc := by
  simp [csrRead]

/-- Settles O6: both accesses look at the word that holds the offset, and where no register stands there each answers at once. -/
theorem unassignedRegisters : Obligations.UnassignedRegisters := by
  unfold Obligations.UnassignedRegisters
  refine ⟨fun o off v cyc s h => ⟨?_, csrRead_unassigned s off cyc h⟩, fun off hlo _ => regAt_reserved (by omega),
    fun o off v cyc s => ⟨?_, (csrRead_wordOff s off cyc).symm⟩⟩
  · rw [exec_registerWrite, regWriteAs_unassigned o s off _ h]
  · rw [exec_registerWrite, exec_registerWrite]
    exact congrArg _ (regWriteAs_wordOff o s off _).symm

/-! Writes by field types alone. -/

/-- The CSR blocks all of whose registers take a write by their field types alone: SYS, STRIP, HEADRACE, XBAR, ASRC, PDM, BOOT and
CONFL. -/
def plainBlocks : List Nat := [0x00, 0x04, 0x06, 0x07, 0x11, 0x12, 0x16, 0x1A]

theorem plainBlocks_fieldsDescend :
    plainBlocks.all (fun blk => (regTable blk).all (fun d => fieldsDescend 32 d.fields)) = true := by decide +kernel

theorem fieldsDescend_of_regAt {off : Nat} {d : RegDef} (hb : off / 0x10000 ∈ plainBlocks) (h : regAt off = some d) :
    fieldsDescend 32 d.fields = true :=
  List.all_eq_true.1 (List.all_eq_true.1 plainBlocks_fieldsDescend _ hb) d (List.mem_of_find?_eq_some h)

theorem regFields_of_regAt {off : Nat} {d : RegDef} (h : regAt off = some d) : regFields off = d.fields := by
  simp [regFields, h]

theorem regWriteAssigned_plain (o : Origin) (s : State) {off : Nat} (v : Nat) (hb : off / 0x10000 ∈ plainBlocks) :
    regWriteAssigned o s off v = csrWrite s off (BitVec.ofNat 32 v) := by
  unfold regWriteAssigned
  generalize off / 0x10000 = blk at hb
  simp only [plainBlocks, List.mem_cons, List.not_mem_nil, or_false] at hb
  rcases hb with rfl | rfl | rfl | rfl | rfl | rfl | rfl | rfl <;> rfl

theorem csrOnly_csrPut (s : State) (off : Nat) (v : Word) : csrOnly [off] s (csrPut s off v) :=
  fun o ho => csrGet_put_ne s off o v (fun e => ho (List.mem_singleton.2 e))

theorem csrOnly_csrWrite (s : State) (off : Nat) (v : Word) : csrOnly [off] s (csrWrite s off v) :=
  csrOnly_csrPut s off _

theorem csrGet_csrWrite (s : State) (off : Nat) (v : Word) :
    csrGet (csrWrite s off v) off = BitVec.ofNat 32 (fieldsWrite (csrGet s off).toNat v.toNat (regFields off)) :=
  csrGet_put_same ..

theorem csrGet_csrWrite_toNat (s : State) {off : Nat} (v : Word) (h : fieldsDescend 32 (regFields off) = true) :
    (csrGet (csrWrite s off v) off).toNat = fieldsWrite (csrGet s off).toNat v.toNat (regFields off) := by
  rw [csrGet_csrWrite, BitVec.toNat_ofNat, Nat.mod_eq_of_lt (fieldsWrite_lt _ _ h)]

theorem exec_registerWrite_plain (o : Origin) {off : Nat} (v : Word) {d : RegDef} {s : State} (ha : off % 4 = 0)
    (hd : regAt off = some d) (hc : s.bus.csrHung = false) (hb : off / 0x10000 ∈ plainBlocks) :
    exec (.registerWrite o off v) s = .next (csrWrite s off v) := by
  simp [exec_registerWrite, regWriteAs, hc, regWriteAt, wordOff_of_aligned ha, hd, regWriteAssigned_plain o s _ hb]

/-- Settles O7: in these blocks the write is `fieldsWrite` on the register's own word, whose fields do not overlap. -/
theorem writeByFieldType : Obligations.WriteByFieldType := by
  unfold Obligations.WriteByFieldType
  intro o off v d s ha hd hc hb
  have hf := fieldsDescend_of_regAt hb hd
  have hw : (csrGet (csrWrite s off v) off).toNat = fieldsWrite (csrGet s off).toNat v.toNat d.fields := by
    rw [← regFields_of_regAt hd] at hf ⊢
    exact csrGet_csrWrite_toNat s v hf
  refine ⟨_, exec_registerWrite_plain o v ha hd hc hb, (csrWrite_keeps ..).only, csrOnly_csrWrite s off v, ?_, ?_⟩
  · intro f hmem
    rw [hw, bits_fieldsWrite _ _ hf hmem]
    rfl
  · intro i hi
    rw [← BitVec.testBit_toNat, hw]
    exact testBit_fieldsWrite_reserved _ _ hf hi

end Sys2Proof.Machine
end

section
/-! Messages: their bytes, and what a discarded and a refused one leave behind (R135, R139, R144). -/
namespace Sys2Proof.Machine

@[simp] theorem length_leBytes (n w : Nat) : (leBytes n w).length = n := by
  induction n generalizing w with
  | zero => rfl
  | succ n ih => rw [leBytes, List.length_cons, ih]

@[simp] theorem length_beBytes (n w : Nat) : (beBytes n w).length = n := by simp [beBytes]

theorem ofLeBytes_leBytes (n w : Nat) : ofLeBytes (leBytes n w) = w % 256 ^ n := by
  induction n generalizing w with
  | zero => simp [leBytes, ofLeBytes, Nat.mod_one]
  | succ n ih => rw [leBytes, ofLeBytes, ih, Nat.mod_mod, Nat.pow_succ', Nat.mod_mul]

theorem ofBeBytes_beBytes (n w : Nat) : ofBeBytes (beBytes n w) = w % 256 ^ n := by
  rw [ofBeBytes, beBytes, List.reverse_reverse, ofLeBytes_leBytes]

/-- A number of `n` bytes in a body, found where it stands. -/
theorem op8_beBytes (pre post : List Nat) (n w : Nat) : op8 (pre ++ (beBytes n w ++ post)) pre.length n = w % 256 ^ n := by
  rw [op8, List.drop_left, ← ofBeBytes_beBytes, List.take_append_of_le_length (by simp), List.take_of_length_le (by simp)]

theorem op8_readBody_off (off : Word) (count : BitVec 16) : op8 (readBody off count) 0 4 = off.toNat := by
  rw [readBody, wordBytes, List.append_assoc]
  exact (op8_beBytes [] _ 4 off.toNat).trans (Nat.mod_eq_of_lt off.isLt)

theorem op8_readBody_count (off : Word) (count : BitVec 16) : op8 (readBody off count) 4 2 = count.toNat := by
  rw [readBody, List.append_assoc]
  exact (op8_beBytes (wordBytes off) [0, 0] 2 count.toNat).trans (Nat.mod_eq_of_lt count.isLt)

/-! A message discarded without reply. -/

@[simp] theorem rxSump_hr (s : State) : (rxSump s).hr = s.hr := rfl

theorem csrOnly_rxSump (s : State) : csrOnly [R.HEADRACE_RX_SUMP_CNT, R.HEADRACE_STAT] s (rxSump s) :=
  csrOnly_trans (csrOnly_count s R.F_HEADRACE_RX_SUMP_CNT_RX_SUMP_CNT 1 (by decide)) (csrOnly_stick _ _ (by decide))

theorem isSet_rxSump_discard (s : State) : isSet (rxSump s) R.F_HEADRACE_STAT_RX_DISCARD_S = true :=
  (isSet_iff ..).2 (getF_stick _ _ (by decide))

theorem getF_rxSump_count (s : State) : getF (rxSump s) R.F_HEADRACE_RX_SUMP_CNT_RX_SUMP_CNT =
    min (getF s R.F_HEADRACE_RX_SUMP_CNT_RX_SUMP_CNT + 1) 0xFFFFFFFF :=
  (getF_stick_ne _ _ _ (by decide) (by decide)).trans (getF_count _ _ _ (by decide))

/-! A NAK. -/

/-- A NAK sends one message and changes nothing else of Headrace. -/
theorem sendNak_hr (s : State) (h : Hdr) (code detail expected : Nat) :
    ∃ m, (sendNak s h code detail expected).hr = { s.hr with txQ := s.hr.txQ ++ [m] } := ⟨_, rfl⟩

/-- The registers after a NAK: it is counted and recorded (R144). -/
theorem sendNak_csr (s : State) (h : Hdr) (code detail expected : Nat) :
    (sendNak s h code detail expected).csr =
      (setF (setF (stick (count s R.F_HEADRACE_NAK_CNT_NAK_CNT 1) R.F_HEADRACE_STAT_NAK_S) R.F_HEADRACE_LAST_NAK_CODE code)
        R.F_HEADRACE_LAST_NAK_SESSION h.session.toNat).csr := by
  unfold sendNak
  exact sendOut_csr ..

theorem getF_sendNak_code (s : State) (h : Hdr) {code : Nat} (detail expected : Nat) (hc : code < 65536) :
    getF (sendNak s h code detail expected) R.F_HEADRACE_LAST_NAK_CODE = code := by
  rw [getF_of_csr_eq (sendNak_csr ..), getF_setF_ne _ _ _ _ (by decide) (by decide), getF_setF_small _ _ (by decide) hc]

theorem getF_sendNak_of_ne (s : State) (h : Hdr) (code detail expected : Nat) {g : Fld} (hg : g.off ≠ R.HEADRACE_LAST_NAK) :
    getF (sendNak s h code detail expected) g =
      getF (stick (count s R.F_HEADRACE_NAK_CNT_NAK_CNT 1) R.F_HEADRACE_STAT_NAK_S) g := by
  rw [getF_of_csr_eq (sendNak_csr ..), getF_setF_ne _ _ _ _ (by decide) (.inl hg), getF_setF_ne _ _ _ _ (by decide) (.inl hg)]

theorem getF_sendNak_count (s : State) (h : Hdr) (code detail expected : Nat) :
    getF (sendNak s h code detail expected) R.F_HEADRACE_NAK_CNT_NAK_CNT =
      min (getF s R.F_HEADRACE_NAK_CNT_NAK_CNT + 1) 0xFFFFFFFF := by
  rw [getF_sendNak_of_ne _ _ _ _ _ (by decide), getF_stick_ne _ _ _ (by decide) (by decide)]
  exact getF_count _ _ _ (by decide)

theorem isSet_sendNak_urgentDrop (s : State) (h : Hdr) (code detail expected : Nat) :
    isSet (sendNak s h code detail expected) R.F_HEADRACE_STAT_URGENT_DROP_S = isSet s R.F_HEADRACE_STAT_URGENT_DROP_S := by
  rw [isSet, isSet, getF_sendNak_of_ne _ _ _ _ _ (by decide), getF_stick_ne _ _ _ (by decide) (by decide),
    getF_count_ne _ _ _ _ (by decide) (by decide)]

/-- `nak` is `sendNak`, after the draw of EXPECTED for a session that is not open. -/
theorem nak_eq_sendNak (s : State) (h : Hdr) (code detail : Nat) :
    ∃ (s' : State) (expected : Nat), nak s h code detail = sendNak s' h code detail expected ∧ s'.csr = s.csr ∧ s'.hr = s.hr := by
  unfold nak
  split
  · exact ⟨s, _, rfl, rfl, rfl⟩
  · exact ⟨(freshFree s).2, _, rfl, rfl, rfl⟩

theorem nak_hr (s : State) (h : Hdr) (code detail : Nat) :
    ∃ m, (nak s h code detail).hr = { s.hr with txQ := s.hr.txQ ++ [m] } := by
  obtain ⟨s', e, hnak, _, hhr⟩ := nak_eq_sendNak s h code detail
  rw [hnak, ← hhr]
  exact sendNak_hr ..

theorem getF_nak_code (s : State) (h : Hdr) {code : Nat} (detail : Nat) (hc : code < 65536) :
    getF (nak s h code detail) R.F_HEADRACE_LAST_NAK_CODE = code := by
  obtain ⟨s', e, hnak, _, _⟩ := nak_eq_sendNak s h code detail
  rw [hnak, getF_sendNak_code _ _ _ _ hc]

theorem getF_nak_count (s : State) (h : Hdr) (code detail : Nat) :
    getF (nak s h code detail) R.F_HEADRACE_NAK_CNT_NAK_CNT = min (getF s R.F_HEADRACE_NAK_CNT_NAK_CNT + 1) 0xFFFFFFFF := by
  obtain ⟨s', e, hnak, hcsr, _⟩ := nak_eq_sendNak s h code detail
  rw [hnak, getF_sendNak_count, getF_of_csr_eq hcsr]

theorem isSet_nak_urgentDrop (s : State) (h : Hdr) (code detail : Nat) :
    isSet (nak s h code detail) R.F_HEADRACE_STAT_URGENT_DROP_S = isSet s R.F_HEADRACE_STAT_URGENT_DROP_S := by
  obtain ⟨s', e, hnak, hcsr, _⟩ := nak_eq_sendNak s h code detail
  rw [hnak, isSet_sendNak_urgentDrop, isSet, isSet, getF_of_csr_eq hcsr]

/-! BUSY (R140). -/

theorem nakBusy_hr (s : State) (h : Hdr) : ∃ m, (nakBusy s h).hr = { s.hr with txQ := s.hr.txQ ++ [m] } := by
  unfold nakBusy
  split <;> exact nak_hr ..

theorem getF_nakBusy_code (s : State) (h : Hdr) : getF (nakBusy s h) R.F_HEADRACE_LAST_NAK_CODE = 0x0014 :=
  getF_nak_code _ h 0 (by decide)

theorem isSet_nakBusy_urgentDrop (s : State) {h : Hdr} (hc : h.cls = 0) :
    isSet (nakBusy s h) R.F_HEADRACE_STAT_URGENT_DROP_S = true := by
  unfold nakBusy
  rw [isSet_nak_urgentDrop, if_pos hc, isSet_iff]
  exact getF_stick _ _ (by decide)

/-! Queues. -/

theorem queueFull_of_empty {s : State} (hr : s.hr.rxQ = []) (hw : s.hr.waitAck = []) (cls : Nat) : queueFull s cls = false := by
  simp [queueFull, hr, hw]

theorem takeRx_of_empty {s : State} {v : Via} (hr : s.hr.rxQ = []) (hv : viaOn s v = true) : takeRx s v = some s := by
  simp [takeRx, hr, hv]

theorem takeOut_of_reply {s : State} {v : Via} {o : OutMsg} (h : s.hr.txQ.find? (fun m => m.dst.via = v) = some o) :
    takeOut s v = some (o, { s with hr := { s.hr with txQ := s.hr.txQ.erase o } }) := by
  simp [takeOut, h]

end Sys2Proof.Machine
end

section
/-! REG_READ (R143). -/
namespace Sys2Proof.Machine

theorem noteValid_of_open {s : State} {h : Hdr} (ho : (getSession s h.session.toNat).isOpen = true) :
    noteValid s h =
      let k := h.session.toNat
      let t := putSession s k { getSession s k with reply := h.src }
      { t with hr := { t.hr with expiring := t.hr.expiring.filter (fun j => j != k) } } :=
  if_pos ho

theorem noteValid_of_closed {s : State} {h : Hdr} (ho : (getSession s h.session.toNat).isOpen = false) : noteValid s h = s :=
  if_neg (by simp [ho])

/-- A valid message touches its session's reply address and expiry alone. -/
theorem noteValid_hr (s : State) (h : Hdr) :
    ∃ ss es, (noteValid s h).hr = { s.hr with sessions := ss, expiring := es } := by
  cases ho : (getSession s h.session.toNat).isOpen with
  | true => rw [noteValid_of_open ho]; exact ⟨_, _, rfl⟩
  | false => rw [noteValid_of_closed ho]; exact ⟨_, _, rfl⟩

@[simp] theorem noteValid_rxQ (s : State) (h : Hdr) : (noteValid s h).hr.rxQ = s.hr.rxQ := by
  obtain ⟨ss, es, e⟩ := noteValid_hr s h
  rw [e]

@[simp] theorem noteValid_waitAck (s : State) (h : Hdr) : (noteValid s h).hr.waitAck = s.hr.waitAck := by
  obtain ⟨ss, es, e⟩ := noteValid_hr s h
  rw [e]

@[simp] theorem noteValid_txQ (s : State) (h : Hdr) : (noteValid s h).hr.txQ = s.hr.txQ := by
  obtain ⟨ss, es, e⟩ := noteValid_hr s h
  rw [e]

@[simp] theorem noteValid_jhead (s : State) (h : Hdr) : (noteValid s h).hr.jhead = s.hr.jhead := by
  obtain ⟨ss, es, e⟩ := noteValid_hr s h
  rw [e]

@[simp] theorem noteValid_bus (s : State) (h : Hdr) : (noteValid s h).bus = s.bus := (noteValid_keeps s h).only .bus (by decide)

@[simp] theorem noteValid_redun (s : State) (h : Hdr) : (noteValid s h).redun = s.redun :=
  (noteValid_keeps s h).only .redun (by decide)

@[simp] theorem noteValid_sched (s : State) (h : Hdr) : (noteValid s h).sched = s.sched :=
  (noteValid_keeps s h).only .sched (by decide)

@[simp] theorem getSession_putSession (s : State) (k j : Nat) (x : Session) :
    getSession (putSession s k x) j = if j = k then x else getSession s j := smapGet_set ..

@[simp] theorem noteValid_isOpen (s : State) (h : Hdr) (k : Nat) :
    (getSession (noteValid s h) k).isOpen = (getSession s k).isOpen := by
  cases ho : (getSession s h.session.toNat).isOpen with
  | true =>
    rw [noteValid_of_open ho]
    refine (congrArg Session.isOpen (getSession_putSession s _ k _)).trans ?_
    split
    case isTrue hk => rw [hk]
    case isFalse => rfl
  | false => rw [noteValid_of_closed ho]

/-- A message that passes the checks, with nothing before it, is served. -/
theorem arrive_served {s : State} {h : Hdr} {op : Nat} {b : List Nat} (hs : Served s h op b) (serve : State → State) :
    arrive s h op b serve = serve (noteValid s h) := by
  obtain ⟨hans, hrx, hwait, hvia, hcls, hlen, hok⟩ := hs
  have hq : queueFull (noteValid s h) h.cls.toNat = false := queueFull_of_empty (by simp [hrx]) (by simp [hwait]) _
  simp only [arrive, hans, takeRx_of_empty hrx hvia, hcls, hok]
  simp [hlen, hq]

@[simp] theorem length_csrReads (cyc n off : Nat) (s : State) : (csrReads cyc n off s).1.length = n := by
  induction n generalizing off s with
  | zero => rfl
  | succ n ih => simp [csrReads, ih]

theorem serveRead_in_range {s : State} {h : Hdr} {off : Word} {count : BitVec 16}
    (hopen : (getSession s h.session.toNat).isOpen = true ∨ off.toNat < 0x10000) (h0 : 0 < count.toNat)
    (h64 : count.toNat ≤ 64) (hend : off.toNat + 4 * (count.toNat - 1) < 0x200000) :
    serveRead s h (readBody off count) =
      plainAck (csrReads h.cyc count.toNat off.toNat s).2 h (nowIdx s)
        ((csrReads h.cyc count.toNat off.toNat s).1.flatMap (beBytes 4)) := by
  have hses : (decide (0x10000 ≤ off.toNat) && !(getSession s h.session.toNat).isOpen) = false := by
    rcases hopen with ho | ho
    · simp [ho]
    · simp [Nat.not_le.2 ho]
  simp only [serveRead, op8_readBody_off, op8_readBody_count, hses]
  simp [Nat.pos_iff_ne_zero.1 h0, Nat.not_lt.2 h64, Nat.not_le.2 hend]

theorem exec_regRead_served {s : State} {h : Hdr} {off : Word} {count : BitVec 16} (hs : Served s h 0x30 (readBody off count))
    (hc : s.bus.csrHung = false) :
    exec (.regRead h off count) s = .next (serveRead (noteValid s h) h (readBody off count)) := by
  refine congrArg _ ((arrive_served hs _).trans ?_)
  rw [noteValid_bus, hc]
  rfl

/-- The CSR reads of a REG_READ leave Headrace, the sample index and the pair as they are. -/
theorem csrReads_frame (cyc n off : Nat) (s : State) :
    (csrReads cyc n off s).2.hr = s.hr ∧ isSynced (csrReads cyc n off s).2 = isSynced s := by
  have hk := (csrReads_keeps cyc n off s).only
  have hhr : (csrReads cyc n off s).2.hr = s.hr := hk .hr (by decide)
  have hredun : (csrReads cyc n off s).2.redun = s.redun := hk .redun (by decide)
  exact ⟨hhr, by rw [isSynced, isSynced, hredun]⟩

/-- A REG_READ inside CSR space is answered with the words (R143): the ACK stands last in the queue and takes no journal position. -/
theorem regRead_acknowledged (h : Hdr) (off : Word) (count : BitVec 16) (s : State) (hs : Served s h 0x30 (readBody off count))
    (hopen : (getSession s h.session.toNat).isOpen = true ∨ off.toNat < 0x10000) (h0 : 0 < count.toNat) (h64 : count.toNat ≤ 64)
    (hend : off.toNat + 4 * (count.toNat - 1) < 0x200000) (hc : s.bus.csrHung = false) :
    let data := (csrReads h.cyc count.toNat off.toNat (noteValid s h)).1
    ∃ t : State, exec (.regRead h off count) s = .next t ∧ Only [.csr, .freeCtr, .hr, .net] s t ∧ t.hr.jhead = s.hr.jhead ∧
      data.length = count.toNat ∧ t.hr.txQ = s.hr.txQ ++ [⟨h.src, message h.session.toNat h.cls.toNat 0x60 h.seq.toNat
        (ackBody ⟨h.seq.toNat, noJpos, nowIdx s, 0, false, false, !isSynced s, data.flatMap (beBytes 4)⟩ false)⟩] := by
  intro data
  obtain ⟨t, hexec, hkeeps⟩ := execRegRead_keeps h off count s
  have hread : t = plainAck (csrReads h.cyc count.toNat off.toNat (noteValid s h)).2 h (nowIdx s) (data.flatMap (beBytes 4)) := by
    have hnow : nowIdx (noteValid s h) = nowIdx s := by rw [nowIdx, nowIdx, noteValid_sched]
    have hserve := serveRead_in_range (s := noteValid s h) (h := h) (by simpa using hopen) h0 h64 hend
    rw [hnow] at hserve
    rw [← hserve]
    exact Host.Outcome.next.inj (hexec.symm.trans (exec_regRead_served hs hc))
  obtain ⟨hhr, hsync⟩ := csrReads_frame h.cyc count.toNat off.toNat (noteValid s h)
  have hsync' : isSynced (noteValid s h) = isSynced s := by rw [isSynced, isSynced, noteValid_redun]
  refine ⟨t, hexec, hkeeps.only, ?_, length_csrReads .., ?_⟩
  · rw [hread, plainAck, sendAck, sendOut, hhr, noteValid_jhead]
  · rw [hread, plainAck, sendAck, sendOut, hhr, noteValid_txQ, hsync, hsync']

end Sys2Proof.Machine
end

section
/-! Messages that fail the first checks (R139), and the surface port (R137, R138). -/
namespace Sys2Proof.Machine

theorem exec_headraceBadMessage (src : Endpoint) (m : List Nat) (s : State) :
    exec (.headraceBadMessage src m) s = .next (badMessage s src m) := rfl

theorem exec_surfWriteMsg (m : List Nat) (s : State) : exec (.surfWriteMsg m) s = .next (surfWrite s m) := rfl

theorem exec_surfStatus (s : State) : exec .surfStatus s = .next (surfStatus s) := rfl

theorem exec_surfReadMsg (n : Nat) (s : State) : exec (.surfReadMsg n) s = .next (surfRead s n) := rfl

/-- The length, magic, type and check of a message are right (R135, R139). -/
def wellFramed (v : Via) (m : List Nat) : Prop :=
  16 ≤ m.length ∧ m.length = 16 + op8 m 6 2 ∧ op8 m 0 2 = 0x5A48 ∧ op8 m 4 1 < 0x80 ∧ checkOk v m = true

section
variable {s : State} {src : Endpoint} {m : List Nat} (hans : answers s = true) (hrx : s.hr.rxQ = [])
  (hvia : viaOn s src.via = true)
include hans hrx hvia

theorem badMessage_of_not_framed (hm : ¬ wellFramed src.via m) : badMessage s src m = rxSump s := by
  simp only [badMessage, hans, takeRx_of_empty hrx hvia]
  by_cases hlen : 16 ≤ m.length ∧ m.length = 16 + op8 m 6 2
  · by_cases hhead : op8 m 0 2 = 0x5A48 ∧ op8 m 4 1 < 0x80
    · have hcheck : checkOk src.via m = false :=
        Bool.eq_false_iff.2 fun hc => hm ⟨hlen.1, hlen.2, hhead.1, hhead.2, hc⟩
      simp [hcheck]
    · have hbad : op8 m 0 2 ≠ 0x5A48 ∨ 0x80 ≤ op8 m 4 1 := by omega
      simp [hbad]
  · have hbad : m.length < 16 ∨ m.length ≠ 16 + op8 m 6 2 := by omega
    simp [hbad]

/-- The version is judged before the opcode. -/
theorem badMessage_of_framed (hm : wellFramed src.via m) (hbad : op8 m 2 1 ≠ 1 ∨ hostOpcode (op8 m 5 1) = false) :
    badMessage s src m = nak s (rawHdr src m) (if op8 m 2 1 ≠ 1 then 0x0001 else 0x0002) 0 := by
  obtain ⟨h16, hlen, hmagic, hdir, hcheck⟩ := hm
  simp only [badMessage, hans, takeRx_of_empty hrx hvia]
  by_cases hv : op8 m 2 1 = 1
  · have hop : hostOpcode (op8 m 5 1) = false := hbad.resolve_left (fun hne => hne hv)
    simp [Nat.not_lt.2 h16, ← hlen, hmagic, Nat.not_le.2 hdir, hcheck, hv, hop]
  · simp [Nat.not_lt.2 h16, ← hlen, hmagic, Nat.not_le.2 hdir, hcheck, hv]
end

/-- The endpoint of a surface message (R137): the port has no addresses. -/
def surfaceHost : Endpoint := ⟨.surface, 0, 0, 0, 0, 0⟩

theorem rawHdr_cls (src : Endpoint) (m : List Nat) : (rawHdr src m).cls.toNat = op8 m 4 1 % 4 := rfl

theorem queueRx_of_room {s : State} {src : Endpoint} {m : List Nat} (hq : queueFull s (op8 m 4 1 % 4) = false) :
    queueRx s src m = { s with hr := { s.hr with rxQ := s.hr.rxQ ++ [⟨src.via, m⟩] } } :=
  if_neg (by rw [rawHdr_cls, hq]; decide)

/-- A whole message that finds its queue full passes the checks on magic, type and check, or is discarded (R140). -/
theorem queueRx_of_full {s : State} {src : Endpoint} {m : List Nat} (hq : queueFull s (op8 m 4 1 % 4) = true) (h16 : 16 ≤ m.length) :
    queueRx s src m =
      if op8 m 0 2 = 0x5A48 ∧ op8 m 4 1 < 0x80 ∧ checkOk src.via m = true then nakBusy s (rawHdr src m) else rxSump s := by
  have hmagic : ofBeBytes (m.take 2) = op8 m 0 2 := rfl
  have hdir : ofBeBytes ((m.drop 4).take 1) = op8 m 4 1 := rfl
  rw [queueRx, rawHdr_cls, if_pos hq, hmagic, hdir]
  by_cases hgood : op8 m 0 2 = 0x5A48 ∧ op8 m 4 1 < 0x80 ∧ checkOk src.via m = true
  · obtain ⟨hm, hd, hc⟩ := hgood
    simp [Nat.not_lt.2 h16, hm, hd, Nat.not_le.2 hd, hc]
  · rw [if_neg hgood, if_pos]
    simp only [Bool.or_eq_true, decide_eq_true_eq, bne_iff_ne, Bool.not_eq_true']
    refine Classical.byContradiction fun hall => ?_
    simp only [not_or, Bool.not_eq_false, Classical.not_not] at hall
    obtain ⟨⟨⟨_, hm⟩, hd⟩, hc⟩ := hall
    exact hgood ⟨hm, Nat.lt_of_not_le hd, hc⟩

/-- A message of right length finds one of the four surface buffers free (R138). -/
def surfFits (s : State) (m : List Nat) : Prop :=
  16 ≤ m.length ∧ m.length = 16 + op8 m 6 2 ∧ m.length ≤ (if op8 m 5 1 = 0x80 then 8208 else 1472) ∧ surfHeld s < 4

theorem surfWrite_of_fits {s : State} {m : List Nat} (hans : answers s = true) (hon : viaOn s .surface = true) (hfit : surfFits s m) :
    surfWrite s m = queueRx { s with hr := { s.hr with surfOut := [] } } surfaceHost (m.map (fun b => b % 256)) := by
  obtain ⟨h16, hlen, hmax, hheld⟩ := hfit
  have hready : rxReady s = true := decide_eq_true hheld
  simp [surfWrite, surfaceHost, hans, hon, hready, Nat.not_lt.2 h16, ← hlen, Nat.not_lt.2 hmax]

theorem surfWrite_of_not_fits {s : State} {m : List Nat} (hans : answers s = true) (hon : viaOn s .surface = true)
    (hfit : ¬ surfFits s m) : surfWrite s m = rxSump s := by
  rw [surfWrite, if_neg (by simp [hans, hon]), if_pos]
  simp only [rxReady, Bool.or_eq_true, decide_eq_true_eq, bne_iff_ne, Bool.not_eq_true', decide_eq_false_iff_not]
  refine Classical.byContradiction fun hall => ?_
  simp only [not_or, Classical.not_not] at hall
  obtain ⟨⟨⟨hheld, h16⟩, hlen⟩, hmax⟩ := hall
  exact hfit ⟨Nat.le_of_not_lt h16, hlen, Nat.le_of_not_lt hmax, hheld⟩

theorem surfRead_of_some {s : State} (n : Nat) {m : OutMsg × State} (hon : viaOn s .surface = true) (h : takeOut s .surface = some m) :
    surfRead s n =
      { m.2 with hr := { m.2.hr with surfOut := (m.1.bytes ++ List.replicate (n - m.1.bytes.length) 0).take n } } := by
  simp [surfRead, hon, h]

theorem surfRead_of_none {s : State} (n : Nat) (hon : viaOn s .surface = true) (h : takeOut s .surface = none) :
    surfRead s n = { s with hr := { s.hr with surfOut := List.replicate n 0 } } := by
  simp [surfRead, hon, h]

/-- The word that STATUS returns: RX_READY, and whether a message waits and how long it is (R137). -/
def surfStatusWord (s : State) : Nat :=
  let n := match takeOut s .surface with
    | some m => m.1.bytes.length
    | none => 0
  2 ^ 15 * ofBool (answers s && rxReady s) + 2 ^ 14 * ofBool (n != 0) + n % 2 ^ 14

theorem surfStatus_of_on {s : State} (hon : viaOn s .surface = true) :
    surfStatus s = { s with hr := { s.hr with surfOut := beBytes 2 (surfStatusWord s) } } := by
  simp only [surfStatus, hon]
  rfl

theorem beBytes_surfStatusWord_of_none {s : State} (h : takeOut s .surface = none) :
    beBytes 2 (surfStatusWord s) = [if answers s && decide (surfHeld s < 4) then 0x80 else 0, 0] := by
  simp only [surfStatusWord, rxReady, h]
  cases answers s && decide (surfHeld s < 4) <;> rfl

/-- A surface message that finds its queue full, after the transaction has cleared what the one before returned. -/
theorem surfWrite_of_busy {s : State} {m : List Nat} (hans : answers s = true) (hon : viaOn s .surface = true) (hfit : surfFits s m)
    (hq : queueFull s (op8 (m.map (fun b => b % 256)) 4 1 % 4) = true) :
    let bs := m.map (fun b => b % 256)
    let u : State := { s with hr := { s.hr with surfOut := [] } }
    surfWrite s m = if op8 bs 0 2 = 0x5A48 ∧ op8 bs 4 1 < 0x80 ∧ checkOk .surface bs = true
      then nakBusy u (rawHdr surfaceHost bs) else rxSump u := by
  intro bs u
  rw [surfWrite_of_fits hans hon hfit]
  have hqu : queueFull u (op8 bs 4 1 % 4) = true := hq
  exact queueRx_of_full hqu ((List.length_map (as := m) _).symm ▸ hfit.1)

/-- Settles O52: behind the arrival checks a REG_READ is one pass of `csrReads`; a message that fails the first checks and a surface
message without a free buffer or queue place end in `rxSump`, `nak` or `nakBusy`, whose effects are stated once. -/
theorem readsAndSurface : Obligations.ReadsAndSurface := by
  unfold Obligations.ReadsAndSurface
  refine ⟨regRead_acknowledged, ?_, ?_, ?_⟩
  · intro src m s hans hrx hvia formed
    refine ⟨fun hm => ?_, fun hm hbad => ?_⟩
    · rw [exec_headraceBadMessage, badMessage_of_not_framed hans hrx hvia hm]
      exact ⟨_, rfl, (rxSump_keeps s).only, csrOnly_rxSump s, isSet_rxSump_discard s, getF_rxSump_count s⟩
    · rw [exec_headraceBadMessage, badMessage_of_framed hans hrx hvia hm hbad]
      obtain ⟨o, hhr⟩ := nak_hr s (rawHdr src m) (if op8 m 2 1 ≠ 1 then 0x0001 else 0x0002) 0
      refine ⟨_, rfl, (nak_keeps ..).only, ?_, ?_, ?_, getF_nak_code _ _ _ (by split <;> decide), getF_nak_count ..⟩
      · rw [hhr]
      · rw [hhr]
      · rw [hhr, List.length_append, List.length_singleton]
  · intro m s hans hon fits bs cls good
    let u : State := { s with hr := { s.hr with surfOut := [] } }
    refine ⟨fun hfit hq => ?_, fun hfit hq hgood => ?_, fun hfit hq hbad => ?_, fun hfit => ?_⟩
    · rw [exec_surfWriteMsg, surfWrite_of_fits hans hon hfit]
      exact congrArg _ (queueRx_of_room hq)
    · have hbusy : surfWrite s m = nakBusy u (rawHdr surfaceHost bs) :=
        (surfWrite_of_busy hans hon hfit hq).trans (if_pos hgood)
      obtain ⟨o, hhr⟩ := nakBusy_hr u (rawHdr surfaceHost bs)
      refine ⟨_, exec_surfWriteMsg m s, (surfWrite_keeps s m).only, ?_⟩
      rw [hbusy, hhr]
      exact ⟨getF_nakBusy_code .., rfl, rfl, List.length_append, rfl,
        fun hc => isSet_nakBusy_urgentDrop _ (BitVec.eq_of_toNat_eq hc)⟩
    · rw [exec_surfWriteMsg, surfWrite_of_busy hans hon hfit hq, if_neg hbad]
      exact ⟨_, rfl, (Keeps.step (rxSump_keeps u) rfl (Keeps.mono (hr_update_keeps s _) rfl)).only, rxSump_hr u,
        csrOnly_rxSump u, isSet_rxSump_discard u⟩
    · rw [exec_surfWriteMsg, surfWrite_of_not_fits hans hon hfit]
      exact ⟨_, rfl, (rxSump_keeps s).only, csrOnly_rxSump s, isSet_rxSump_discard s⟩
  · intro n s hon
    refine ⟨?_, fun o ho => ?_, fun hnone => congrArg _ (surfRead_of_none n hon hnone)⟩
    · rw [exec_surfStatus, surfStatus_of_on hon]
      exact ⟨_, rfl, surfStatus_of_on hon ▸ (surfStatus_keeps s).only, rfl, length_beBytes .., beBytes_surfStatusWord_of_none⟩
    · rw [exec_surfReadMsg]
      refine ⟨_, rfl, (surfRead_keeps s n).only, ?_⟩
      rw [surfRead_of_some n hon (takeOut_of_reply ho)]
      exact ⟨rfl, rfl⟩

end Sys2Proof.Machine
end

section
/-! The step as a whole: every command answers a next state and leaves the queue alone (R16). -/
namespace Sys2Proof.Machine

/-- Every part of the state but the queue of waiting commands. -/
def nonQueueParts : List Part :=
  [.csr, .mem, .freeCtr, .sched, .dsp, .mix, .flood, .slu, .hr, .prf, .cv, .bus, .cores, .rcu, .redun, .rst, .tally, .net, .ser,
    .boot, .tst]

/-- The outcome is a next state that keeps the queue and the canonical memory of `s`. -/
def Completes (s : State) (o : Host.Outcome State Fault Refusal) : Prop :=
  ∃ t : State, o = .next t ∧ Keeps nonQueueParts s t

theorem completes_of_keeps {ps : List Part} {s : State} {o : Host.Outcome State Fault Refusal}
    (h : ∃ t, o = .next t ∧ Keeps ps s t) (hps : subParts ps nonQueueParts = true) : Completes s o :=
  let ⟨t, ho, hk⟩ := h
  ⟨t, ho, hk.mono hps⟩

/-- What any command can do, from the frame of its own meaning. -/
theorem exec_completes : ∀ (c : Instr) (s : State), Completes s (exec c s)
  | .powerOn _ _, _ => completes_of_keeps (execPowerOn_keeps ..) rfl
  | .porstNAssert, _ => completes_of_keeps (execPorstNAssert_keeps ..) rfl
  | .supplyLoss, _ => completes_of_keeps (execSupplyLoss_keeps ..) rfl
  | .resetNAssert _, _ => completes_of_keeps (execResetNAssert_keeps ..) rfl
  | .resetRelease _, _ => completes_of_keeps (execResetRelease_keeps ..) rfl
  | .firmwareReady, _ => completes_of_keeps (execFirmwareReady_keeps ..) rfl
  | .firmwareReadyTimeout, _ => completes_of_keeps (execFirmwareReadyTimeout_keeps ..) rfl
  | .waitRefTimeout, _ => completes_of_keeps (execWaitRefTimeout_keeps ..) rfl
  | .engineStart, _ => completes_of_keeps (execEngineStart_keeps ..) rfl
  | .coresRestart, _ => completes_of_keeps (execCoresRestart_keeps ..) rfl
  | .tick _, _ => completes_of_keeps (execTick_keeps ..) rfl
  | .windowRelease _, _ => completes_of_keeps (execWindowRelease_keeps ..) rfl
  | .conflLatePartial, _ => completes_of_keeps (execConflLatePartial_keeps ..) rfl
  | .windowEnd _ _, _ => completes_of_keeps (execWindowEnd_keeps ..) rfl
  | .fatalResetDelay _, _ => completes_of_keeps (execFatalResetDelay_keeps ..) rfl
  | .crossfadeEnd _, _ => completes_of_keeps (execCrossfadeEnd_keeps ..) rfl
  | .sendXfadeEnd _, _ => completes_of_keeps (execSendXfadeEnd_keeps ..) rfl
  | .meterReport _ _, _ => completes_of_keeps (execMeterReport_keeps ..) rfl
  | .groupStaged, _ => completes_of_keeps (execGroupStaged_keeps ..) rfl
  | .groupSettleDone, _ => completes_of_keeps (execGroupSettleDone_keeps ..) rfl
  | .sceneStoreDone _, _ => completes_of_keeps (execSceneStoreDone_keeps ..) rfl
  | .preloadDone, _ => completes_of_keeps (execPreloadDone_keeps ..) rfl
  | .setParam .., _ => completes_of_keeps (execSetParam_keeps ..) rfl
  | .setBlock .., _ => completes_of_keeps (execSetBlock_keeps ..) rfl
  | .rampParam .., _ => completes_of_keeps (execRampParam_keeps ..) rfl
  | .urgentCommand .., _ => completes_of_keeps (execUrgentCommand_keeps ..) rfl
  | .recallScene .., _ => completes_of_keeps (execRecallScene_keeps ..) rfl
  | .storeScene .., _ => completes_of_keeps (execStoreScene_keeps ..) rfl
  | .commitAt .., _ => completes_of_keeps (execCommitAt_keeps ..) rfl
  | .regRead .., _ => completes_of_keeps (execRegRead_keeps ..) rfl
  | .regWrite .., _ => completes_of_keeps (execRegWrite_keeps ..) rfl
  | .meterSub .., _ => completes_of_keeps (execMeterSub_keeps ..) rfl
  | .meterSubEventMask _ _, _ => completes_of_keeps (execMeterSubEventMask_keeps ..) rfl
  | .sessionOpen .., _ => completes_of_keeps (execSessionOpen_keeps ..) rfl
  | .sessionClose _, _ => completes_of_keeps (execSessionClose_keeps ..) rfl
  | .headraceBadMessage _ _, _ => completes_of_keeps (execHeadraceBadMessage_keeps ..) rfl
  | .bulkClone _ _, _ => completes_of_keeps (execBulkClone_keeps ..) rfl
  | .bulkBegin _ _, _ => completes_of_keeps (execBulkBegin_keeps ..) rfl
  | .bulkData .., _ => completes_of_keeps (execBulkData_keeps ..) rfl
  | .bulkEnd _ _, _ => completes_of_keeps (execBulkEnd_keeps ..) rfl
  | .bulkAbort _ _, _ => completes_of_keeps (execBulkAbort_keeps ..) rfl
  | .bulkArm .., _ => completes_of_keeps (execBulkArm_keeps ..) rfl
  | .bulkConfirm _ _, _ => completes_of_keeps (execBulkConfirm_keeps ..) rfl
  | .bulkRollback _ _, _ => completes_of_keeps (execBulkRollback_keeps ..) rfl
  | .bulkRestart _ _, _ => completes_of_keeps (execBulkRestart_keeps ..) rfl
  | .bulkRestartReset _, _ => completes_of_keeps (execBulkRestartReset_keeps ..) rfl
  | .bulkWorkDone _, _ => completes_of_keeps (execBulkWorkDone_keeps ..) rfl
  | .surfWriteMsg _, _ => completes_of_keeps (execSurfWriteMsg_keeps ..) rfl
  | .surfStatus, _ => completes_of_keeps (execSurfStatus_keeps ..) rfl
  | .surfReadMsg _, _ => completes_of_keeps (execSurfReadMsg_keeps ..) rfl
  | .mirrorAck _ _, _ => completes_of_keeps (execMirrorAck_keeps ..) rfl
  | .mirrorTimeout, _ => completes_of_keeps (execMirrorTimeout_keeps ..) rfl
  | .sessionExpiry _, _ => completes_of_keeps (execSessionExpiry_keeps ..) rfl
  | .schedRateWrite _, _ => completes_of_keeps (execSchedRateWrite_keeps ..) rfl
  | .schedRunSet _, _ => completes_of_keeps (execSchedRunSet_keeps ..) rfl
  | .schedRunClear _, _ => completes_of_keeps (execSchedRunClear_keeps ..) rfl
  | .schedWinArm _, _ => completes_of_keeps (execSchedWinArm_keeps ..) rfl
  | .schedIdxLoRead, _ => completes_of_keeps (execSchedIdxLoRead_keeps ..) rfl
  | .floodCloseIdxLoRead, _ => completes_of_keeps (execFloodCloseIdxLoRead_keeps ..) rfl
  | .sluiceHeadIdxLoRead, _ => completes_of_keeps (execSluiceHeadIdxLoRead_keeps ..) rfl
  | .sluiceTailIdxLoRead, _ => completes_of_keeps (execSluiceTailIdxLoRead_keeps ..) rfl
  | .sluiceLastFlipLoRead, _ => completes_of_keeps (execSluiceLastFlipLoRead_keeps ..) rfl
  | .headraceJheadLoRead, _ => completes_of_keeps (execHeadraceJheadLoRead_keeps ..) rfl
  | .headraceJappliedLoRead, _ => completes_of_keeps (execHeadraceJappliedLoRead_keeps ..) rfl
  | .rcuSwitchIdxLoRead, _ => completes_of_keeps (execRcuSwitchIdxLoRead_keeps ..) rfl
  | .streamTmcLoRead, _ => completes_of_keeps (execStreamTmcLoRead_keeps ..) rfl
  | .redunDivIdxLoRead, _ => completes_of_keeps (execRedunDivIdxLoRead_keeps ..) rfl
  | .redunHashLoRead, _ => completes_of_keeps (execRedunHashLoRead_keeps ..) rfl
  | .tallySecLoRead _, _ => completes_of_keeps (execTallySecLoRead_keeps ..) rfl
  | .pdmCaptIdxRead _, _ => completes_of_keeps (execPdmCaptIdxRead_keeps ..) rfl
  | .macTsqNsRead _, _ => completes_of_keeps (execMacTsqNsRead_keeps ..) rfl
  | .registerWrite .., _ => completes_of_keeps (execRegisterWrite_keeps ..) rfl
  | .floodPinLatchWrite _, _ => completes_of_keeps (execFloodPinLatchWrite_keeps ..) rfl
  | .floodPinRel, _ => completes_of_keeps (execFloodPinRel_keeps ..) rfl
  | .muteNChange _, _ => completes_of_keeps (execMuteNChange_keeps ..) rfl
  | .sluicePreloadLoad _, _ => completes_of_keeps (execSluicePreloadLoad_keeps ..) rfl
  | .pstoreWindowWrite .., _ => completes_of_keeps (execPstoreWindowWrite_keeps ..) rfl
  | .xbarAccess _, _ => completes_of_keeps (execXbarAccess_keeps ..) rfl
  | .xbarLockedRead .., _ => completes_of_keeps (execXbarLockedRead_keeps ..) rfl
  | .xbarUnlockWrite .., _ => completes_of_keeps (execXbarUnlockWrite_keeps ..) rfl
  | .rsvEccWriteback _, _ => completes_of_keeps (execRsvEccWriteback_keeps ..) rfl
  | .scratchEccWriteback _, _ => completes_of_keeps (execScratchEccWriteback_keeps ..) rfl
  | .scrubRead _, _ => completes_of_keeps (execScrubRead_keeps ..) rfl
  | .rsvHandoverWrite _, _ => completes_of_keeps (execRsvHandoverWrite_keeps ..) rfl
  | .handoverComplete, _ => completes_of_keeps (execHandoverComplete_keeps ..) rfl
  | .rsvMbistGo _, _ => completes_of_keeps (execRsvMbistGo_keeps ..) rfl
  | .mbistComplete .., _ => completes_of_keeps (execMbistComplete_keeps ..) rfl
  | .rcuFamilyWrite _, _ => completes_of_keeps (execRcuFamilyWrite_keeps ..) rfl
  | .relockDone _ _, _ => completes_of_keeps (execRelockDone_keeps ..) rfl
  | .rcuHoldWrite _, _ => completes_of_keeps (execRcuHoldWrite_keeps ..) rfl
  | .rcuPtpErrWrite _ _, _ => completes_of_keeps (execRcuPtpErrWrite_keeps ..) rfl
  | .rcuInCfgWrite _ _, _ => completes_of_keeps (execRcuInCfgWrite_keeps ..) rfl
  | .rcuWckWrite .., _ => completes_of_keeps (execRcuWckWrite_keeps ..) rfl
  | .xoLoss, _ => completes_of_keeps (execXoLoss_keeps ..) rfl
  | .refEdge .., _ => completes_of_keeps (execRefEdge_keeps ..) rfl
  | .refLoss _, _ => completes_of_keeps (execRefLoss_keeps ..) rfl
  | .measIntervalEnd _ _, _ => completes_of_keeps (execMeasIntervalEnd_keeps ..) rfl
  | .lockTimerExpiry, _ => completes_of_keeps (execLockTimerExpiry_keeps ..) rfl
  | .switchBusyTimeout, _ => completes_of_keeps (execSwitchBusyTimeout_keeps ..) rfl
  | .revertWtrExpiry _, _ => completes_of_keeps (execRevertWtrExpiry_keeps ..) rfl
  | .holdoverSample _, _ => completes_of_keeps (execHoldoverSample_keeps ..) rfl
  | .tallyAddendFracWrite _, _ => completes_of_keeps (execTallyAddendFracWrite_keeps ..) rfl
  | .tallyAddendIntWrite _ _, _ => completes_of_keeps (execTallyAddendIntWrite_keeps ..) rfl
  | .tallyStep, _ => completes_of_keeps (execTallyStep_keeps ..) rfl
  | .tallyEpochReset, _ => completes_of_keeps (execTallyEpochReset_keeps ..) rfl
  | .macCtlWrite _ _, _ => completes_of_keeps (execMacCtlWrite_keeps ..) rfl
  | .macLinkUp _ _, _ => completes_of_keeps (execMacLinkUp_keeps ..) rfl
  | .macLinkDown _, _ => completes_of_keeps (execMacLinkDown_keeps ..) rfl
  | .macRxFrame .., _ => completes_of_keeps (execMacRxFrame_keeps ..) rfl
  | .macTxFrame .., _ => completes_of_keeps (execMacTxFrame_keeps ..) rfl
  | .segDescriptor .., _ => completes_of_keeps (execSegDescriptor_keeps ..) rfl
  | .streamCtxWrite _ _, _ => completes_of_keeps (execStreamCtxWrite_keeps ..) rfl
  | .streamRxEnable _ _, _ => completes_of_keeps (execStreamRxEnable_keeps ..) rfl
  | .streamTxEnable _ _, _ => completes_of_keeps (execStreamTxEnable_keeps ..) rfl
  | .streamRxInactive _, _ => completes_of_keeps (execStreamRxInactive_keeps ..) rfl
  | .sportWrite _ _, _ => completes_of_keeps (execSportWrite_keeps ..) rfl
  | .sportFrameHandoff .., _ => completes_of_keeps (execSportFrameHandoff_keeps ..) rfl
  | .sportFrameMissing _, _ => completes_of_keeps (execSportFrameMissing_keeps ..) rfl
  | .sportFsEdge _ _, _ => completes_of_keeps (execSportFsEdge_keeps ..) rfl
  | .sportAsyncFrameDone _ _, _ => completes_of_keeps (execSportAsyncFrameDone_keeps ..) rfl
  | .asrcCtRouteWrite .., _ => completes_of_keeps (execAsrcCtRouteWrite_keeps ..) rfl
  | .asrcTrackerUnlock _, _ => completes_of_keeps (execAsrcTrackerUnlock_keeps ..) rfl
  | .asrcTrackerAcquire _, _ => completes_of_keeps (execAsrcTrackerAcquire_keeps ..) rfl
  | .asrcTrackerLock _, _ => completes_of_keeps (execAsrcTrackerLock_keeps ..) rfl
  | .pdmChWrite _ _, _ => completes_of_keeps (execPdmChWrite_keeps ..) rfl
  | .pdmClkinUnlock _, _ => completes_of_keeps (execPdmClkinUnlock_keeps ..) rfl
  | .pdmClkinLock _, _ => completes_of_keeps (execPdmClkinLock_keeps ..) rfl
  | .leaseRenew _, _ => completes_of_keeps (execLeaseRenew_keeps ..) rfl
  | .leaseExpiry, _ => completes_of_keeps (execLeaseExpiry_keeps ..) rfl
  | .leaseHbToggle, _ => completes_of_keeps (execLeaseHbToggle_keeps ..) rfl
  | .redunModeWrite _, _ => completes_of_keeps (execRedunModeWrite_keeps ..) rfl
  | .redunYield, _ => completes_of_keeps (execRedunYield_keeps ..) rfl
  | .revertYield, _ => completes_of_keeps (execRevertYield_keeps ..) rfl
  | .redunResyncReq, _ => completes_of_keeps (execRedunResyncReq_keeps ..) rfl
  | .redunResyncAbort, _ => completes_of_keeps (execRedunResyncAbort_keeps ..) rfl
  | .autoResyncStart, _ => completes_of_keeps (execAutoResyncStart_keeps ..) rfl
  | .sirlosStatusRx .., _ => completes_of_keeps (execSirlosStatusRx_keeps ..) rfl
  | .sirlosHelloRx _ _, _ => completes_of_keeps (execSirlosHelloRx_keeps ..) rfl
  | .helloSend, _ => completes_of_keeps (execHelloSend_keeps ..) rfl
  | .statusSend, _ => completes_of_keeps (execStatusSend_keeps ..) rfl
  | .sirlosTickRx .., _ => completes_of_keeps (execSirlosTickRx_keeps ..) rfl
  | .sirlosCanaryRx .., _ => completes_of_keeps (execSirlosCanaryRx_keeps ..) rfl
  | .canaryMissing _, _ => completes_of_keeps (execCanaryMissing_keeps ..) rfl
  | .sirlosMirrorRx .., _ => completes_of_keeps (execSirlosMirrorRx_keeps ..) rfl
  | .sirlosRatioRx .., _ => completes_of_keeps (execSirlosRatioRx_keeps ..) rfl
  | .sirlosFwdRx .., _ => completes_of_keeps (execSirlosFwdRx_keeps ..) rfl
  | .sirlosCloseRx .., _ => completes_of_keeps (execSirlosCloseRx_keeps ..) rfl
  | .fwdRecordLate, _ => completes_of_keeps (execFwdRecordLate_keeps ..) rfl
  | .sirlosResend _, _ => completes_of_keeps (execSirlosResend_keeps ..) rfl
  | .peerLost, _ => completes_of_keeps (execPeerLost_keeps ..) rfl
  | .sirlosCopyRx _ _, _ => completes_of_keeps (execSirlosCopyRx_keeps ..) rfl
  | .copyComplete, _ => completes_of_keeps (execCopyComplete_keeps ..) rfl
  | .alignComplete, _ => completes_of_keeps (execAlignComplete_keeps ..) rfl
  | .resyncCoreRelease, _ => completes_of_keeps (execResyncCoreRelease_keeps ..) rfl
  | .sweepFinalPass _, _ => completes_of_keeps (execSweepFinalPass_keeps ..) rfl
  | .sirlosSweepRx .., _ => completes_of_keeps (execSirlosSweepRx_keeps ..) rfl
  | .sirlosSwackRx .., _ => completes_of_keeps (execSirlosSwackRx_keeps ..) rfl
  | .sweepItemDeadline _, _ => completes_of_keeps (execSweepItemDeadline_keeps ..) rfl
  | .resyncItemTimeout, _ => completes_of_keeps (execResyncItemTimeout_keeps ..) rfl
  | .verifyStart, _ => completes_of_keeps (execVerifyStart_keeps ..) rfl
  | .resyncSynced _, _ => completes_of_keeps (execResyncSynced_keeps ..) rfl
  | .cvOutWrite _ _, _ => completes_of_keeps (execCvOutWrite_keeps ..) rfl
  | .cvTickLatch, _ => completes_of_keeps (execCvTickLatch_keeps ..) rfl
  | .cvCtlWrite _, _ => completes_of_keeps (execCvCtlWrite_keeps ..) rfl
  | .cvParkEnd _, _ => completes_of_keeps (execCvParkEnd_keeps ..) rfl
  | .vddCvLoss, _ => completes_of_keeps (execVddCvLoss_keeps ..) rfl
  | .vddCvRestore _, _ => completes_of_keeps (execVddCvRestore_keeps ..) rfl
  | .vddCvHiFall, _ => completes_of_keeps (execVddCvHiFall_keeps ..) rfl
  | .prfWordWrite .., _ => completes_of_keeps (execPrfWordWrite_keeps ..) rfl
  | .prfWriteDone, _ => completes_of_keeps (execPrfWriteDone_keeps ..) rfl
  | .prfPowerFail, _ => completes_of_keeps (execPrfPowerFail_keeps ..) rfl
  | .rstCtlWarm .., _ => completes_of_keeps (execRstCtlWarm_keeps ..) rfl
  | .rstDomWrite _ _, _ => completes_of_keeps (execRstDomWrite_keeps ..) rfl
  | .wdtKick _ _, _ => completes_of_keeps (execWdtKick_keeps ..) rfl
  | .watchdogExpiry _, _ => completes_of_keeps (execWatchdogExpiry_keeps ..) rfl
  | .testUnlockWrite _, _ => completes_of_keeps (execTestUnlockWrite_keeps ..) rfl
  | .testCfgLock _, _ => completes_of_keeps (execTestCfgLock_keeps ..) rfl
  | .testAutoLock, _ => completes_of_keeps (execTestAutoLock_keeps ..) rfl
  | .testXbarDlyWrite _, _ => completes_of_keeps (execTestXbarDlyWrite_keeps ..) rfl
  | .testMacBpWrite _, _ => completes_of_keeps (execTestMacBpWrite_keeps ..) rfl
  | .testAsrcJitWrite _ _, _ => completes_of_keeps (execTestAsrcJitWrite_keeps ..) rfl
  | .testTickGo _, _ => completes_of_keeps (execTestTickGo_keeps ..) rfl
  | .testCdcWrite _, _ => completes_of_keeps (execTestCdcWrite_keeps ..) rfl
  | .testEccGo _, _ => completes_of_keeps (execTestEccGo_keeps ..) rfl
  | .testLeaseWrite _, _ => completes_of_keeps (execTestLeaseWrite_keeps ..) rfl
  | .testSirlosGo _, _ => completes_of_keeps (execTestSirlosGo_keeps ..) rfl
  | .testSirlosEnd, _ => completes_of_keeps (execTestSirlosEnd_keeps ..) rfl
  | .mintalResetWrite .., _ => completes_of_keeps (execMintalResetWrite_keeps ..) rfl
  | .coreRelease _, _ => completes_of_keeps (execCoreRelease_keeps ..) rfl
  | .mintalHaltReq _ _, _ => completes_of_keeps (execMintalHaltReq_keeps ..) rfl
  | .mintalStep _ _, _ => completes_of_keeps (execMintalStep_keeps ..) rfl
  | .mintalClrStats _ _, _ => completes_of_keeps (execMintalClrStats_keeps ..) rfl
  | .mintalXwindowWrite .., _ => completes_of_keeps (execMintalXwindowWrite_keeps ..) rfl
  | .interruptEntry _, _ => completes_of_keeps (execInterruptEntry_keeps ..) rfl
  | .loopBack _, _ => completes_of_keeps (execLoopBack_keeps ..) rfl
  | .xldComplete _ _, _ => completes_of_keeps (execXldComplete_keeps ..) rfl
  | .nop _ _, _ => completes_of_keeps (execNop_keeps ..) rfl
  | .mov _ _, _ => completes_of_keeps (execMov_keeps ..) rfl
  | .add _ _, _ => completes_of_keeps (execAdd_keeps ..) rfl
  | .sub _ _, _ => completes_of_keeps (execSub_keeps ..) rfl
  | .neg _ _, _ => completes_of_keeps (execNeg_keeps ..) rfl
  | .abs _ _, _ => completes_of_keeps (execAbs_keeps ..) rfl
  | .min _ _, _ => completes_of_keeps (execMin_keeps ..) rfl
  | .max _ _, _ => completes_of_keeps (execMax_keeps ..) rfl
  | .shl _ _, _ => completes_of_keeps (execShl_keeps ..) rfl
  | .shr _ _, _ => completes_of_keeps (execShr_keeps ..) rfl
  | .and _ _, _ => completes_of_keeps (execAnd_keeps ..) rfl
  | .or _ _, _ => completes_of_keeps (execOr_keeps ..) rfl
  | .xor _ _, _ => completes_of_keeps (execXor_keeps ..) rfl
  | .cmpge _ _, _ => completes_of_keeps (execCmpge_keeps ..) rfl
  | .rot _ _, _ => completes_of_keeps (execRot_keeps ..) rfl
  | .bcast _ _, _ => completes_of_keeps (execBcast_keeps ..) rfl
  | .mpy _ _, _ => completes_of_keeps (execMpy_keeps ..) rfl
  | .mac _ _, _ => completes_of_keeps (execMac_keeps ..) rfl
  | .msu _ _, _ => completes_of_keeps (execMsu_keeps ..) rfl
  | .mpyl _ _, _ => completes_of_keeps (execMpyl_keeps ..) rfl
  | .ext _ _, _ => completes_of_keeps (execExt_keeps ..) rfl
  | .aclr _ _, _ => completes_of_keeps (execAclr_keeps ..) rfl
  | .aload _ _, _ => completes_of_keeps (execAload_keeps ..) rfl
  | .ahsum _ _, _ => completes_of_keeps (execAhsum_keeps ..) rfl
  | .loop .., _ => completes_of_keeps (execLoop_keeps ..) rfl
  | .br .., _ => completes_of_keeps (execBr_keeps ..) rfl
  | .call _ _, _ => completes_of_keeps (execCall_keeps ..) rfl
  | .ret _, _ => completes_of_keeps (execRet_keeps ..) rfl
  | .wait _, _ => completes_of_keeps (execWait_keeps ..) rfl
  | .waitx _, _ => completes_of_keeps (execWaitx_keeps ..) rfl
  | .xld .., _ => completes_of_keeps (execXld_keeps ..) rfl
  | .xst .., _ => completes_of_keeps (execXst_keeps ..) rfl
  | .ldi .., _ => completes_of_keeps (execLdi_keeps ..) rfl
  | .movr .., _ => completes_of_keeps (execMovr_keeps ..) rfl
  | .movcv .., _ => completes_of_keeps (execMovcv_keeps ..) rfl
  | .movvc .., _ => completes_of_keeps (execMovvc_keeps ..) rfl
  | .vldi .., _ => completes_of_keeps (execVldi_keeps ..) rfl
  | .rti _, _ => completes_of_keeps (execRti_keeps ..) rfl
  | .brk _, _ => completes_of_keeps (execBrk_keeps ..) rfl
  | .illegalInstruction _ _, _ => completes_of_keeps (execIllegalInstruction_keeps ..) rfl
  | .xstComplete _ _, _ => completes_of_keeps (execXstComplete_keeps ..) rfl
  | .sirlosLaneUp _, _ => completes_of_keeps (execSirlosLaneUp_keeps ..) rfl
  | .sirlosLaneDown _, _ => completes_of_keeps (execSirlosLaneDown_keeps ..) rfl
  | .macPauseExpiry _, _ => completes_of_keeps (execMacPauseExpiry_keeps ..) rfl

theorem Keeps.pending_eq {s t : State} (h : Keeps nonQueueParts s t) : t.pending = s.pending :=
  h.only .pending (by decide)

/-- Settles O5: no meaning lists the queue among the parts that it changes. -/
theorem execCompletesAndKeepsQueue : Obligations.ExecCompletesAndKeepsQueue := fun c s =>
  let ⟨t, ht, hk⟩ := exec_completes c s
  ⟨t, ht, hk.pending_eq⟩

/-- Settles O4: an idle step changes nothing, and any other step is the front command's, run on the same memory. -/
theorem stepKeepsInvariant : Obligations.StepKeepsInvariant := by
  intro s hs
  unfold step
  split
  case h_1 => exact ⟨s, rfl, hs⟩
  case h_2 c rest _ =>
    obtain ⟨t, ht, hk⟩ := exec_completes c { s with pending := rest }
    exact ⟨t, ht, hk.inv hs⟩

end Sys2Proof.Machine
end

section
/-! A failed recall over shadow halves that differ from the live ones (R18, R111, R131). -/
namespace Sys2Proof.Machine

/-- The OPEN group of a recall of scene 0, which no directory names. -/
def emptyRecall : Group := ⟨0, .opn, false, [.recalled 0 0 [] true 0], [], false⟩

/-- The shadow halves hold, as two writes through the PSTORE window leave them (R18), LINK of buses 0 and 1 and another PAN_LAW
than the live one. -/
def shadowedLaw : State :=
  pwriteShadow
    (pwriteShadow { State.reset with slu := { Sluice.reset with groups := [emptyRecall] } } (pidStrip 1024 0) (2 ^ 25))
    pidMixCtl 1

theorem shadowedLaw_groups : shadowedLaw.slu.groups = [] ++ emptyRecall :: [] := by decide +kernel

theorem shadowedLaw_load_fails : (loadScene shadowedLaw 0).1 = false := by decide +kernel

theorem shadowedLaw_sceneBufOpen : SceneBufOpen shadowedLaw := by
  refine ⟨by decide +kernel, fun b hlo hhi => ?_⟩
  have hcases : b = 140 ∨ b = 141 ∨ b = 142 ∨ b = 143 := by omega
  rcases hcases with rfl | rfl | rfl | rfl <;> decide +kernel

/-- The recall writes no word, but staging still compares the live PAN_LAW with the one in the shadow halves, and holds a free plane
for each linked column (R89, R111). -/
theorem shadowedLaw_planes_held : (groupStaged shadowedLaw).mix.planes ≠ shadowedLaw.mix.planes := by decide +kernel

/-- Refutes O54: a recall whose record does not check is claimed to leave the mix as it was but for the staged planes emptied; where
the shadow half of MIX_CTL holds another PAN_LAW, it stages the linked columns and holds planes for them. -/
theorem not_sluiceWork : ¬ Obligations.SluiceWork := by
  unfold Obligations.SluiceWork
  rintro ⟨-, hstaged, -⟩
  obtain ⟨-, hfail⟩ := hstaged shadowedLaw emptyRecall [] [] shadowedLaw_groups (fun _ h => absurd h List.not_mem_nil) rfl
  obtain ⟨t, ht, -, hmix, -⟩ := hfail 0 0 0 [] rfl shadowedLaw_load_fails shadowedLaw_sceneBufOpen
  obtain rfl : groupStaged shadowedLaw = t := Host.Outcome.next.inj ht
  exact shadowedLaw_planes_held (congrArg Mix.planes hmix)

end Sys2Proof.Machine
end

section
/-! Bytes of memory: what a read gives after a write, and a write made piece by piece (R201, R213). -/
namespace Sys2Proof.Machine

theorem readByte_writeByte (s : State) (a b j : Nat) :
    readByte (writeByte s a b) j = if j = a then b % 256 else readByte s j := by
  unfold readByte writeByte
  rw [memGet_put]
  split
  · exact BitVec.toNat_ofNat ..
  · rfl

/-- A write puts its bytes at their addresses and changes no other byte. -/
theorem readByte_writeBytes (s : State) (a : Nat) (d : List Nat) (j : Nat) :
    readByte (writeBytes s a d) j = if a ≤ j ∧ j < a + d.length then d.getD (j - a) 0 % 256 else readByte s j := by
  induction d generalizing s a with
  | nil => rw [if_neg (by simp only [List.length_nil, Nat.add_zero, not_and, Nat.not_lt, imp_self])]; rfl
  | cons b d ih =>
    rw [writeBytes, ih, readByte_writeByte, List.length_cons]
    by_cases hj : j = a
    · subst hj
      rw [if_neg (by omega), if_pos rfl, if_pos (by omega), Nat.sub_self, List.getD_cons_zero]
    · rw [if_neg hj]
      by_cases hin : a + 1 ≤ j ∧ j < a + 1 + d.length
      · rw [if_pos hin, if_pos (by omega), show j - a = j - (a + 1) + 1 by omega, List.getD_cons_succ]
      · rw [if_neg hin, if_neg (by omega)]

theorem readByte_writeBytes_in (s : State) (a : Nat) (d : List Nat) {i : Nat} (hi : i < d.length) :
    readByte (writeBytes s a d) (a + i) = d.getD i 0 % 256 := by
  rw [readByte_writeBytes, if_pos (by omega), Nat.add_sub_cancel_left]

theorem readByte_writeBytes_out (s : State) (a : Nat) (d : List Nat) {j : Nat} (hj : j < a ∨ a + d.length ≤ j) :
    readByte (writeBytes s a d) j = readByte s j := by
  rw [readByte_writeBytes, if_neg (by omega)]

theorem writeBytes_append (s : State) (a : Nat) (d e : List Nat) :
    writeBytes s a (d ++ e) = writeBytes (writeBytes s a d) (a + d.length) e := by
  induction d generalizing s a with
  | nil => rfl
  | cons b d ih =>
    rw [List.cons_append, writeBytes, writeBytes, ih, List.length_cons, Nat.add_right_comm, Nat.add_assoc]

theorem readBytes_eq_map (s : State) (a n : Nat) : readBytes s a n = (List.range n).map (fun k => readByte s (a + k)) := by
  induction n generalizing a with
  | zero => rfl
  | succ n ih =>
    rw [readBytes, ih, List.range_succ_eq_map, List.map_cons, List.map_map]
    exact congrArg _ (List.map_congr_left fun k _ => by rw [Function.comp_apply, Nat.add_right_comm, Nat.add_assoc])

theorem readBytes_congr {s t : State} {a n : Nat} (h : ∀ i < n, readByte t (a + i) = readByte s (a + i)) :
    readBytes t a n = readBytes s a n := by
  rw [readBytes_eq_map, readBytes_eq_map]
  exact List.map_congr_left fun k hk => h k (List.mem_range.1 hk)

theorem readWord_congr {s t : State} {a n : Nat} (h : ∀ i < n, readByte t (a + i) = readByte s (a + i)) :
    readWord t a n = readWord s a n :=
  congrArg ofLeBytes (readBytes_congr h)

theorem readByte_of_mem {s t : State} (h : t.mem = s.mem) (a : Nat) : readByte t a = readByte s a := by
  simp only [readByte, h]

theorem readBytes_of_mem {s t : State} (h : t.mem = s.mem) (a n : Nat) : readBytes t a n = readBytes s a n :=
  readBytes_congr fun _ _ => readByte_of_mem h _

theorem readWord_of_mem {s t : State} (h : t.mem = s.mem) (a n : Nat) : readWord t a n = readWord s a n :=
  congrArg ofLeBytes (readBytes_of_mem h a n)

theorem readBytes_writeBytes_same (s : State) (a : Nat) (d : List Nat) :
    readBytes (writeBytes s a d) a d.length = d.map (fun b => b % 256) := by
  rw [readBytes_eq_map]
  refine List.ext_getElem (by simp only [List.length_map, List.length_range]) fun i h _ => ?_
  have hi : i < d.length := by simpa only [List.length_map, List.length_range] using h
  rw [List.getElem_map, List.getElem_range, readByte_writeBytes_in s a d hi, List.getElem_map, List.getD_eq_getElem?_getD,
    List.getElem?_eq_getElem hi, Option.getD_some]

theorem ofLeBytes_map_mod (d : List Nat) : ofLeBytes (d.map (fun b => b % 256)) = ofLeBytes d := by
  induction d with
  | nil => rfl
  | cons b d ih => rw [List.map_cons, ofLeBytes, ofLeBytes, ih, Nat.mod_mod]

theorem readWord_writeBytes_leBytes (s : State) (a n v : Nat) :
    readWord (writeBytes s a (leBytes n v)) a n = v % 256 ^ n := by
  have hread := readBytes_writeBytes_same s a (leBytes n v)
  rw [length_leBytes] at hread
  rw [readWord, hread, ofLeBytes_map_mod, ofLeBytes_leBytes]

/-! A memory without an ECC error (R201, R208): reads and writes meet plain bytes. -/

/-- No stored word holds an error. -/
def EccClean (s : State) : Prop := s.bus.ecc = []

theorem writeByte_bus_of_clean {s : State} (h : EccClean s) (a b : Nat) : (writeByte s a b).bus = s.bus := by
  unfold EccClean at h
  simp only [writeByte, h, smapDel]
  rw [← h]

theorem EccClean.writeByte {s : State} (h : EccClean s) (a b : Nat) : EccClean (writeByte s a b) := by
  unfold EccClean
  rwa [writeByte_bus_of_clean h]

theorem writeBytes_bus_of_clean {s : State} (h : EccClean s) (a : Nat) (d : List Nat) : (writeBytes s a d).bus = s.bus := by
  induction d generalizing s a with
  | nil => rfl
  | cons b d ih => rw [writeBytes, ih (h.writeByte a b), writeByte_bus_of_clean h]

theorem EccClean.writeBytes {s : State} (h : EccClean s) (a : Nat) (d : List Nat) : EccClean (writeBytes s a d) := by
  unfold EccClean
  rwa [writeBytes_bus_of_clean h]

theorem eccBits_of_clean {s : State} (h : EccClean s) (w : Nat) : eccBits s w = 0 := by
  unfold EccClean at h
  simp only [eccBits, smapGet, h, smapFind_nil, Option.getD_none, Nat.zero_mod]

theorem eccDouble_of_clean {s : State} (h : EccClean s) (w : Nat) : eccDouble s w = false := by
  simp only [eccDouble, eccBits_of_clean h, Nat.reduceBEq]

theorem eccTouch_of_clean {s : State} (h : EccClean s) (scrub : Bool) (w : Nat) : eccTouch scrub s w = s := by
  simp only [eccTouch, eccBits_of_clean h, if_true]

theorem readRaw_of_clean {s : State} (h : EccClean s) (a : Nat) : readRaw s a = readByte s a := by
  simp only [readRaw, eccDouble_of_clean h, Bool.and_false, Bool.false_eq_true, if_false]

theorem foldl_eccTouch_of_clean {s : State} (h : EccClean s) (scrub : Bool) (ws : List Nat) : ws.foldl (eccTouch scrub) s = s := by
  induction ws with
  | nil => rfl
  | cons w ws ih => rw [List.foldl_cons, eccTouch_of_clean h, ih]

theorem eccRead_of_clean {s : State} (h : EccClean s) (a n : Nat) : eccRead s a n = (readBytes s a n, false, s) := by
  simp only [eccRead, foldl_eccTouch_of_clean h, readRaw_of_clean h, readBytes_eq_map, eccDouble_of_clean h, List.any_eq_false,
    Prod.mk.injEq, true_and, and_true]
  exact fun _ _ => Bool.false_ne_true

/-- The piece of a write of `d` at `a` that falls into the word of `st` bytes at `w` (R201). -/
def writePiece (st a : Nat) (d : List Nat) (s : State) (w : Nat) : State :=
  writeBytes s (max w a) ((d.drop (max w a - a)).take (min (w + st) (a + d.length) - max w a))

/-- The pieces in the words up to `k` blocks above the first make up the write of the bytes that stand there. -/
theorem foldl_writePiece_range {st : Nat} (hst : 0 < st) (s : State) (a : Nat) (d : List Nat) {k : Nat}
    (hk : (a / st + k) * st < a + d.length + st) :
    (List.range k).foldl (fun s i => writePiece st a d s ((a / st + i) * st)) s =
      writeBytes s a (d.take ((a / st + k) * st - a)) := by
  induction k with
  | zero =>
    have hle : a / st * st ≤ a := Nat.div_mul_le_self a st
    rw [Nat.add_zero, Nat.sub_eq_zero_of_le hle]
    rfl
  | succ k ih =>
    rw [← Nat.add_assoc, Nat.add_mul, Nat.one_mul] at hk ⊢
    generalize hw : (a / st + k) * st = w at *
    rw [List.range_succ, List.foldl_append, ih (by omega), List.foldl_cons, List.foldl_nil, hw]
    have hpos : a < w + st := by
      have := Nat.lt_div_mul_add (a := a) hst
      have : a / st * st ≤ w := hw ▸ Nat.mul_le_mul_right st (Nat.le_add_right ..)
      omega
    have hlen : (d.take (w - a)).length = max w a - a := by rw [List.length_take]; omega
    have hsplit : d.take (w + st - a) =
        d.take (w - a) ++ (d.drop (max w a - a)).take (min (w + st) (a + d.length) - max w a) := by
      rw [show w - a = max w a - a by omega, show w + st - a = (max w a - a) + (w + st - max w a) by omega, List.take_add]
      congr 1
      rw [List.take_eq_take_iff, List.length_drop]
      omega
    rw [hsplit, writeBytes_append, hlen, show a + (max w a - a) = max w a by omega]
    rfl

theorem foldl_eq_of_clean {α : Type} {f g : State → α → State} (hfg : ∀ t x, EccClean t → f t x = g t x)
    (hg : ∀ t x, EccClean t → EccClean (g t x)) {s : State} (h : EccClean s) (l : List α) : l.foldl f s = l.foldl g s := by
  induction l generalizing s with
  | nil => rfl
  | cons x l ih => rw [List.foldl_cons, List.foldl_cons, hfg s x h, ih (hg s x h)]

/-- The words that hold the bytes of a write, each with the piece that falls into it, make up the write. -/
theorem foldl_writePiece_wordsOf (s : State) (a : Nat) (d : List Nat) :
    (wordsOf a d.length).foldl (writePiece (if 0x0100000000 ≤ a && a < 0x0101000000 then 4 else 8) a d) s = writeBytes s a d := by
  unfold wordsOf
  have hst : 0 < if 0x0100000000 ≤ a && a < 0x0101000000 then 4 else 8 := by split <;> decide
  generalize (if 0x0100000000 ≤ a && a < 0x0101000000 then 4 else 8) = st at *
  split
  case isTrue hd =>
    rw [List.eq_nil_of_length_eq_zero hd]
    rfl
  case isFalse hd =>
    have hle : a / st ≤ (a + d.length - 1) / st := Nat.div_le_div_right (by omega)
    have hlo : (a + d.length - 1) / st * st ≤ a + d.length - 1 := Nat.div_mul_le_self ..
    have hhi := Nat.lt_div_mul_add (a := a + d.length - 1) hst
    have hend : (a / st + ((a + d.length - 1) / st - a / st + 1)) * st = (a + d.length - 1) / st * st + st := by
      rw [← Nat.add_assoc, Nat.add_sub_cancel' hle, Nat.add_mul, Nat.one_mul]
    rw [List.foldl_map, foldl_writePiece_range hst s a d (by omega), hend, List.take_of_length_le (by omega)]

/-- With no error stored, a write word by word stores its bytes as they are. -/
theorem eccWrite_of_clean {s : State} (h : EccClean s) (a : Nat) (d : List Nat) : eccWrite s a d = writeBytes s a d := by
  rw [← foldl_writePiece_wordsOf]
  refine foldl_eq_of_clean (fun t w ht => ?_) (fun t w ht => ht.writeBytes _ _) h _
  simp only [eccDouble_of_clean ht, eccTouch_of_clean ht, Bool.and_false, ite_self]
  rfl

theorem memDo_read_of_clean {s : State} (h : EccClean s) {r : BusReq} (hd : r.data = none) :
    memDo s r = ⟨readBytes s r.addr r.len, false, s⟩ := by
  simp only [memDo, hd, eccRead_of_clean h]

theorem memDo_write_of_clean {s : State} (h : EccClean s) {r : BusReq} {d : List Nat} (hd : r.data = some d) :
    memDo s r = ⟨[], false, writeBytes s r.addr d⟩ := by
  simp only [memDo, hd, eccWrite_of_clean h]

end Sys2Proof.Machine
end

section
/-! A crossbar burst that comes alone (R16, R202, R203, R214 to R217). -/
namespace Sys2Proof.Machine

/-- The state in which a burst that comes alone is performed: nothing read yet, and its target granted to its master. -/
def grantedAlone (s : State) (r : BusReq) : State :=
  granted { s with bus := { s.bus with rdata := [] } } (xbarTarget r.addr) r.master

theorem grantedAlone_keeps (s : State) (r : BusReq) : Keeps [.bus] s (grantedAlone s r) :=
  Keeps.step (granted_keeps ..) rfl (Keeps.bus ..)

/-- What a burst that comes alone leaves behind: the state of its access, with what it read. -/
def answered (r : BusReq) (x : Access) : State :=
  { x.st with bus := { x.st.bus with rdata := [(r.master, x.data, x.poison)] } }

theorem mem_answered (r : BusReq) (x : Access) : (answered r x).mem = x.st.mem := rfl

theorem getF_answered (r : BusReq) (x : Access) (f : Fld) : getF (answered r x) f = getF x.st f := getF_of_csr_eq rfl f

theorem isSet_answered (r : BusReq) (x : Access) (f : Fld) : isSet (answered r x) f = isSet x.st f :=
  congrArg (· == 1) (getF_answered r x f)

theorem getF_grantedAlone (s : State) (r : BusReq) (f : Fld) : getF (grantedAlone s r) f = getF s f := getF_of_csr_eq rfl f

/-- The registers that an access changes are those that the burst changes. -/
theorem csrOnly_answered {offs : List Nat} {s : State} (r : BusReq) {x : Access} (h : csrOnly offs (grantedAlone s r) x.st) :
    csrOnly offs s (answered r x) := h

theorem answered_keeps (r : BusReq) (x : Access) : Keeps [.bus] x.st (answered r x) := Keeps.bus ..

/-- The parts that a burst may change are those that its access changes, and what the crossbar keeps of it. -/
theorem only_answered {ps : List Part} {s : State} (r : BusReq) {x : Access} (hx : Keeps ps (grantedAlone s r) x.st)
    (hbus : subParts [.bus] ps = true) : Only ps s (answered r x) :=
  (Keeps.step (answered_keeps r x) hbus (Keeps.step hx (subParts_refl ps) ((grantedAlone_keeps s r).mono hbus))).only

theorem targetsOf_singleton (w : BusWait) : targetsOf [w] = [xbarTarget w.req.addr] := by
  simp only [targetsOf, List.map_cons, List.map_nil, List.eraseDups_cons, List.filter_nil, List.eraseDups_nil, List.filter_cons]
  by_cases ht : xbarTarget w.req.addr = 10
  · simp only [ht, BEq.rfl, bne_self_eq_false, Bool.false_eq_true, if_true, if_false, List.append_nil]
  · simp only [beq_eq_false_iff_ne.2 ht, bne_iff_ne.2 ht, Bool.false_eq_true, if_true, if_false, List.nil_append]

theorem firstGrants_singleton (s : State) (w : BusWait) : firstGrants s [w] = ([w], []) := by
  simp only [firstGrants, targetsOf_singleton, List.foldl_cons, List.foldl_nil, BEq.rfl, List.filter_cons_of_pos, List.filter_nil,
    nextGrant, List.nil_append, List.erase_cons_head]

theorem xbarCycle_singleton {s : State} {r : BusReq} (hm : r.master < 32) (hw : mustWait s r = false) :
    xbarCycle s [r] = serveAny { s with bus := { s.bus with rdata := [] } } ⟨r, false, false⟩ := by
  have hwait : mustWait { s with bus := { s.bus with rdata := [] } } r = false := hw
  simp only [xbarCycle, List.map_cons, List.map_nil, Nat.not_le.2 hm, decide_false, Bool.not_false, List.filter_cons_of_pos,
    List.filter_nil, hwait, Bool.false_eq_true, not_false_eq_true, List.filter_cons_of_neg, List.foldl_nil, firstGrants_singleton,
    List.length_nil, List.foldl_cons, grantAll]

theorem serveAny_burst {s : State} {r : BusReq} (hm : r.master < 32) (hh : hangs r = false) :
    serveAny s ⟨r, false, false⟩ = putRead s r.master (busBurst (granted s (xbarTarget r.addr) r.master) r) := by
  simp only [serveAny, hh, Bool.false_eq_true, if_false, serveBurst, Nat.not_le.2 hm, Bool.false_and]

theorem hangs_of_target_ne {r : BusReq} (ht : xbarTarget r.addr ≠ 10) : hangs r = false := by
  simp only [hangs, beq_eq_false_iff_ne.2 ht, Bool.and_false, Bool.false_and]

/-- A burst of a port A master that nothing holds up, on any target but CSR space. -/
theorem xbarCycle_alone {s : State} {r : BusReq} (hm : r.master < 32) (hw : mustWait s r = false) (ht : xbarTarget r.addr ≠ 10) :
    xbarCycle s [r] = answered r (busBurst (grantedAlone s r) r) := by
  rw [xbarCycle_singleton hm hw, serveAny_burst hm (hangs_of_target_ne ht)]
  rfl

theorem exec_xbarAccess_alone {s : State} {r : BusReq} (hm : r.master < 32) (hw : mustWait s r = false)
    (ht : xbarTarget r.addr ≠ 10) : exec (.xbarAccess [r]) s = .next (answered r (busBurst (grantedAlone s r) r)) :=
  congrArg Host.Outcome.next (xbarCycle_alone hm hw ht)

/-! Bursts and the 256-byte boundary of Dexmos (R214). -/

theorem busAccess_of_target_ne (s : State) {r : BusReq} (ht : xbarTarget r.addr ≠ 10) : busAccess s r = memAccess s r := by
  simp only [busAccess, ht, decide_false, Bool.false_and, Bool.false_eq_true, if_false]

theorem busBurst_within (s : State) {r : BusReq} (ht : xbarTarget r.addr ≠ 10)
    (hb : r.master ≤ 3 → r.addr % 256 + burstLen r ≤ 256) : busBurst s r = memAccess s r := by
  unfold busBurst atBoundary
  rw [if_neg, busAccess_of_target_ne s ht]
  simp only [Bool.and_eq_true, decide_eq_true_eq, not_and]
  omega

/-- The part of a burst before the 256-byte boundary. -/
def cutAtBoundary (r : BusReq) : BusReq :=
  { r with len := 256 - r.addr % 256, data := r.data.map (fun d => d.take (256 - r.addr % 256)) }

theorem busBurst_across (s : State) {r : BusReq} (ht : xbarTarget r.addr ≠ 10) (hm : r.master ≤ 3)
    (hb : 256 - r.addr % 256 < burstLen r) :
    let h := memAccess s (cutAtBoundary r)
    busBurst s r = ⟨h.data ++ (if r.data.isSome then [] else List.replicate (burstLen r - (256 - r.addr % 256)) 0), h.poison,
      xbarRefuse h.st (xbarTarget r.addr) r.master r.data.isSome⟩ := by
  have hcut : memAccess s (cutAtBoundary r) = busAccess s (cutAtBoundary r) :=
    (busAccess_of_target_ne s (r := cutAtBoundary r) ht).symm
  unfold busBurst atBoundary
  rw [if_pos (by simp only [hm, hb, decide_true, Bool.and_self]), hcut]
  rfl

theorem exec_xbarAccess_within {s : State} {r : BusReq} (hm : r.master < 32) (hw : mustWait s r = false)
    (ht : xbarTarget r.addr ≠ 10) (hb : r.master ≤ 3 → r.addr % 256 + burstLen r ≤ 256) :
    exec (.xbarAccess [r]) s = .next (answered r (memAccess (grantedAlone s r) r)) := by
  rw [exec_xbarAccess_alone hm hw ht, busBurst_within _ ht hb]

/-! Targets. -/

theorem xbarTarget_reservoir {a : Nat} (h : a < 0x05000000) : xbarTarget a = a / 0x800000 := if_pos h

theorem xbarTarget_reservoir_le {a : Nat} (h : a < 0x05000000) : xbarTarget a ≤ 9 := by
  rw [xbarTarget_reservoir h]
  omega

theorem xbarTarget_pstore {a : Nat} (hlo : 0x0200000000 ≤ a) (hhi : a < 0x0200200000) : xbarTarget a = 11 := by
  simp only [xbarTarget, Bool.and_eq_true, decide_eq_true_eq]
  rw [if_neg (by omega), if_neg (by omega), if_neg (by omega), if_pos (by omega)]

theorem xbarAdmits_reservoir {t m : Nat} (ht : t ≤ 9) (hm : m < 18) : xbarAdmits t m = true := by
  simp only [xbarAdmits, if_pos ht]
  exact decide_eq_true (by omega)

theorem memAccess_reservoir (s : State) {r : BusReq} (hm : r.master < 18) (ha : r.addr < 0x05000000) :
    memAccess s r = if portA (ownerOf s (r.addr / 0x80000)) r.master r.data.isSome then memDo s r
      else ⟨if r.data.isSome then [] else List.replicate r.len 0, false,
        ownRefuse s (r.addr / 0x80000) r.master false r.data.isSome⟩ := by
  have ht := xbarTarget_reservoir_le ha
  simp only [memAccess, xbarAdmits_reservoir ht hm, ht, if_true, Bool.not_true, Bool.false_eq_true, if_false]
  rfl

theorem ownerOf_grantedAlone (s : State) (r : BusReq) (bank : Nat) : ownerOf (grantedAlone s r) bank = ownerOf s bank := rfl

theorem xbarTarget_reservoir_ne_csr {a : Nat} (h : a < 0x05000000) : xbarTarget a ≠ 10 :=
  fun he => absurd (he ▸ xbarTarget_reservoir_le h) (by decide)

theorem memAccess_absent (s : State) {r : BusReq} (ht : xbarTarget r.addr = 0xFF) :
    memAccess s r =
      ⟨if r.data.isSome then [] else List.replicate r.len 0, false, xbarRefuse s 0xFF r.master r.data.isSome⟩ := by
  have hadm : xbarAdmits 0xFF r.master = false := rfl
  simp only [memAccess, ht, hadm, Bool.not_false, if_true]
  rfl

theorem memAccess_pstore (s : State) {r : BusReq} (hm : r.master ≤ 5) (ht : xbarTarget r.addr = 11) :
    memAccess s r = pstoreDo s r := by
  have hadm : xbarAdmits 11 r.master = true := by
    simp only [xbarAdmits, Nat.reduceLeDiff, Nat.reduceEqDiff, if_true, if_false, Bool.or_eq_true, decide_eq_true_eq, beq_iff_eq]
    omega
  simp only [memAccess, ht, hadm, Bool.not_true, Bool.false_eq_true, Nat.reduceLeDiff, if_false, if_true]

/-! Refusals: what they count and record (R16, R203). -/

theorem csrOnly_ownRefuse (s : State) (bank m : Nat) (onB write : Bool) :
    csrOnly [R.RSV_OWN_SUMP_CNT, R.RSV_STAT, R.RSV_OWN_LAST] s (ownRefuse s bank m onB write) :=
  csrOnly_trans (csrOnly_trans (csrOnly_trans (csrOnly_trans (csrOnly_trans
    (csrOnly_count _ _ _ (by decide)) (csrOnly_stick _ _ (by decide))) (csrOnly_setF _ _ _ (by decide)))
    (csrOnly_setF _ _ _ (by decide))) (csrOnly_setF _ _ _ (by decide))) (csrOnly_setF _ _ _ (by decide))

theorem isSet_ownRefuse (s : State) (bank m : Nat) (onB write : Bool) :
    isSet (ownRefuse s bank m onB write) R.F_RSV_STAT_OWN_S = true := by
  simp only [isSet_iff, ownRefuse]
  iterate 4 rw [getF_setF_ne _ _ _ _ (by decide) (by decide)]
  exact getF_stick _ _ (by decide)

theorem getF_ownRefuse_count (s : State) (bank m : Nat) (onB write : Bool) :
    getF (ownRefuse s bank m onB write) R.F_RSV_OWN_SUMP_CNT_OWN_SUMP_CNT =
      min (getF s R.F_RSV_OWN_SUMP_CNT_OWN_SUMP_CNT + 1) 0xFFFFFFFF := by
  simp only [ownRefuse]
  iterate 4 rw [getF_setF_ne _ _ _ _ (by decide) (by decide)]
  rw [getF_stick_ne _ _ _ (by decide) (by decide), getF_count _ _ _ (by decide)]
  rfl

theorem getF_ownRefuse_master (s : State) (bank : Nat) {m : Nat} (onB write : Bool) (hm : m < 32) :
    getF (ownRefuse s bank m onB write) R.F_RSV_OWN_LAST_MASTER = m :=
  getF_setF_small _ _ (by decide) hm

theorem getF_ownRefuse_bank (s : State) {bank : Nat} (m : Nat) (onB write : Bool) (hb : bank < 256) :
    getF (ownRefuse s bank m onB write) R.F_RSV_OWN_LAST_BANK = bank := by
  simp only [ownRefuse]
  iterate 3 rw [getF_setF_ne _ _ _ _ (by decide) (by decide)]
  exact getF_setF_small _ _ (by decide) hb

theorem csrOnly_xbarRefuse (s : State) (target m : Nat) (write : Bool) :
    csrOnly [R.XBAR_REFUSE_SUMP_CNT, R.XBAR_STAT, R.XBAR_REFUSE_LAST] s (xbarRefuse s target m write) :=
  csrOnly_trans (csrOnly_trans (csrOnly_trans (csrOnly_trans
    (csrOnly_count _ _ _ (by decide)) (csrOnly_stick _ _ (by decide))) (csrOnly_setF _ _ _ (by decide)))
    (csrOnly_setF _ _ _ (by decide))) (csrOnly_setF _ _ _ (by decide))

theorem isSet_xbarRefuse (s : State) (target m : Nat) (write : Bool) :
    isSet (xbarRefuse s target m write) R.F_XBAR_STAT_REFUSE_S = true := by
  simp only [isSet_iff, xbarRefuse]
  iterate 3 rw [getF_setF_ne _ _ _ _ (by decide) (by decide)]
  exact getF_stick _ _ (by decide)

theorem getF_xbarRefuse_count (s : State) (target m : Nat) (write : Bool) :
    getF (xbarRefuse s target m write) R.F_XBAR_REFUSE_SUMP_CNT_REFUSE_SUMP_CNT =
      min (getF s R.F_XBAR_REFUSE_SUMP_CNT_REFUSE_SUMP_CNT + 1) 0xFFFFFFFF := by
  simp only [xbarRefuse]
  iterate 3 rw [getF_setF_ne _ _ _ _ (by decide) (by decide)]
  rw [getF_stick_ne _ _ _ (by decide) (by decide), getF_count _ _ _ (by decide)]
  rfl

theorem getF_xbarRefuse_master (s : State) (target : Nat) {m : Nat} (write : Bool) (hm : m < 32) :
    getF (xbarRefuse s target m write) R.F_XBAR_REFUSE_LAST_MASTER = m :=
  getF_setF_small _ _ (by decide) hm

theorem getF_xbarRefuse_target (s : State) {target : Nat} (m : Nat) (write : Bool) (ht : target < 256) :
    getF (xbarRefuse s target m write) R.F_XBAR_REFUSE_LAST_TARGET = target := by
  simp only [xbarRefuse]
  iterate 2 rw [getF_setF_ne _ _ _ _ (by decide) (by decide)]
  exact getF_setF_small _ _ (by decide) ht

end Sys2Proof.Machine
end

section
/-! PSTORE cells and words (R101 to R103), and the shadow half as the Sluice's port writes it (R18). -/
namespace Sys2Proof.Machine

theorem cellBsel_lt (s : State) (c : Nat) : cellBsel s c < 2 := Nat.mod_lt _ (by decide)

theorem cellBsel_congr {s t : State} (h : t.slu = s.slu) (c : Nat) : cellBsel t c = cellBsel s c := by
  simp only [cellBsel, h]

theorem cellDirty_congr {s t : State} (h : t.slu = s.slu) (c : Nat) : cellDirty t c = cellDirty s c := by
  simp only [cellDirty, h]

theorem cellBsel_setCell (s : State) (c b : Nat) (d : Bool) (c' : Nat) :
    cellBsel (setCell s c b d) c' = if c' = c then b % 2 else cellBsel s c' := by
  simp only [cellBsel, setCell, smapGet_set]
  split
  · split <;> omega
  · rfl

theorem cellDirty_setCell (s : State) (c b : Nat) (d : Bool) (c' : Nat) :
    cellDirty (setCell s c b d) c' = if c' = c then d else cellDirty s c' := by
  simp only [cellDirty, setCell, smapGet_set]
  split
  · have hb : b % 2 = 0 ∨ b % 2 = 1 := by omega
    rcases hb with hb | hb <;> cases d <;> rw [hb] <;> rfl
  · rfl

/-- Two words of PSTORE, of one half or of both, do not overlap. -/
theorem pstoreAddr_disjoint {h h' p p' : Nat} (hp : p < 0x80000) (hp' : p' < 0x80000) (hne : h ≠ h' ∨ p ≠ p') :
    pstoreAddr h' p' + 4 ≤ pstoreAddr h p ∨ pstoreAddr h p + 4 ≤ pstoreAddr h' p' := by
  simp only [pstoreAddr]
  omega

theorem pstoreAddr_lt {h p : Nat} (hh : h ≤ 1) (hp : p < 0x80000) : pstoreAddr h p < 0x04400000 := by
  simp only [pstoreAddr]
  omega

/-- A word of PSTORE after another word of it has been written. -/
theorem readWord_writeBytes_pstore (s : State) {h h' p p' : Nat} (v : Nat) (hp : p < 0x80000) (hp' : p' < 0x80000)
    (hne : h ≠ h' ∨ p ≠ p') :
    readWord (writeBytes s (pstoreAddr h p) (leBytes 4 v)) (pstoreAddr h' p') 4 = readWord s (pstoreAddr h' p') 4 := by
  have hdis := pstoreAddr_disjoint hp hp' hne
  refine readWord_congr fun i hi => readByte_writeBytes_out _ _ _ ?_
  rw [length_leBytes]
  omega

theorem mayReach_reservoir (s : State) (m : Nat) {a : Nat} (ha : a < 0x05000000) (write : Bool) :
    mayReach s m a write = bankAdmits s (a / 0x80000) m write := by
  simp only [mayReach, Nat.not_le.2 ha, decide_false, Bool.false_or]

/-- An aligned word is one burst. -/
theorem burstsOf_word {a : Nat} (ha : a % 4 = 0) : burstsOf a 4 = [(a, 4)] := by
  have hsame : (a + 4 - 1) / 256 = a / 256 := by omega
  simp only [burstsOf, Nat.reduceEqDiff, if_false, hsame, Nat.sub_self, Nat.zero_add, List.range_one, List.map_cons, List.map_nil,
    Nat.add_zero, List.cons.injEq, Prod.mk.injEq, and_true]
  omega

theorem engineWrite_word {s : State} (h : EccClean s) {m a : Nat} (v : Nat) (ha : a % 4 = 0) (hok : mayReach s m a true = true) :
    engineWrite s m a (leBytes 4 v) = writeBytes s a (leBytes 4 v) := by
  have hall : (leBytes 4 v).take 4 = leBytes 4 v := List.take_of_length_le (Nat.le_of_eq (length_leBytes 4 v))
  simp only [engineWrite, length_leBytes, burstsOf_word ha, List.foldl_cons, List.foldl_nil, hok, if_true, Nat.sub_self,
    List.drop_zero, hall, eccWrite_of_clean h]

/-- Where the shadow half of a word stands. -/
def shadowAddr (s : State) (p : Nat) : Nat := pstoreAddr (1 - cellBsel s (p / 16)) p

theorem shadowAddr_lt (s : State) {p : Nat} (hp : p < 0x80000) : shadowAddr s p < 0x04400000 :=
  pstoreAddr_lt (Nat.sub_le ..) hp

theorem shadowAddr_aligned (s : State) (p : Nat) : shadowAddr s p % 4 = 0 := by
  simp only [shadowAddr, pstoreAddr]
  omega

theorem plive_congr {s t : State} (hm : t.mem = s.mem) (hc : t.slu = s.slu) (p : Nat) : plive t p = plive s p := by
  simp only [plive, cellBsel, hc, readWord_of_mem hm]

theorem pshadow_congr {s t : State} (hm : t.mem = s.mem) (hc : t.slu = s.slu) (p : Nat) : pshadow t p = pshadow s p := by
  simp only [pshadow, cellBsel, hc, readWord_of_mem hm]

theorem pwriteShadow_eq (s : State) (p v : Nat) :
    pwriteShadow s p v = if mayReach s 5 (shadowAddr s p) true then
      setCell (engineWrite s 5 (shadowAddr s p) (leBytes 4 v)) (p / 16) (cellBsel s (p / 16)) true
      else refuseAt s 5 (shadowAddr s p) true := rfl

theorem pwriteShadow_of_refused {s : State} {p : Nat} (v : Nat) (hp : p < 0x80000)
    (hno : bankAdmits s (shadowAddr s p / 0x80000) 5 true = false) :
    pwriteShadow s p v = ownRefuse s (shadowAddr s p / 0x80000) 5 false true := by
  have hlt := shadowAddr_lt s hp
  have hreach : mayReach s 5 (shadowAddr s p) true = false := (mayReach_reservoir s 5 (by omega) true).trans hno
  rw [pwriteShadow_eq, hreach]
  rfl

section
/-! The bank of the shadow half admits the Sluice, and no ECC error stands. -/
variable {s : State} {p : Nat} (h : EccClean s) (v : Nat) (hp : p < 0x80000)
  (hok : bankAdmits s (shadowAddr s p / 0x80000) 5 true = true)
include h hp hok

theorem pwriteShadow_of_admitted :
    pwriteShadow s p v = setCell (writeBytes s (shadowAddr s p) (leBytes 4 v)) (p / 16) (cellBsel s (p / 16)) true := by
  have hlt := shadowAddr_lt s hp
  have hreach : mayReach s 5 (shadowAddr s p) true = true := (mayReach_reservoir s 5 (by omega) true).trans hok
  rw [pwriteShadow_eq, if_pos hreach, engineWrite_word h v (shadowAddr_aligned s p) hreach]

theorem cellBsel_pwriteShadow (c : Nat) :
    cellBsel (pwriteShadow s p v) c = cellBsel s c := by
  have hslu := (writeBytes_keeps s (shadowAddr s p) (leBytes 4 v)).only .slu (by decide)
  rw [pwriteShadow_of_admitted h v hp hok, cellBsel_setCell, cellBsel_congr hslu]
  split
  case isTrue hc => rw [hc, Nat.mod_eq_of_lt (cellBsel_lt ..)]
  case isFalse => rfl

theorem cellDirty_pwriteShadow (c : Nat) :
    cellDirty (pwriteShadow s p v) c = if c = p / 16 then true else cellDirty s c := by
  have hslu := (writeBytes_keeps s (shadowAddr s p) (leBytes 4 v)).only .slu (by decide)
  rw [pwriteShadow_of_admitted h v hp hok, cellDirty_setCell, cellDirty_congr hslu]

theorem pwriteShadow_keeps_of_admitted : Keeps [.mem, .bus, .slu] s (pwriteShadow s p v) := by
  rw [pwriteShadow_of_admitted h v hp hok]
  exact Keeps.step (setCell_keeps ..) rfl (Keeps.mono (writeBytes_keeps ..) rfl)

/-- A written shadow word: no live word and no other shadow word changes. -/
theorem plive_pwriteShadow {p' : Nat} (hp' : p' < 0x80000) :
    plive (pwriteShadow s p v) p' = plive s p' := by
  have hlt := cellBsel_lt s (p / 16)
  have hsel := cellBsel_pwriteShadow h v hp hok (p' / 16)
  rw [plive, hsel, pwriteShadow_of_admitted h v hp hok, readWord_of_mem (setCell_mem ..)]
  refine readWord_writeBytes_pstore s v hp hp' ?_
  by_cases he : p = p'
  · subst he
    omega
  · exact .inr he

theorem pshadow_pwriteShadow {p' : Nat} (hp' : p' < 0x80000) :
    pshadow (pwriteShadow s p v) p' = if p' = p then v % 2 ^ 32 else pshadow s p' := by
  have hsel := cellBsel_pwriteShadow h v hp hok (p' / 16)
  rw [pshadow, hsel, pwriteShadow_of_admitted h v hp hok, readWord_of_mem (setCell_mem ..)]
  split
  case isTrue he =>
    subst he
    exact readWord_writeBytes_leBytes ..
  case isFalse he => exact readWord_writeBytes_pstore s v hp hp' (.inr (Ne.symm he))

end

end Sys2Proof.Machine
end

section
/-! A word written through the PSTORE window (R18). -/
namespace Sys2Proof.Machine

/-- The request of a write of one word. -/
def wordWrite (m addr : Nat) (v : Word) : BusReq := ⟨m, addr, 4, some (leBytes 4 v.toNat), false⟩

theorem pstoreDo_wordWrite (s : State) (m : Nat) {addr o : Nat} (v : Word) (ho : addr - 0x0200000000 = o) (ha : o % 4 = 0) :
    pstoreDo s (wordWrite m addr v) = ⟨[], false, pwriteShadow s (o / 4) v.toNat⟩ := by
  have hone : (o + 4 + 3) / 4 - o / 4 = 1 := by omega
  have hlow : max o (4 * (o / 4 + 0)) = o := by omega
  simp only [pstoreDo, wordWrite, length_leBytes, ho]
  rw [hone, List.range_one, List.foldl_cons, List.foldl_nil, hlow, ha, Nat.sub_self, List.drop_zero,
    List.take_of_length_le (Nat.le_of_eq (length_leBytes 4 v.toNat))]
  rfl

/-- What PSTORE_WINDOW_WRITE does when nothing holds it up. -/
theorem exec_pstoreWindowWrite_word {m addr : Nat} {v : Word} {s : State} (hm : m ≤ 5) (hlo : 0x0200000000 ≤ addr)
    (hhi : addr < 0x0200200000) (ha : addr % 4 = 0) (hw : mustWait s (wordWrite m addr v) = false) :
    exec (.pstoreWindowWrite m addr v) s = .next (answered (wordWrite m addr v)
      ⟨[], false, pwriteShadow (grantedAlone s (wordWrite m addr v)) ((addr - 0x0200000000) / 4) v.toNat⟩) := by
  have ht : xbarTarget addr = 11 := xbarTarget_pstore hlo hhi
  have hne : xbarTarget (wordWrite m addr v).addr ≠ 10 := fun h => absurd (ht.symm.trans h) (by decide)
  have hin : addr % 256 + burstLen (wordWrite m addr v) ≤ 256 := by
    rw [show burstLen (wordWrite m addr v) = 4 from length_leBytes ..]
    omega
  have hexec : exec (.pstoreWindowWrite m addr v) s = .next (xbarCycle s [wordWrite m addr v]) :=
    congrArg Host.Outcome.next (if_pos ht)
  rw [hexec, xbarCycle_alone (Nat.lt_of_le_of_lt hm (by decide)) hw hne, busBurst_within _ hne (fun _ => hin),
    memAccess_pstore _ hm ht, pstoreDo_wordWrite _ _ _ rfl (by omega)]

theorem shadowAddr_grantedAlone (s : State) (r : BusReq) (p : Nat) : shadowAddr (grantedAlone s r) p = shadowAddr s p :=
  congrArg (fun b => pstoreAddr (1 - b) p) (rfl : cellBsel (grantedAlone s r) (p / 16) = cellBsel s (p / 16))

theorem plive_grantedAlone (s : State) (r : BusReq) (p : Nat) : plive (grantedAlone s r) p = plive s p :=
  plive_congr rfl rfl p
theorem pshadow_grantedAlone (s : State) (r : BusReq) (p : Nat) : pshadow (grantedAlone s r) p = pshadow s p :=
  pshadow_congr rfl rfl p
theorem plive_answered (r : BusReq) (x : Access) (p : Nat) : plive (answered r x) p = plive x.st p :=
  plive_congr rfl rfl p
theorem pshadow_answered (r : BusReq) (x : Access) (p : Nat) : pshadow (answered r x) p = pshadow x.st p :=
  pshadow_congr rfl rfl p

theorem cellBsel_answered (r : BusReq) (x : Access) (c : Nat) : cellBsel (answered r x) c = cellBsel x.st c :=
  cellBsel_congr rfl c
theorem cellDirty_answered (r : BusReq) (x : Access) (c : Nat) : cellDirty (answered r x) c = cellDirty x.st c :=
  cellDirty_congr rfl c

theorem bankAdmits_grantedAlone (s : State) (r : BusReq) (bank m : Nat) (write : Bool) :
    bankAdmits (grantedAlone s r) bank m write = bankAdmits s bank m write := rfl

theorem pstoreWindowWrite_effect (m addr : Nat) (v : Word) (s : State) (hm : m ≤ 5) (hlo : 0x0200000000 ≤ addr)
    (hhi : addr < 0x0200200000) (ha : addr % 4 = 0)
    (hw : mustWait s ⟨m, addr, 4, some (leBytes 4 v.toNat), false⟩ = false) :
    let p := (addr - 0x0200000000) / 4
    let bank := pstoreAddr (1 - cellBsel s (p / 16)) p / 0x80000
    (bankAdmits s bank 5 true = false →
      ∃ t : State, exec (.pstoreWindowWrite m addr v) s = .next t ∧ Only [.csr, .bus] s t ∧
        csrOnly [R.RSV_OWN_SUMP_CNT, R.RSV_STAT, R.RSV_OWN_LAST] s t ∧ isSet t R.F_RSV_STAT_OWN_S = true ∧
        getF t R.F_RSV_OWN_LAST_MASTER = 5 ∧ getF t R.F_RSV_OWN_LAST_BANK = bank) ∧
    (bankAdmits s bank 5 true = true → s.bus.ecc = [] →
    ∃ t : State, exec (.pstoreWindowWrite m addr v) s = .next t ∧ Only [.mem, .bus, .slu] s t ∧
      pshadow t p = v.toNat ∧ cellDirty t (p / 16) = true ∧ cellBsel t (p / 16) = cellBsel s (p / 16) ∧
      (∀ c : Nat, c ≠ p / 16 → cellDirty t c = cellDirty s c ∧ cellBsel t c = cellBsel s c) ∧
      (∀ p' : Nat, p' < 0x80000 → plive t p' = plive s p') ∧
      (∀ p' : Nat, p' < 0x80000 → p' ≠ p → pshadow t p' = pshadow s p')) := by
  intro p bank
  have hp : p < 0x80000 := by omega
  obtain ⟨r, hexec⟩ : ∃ r, exec (.pstoreWindowWrite m addr v) s =
      .next (answered r ⟨[], false, pwriteShadow (grantedAlone s r) p v.toNat⟩) :=
    ⟨_, exec_pstoreWindowWrite_word hm hlo hhi ha hw⟩
  have hadm : bankAdmits (grantedAlone s r) (shadowAddr (grantedAlone s r) p / 0x80000) 5 true = bankAdmits s bank 5 true := by
    rw [shadowAddr_grantedAlone, bankAdmits_grantedAlone]
    rfl
  refine ⟨fun hno => ⟨_, hexec, ?_⟩, fun hok hecc => ⟨_, hexec, ?_⟩⟩
  · have hbank : shadowAddr s p / 0x80000 < 256 := by
      have hlt := shadowAddr_lt s hp
      omega
    rw [pwriteShadow_of_refused v.toNat hp (hadm.trans hno), shadowAddr_grantedAlone, isSet_answered, getF_answered, getF_answered]
    exact ⟨only_answered r ((ownRefuse_keeps ..).mono rfl) rfl,
      csrOnly_answered r (csrOnly_ownRefuse _ _ _ _ _), isSet_ownRefuse .., getF_ownRefuse_master _ _ _ _ (by decide),
      getF_ownRefuse_bank _ _ _ _ hbank⟩
  · have hclean : EccClean (grantedAlone s r) := hecc
    replace hok := hadm.trans hok
    refine ⟨only_answered r (pwriteShadow_keeps_of_admitted hclean v.toNat hp hok) rfl, ?_⟩
    simp only [pshadow_answered, plive_answered, cellBsel_answered, cellDirty_answered, cellBsel_pwriteShadow hclean _ hp hok,
      cellDirty_pwriteShadow hclean _ hp hok, pshadow_pwriteShadow hclean _ hp hok hp, if_true]
    refine ⟨Nat.mod_eq_of_lt v.isLt, trivial, rfl, fun c hc => ⟨if_neg hc, rfl⟩, fun p' hp' => ?_, fun p' hp' hne => ?_⟩
    · rw [plive_pwriteShadow hclean _ hp hok hp', plive_grantedAlone]
    · rw [pshadow_pwriteShadow hclean _ hp hok hp', if_neg hne, pshadow_grantedAlone]

end Sys2Proof.Machine
end

section
/-! The bursts of `Obligations.CrossbarBursts`. -/
namespace Sys2Proof.Machine

theorem readByte_answered (r : BusReq) (x : Access) (a : Nat) : readByte (answered r x) a = readByte x.st a := readByte_of_mem rfl a
theorem readByte_grantedAlone (s : State) (r : BusReq) (a : Nat) : readByte (grantedAlone s r) a = readByte s a :=
  readByte_of_mem rfl a

theorem readBytes_grantedAlone (s : State) (r : BusReq) (a n : Nat) : readBytes (grantedAlone s r) a n = readBytes s a n :=
  readBytes_of_mem (s := s) (t := grantedAlone s r) rfl a n

theorem csrOnly_of_csr_eq {offs : List Nat} {s t : State} (h : t.csr = s.csr) : csrOnly offs s t :=
  fun o _ => by simp only [csrGet, h]

/-- A Reservoir burst that its bank admits and no ECC error meets (R201, R202). -/
theorem reservoirBurst_admitted {r : BusReq} {s : State} (hclean : s.bus.ecc = []) :
    let t := answered r (memDo (grantedAlone s r) r)
    Only [.mem, .bus] s t ∧
      match r.data with
      | none => t.mem = s.mem ∧ t.bus.rdata = [(r.master, readBytes s r.addr r.len, false)]
      | some d => t.bus.rdata = [(r.master, [], false)] ∧
          (∀ a : Nat, (a < r.addr ∨ r.addr + d.length ≤ a) → readByte t a = readByte s a) ∧
          (∀ i < d.length, readByte t (r.addr + i) = d.getD i 0 % 256) := by
  intro t
  have hc : EccClean (grantedAlone s r) := hclean
  split
  case h_1 hd =>
    have ht : t = answered r ⟨readBytes s r.addr r.len, false, grantedAlone s r⟩ := by
      simp only [t, memDo_read_of_clean hc hd]
      rw [readBytes_grantedAlone]
    rw [ht]
    exact ⟨only_answered r (Keeps.refl ..) rfl, rfl, rfl⟩
  case h_2 d hd =>
    have ht : t = answered r ⟨[], false, writeBytes (grantedAlone s r) r.addr d⟩ := by simp only [t, memDo_write_of_clean hc hd]
    rw [ht]
    refine ⟨only_answered r (writeBytes_keeps ..) rfl, rfl, fun a ha => ?_, fun i hi => ?_⟩
    · rw [readByte_answered, readByte_writeBytes_out _ _ _ ha, readByte_grantedAlone]
    · rw [readByte_answered, readByte_writeBytes_in _ _ _ hi]

/-- What the refusal of the beats past a boundary records, after the accepted ones have left `x` (R214). -/
theorem answered_xbarRefuse {s x : State} {r : BusReq} (hm : r.master < 32) (ha : r.addr < 0x05000000)
    (hx : Keeps [.mem, .bus] (grantedAlone s r) x) (data : List Nat) (poison write : Bool) :
    let t := answered r ⟨data, poison, xbarRefuse x (xbarTarget r.addr) r.master write⟩
    Only [.csr, .mem, .bus] s t ∧ csrOnly [R.XBAR_REFUSE_SUMP_CNT, R.XBAR_STAT, R.XBAR_REFUSE_LAST] s t ∧
      isSet t R.F_XBAR_STAT_REFUSE_S = true ∧ getF t R.F_XBAR_REFUSE_LAST_MASTER = r.master ∧
      getF t R.F_XBAR_REFUSE_LAST_TARGET = r.addr / 0x800000 := by
  refine ⟨only_answered r (Keeps.step (xbarRefuse_keeps ..) rfl (hx.mono rfl)) rfl,
    csrOnly_answered r (csrOnly_trans (csrOnly_of_csr_eq (hx.only .csr (by decide))) (csrOnly_xbarRefuse _ _ _ _)), ?_, ?_, ?_⟩
  · rw [isSet_answered, isSet_xbarRefuse]
  · rw [getF_answered, getF_xbarRefuse_master _ _ _ hm]
  · rw [getF_answered, xbarTarget_reservoir ha, getF_xbarRefuse_target _ _ _ (by omega)]

theorem mem_answered_xbarRefuse (x : State) (r : BusReq) (data : List Nat) (poison : Bool) (target m : Nat) (write : Bool) :
    (answered r ⟨data, poison, xbarRefuse x target m write⟩).mem = x.mem := by
  have hmem : (xbarRefuse x target m write).mem = x.mem := (xbarRefuse_keeps x target m write).only .mem (by decide)
  rw [mem_answered, hmem]

/-- A burst of a Dexmos core across a boundary, on a bank that admits it: the part before it is done, and the rest refused. -/
theorem exec_xbarAccess_across {s : State} {r : BusReq} (hm : r.master ≤ 3) (hw : mustWait s r = false) (ha : r.addr < 0x05000000)
    (hok : portA (ownerOf s (r.addr / 0x80000)) r.master r.data.isSome = true) (hcross : 256 - r.addr % 256 < burstLen r)
    {x : Access} (hx : memDo (grantedAlone s r) (cutAtBoundary r) = x) :
    exec (.xbarAccess [r]) s = .next (answered r
      ⟨x.data ++ (if r.data.isSome then [] else List.replicate (burstLen r - (256 - r.addr % 256)) 0), x.poison,
        xbarRefuse x.st (xbarTarget r.addr) r.master r.data.isSome⟩) := by
  have hne := xbarTarget_reservoir_ne_csr ha
  have hcut : portA (ownerOf s (r.addr / 0x80000)) r.master (cutAtBoundary r).data.isSome = true := by
    rwa [cutAtBoundary, Option.isSome_map]
  have hdo : memAccess (grantedAlone s r) (cutAtBoundary r) = x :=
    (memAccess_reservoir _ (r := cutAtBoundary r) (show r.master < 18 by omega) ha).trans ((if_pos hcut).trans hx)
  rw [exec_xbarAccess_alone (by omega) hw hne, busBurst_across _ hne hm hcross, hdo]

theorem reservoirRead_across {s : State} {r : BusReq} (hm : r.master ≤ 3) (hw : mustWait s r = false) (ha : r.addr < 0x05000000)
    (hok : portA (ownerOf s (r.addr / 0x80000)) r.master r.data.isSome = true) (hclean : s.bus.ecc = [])
    (hcross : 256 - r.addr % 256 < burstLen r) (hd : r.data = none) :
    exec (.xbarAccess [r]) s = .next (answered r
      ⟨readBytes s r.addr (256 - r.addr % 256) ++ List.replicate (r.len - (256 - r.addr % 256)) 0, false,
        xbarRefuse (grantedAlone s r) (xbarTarget r.addr) r.master r.data.isSome⟩) := by
  have hcut : (cutAtBoundary r).data = none := by rw [cutAtBoundary, hd]; rfl
  have hx := memDo_read_of_clean (s := grantedAlone s r) hclean hcut
  rw [readBytes_grantedAlone] at hx
  rw [exec_xbarAccess_across hm hw ha hok hcross hx, burstLen, hd]
  rfl

theorem reservoirWrite_across {s : State} {r : BusReq} (hm : r.master ≤ 3) (hw : mustWait s r = false) (ha : r.addr < 0x05000000)
    (hok : portA (ownerOf s (r.addr / 0x80000)) r.master r.data.isSome = true) (hclean : s.bus.ecc = [])
    (hcross : 256 - r.addr % 256 < burstLen r) {d : List Nat} (hd : r.data = some d) :
    exec (.xbarAccess [r]) s = .next (answered r ⟨[], false, xbarRefuse
      (writeBytes (grantedAlone s r) r.addr (d.take (256 - r.addr % 256))) (xbarTarget r.addr) r.master r.data.isSome⟩) := by
  have hcut : (cutAtBoundary r).data = some (d.take (256 - r.addr % 256)) := by rw [cutAtBoundary, hd]; rfl
  rw [exec_xbarAccess_across hm hw ha hok hcross (memDo_write_of_clean (s := grantedAlone s r) hclean hcut), hd]
  rfl

/-- Settles O22: a burst that nothing holds up is one access of its target, in which the bank's owner or the address decides. -/
theorem crossbarBursts : Obligations.CrossbarBursts := by
  unfold Obligations.CrossbarBursts
  refine ⟨pstoreWindowWrite_effect, fun r s hm hw ha hb => ?_, fun r s hm hw ha hok hclean hcross => ?_,
    fun r s hm ht hw hb => ?_⟩
  · have hexec := exec_xbarAccess_within (by omega) hw (xbarTarget_reservoir_ne_csr ha) hb
    rw [memAccess_reservoir _ hm ha, ownerOf_grantedAlone] at hexec
    refine ⟨fun hok hclean => ?_, fun hno => ?_⟩
    · rw [if_pos hok] at hexec
      exact ⟨_, hexec, reservoirBurst_admitted hclean⟩
    · rw [if_neg (by simp only [hno, Bool.false_eq_true, not_false_eq_true])] at hexec
      refine ⟨_, hexec, only_answered r ((ownRefuse_keeps ..).mono rfl) rfl, csrOnly_answered r (csrOnly_ownRefuse _ _ _ _ _),
        rfl, ?_, ?_⟩
      · rw [isSet_answered, isSet_ownRefuse]
      · rw [getF_answered, getF_ownRefuse_count, getF_grantedAlone]
  · cases hd : r.data with
    | none =>
      obtain ⟨honly, hcsr, hset, hmaster, htarget⟩ :=
        answered_xbarRefuse (by omega) ha (Keeps.refl _ (grantedAlone s r)) _ _ r.data.isSome
      exact ⟨_, reservoirRead_across hm hw ha hok hclean hcross hd, honly, hcsr, hset, hmaster, htarget,
        mem_answered_xbarRefuse .., rfl⟩
    | some d =>
      have hlen : (d.take (256 - r.addr % 256)).length = 256 - r.addr % 256 := by
        rw [burstLen, hd] at hcross
        exact List.length_take_of_le (Nat.le_of_lt hcross)
      have hkeep := writeBytes_keeps (grantedAlone s r) r.addr (d.take (256 - r.addr % 256))
      obtain ⟨honly, hcsr, hset, hmaster, htarget⟩ := answered_xbarRefuse (by omega) ha hkeep [] false r.data.isSome
      refine ⟨_, reservoirWrite_across hm hw ha hok hclean hcross hd, honly, hcsr, hset, hmaster, htarget,
        fun a ha => ?_, fun i hi => ?_⟩
      · rw [readByte_of_mem (mem_answered_xbarRefuse ..), readByte_writeBytes_out _ _ _ (hlen.symm ▸ ha), readByte_grantedAlone]
      · rw [readByte_of_mem (mem_answered_xbarRefuse ..), readByte_writeBytes_in _ _ _ (hlen.symm ▸ hi)]
        simp only [List.getD_eq_getElem?_getD, hi, List.getElem?_take_of_lt]
  · have hne : xbarTarget r.addr ≠ 10 := fun he => absurd (ht.symm.trans he) (by decide)
    have hexec := exec_xbarAccess_within (by omega) hw hne hb
    rw [memAccess_absent _ ht] at hexec
    refine ⟨_, hexec, only_answered r ((xbarRefuse_keeps ..).mono rfl) rfl, csrOnly_answered r (csrOnly_xbarRefuse _ _ _ _), rfl,
      ?_, ?_, ?_⟩
    · rw [isSet_answered, isSet_xbarRefuse]
    · rw [getF_answered, getF_xbarRefuse_master _ _ _ (by omega)]
    · rw [getF_answered, getF_xbarRefuse_count, getF_grantedAlone]

end Sys2Proof.Machine
end
